-- ==== Sys2Proof/Word.lean ====
section
/-! DEFINITION. The two word types of the yard loop: one character of a frame, and a two-character quantity. Everything else
the HY4 holds is an integer in a stated unit (chapter "Conventions"), and is a Nat or an Int in the model. -/

namespace Sys2Proof

/-- One character of the line (R158, Table 26): 8 data bits. -/
abbrev Byte := BitVec 8

/-- A quantity carried in two characters, most significant first (chapter 11). -/
abbrev Half := BitVec 16

end Sys2Proof
end

