-- ==== Sys2Proof/Syntax.lean ====
section
/-! DEFINITION. The commands of the HY4: one constructor for each row of spec/opcode_table.json. A command that is a frame
carries the characters of the frame that vary; a command that is a directive carries the desk's reference number and the
parameter characters after it, as Table 36 lays them out, so that a body of a wrong length can be said too. -/

namespace Sys2Proof

/-- One command: an event that reaches the part from outside or from one of its own timers. -/
inductive Instr where
  /-- POWER_ON (R156): the eight straps, and whether the check value recomputed over the nonvolatile copy agrees. -/
  | powerOn (straps : Byte) (copySound : Bool)
  /-- POWER_LOSS (R170): whether the last write of the logs was cut (R137), and the holders whose last save was cut (R19). -/
  | powerLoss (logCut : Bool) (savesCut : List (Fin 4))
  /-- RESET_PIN_HELD (R170), with the same cuts. -/
  | resetPinHeld (logCut : Bool) (savesCut : List (Fin 4))
  /-- SCAN_HEAD (R161): the cycle number, and which of the Programme Unit and the Valve Controller takes a recovery first (R169). -/
  | scanHead (dest src cycle : Byte) (programmeFirst : Bool)
  /-- SCAN_TAIL (R165). -/
  | scanTail (dest src : Byte) (body : List Byte)
  /-- BAD_FRAME_RECEIVED (R158): the characters received, from the lead character on. -/
  | badFrameReceived (chars : List Byte)
  /-- CHARACTER_GAP (R158): the characters received before the gap. -/
  | characterGap (chars : List Byte)
  /-- FRAME_FORWARDED (R160): a valid frame of any kind byte. -/
  | frameForwarded (dest src kind : Byte) (body : List Byte)
  /-- THROUGH_FRAME_SENT (R160): whether a further frame is arriving upstream at that moment (R165, log 20). -/
  | throughFrameSent (arriving : Bool := false)
  /-- LIFT_REPORT (R5), Table 35. -/
  | liftReport (dest src : Byte) (datum index : Byte) (samples : List Byte)
  /-- METER_REPORT (R27), Table 35. -/
  | meterReport (dest src : Byte) (register pulseTime : Half)
  /-- POINT_REPORT (R40), Table 35. -/
  | pointReport (dest src : Byte) (value : Half) (quality : Byte)
  /-- BAROMETER_REPORT (R43), Table 35. -/
  | barometerReport (dest src : Byte) (value : Half) (quality : Byte)
  /-- CALORIMETER_REPORT (R44), Table 35. -/
  | calorimeterReport (dest src : Byte) (value : Half) (quality : Byte)
  /-- VALVE_POSITION_REPORT (R70), Table 35. -/
  | valvePositionReport (dest src : Byte) (position : Byte)
  /-- GOVERNOR_REPORT (R110), Table 35. -/
  | governorReport (dest src : Byte) (setpoint : Half) (status : Byte)
  /-- SELECTED (R66): an ANSWER frame. -/
  | answerSelected (dest src : Byte) (tag position : Byte)
  /-- DONE (R67): an ANSWER frame. -/
  | answerDone (dest src : Byte) (tag : Byte)
  /-- REFUSED (R68): an ANSWER frame. -/
  | answerRefused (dest src : Byte) (tag reason : Byte)
  /-- QUIET_GAP_ELAPSED (R165): the upstream line has been idle for 4 character times. -/
  | quietGapElapsed
  /-- OWN_FRAME_SENT (R165): the last character of the part's own frame has left. -/
  | ownFrameSent
  /-- LOSS_TIMER_EXPIRY (R169). -/
  | lossTimerExpiry
  /-- STALL_TIMER_EXPIRY (R33) of channel `m`, M1 being 0. -/
  | stallTimerExpiry (m : Fin 12)
  /-- STALE_TIMER_EXPIRY (R41) of a point, point 1 being 0, or of the barometer, 24. -/
  | staleTimerExpiry (r : Fin 25)
  /-- CV_STALE_TIMER_EXPIRY (R44). -/
  | cvStaleTimerExpiry
  /-- ANSWER_TIMER_EXPIRY (R69) of valve `v`, V1 being 0. -/
  | answerTimerExpiry (v : Fin 8)
  /-- TRAVEL_TIMER_EXPIRY (R70). -/
  | travelTimerExpiry (v : Fin 8)
  /-- REVIEW_TIMER_EXPIRY (R111) of district `d`, D1 being 0. -/
  | reviewTimerExpiry (d : Fin 6)
  /-- SLOT_BOUNDARY (R126). -/
  | slotBoundary
  /-- NOMINAL_END_REACHED (R133). -/
  | nominalEndReached
  /-- STORE_WRITE_COMPLETE (R155): whether the copy read back agrees with the live bank. -/
  | storeWriteComplete (agrees : Bool)
  /-- DIRECTIVE_UNKNOWN (R172): the whole directive body. -/
  | directiveUnknown (body : List Byte)
  | loadSegment (ref : Byte) (params : List Byte)
  | commit (ref : Byte) (params : List Byte)
  | discard (ref : Byte) (params : List Byte)
  | readTable (ref : Byte) (params : List Byte)
  | readInterval (ref : Byte) (params : List Byte)
  | readNext (ref : Byte) (params : List Byte)
  | readDay (ref : Byte) (params : List Byte)
  | readHolder (ref : Byte) (params : List Byte)
  | readValve (ref : Byte) (params : List Byte)
  | readMeter (ref : Byte) (params : List Byte)
  | readDistrict (ref : Byte) (params : List Byte)
  | readPoint (ref : Byte) (params : List Byte)
  /-- SET_CLOCK (R138), addressed to the part or broadcast (R161). -/
  | setClock (broadcast : Bool) (ref : Byte) (params : List Byte)
  | valve (ref : Byte) (params : List Byte)
  | setPermit (ref : Byte) (params : List Byte)
  | withdrawPermit (ref : Byte) (params : List Byte)
  | holdRole (ref : Byte) (params : List Byte)
  | releaseRole (ref : Byte) (params : List Byte)
  | presetLift (ref : Byte) (params : List Byte)
  | trim (ref : Byte) (params : List Byte)
  | clearAttention (ref : Byte) (params : List Byte)
  | restart (ref : Byte) (params : List Byte)
  /-- DIRECTIVE_DISCARDED (R161): a directive to the part from a source other than 0. -/
  | directiveDiscarded (src : Byte) (body : List Byte)
  /-- CLOCK_STOPS_ADVANCING (R125). -/
  | clockStopsAdvancing
  deriving DecidableEq, Repr

end Sys2Proof
end

