-- ==== Sys2Proof/Decode.lean ====
section
/-! DEFINITION. The HY4 is a block: no row of spec/opcode_table.json gives bits, so no word spells a command. The layouts of
the frames that carry the commands (chapter 11) are in Machine/Codec.lean and Machine/Operands.lean. -/

namespace Sys2Proof

/-- The command a word spells by the table's bits: none, since the table gives no row any bits. -/
def decodeTableWord (_nbits _w : Nat) : Option Instr := none

end Sys2Proof
end

