-- ==== Sys2Proof/Config.lean ====
section
/-! DEFINITION. The constants the manual fixes for every HY4, and the FREE VALUES: what the manual leaves unstated is an opaque
constant here, without a body, so that no proof can know it and every claim holds whatever it is. -/

namespace Sys2Proof.Config

/-- Table 34: the lead character of a frame. -/
def leadCharacter : Nat := 165
/-- R158, Table 26: the greatest body length. -/
def maxBody : Nat := 200
/-- R169: the loss timer, 10 s, in ms. -/
def lossTime : Nat := 10000
/-- R65: the answer timer, 5 s, in ms. -/
def answerTime : Nat := 5000
/-- R111: the review timer, 60 s, in ms. -/
def reviewTime : Nat := 60000
/-- R160: the frames the through-buffer holds. -/
def bufferSize : Nat := 8
/-- R166: the through-buffer content at which a window yields. -/
def yieldAt : Nat := 6
/-- R168: the responses the response queue holds. -/
def responsePlaces : Nat := 8
/-- R136: the interval records the account log holds. -/
def logSize : Nat := 96
/-- R141: the day records the daily log holds. -/
def dailySize : Nat := 14
/-- R18, Table 2: the greatest geometric volume, in 100 cf. -/
def maxVolume : Nat := 999999
/-- R125: the last second of a day. -/
def lastSecond : Nat := 86399
/-- R125: the last day number the clock holds. -/
def lastDay : Nat := 65535

/-- DESIGN CHOICE (log 4). How many notices and triggers the Programme Unit settles within one step. The manual settles all of
them, and R99 has a case without an end; the bound cuts it, and it makes the settling a structural recursion. -/
def settleBound : Nat := 128

/-- The places at which a response carries a value that no rule states. -/
inductive Unstated where
  /-- READ VALVE, Table 40: the direction byte of a last failure that had no demand (R71, R74 at rest). -/
  | failureDirection
  /-- READ VALVE, Table 40: the origin byte of a last failure that had no demand. -/
  | failureOrigin
  /-- READ INTERVAL refused with GONE with no record held: the oldest and newest sequence. -/
  | goneSequence
  /-- READ DAY refused with GONE while the daily log is empty: the oldest gas day (R146). -/
  | goneOldestDay
  /-- READ DAY refused with GONE while the daily log is empty: the newest gas day (R146). -/
  | goneNewestDay
  /-- READ DISTRICT: the inlet source byte of a review whose headroom was not applied (R117). -/
  | inletSource
  /-- READ INTERVAL of the open interval: the certainty of holder `h`, which a close alone gives (Table 38). -/
  | openCertainty (h : Nat)
  /-- READ DISTRICT of a district not in use: the state of a point that its entry names and that does not exist (R124); the inlet
  point is 0, the end-of-main point 1. -/
  | pointState (which : Nat)
  /-- The value of such a point. -/
  | pointValue (which : Nat)
  /-- BAD_TABLE: the place of a condition that its rule states in prose and not in a list or a table (R183, R185). -/
  | prosePlace (rule : Nat) (which : Nat)
  deriving DecidableEq, Repr

/-- FREE VALUE (log 5). What a response carries where no rule states it, at the n-th response. -/
opaque unstated : Nat → Unstated → Nat

/-- FREE VALUE (log 6). What a field of `width` characters carries when the quantity does not fit it. -/
opaque unfitted : Nat → Int → Nat

/-- FREE VALUE (log 7). What a 64-bit accumulator holds after a sum that does not fit 64 bits (R55, R130). -/
opaque overflow64 : Nat → Nat

/-- FREE VALUE (log 8). R96: where the search goes on, after a failed holder (first argument) that the order in force does not
name; the second argument is the number of places in the order. -/
opaque resumePlace : Nat → Nat → Nat

/-- FREE VALUE (log 9). R12: which note stands when a datum passage has both an unknown number and a bad index. -/
opaque unknownDatumNoted : Nat → Nat → Bool

end Sys2Proof.Config
end

