-- ==== Sys2Proof/Machine/Bank.lean ====
section
/-! DEFINITION. The tables of a bank (chapter 8, Table 22), as plain data. The fields hold the numbers that LOAD SEGMENT wrote,
whatever they are (R148: no value is checked at loading); COMMIT checks them (Machine/Commit.lean). -/

namespace Sys2Proof.Machine

/-- Put `x` at place `i` of a fixed table. -/
def upd {α : Type} {n : Nat} (v : Vector α n) (i : Fin n) (x : α) : Vector α n := v.set i.val x i.isLt

/-- A station map entry (Table 28). -/
structure MapEntry where
  first : Nat
  count : Nat
  kind : Nat
  index : Nat
  deriving DecidableEq, Repr

/-- An entry of the aliases table (Table 28). -/
structure SpareEntry where
  inUse : Nat
  a : Nat
  b : Nat
  deriving DecidableEq, Repr

/-- A holder table entry (Table 1), without its breakpoints; cup heights and increments of lifts 2 to 4. -/
structure HolderEntry where
  fitted : Nat
  kind : Nat
  travel : Nat
  lifts : Nat
  cups : Vector Nat 3
  incs : Vector Nat 3
  base : Nat
  nBreaks : Nat
  nDatums : Nat
  datums : Vector Nat 4
  slipTol : Nat
  cupTol : Nat
  lowStop : Nat
  nearEmpty : Nat
  nearFull : Nat
  highStop : Nat
  rePermit : Nat
  changeover : Nat
  inletTime : Nat
  outletTime : Nat
  tempPoint : Nat
  presPoint : Nat
  deriving DecidableEq, Repr

/-- A holder geometry entry (Table 22, id 4). -/
structure GeoEntry where
  height : Nat
  volume : Nat
  deriving DecidableEq, Repr

/-- A meter table entry (Table 5). -/
structure MeterEntry where
  role : Nat
  k : Nat
  nMin : Nat
  stall : Nat
  maxPulses : Nat
  tempPoint : Nat
  presPoint : Nat
  district : Nat
  deriving DecidableEq, Repr

/-- A programme order entry (chapter 5, Table 22 id 8): a number of holders, then four places. -/
structure OrderEntry where
  count : Nat
  places : Vector Nat 4
  deriving DecidableEq, Repr

/-- A district table entry (Table 16), without its schedule. -/
structure DistrictEntry where
  inUse : Nat
  minSet : Nat
  maxSet : Nat
  boostC : Nat
  boostMax : Nat
  trimStep : Nat
  trimMax : Nat
  endLow : Nat
  endHigh : Nat
  confirm : Nat
  minDrop : Nat
  slew : Nat
  deadband : Nat
  inletPoint : Nat
  endPoint : Nat
  meter : Nat
  deriving DecidableEq, Repr

/-- The yard settings entry (chapter 8): interval length in minutes, gas day hour, stale times in s, declared CV. -/
structure YardEntry where
  length : Nat
  gasHour : Nat
  pointStale : Nat
  cvStale : Nat
  declaredCv : Nat
  deriving DecidableEq, Repr

/-- An attention map entry (R175). -/
structure AttnEntry where
  enabled : Nat
  cls : Nat
  deriving DecidableEq, Repr

/-- A bank: the twelve tables of Table 22. -/
structure Bank where
  stationMap : Vector MapEntry 40
  spares : Vector SpareEntry 8
  holders : Vector HolderEntry 4
  geometry : Vector GeoEntry 64
  meters : Vector MeterEntry 12
  correction : Vector Nat 221
  slots : Vector (Vector Nat 4) 48
  orders : Vector OrderEntry 2
  districts : Vector DistrictEntry 6
  schedules : Vector Nat 288
  yard : YardEntry
  attention : Vector AttnEntry 74
  deriving DecidableEq, Repr

/-- R147: the blank entries, one for each table. -/
def MapEntry.blank : MapEntry := ⟨0, 0, 0, 0⟩
def SpareEntry.blank : SpareEntry := ⟨0, 0, 0⟩
def HolderEntry.blank : HolderEntry :=
  { fitted := 0, kind := 0, travel := 0, lifts := 0, cups := Vector.replicate 3 0, incs := Vector.replicate 3 0, base := 0,
    nBreaks := 0, nDatums := 0, datums := Vector.replicate 4 0, slipTol := 0, cupTol := 0, lowStop := 0, nearEmpty := 0,
    nearFull := 0, highStop := 0, rePermit := 0, changeover := 0, inletTime := 0, outletTime := 0, tempPoint := 0, presPoint := 0 }
def GeoEntry.blank : GeoEntry := ⟨0, 0⟩
def MeterEntry.blank : MeterEntry := ⟨0, 0, 0, 0, 0, 0, 0, 0⟩
def OrderEntry.blank : OrderEntry := ⟨0, Vector.replicate 4 0⟩
def DistrictEntry.blank : DistrictEntry := ⟨0, 0, 0, 0, 0, 0, 0, 0, 0, 0, 0, 0, 0, 0, 0, 0⟩
def YardEntry.blank : YardEntry := ⟨0, 0, 0, 0, 0⟩
/-- Disabled, class ROUTINE (2). -/
def AttnEntry.blank : AttnEntry := ⟨0, 2⟩

/-- R147: a blank bank. -/
def Bank.blank : Bank :=
  { stationMap := Vector.replicate 40 MapEntry.blank, spares := Vector.replicate 8 SpareEntry.blank,
    holders := Vector.replicate 4 HolderEntry.blank, geometry := Vector.replicate 64 GeoEntry.blank,
    meters := Vector.replicate 12 MeterEntry.blank, correction := Vector.replicate 221 0,
    slots := Vector.replicate 48 (Vector.replicate 4 0), orders := Vector.replicate 2 OrderEntry.blank,
    districts := Vector.replicate 6 DistrictEntry.blank, schedules := Vector.replicate 288 0,
    yard := YardEntry.blank, attention := Vector.replicate 74 AttnEntry.blank }

/-! The readings of an entry that the chapters use. -/

/-- Table 1: the Fitted entry reads YES. DESIGN CHOICE (log 10): any number but 0 is YES; COMMIT lets only 0 and 1 pass. -/
def HolderEntry.isFitted (e : HolderEntry) : Bool := e.fitted != 0
/-- Table 1: Kind PISTON. -/
def HolderEntry.isPiston (e : HolderEntry) : Bool := e.kind == 1
/-- The number of lifts that can cup (R2: a PISTON holder is tracked as a holder of one lift). -/
def HolderEntry.liftCount (e : HolderEntry) : Nat := if e.isPiston then 1 else e.lifts
/-- Lift, cup height and pressure increment, for lifts 2 to the number of lifts (R15). -/
def HolderEntry.cupList (e : HolderEntry) : List (Nat × Nat × Nat) :=
  ((e.cups.toList.zip e.incs.toList).zipIdx 2).filterMap fun x =>
    if x.2 ≤ e.liftCount then some (x.2, x.1.1, x.1.2) else none
/-- R1: the datum heights in use, the first datum count of the four. -/
def HolderEntry.datumList (e : HolderEntry) : List Nat := e.datums.toList.take e.nDatums
/-- The height of the datum mark of a number (R10), if the number names one. -/
def HolderEntry.datumHeight (e : HolderEntry) (n : Nat) : Option Nat := if n = 0 then none else e.datumList[n - 1]?

/-- R1: the geometry breakpoints of a holder, as pairs of height and volume. -/
def Bank.breakpoints (b : Bank) (h : Fin 4) : List (Nat × Nat) :=
  (((b.geometry.toList.drop (16 * h.val)).take 16).take b.holders[h].nBreaks).map fun g => (g.height, g.volume)

/-- Whether a holder is fitted in a bank. -/
def Bank.fitted (b : Bank) (h : Fin 4) : Bool := b.holders[h].isFitted

/-- Table 5: whether a channel's role is other than NONE. -/
def MeterEntry.inUse (e : MeterEntry) : Bool := e.role != 0
/-- R108: whether a district is in use. -/
def DistrictEntry.used (e : DistrictEntry) : Bool := e.inUse != 0
/-- Whether an entry of the aliases table is in use (R151). DESIGN CHOICE (log 10) for a mark that is neither 0 nor 1. -/
def SpareEntry.used (e : SpareEntry) : Bool := e.inUse != 0

/-- Chapter 5: the holders an order names, in order. -/
def OrderEntry.holders (o : OrderEntry) : List (Fin 4) :=
  (o.places.toList.take o.count).filterMap fun p =>
    if h : 1 ≤ p ∧ p ≤ 4 then some ⟨p - 1, by omega⟩ else none

/-- Chapter 5: the send order and the fill order. -/
def Bank.sendOrder (b : Bank) : List (Fin 4) := b.orders[0].holders
def Bank.fillOrder (b : Bank) : List (Fin 4) := b.orders[1].holders

/-- Table 16: the schedule entry of a district for slot 1 to 48. -/
def Bank.schedule (b : Bank) (d : Fin 6) (slot : Nat) : Nat := (b.schedules[48 * d.val + (slot - 1)]?).getD 0

/-- Tables name points from 1; the place of a point in the Point Table. -/
def pointPlace (p : Nat) : Option (Fin 24) := if h : 1 ≤ p ∧ p ≤ 24 then some ⟨p - 1, by omega⟩ else none

end Sys2Proof.Machine
end

