-- ==== Sys2Proof/Machine/Records.lean ====
section
/-! DEFINITION. The records the blocks keep (Tables 2, 6, 7, 10, 12, 14, 15, 17, 18, 20, 21, 23, 30 and 33), as plain data.
Times are ms on the part's timebase. -/

namespace Sys2Proof.Machine

/-! ## Chapter 1: holders -/

/-- A track sample: the track states A and B (section 1.3). -/
structure Track where
  a : Bool
  b : Bool
  deriving DecidableEq, Repr

/-- The last-note events of Table 2. -/
inductive NoteKind where
  | restored | skip | lowLimit | highLimit | unknownDatum | datumIndex | limitedAtSwap
  deriving DecidableEq, Repr

/-- The last note, with the datum number where there is one. -/
structure Note where
  kind : NoteKind
  datum : Option Nat
  time : Nat
  deriving DecidableEq, Repr

/-- The last datum passage taken (R10). -/
structure LastDatum where
  number : Nat
  slip : Int
  time : Nat
  deriving DecidableEq, Repr

/-- Table 2: a holder record. `certain` is the certainty, CERTAIN being true; `cupped` lists the cupped lifts in order. -/
structure HolderRec where
  count : Nat
  certain : Bool
  ref : Option Track
  cupped : List Nat
  expected : Nat
  geoVolume : Nat
  outRun : Nat
  inRun : Nat
  liftFault : Bool
  note : Note
  lastDatum : Option LastDatum
  savedCertain : Bool
  deriving DecidableEq, Repr

/-- R19: one holder's save in the nonvolatile store. -/
structure HolderSave where
  count : Nat
  certain : Bool
  deriving DecidableEq, Repr

/-! ## Chapter 2: meter channels -/

/-- Table 6: the channel state. -/
inductive ChannelState where
  | waiting | measuring | stalled
  deriving DecidableEq, Repr

/-- Table 6: an OPEN rate window. -/
structure RateWindow where
  startPulse : Nat
  startArrival : Nat
  pulses : Nat
  deriving DecidableEq, Repr

/-- Table 6: the last report taken. -/
structure MeterLast where
  register : Nat
  pulseTime : Nat
  arrival : Nat
  deriving DecidableEq, Repr

/-- Table 6: the last report refused by the plausibility test. -/
structure MeterJump where
  before : Nat
  reported : Nat
  arrival : Nat
  deriving DecidableEq, Repr

/-- Table 6: a channel record. An EMPTY window is `none`. -/
structure ChannelRec where
  state : ChannelState
  reference : Option Nat
  waiver : Bool
  window : Option RateWindow
  rate : Nat
  rateTime : Option Nat
  stallStart : Option Nat
  lastReport : Option MeterLast
  lastJump : Option MeterJump
  deriving DecidableEq, Repr

/-! ## Chapter 3: points -/

/-- Table 7: the freshness state. -/
inductive Freshness where
  | absent | fresh | held
  deriving DecidableEq, Repr

/-- The qualities of a report (section 3.1). -/
inductive Quality where
  | good | over | under | fault
  deriving DecidableEq, Repr

/-- Table 7: the last report that reached the record, usable or not. -/
structure PointLast where
  value : Int
  quality : Quality
  arrival : Nat
  taken : Bool
  deriving DecidableEq, Repr

/-- Table 7: a point record; the barometer and calorimeter records have the same form, with no value while ABSENT (R46). -/
structure PointRec where
  state : Freshness
  value : Option Int
  quality : Quality
  usable : Option Nat
  last : Option PointLast
  deriving DecidableEq, Repr

/-! ## Chapter 4: valves and permissions -/

/-- A direction of a valve. -/
inductive Dir where
  | toShut | toOpen
  deriving DecidableEq, Repr

/-- A side of a holder. -/
inductive Side where
  | inlet | outlet
  deriving DecidableEq, Repr

/-- R62: the origins of demands. -/
inductive Origin where
  | trip | desk | programme
  deriving DecidableEq, Repr

/-- Table 10: the valve states. -/
inductive ValveState where
  | unknown | shut | opening | opened | shutting | stuck | noAnswer | localHand
  deriving DecidableEq, Repr

/-- Table 35: the positions a valve station reports. -/
inductive Position where
  | shut | opened | mid | fault | localHand
  deriving DecidableEq, Repr

/-- Table 10: the command phase. -/
inductive Phase where
  | idle | selectSent | operateSent
  deriving DecidableEq, Repr

/-- A demand on a valve. -/
structure Demand where
  dir : Dir
  origin : Origin
  deriving DecidableEq, Repr

/-- The last reported position with its arrival time. -/
structure Reported where
  pos : Position
  time : Nat
  deriving DecidableEq, Repr

/-- Table 35: the reasons of a REFUSED answer. -/
inductive RefuseReason where
  | localHand | fault | notSelected
  deriving DecidableEq, Repr

/-- Table 35: the answers of a valve station. -/
inductive Answer where
  | selected (pos : Position)
  | finished
  | refused (reason : RefuseReason)
  deriving DecidableEq, Repr

/-- Table 10: the last answer. -/
structure LastAnswer where
  answer : Answer
  tag : Byte
  time : Nat
  acted : Bool
  deriving DecidableEq, Repr

/-- Table 10: the causes of a last failure. -/
inductive FailCause where
  | travelTimeout | faultReported | refusedFault | noAnswer | selectLapsed
  deriving DecidableEq, Repr

/-- Table 10: the last failure. -/
structure LastFailure where
  cause : FailCause
  demand : Option Demand
  time : Nat
  deriving DecidableEq, Repr

/-- Table 10: a valve record. A stopped timer is `none`; a running one holds its expiry. -/
structure ValveRec where
  state : ValveState
  reported : Option Reported
  demand : Option Demand
  joined : Bool
  phase : Phase
  tag : Byte
  answerTimer : Option Nat
  travelTimer : Option Nat
  reissue : Nat
  lastAnswer : Option LastAnswer
  lastFailure : Option LastFailure
  deriving DecidableEq, Repr

/-- Table 12: what withdrew a permission. -/
inductive PermCause where
  | lowStop | highStop | desk
  deriving DecidableEq, Repr

/-- Table 12: a permission record. -/
structure PermRec where
  granted : Bool
  cause : Option PermCause
  count : Option Nat
  time : Option Nat
  deriving DecidableEq, Repr

/-! ## Chapter 5: the programme -/

/-- Table 13: the roles. NOT SET is `none` of `Option Role`. -/
inductive Role where
  | standby | fill | send | float
  deriving DecidableEq, Repr

/-- Section 5.4: the kinds of trigger. -/
inductive Trigger where
  | slot | send | fill | reEvaluate
  deriving DecidableEq, Repr

/-- Table 14: a role record. A low or high mark is true when REACHED. -/
structure RoleRec where
  role : Option Role
  held : Bool
  retake : Bool
  lowMark : Bool
  highMark : Bool
  deriving DecidableEq, Repr

/-- Table 15: the states of an entry of the open demands. -/
inductive OpenState where
  | inFlight | reached | failed | givenUp
  deriving DecidableEq, Repr

/-- Table 15: the states of an entry of the shut demands. -/
inductive ShutState where
  | waiting | inFlight | reached | failed | withheld | dropped
  deriving DecidableEq, Repr

/-- Table 15: an entry of a holder concerned. -/
structure TargetEntry where
  holder : Fin 4
  prior : Option Role
  target : Option Role
  deriving DecidableEq, Repr

structure OpenEntry where
  valve : Fin 8
  state : OpenState
  deriving DecidableEq, Repr

structure ShutEntry where
  valve : Fin 8
  state : ShutState
  deriving DecidableEq, Repr

/-- Table 15: the transition record. `shutting` is the phase, OPENING being false. -/
structure Transition where
  trigger : Trigger
  shutting : Bool
  outgoing : Option (Fin 4)
  incoming : Option (Fin 4)
  triedFurther : Bool
  entries : List TargetEntry
  opens : List OpenEntry
  shuts : List ShutEntry
  deriving DecidableEq, Repr

/-- R63: an outcome notice; `reached` is false for FAILED. -/
structure Notice where
  valve : Fin 8
  dir : Dir
  reached : Bool
  deriving DecidableEq, Repr

/-- The Programme Unit's state (section 5.2). `notices` is the model's own: the outcome notices given and not yet taken. -/
structure Programme where
  roles : Vector RoleRec 4
  transition : Option Transition
  deferred : List Trigger
  notices : List Notice
  deriving DecidableEq, Repr

/-! ## Chapter 6: districts -/

/-- Table 17: the reported setpoint. -/
structure GovReport where
  setpoint : Nat
  hand : Bool
  time : Nat
  deriving DecidableEq, Repr

/-- R117: the source of the inlet pressure. -/
inductive InletSource where
  | point | holders
  deriving DecidableEq, Repr

/-- R120: what became of a review's SET. -/
inductive SetOutcome where
  | placed | replaced | notSent
  deriving DecidableEq, Repr

/-- Table 17: the last review. `headroom` is absent where it was not applied. -/
structure Review where
  time : Nat
  s : Nat
  boost : Nat
  trim : Nat
  target4 : Int
  target5 : Int
  target6 : Int
  headroom : Option Int
  source : Option InletSource
  result : Nat
  outcome : SetOutcome
  rate : Nat
  deriving DecidableEq, Repr

/-- A slot with its day number. -/
structure DaySlot where
  slot : Nat
  day : Nat
  deriving DecidableEq, Repr

/-- Table 17: a district record. -/
structure DistrictRec where
  reported : Option GovReport
  lastSent : Option Nat
  sendDue : Bool
  refresh : Nat
  trim : Nat
  lowRun : Nat
  highRun : Nat
  reviewTimer : Option Nat
  lastReview : Option Review
  headroom : Bool
  clampSlot : Option DaySlot
  endLowStanding : Bool
  shortStanding : Bool
  deriving DecidableEq, Repr

/-- R114: the confirmed state of the end of the main. -/
inductive Confirmed where
  | none | low | high
  deriving DecidableEq, Repr

/-! ## Chapter 7: the clock and the accounts -/

/-- A wall time. -/
structure WallTime where
  day : Nat
  sec : Nat
  deriving DecidableEq, Repr

/-- Table 18: the yard clock. `ms` counts the ms of the second in hand; `advancing` is false while the clock stands at its last
second (R125). -/
structure Clock where
  valid : Bool
  day : Nat
  sec : Nat
  ms : Nat
  advancing : Bool
  slot : Option DaySlot
  deriving DecidableEq, Repr

/-- R128: an interval's identity. -/
structure Identity where
  gasDay : Nat
  index : Nat
  deriving DecidableEq, Repr

/-- Table 20: the channel flags, in the table's order. -/
structure ChannelFlags where
  held : Bool
  reference : Bool
  clamped : Bool
  jump : Bool
  stalled : Bool
  deriving DecidableEq, Repr

/-- Table 20: the yard flags, in the table's order. -/
structure YardFlags where
  cvDeclared : Bool
  loopLost : Bool
  clockInvalid : Bool
  clockAdjusted : Bool
  clockStep : Bool
  restart : Bool
  gap : Bool
  stockUncertain : Bool
  stockHeld : Bool
  deriving DecidableEq, Repr

/-- R49: the flags the Correction Engine returns. -/
structure InputFlags where
  held : Bool
  reference : Bool
  clamped : Bool
  deriving DecidableEq, Repr

/-- Table 20: a channel's share of the open interval. -/
structure ChannelShare where
  role : Nat
  pulses : Nat
  raw : Nat
  volume : Nat
  energy : Nat
  volumeIn : Nat
  energyIn : Nat
  flags : ChannelFlags
  deriving DecidableEq, Repr

/-- The two residues a close carries (R134). -/
structure Residue where
  volume : Nat
  energy : Nat
  deriving DecidableEq, Repr

/-- Table 20: the open interval, with the nominal start that R128 holds beside the nominal end. -/
structure OpenInterval where
  identity : Option Identity
  nominalStart : Option WallTime
  nominalEnd : Option WallTime
  openTime : Option WallTime
  generation : Nat
  channels : Vector ChannelShare 12
  stockOpen : Vector Nat 4
  stockUncertainOpen : Bool
  stockHeldOpen : Bool
  yard : YardFlags
  deriving DecidableEq, Repr

/-- R136: a channel's part of an interval record. -/
structure ChannelRecord where
  role : Nat
  pulses : Nat
  raw : Nat
  corrected : Nat
  energy : Nat
  volumeIn : Nat
  energyIn : Nat
  volumeOut : Nat
  energyOut : Nat
  flags : ChannelFlags
  deriving DecidableEq, Repr

/-- R136: a holder's part of an interval record. -/
structure HolderStock where
  stockOpen : Nat
  stockClose : Nat
  certain : Bool
  flags : InputFlags
  deriving DecidableEq, Repr

/-- R136: an interval record. -/
structure IntervalRecord where
  sequence : Nat
  identity : Option Identity
  openTime : Option WallTime
  closeTime : Option WallTime
  generation : Nat
  channels : Vector ChannelRecord 12
  holders : Vector HolderStock 4
  totalOpen : Nat
  totalClose : Nat
  make : Nat
  send : Nat
  balance : Int
  yard : YardFlags
  deriving DecidableEq, Repr

/-- Table 21: a channel's part of a day record. -/
structure DayChannel where
  volume : Nat
  energy : Nat
  flags : ChannelFlags
  deriving DecidableEq, Repr

/-- Table 21: a day record. -/
structure DayRecord where
  gasDay : Nat
  firstSeq : Nat
  lastSeq : Nat
  intervals : Nat
  channels : Vector DayChannel 12
  make : Nat
  send : Nat
  stockOpen : Nat
  stockClose : Nat
  balance : Int
  yard : YardFlags
  deriving DecidableEq, Repr

/-- What a close writes as one unit (R137). -/
structure Logs where
  log : List IntervalRecord
  daily : List DayRecord
  openDay : Option DayRecord
  lastSeq : Nat
  deriving DecidableEq, Repr

/-- The Account Unit's state but the clock. -/
structure Accounts where
  interval : Option OpenInterval
  logs : Logs
  cursor : Option Nat
  deriving DecidableEq, Repr

/-! ## Chapter 8: the Table Store -/

/-- Table 23: the store state. -/
inductive StoreState where
  | empty | writing | valid | failed
  deriving DecidableEq, Repr

/-- Table 23: the Table Store. `copy` is the bank and generation in the nonvolatile copy. -/
structure TableStore where
  live : Option Bank
  generation : Nat
  pending : Bank
  marks : Vector Bool 12
  committed : Bool
  store : StoreState
  storeGen : Nat
  copy : Option Bank
  deriving DecidableEq, Repr

/-- What the nonvolatile stores of chapters 1 and 7 hold. `...Before` is what each held before its last write, which a power loss
during that write leaves (R19, R137). -/
structure Nonvolatile where
  saves : Vector (Option HolderSave) 4
  savesBefore : Vector (Option HolderSave) 4
  logs : Logs
  logsBefore : Logs
  deriving DecidableEq, Repr

/-! ## Chapter 9: the Loop Port -/

/-- A valid frame (Table 26): its check is the one computed over it. -/
structure Frame where
  dest : Byte
  src : Byte
  kind : Byte
  body : List Byte
  deriving DecidableEq, Repr

/-- A frame received whole: a valid one, or the characters of a bad one (R158). -/
inductive LineFrame where
  | valid (f : Frame)
  | bad (chars : List Byte)
  deriving DecidableEq, Repr

/-- R167: a command of the command queue. -/
inductive Command where
  | valve (v : Fin 8) (operate : Bool) (dir : Dir) (tag : Byte) (trip : Bool)
  | set (d : Fin 6) (setpoint : Nat)
  deriving DecidableEq, Repr

/-- A frame of the part's own while it is being sent (R164). `void` says that the command is not to go back to the queue if it is
broken off, since it was withdrawn or replaced meanwhile; `more` that further frames of the response stand in the queue. -/
inductive OwnFrame where
  | command (c : Command) (f : Frame) (void : Bool)
  | response (f : Frame) (more : Bool)
  | status (f : Frame)
  deriving DecidableEq, Repr

/-- What the downstream transmitter is sending (R160). -/
inductive Tx where
  | idle
  | through (f : LineFrame)
  | own (o : OwnFrame)
  deriving DecidableEq, Repr

/-- Table 30: the insertion window. -/
inductive Window where
  | idle | armed | sending
  deriving DecidableEq, Repr

/-- Table 30: the Loop Port. A response is the list of the bodies of its unsent frames (R184). `lineQuiet` says that the quiet gap
has passed since the last character; `tailForwarded` that the arming SCAN TAIL has left. -/
structure LoopPort where
  lost : Bool
  lossExpiry : Nat
  cycle : Option Byte
  window : Window
  rearm : Bool
  buffer : List LineFrame
  tx : Tx
  commands : List Command
  responses : List (List (List Byte))
  checkErrors : Nat
  checkMark : Bool
  lineQuiet : Bool
  tailForwarded : Bool
  deriving DecidableEq, Repr

/-! ## Chapter 10: attention -/

/-- R175: the classes. -/
inductive AttnClass where
  | urgent | prompt | routine
  deriving DecidableEq, Repr

/-- When an occurrence was: the clock's time and state (Table 33). -/
structure Occurrence where
  day : Nat
  sec : Nat
  valid : Bool
  deriving DecidableEq, Repr

/-- Table 33: a pending attention entry. `serial` is the model's own: the order of creation, which R175 asks for. -/
structure AttnItem where
  source : Fin 74
  cls : AttnClass
  count : Nat
  first : Occurrence
  serial : Nat
  deriving DecidableEq, Repr

/-- The Attention Unit. `deferred` is the LOOP LOST occurrence held back (R177). -/
structure Attention where
  items : List AttnItem
  deferred : Option Occurrence
  serials : Nat
  deriving DecidableEq, Repr

/-- Section 11.4, R159, R170: the condition of the part's supply and reset. In each but `on` the relay is closed. -/
inductive Power where
  | unpowered
  | resetHeld
  | strapHeld
  | on
  deriving DecidableEq, Repr

end Sys2Proof.Machine
end

