-- ==== Sys2Proof/Machine/State.lean ====
section
/-! DEFINITION. The state of the HY4: every record the manual gives it, and the queue of commands that wait. Then the two ways a
step can fail to give a next state, and the state right after power-on. -/

namespace Sys2Proof.Machine

/-- The state of the part. -/
structure State where
  /-- The commands that wait, first in, first out. -/
  pending : List Instr
  /-- Supply and reset (R159, R170). -/
  power : Power
  /-- The part's own address, from the straps (R159). -/
  own : Nat
  /-- The part's timebase, in ms since power-on. -/
  timebase : Nat
  /-- The model's own: responses placed so far, to which the free values `Config.unstated` are applied (log 5). -/
  drawn : Nat
  clock : Clock
  accounts : Accounts
  tables : TableStore
  holders : Vector HolderRec 4
  channels : Vector ChannelRec 12
  points : Vector PointRec 24
  barometer : PointRec
  calorimeter : PointRec
  valves : Vector ValveRec 8
  perms : Vector PermRec 8
  prog : Programme
  districts : Vector DistrictRec 6
  loop : LoopPort
  attn : Attention
  nv : Nonvolatile
  deriving DecidableEq, Repr

/-- The faults of a step: none. The manual gives every step of the part an effect, so nothing stops the machine. -/
inductive Fault where
  deriving DecidableEq, Repr

/-- The refusals of a step. -/
inductive Refusal where
  /-- Raised by an arm of `exec` for a row without a meaning; no arm does so here. Safe: nothing can be proved through it. -/
  | notModelled (mnemonic : String)
  deriving DecidableEq, Repr

/-! ## Power-on values -/

/-- R21, before the live bank is taken: the record restored from a save at the time `t`. -/
def HolderRec.restored (save : Option HolderSave) (t : Nat) : HolderRec :=
  { count := (save.map HolderSave.count).getD 0, certain := false, ref := none, cupped := [], expected := 0, geoVolume := 0,
    outRun := 0, inRun := 0, liftFault := false, note := ⟨.restored, none, t⟩, lastDatum := none,
    savedCertain := (save.map HolderSave.certain).getD false }

/-- R25. -/
def ChannelRec.initial : ChannelRec :=
  { state := .waiting, reference := none, waiver := false, window := none, rate := 0, rateTime := none, stallStart := none,
    lastReport := none, lastJump := none }

/-- R46 for a point. -/
def PointRec.initial : PointRec := ⟨.absent, some 0, .good, none, none⟩
/-- R46 for the barometer and the calorimeter. -/
def PointRec.initialRecord : PointRec := ⟨.absent, none, .good, none, none⟩

/-- R60. -/
def ValveRec.initial : ValveRec :=
  { state := .unknown, reported := none, demand := none, joined := false, phase := .idle, tag := 0, answerTimer := none,
    travelTimer := none, reissue := 0, lastAnswer := none, lastFailure := none }

/-- R77. -/
def PermRec.initial : PermRec := ⟨true, none, none, none⟩

/-- R85. -/
def RoleRec.initial : RoleRec := ⟨none, false, false, false, false⟩
def Programme.initial : Programme := ⟨Vector.replicate 4 RoleRec.initial, none, [], []⟩

/-- R109. -/
def DistrictRec.initial : DistrictRec :=
  { reported := none, lastSent := none, sendDue := true, refresh := 0, trim := 0, lowRun := 0, highRun := 0, reviewTimer := none,
    lastReview := none, headroom := false, clampSlot := none, endLowStanding := false, shortStanding := false }

/-- R125. -/
def Clock.initial : Clock := ⟨false, 0, 0, 0, true, none⟩

/-- R143: a store that holds no logs. -/
def Logs.empty : Logs := ⟨[], [], none, 0⟩

/-- R171, with the loss timer running from timebase 0. -/
def LoopPort.initial : LoopPort :=
  { lost := false, lossExpiry := Config.lossTime, cycle := none, window := .idle, rearm := false, buffer := [], tx := .idle,
    commands := [], responses := [], checkErrors := 0, checkMark := false, lineQuiet := false, tailForwarded := false }

/-- R180. -/
def Attention.initial : Attention := ⟨[], none, 0⟩

/-- A Table Store that has never held a bank (R147, R156). -/
def TableStore.initial : TableStore :=
  { live := none, generation := 0, pending := Bank.blank, marks := Vector.replicate 12 false, committed := false, store := .empty,
    storeGen := 0, copy := none }

/-- A nonvolatile store nothing was ever written to. -/
def Nonvolatile.initial : Nonvolatile := ⟨Vector.replicate 4 none, Vector.replicate 4 none, Logs.empty, Logs.empty⟩

/-- Every block at its power-on values, for an own address and what the nonvolatile stores hold; no live bank. DESIGN CHOICE
(log 2): the timebase starts at 0. -/
def State.poweredOn (own : Nat) (nv : Nonvolatile) (tables : TableStore) (pending : List Instr) (drawn : Nat) : State :=
  { pending := pending, power := .on, own := own, timebase := 0, drawn := drawn, clock := Clock.initial,
    accounts := ⟨none, nv.logs, none⟩, tables := tables,
    holders := nv.saves.map fun sv => HolderRec.restored sv 0,
    channels := Vector.replicate 12 ChannelRec.initial, points := Vector.replicate 24 PointRec.initial,
    barometer := PointRec.initialRecord, calorimeter := PointRec.initialRecord,
    valves := Vector.replicate 8 ValveRec.initial, perms := Vector.replicate 8 PermRec.initial, prog := Programme.initial,
    districts := Vector.replicate 6 DistrictRec.initial, loop := LoopPort.initial, attn := Attention.initial, nv := nv }

/-- The machine right after reset: the first power-on of a part whose store has never held a bank (R156, EMPTY), with the one
occurrence R180 enters, CLOCK INVALID (source 72) as PROMPT under the fixed map of R175. DESIGN CHOICE (log 1): the straps read 1. -/
def State.reset : State :=
  { State.poweredOn 1 Nonvolatile.initial TableStore.initial [] 0 with
    attn := ⟨[⟨72, .prompt, 1, ⟨0, 0, false⟩, 0⟩], none, 1⟩ }

end Sys2Proof.Machine
end

