-- ==== Sys2Proof/Machine/Codec.lean ====
section
/-! DEFINITION. The byte layouts of chapter 11: how numbers are carried, the check of a frame, the entries of the tables, and the
codes of the enumerations. Characters are bytes; a quantity is carried most significant byte first. -/

namespace Sys2Proof.Machine

/-! ## Numbers -/

/-- Chapter 11: the number that bytes carry, most significant first. -/
def natOf (bs : List Byte) : Nat := bs.foldl (fun n c => n * 256 + c.toNat) 0

/-- Chapter 11: the low `w` bytes of a number, most significant first. -/
def bytesOf : Nat → Nat → List Byte
  | 0, _ => []
  | w + 1, n => bytesOf w (n / 256) ++ [BitVec.ofNat 8 n]

/-- An unsigned quantity in `w` bytes. One that does not fit is carried as a free value (log 6). -/
def putN (w : Nat) (n : Nat) : List Byte :=
  if n < 256 ^ w then bytesOf w n else bytesOf w (Config.unfitted w n)

/-- A quantity that may be negative in an unsigned field: below 0 it does not fit (log 6). -/
def putI (w : Nat) (i : Int) : List Byte :=
  if 0 ≤ i then putN w i.toNat else bytesOf w (Config.unfitted w i)

/-- A signed quantity, two's complement, in `w` bytes (chapter 11). -/
def putS (w : Nat) (i : Int) : List Byte :=
  if -(256 ^ w : Int) ≤ 2 * i ∧ 2 * i < (256 ^ w : Int) then bytesOf w (i % (256 ^ w : Int)).toNat
  else bytesOf w (Config.unfitted w i)

/-- The signed quantity that 16 bits carry (chapter 11: point values are two's complement). -/
def signed16 (v : Half) : Int := v.toInt

/-- Chapter 11: a time on the timebase is carried as its low 32 bits. -/
def putTime (t : Nat) : List Byte := bytesOf 4 t

/-- Chapter 11: a mark. -/
def putMark (b : Bool) : List Byte := [if b then 1 else 0]

/-- Chapter 11: a field that may be absent, of `w` bytes in all after its presence byte. -/
def putOpt {α : Type} (w : Nat) (f : α → List Byte) : Option α → List Byte
  | none => 0 :: List.replicate w 0
  | some x => 1 :: f x

/-- A single byte from a small number. -/
def b8 (n : Nat) : Byte := BitVec.ofNat 8 n

/-! ## The check (R181) -/

/-- One shift of the check register, generator x^16 + x^12 + x^5 + 1. -/
def checkShift (r : Half) : Half := if r.getMsbD 0 then (r <<< 1) ^^^ 0x1021 else r <<< 1

/-- R181: a character enters the register most significant bit first. -/
def checkByte (r : Half) (c : Byte) : Half := Nat.repeat checkShift 8 (r ^^^ (c.zeroExtend 16 <<< 8))

/-- R181: the check over characters, preset to all ones, without inversion. -/
def checkOf (cs : List Byte) : Half := cs.foldl checkByte 0xFFFF

/-- A 16-bit value as two bytes, high byte first. -/
def halfBytes (v : Half) : List Byte := [(v >>> 8).truncate 8, v.truncate 8]

/-- Table 34: the characters of a frame from the destination through the body. -/
def Frame.covered (f : Frame) : List Byte := f.dest :: f.src :: f.kind :: b8 f.body.length :: f.body

/-- Table 34: the characters of a valid frame as it stands on the line. -/
def Frame.chars (f : Frame) : List Byte := b8 Config.leadCharacter :: f.covered ++ halfBytes (checkOf f.covered)

/-- The characters of a frame received whole, as they are sent on (R158, R160). -/
def LineFrame.chars : LineFrame → List Byte
  | .valid f => f.chars
  | .bad cs => cs

/-- The frame that a sending of the part's own is. -/
def OwnFrame.frame : OwnFrame → Frame
  | .command _ f _ => f
  | .response f _ => f
  | .status f => f

/-- The characters that the downstream transmitter is sending: a frame that passes, unaltered (R160), or one of the part's own with the
check computed over it (R181). -/
def Tx.chars : Tx → List Byte
  | .idle => []
  | .through f => f.chars
  | .own o => o.frame.chars

/-- R158: whether characters make a valid frame: a lead character, a length of 200 or less, a body of that length, and the check. -/
def validChars (cs : List Byte) : Bool :=
  match cs with
  | lead :: dest :: src :: kind :: len :: rest =>
    lead.toNat == Config.leadCharacter && decide (len.toNat ≤ Config.maxBody) && rest.length == len.toNat + 2 &&
      rest.drop len.toNat == halfBytes (checkOf (dest :: src :: kind :: len :: rest.take len.toNat))
  | _ => false

/-! ## Frames out of the characters of the line (R158) -/

/-- R158: the frame that characters beginning with a lead character make, and the characters after it; none while it has not ended. A
frame whose body length exceeds 200 is a bad frame that ends at its length character; any other ends after its check, and is
valid where the check agrees (R181). -/
def cutFrame (cs : List Byte) : Option (LineFrame × List Byte) :=
  match cs with
  | lead :: dest :: src :: kind :: len :: rest =>
    if Config.maxBody < len.toNat then some (.bad [lead, dest, src, kind, len], rest)
    else if rest.length < len.toNat + 2 then none
    else
      let whole := lead :: dest :: src :: kind :: len :: rest.take (len.toNat + 2)
      some (if validChars whole then .valid ⟨dest, src, kind, rest.take len.toNat⟩ else .bad whole, rest.drop (len.toNat + 2))
  | _ => none

/-- R158: characters that are not the lead character, discarded while the Loop Port waits for a frame. -/
def waitLead (cs : List Byte) : List Byte := cs.dropWhile fun c => c.toNat != Config.leadCharacter

/-- R158: the frames that characters make one after the other, at most `n` of them, and the characters of a frame that has not ended. -/
def heardIn : Nat → List Byte → List LineFrame × List Byte
  | 0, _ => ([], [])
  | n + 1, cs =>
    match cutFrame (waitLead cs) with
    | none => ([], waitLead cs)
    | some (f, rest) => (f :: (heardIn n rest).1, (heardIn n rest).2)

/-- R158: what the Loop Port hears in the characters of the line. Each frame takes at least five of them. -/
def heard (cs : List Byte) : List LineFrame × List Byte := heardIn (cs.length + 1) cs

/-! ## Kinds of frames (Table 34) -/

def kindScanHead : Byte := 1
def kindScanTail : Byte := 2
def kindReport : Byte := 3
def kindCommand : Byte := 4
def kindAnswer : Byte := 5
def kindDirective : Byte := 6
def kindResponse : Byte := 7
def kindStatus : Byte := 8

/-! ## Codes of enumerations: Table 35's, or the place in the list that specifies the value set (chapter 11) -/

def NoteKind.code : NoteKind → Nat
  | .restored => 0 | .skip => 1 | .lowLimit => 2 | .highLimit => 3 | .unknownDatum => 4 | .datumIndex => 5 | .limitedAtSwap => 6
def ChannelState.code : ChannelState → Nat
  | .waiting => 0 | .measuring => 1 | .stalled => 2
def Freshness.code : Freshness → Nat
  | .absent => 0 | .fresh => 1 | .held => 2
def Quality.code : Quality → Nat
  | .good => 0 | .over => 1 | .under => 2 | .fault => 3
def Quality.ofCode : Nat → Option Quality
  | 0 => some .good | 1 => some .over | 2 => some .under | 3 => some .fault | _ => none
def Dir.code : Dir → Nat
  | .toShut => 0 | .toOpen => 1
def Dir.ofCode : Nat → Option Dir
  | 0 => some .toShut | 1 => some .toOpen | _ => none
def Side.ofCode : Nat → Option Side
  | 0 => some .inlet | 1 => some .outlet | _ => none
def Origin.code : Origin → Nat
  | .trip => 0 | .desk => 1 | .programme => 2
def ValveState.code : ValveState → Nat
  | .unknown => 0 | .shut => 1 | .opening => 2 | .opened => 3 | .shutting => 4 | .stuck => 5 | .noAnswer => 6 | .localHand => 7
def Position.code : Position → Nat
  | .shut => 0 | .opened => 1 | .mid => 2 | .fault => 3 | .localHand => 4
def Position.ofCode : Nat → Option Position
  | 0 => some .shut | 1 => some .opened | 2 => some .mid | 3 => some .fault | 4 => some .localHand | _ => none
def Phase.code : Phase → Nat
  | .idle => 0 | .selectSent => 1 | .operateSent => 2
def RefuseReason.code : RefuseReason → Nat
  | .localHand => 1 | .fault => 2 | .notSelected => 3
def RefuseReason.ofCode : Nat → Option RefuseReason
  | 1 => some .localHand | 2 => some .fault | 3 => some .notSelected | _ => none
def Answer.code : Answer → Nat
  | .selected _ => 1 | .finished => 2 | .refused _ => 3
def FailCause.code : FailCause → Nat
  | .travelTimeout => 0 | .faultReported => 1 | .refusedFault => 2 | .noAnswer => 3 | .selectLapsed => 4
def PermCause.code : PermCause → Nat
  | .lowStop => 0 | .highStop => 1 | .desk => 2
/-- R84: the role of a programme slot entry. DEDUCED (log 89): it is coded by its place in R84's list, from 0, as chapter 11 codes an
enumeration without codes of its own, and not by the codes that Table 40 gives the current role (`roleCode`). -/
def Role.ofCode : Nat → Option Role
  | 0 => some .standby | 1 => some .fill | 2 => some .send | 3 => some .float | _ => none
/-- Table 40: NOT SET 0, then the roles. -/
def roleCode : Option Role → Nat
  | none => 0 | some .standby => 1 | some .fill => 2 | some .send => 3 | some .float => 4
def Trigger.code : Trigger → Nat
  | .slot => 0 | .send => 1 | .fill => 2 | .reEvaluate => 3
def SetOutcome.code : SetOutcome → Nat
  | .placed => 0 | .replaced => 1 | .notSent => 2
def InletSource.code : InletSource → Nat
  | .point => 0 | .holders => 1
def Confirmed.code : Confirmed → Nat
  | .none => 0 | .low => 1 | .high => 2
def StoreState.code : StoreState → Nat
  | .empty => 0 | .writing => 1 | .valid => 2 | .failed => 3
def AttnClass.code : AttnClass → Nat
  | .urgent => 0 | .prompt => 1 | .routine => 2
def AttnClass.ofCode : Nat → AttnClass
  | 0 => .urgent | 1 => .prompt | _ => .routine
/-- "CERTAIN or UNCERTAIN" (Table 2). -/
def certainCode (c : Bool) : Nat := if c then 0 else 1
/-- "VALID or INVALID" (Table 18). -/
def clockCode (valid : Bool) : Nat := if valid then 0 else 1
/-- "OPEN or COMMITTED" (Table 23). -/
def commitCode (committed : Bool) : Nat := if committed then 1 else 0

/-! ## Entries of the tables (Table 37) -/

/-- Cuts bytes into fields of the given widths and reads each. -/
def fieldsOf : List Nat → List Byte → List Nat
  | [], _ => []
  | w :: ws, bs => natOf (bs.take w) :: fieldsOf ws (bs.drop w)

/-- Writes each field in its width. -/
def fieldBytes : List Nat → List Nat → List Byte
  | w :: ws, n :: ns => putN w n ++ fieldBytes ws ns
  | _, _ => []

/-- The widths of an entry's fields, by table id: the fields in the order of the table that specifies them (chapter 11). -/
def entryWidths : Nat → List Nat
  | 1 => [1, 1, 1, 1]
  | 2 => [1, 1, 1]
  | 3 => [1, 1, 2, 1, 2, 2, 2, 2, 2, 2, 2, 1, 1, 2, 2, 2, 2, 2, 2, 2, 2, 2, 2, 2, 2, 2, 2, 1, 1]
  | 4 => [2, 3]
  | 5 => [1, 2, 1, 2, 2, 1, 1, 1]
  | 6 => [2]
  | 7 => [1, 1, 1, 1]
  | 8 => [1, 1, 1, 1, 1]
  | 9 => [1, 2, 2, 2, 2, 2, 2, 2, 2, 1, 2, 2, 2, 1, 1, 1]
  | 10 => [2]
  | 11 => [1, 1, 2, 2, 2]
  | 12 => [1, 1]
  | _ => []

/-- Table 37: the bytes of an entry. -/
def entrySize (t : Nat) : Nat := (entryWidths t).sum

/-- Table 22: the entries of a table; 0 for an id that names no table. -/
def entryCount : Nat → Nat
  | 1 => 40 | 2 => 8 | 3 => 4 | 4 => 64 | 5 => 12 | 6 => 221 | 7 => 48 | 8 => 2 | 9 => 6 | 10 => 288 | 11 => 1 | 12 => 74
  | _ => 0

/-- The i-th field read, 0 beyond the last. -/
def fld (ns : List Nat) (i : Nat) : Nat := (ns[i]?).getD 0

def MapEntry.ofFields (n : List Nat) : MapEntry := ⟨fld n 0, fld n 1, fld n 2, fld n 3⟩
def MapEntry.fields (e : MapEntry) : List Nat := [e.first, e.count, e.kind, e.index]
def SpareEntry.ofFields (n : List Nat) : SpareEntry := ⟨fld n 0, fld n 1, fld n 2⟩
def SpareEntry.fields (e : SpareEntry) : List Nat := [e.inUse, e.a, e.b]
def HolderEntry.ofFields (n : List Nat) : HolderEntry :=
  { fitted := fld n 0, kind := fld n 1, travel := fld n 2, lifts := fld n 3, cups := #v[fld n 4, fld n 5, fld n 6],
    incs := #v[fld n 7, fld n 8, fld n 9], base := fld n 10, nBreaks := fld n 11, nDatums := fld n 12,
    datums := #v[fld n 13, fld n 14, fld n 15, fld n 16], slipTol := fld n 17, cupTol := fld n 18, lowStop := fld n 19,
    nearEmpty := fld n 20, nearFull := fld n 21, highStop := fld n 22, rePermit := fld n 23, changeover := fld n 24,
    inletTime := fld n 25, outletTime := fld n 26, tempPoint := fld n 27, presPoint := fld n 28 }
def HolderEntry.fields (e : HolderEntry) : List Nat :=
  [e.fitted, e.kind, e.travel, e.lifts] ++ e.cups.toList ++ e.incs.toList ++ [e.base, e.nBreaks, e.nDatums] ++ e.datums.toList ++
    [e.slipTol, e.cupTol, e.lowStop, e.nearEmpty, e.nearFull, e.highStop, e.rePermit, e.changeover, e.inletTime, e.outletTime,
      e.tempPoint, e.presPoint]
def GeoEntry.ofFields (n : List Nat) : GeoEntry := ⟨fld n 0, fld n 1⟩
def GeoEntry.fields (e : GeoEntry) : List Nat := [e.height, e.volume]
def MeterEntry.ofFields (n : List Nat) : MeterEntry :=
  ⟨fld n 0, fld n 1, fld n 2, fld n 3, fld n 4, fld n 5, fld n 6, fld n 7⟩
def MeterEntry.fields (e : MeterEntry) : List Nat :=
  [e.role, e.k, e.nMin, e.stall, e.maxPulses, e.tempPoint, e.presPoint, e.district]
def slotOfFields (n : List Nat) : Vector Nat 4 := #v[fld n 0, fld n 1, fld n 2, fld n 3]
def OrderEntry.ofFields (n : List Nat) : OrderEntry := ⟨fld n 0, #v[fld n 1, fld n 2, fld n 3, fld n 4]⟩
def OrderEntry.fields (e : OrderEntry) : List Nat := e.count :: e.places.toList
def DistrictEntry.ofFields (n : List Nat) : DistrictEntry :=
  ⟨fld n 0, fld n 1, fld n 2, fld n 3, fld n 4, fld n 5, fld n 6, fld n 7, fld n 8, fld n 9, fld n 10, fld n 11, fld n 12, fld n 13,
    fld n 14, fld n 15⟩
def DistrictEntry.fields (e : DistrictEntry) : List Nat :=
  [e.inUse, e.minSet, e.maxSet, e.boostC, e.boostMax, e.trimStep, e.trimMax, e.endLow, e.endHigh, e.confirm, e.minDrop, e.slew,
    e.deadband, e.inletPoint, e.endPoint, e.meter]
def YardEntry.ofFields (n : List Nat) : YardEntry := ⟨fld n 0, fld n 1, fld n 2, fld n 3, fld n 4⟩
def YardEntry.fields (e : YardEntry) : List Nat := [e.length, e.gasHour, e.pointStale, e.cvStale, e.declaredCv]
def AttnEntry.ofFields (n : List Nat) : AttnEntry := ⟨fld n 0, fld n 1⟩
def AttnEntry.fields (e : AttnEntry) : List Nat := [e.enabled, e.cls]

/-- R148: writes one entry of a table from its fields; an index past the table's end writes nothing. -/
def Bank.setFields (b : Bank) (t i : Nat) (n : List Nat) : Bank :=
  match t with
  | 1 => { b with stationMap := b.stationMap.setIfInBounds i (.ofFields n) }
  | 2 => { b with spares := b.spares.setIfInBounds i (.ofFields n) }
  | 3 => { b with holders := b.holders.setIfInBounds i (.ofFields n) }
  | 4 => { b with geometry := b.geometry.setIfInBounds i (.ofFields n) }
  | 5 => { b with meters := b.meters.setIfInBounds i (.ofFields n) }
  | 6 => { b with correction := b.correction.setIfInBounds i (fld n 0) }
  | 7 => { b with slots := b.slots.setIfInBounds i (slotOfFields n) }
  | 8 => { b with orders := b.orders.setIfInBounds i (.ofFields n) }
  | 9 => { b with districts := b.districts.setIfInBounds i (.ofFields n) }
  | 10 => { b with schedules := b.schedules.setIfInBounds i (fld n 0) }
  | 11 => if i = 0 then { b with yard := .ofFields n } else b
  | 12 => { b with attention := b.attention.setIfInBounds i (.ofFields n) }
  | _ => b

/-- The fields of one entry of a table. -/
def Bank.fields (b : Bank) (t i : Nat) : List Nat :=
  match t with
  | 1 => (b.stationMap[i]?.map MapEntry.fields).getD []
  | 2 => (b.spares[i]?.map SpareEntry.fields).getD []
  | 3 => (b.holders[i]?.map HolderEntry.fields).getD []
  | 4 => (b.geometry[i]?.map GeoEntry.fields).getD []
  | 5 => (b.meters[i]?.map MeterEntry.fields).getD []
  | 6 => (b.correction[i]?.map fun x => [x]).getD []
  | 7 => (b.slots[i]?.map Vector.toList).getD []
  | 8 => (b.orders[i]?.map OrderEntry.fields).getD []
  | 9 => (b.districts[i]?.map DistrictEntry.fields).getD []
  | 10 => (b.schedules[i]?.map fun x => [x]).getD []
  | 11 => if i = 0 then b.yard.fields else []
  | 12 => (b.attention[i]?.map AttnEntry.fields).getD []
  | _ => []

/-- One entry as LOAD SEGMENT carries it. -/
def Bank.loadEntry (b : Bank) (t i : Nat) (bs : List Byte) : Bank := b.setFields t i (fieldsOf (entryWidths t) bs)

/-- One entry as READ TABLE carries it. -/
def Bank.entryBytes (b : Bank) (t i : Nat) : List Byte := fieldBytes (entryWidths t) (b.fields t i)

/-- R148: writes `n` entries from `bs`, the first at index `i`. -/
def Bank.loadEntries (t : Nat) : Nat → Nat → List Byte → Bank → Bank
  | 0, _, _, b => b
  | n + 1, i, bs, b => Bank.loadEntries t n (i + 1) (bs.drop (entrySize t)) (b.loadEntry t i (bs.take (entrySize t)))

/-- R149: `n` entries from index `i` on. -/
def Bank.readEntries (b : Bank) (t : Nat) : Nat → Nat → List Byte
  | 0, _ => []
  | n + 1, i => b.entryBytes t i ++ b.readEntries t n (i + 1)

end Sys2Proof.Machine
end

