-- ==== Sys2Proof/Machine/Ops.lean ====
section
/-! DEFINITION. The named operations over the state: one update for each record, the raising of an attention source (chapter 10),
and the placing, promoting and withdrawing of commands in the command queue (R167). -/

namespace Sys2Proof.Machine

/-! ## Updates of one record -/

def State.setPending (s : State) (q : List Instr) : State := { s with pending := q }
def State.setPower (s : State) (p : Power) : State := { s with power := p }
def State.setClock (s : State) (c : Clock) : State := { s with clock := c }
def State.setAccounts (s : State) (a : Accounts) : State := { s with accounts := a }
def State.setTables (s : State) (t : TableStore) : State := { s with tables := t }
def State.setHolder (s : State) (h : Fin 4) (r : HolderRec) : State := { s with holders := upd s.holders h r }
def State.setChannel (s : State) (m : Fin 12) (r : ChannelRec) : State := { s with channels := upd s.channels m r }
def State.setPoint (s : State) (p : Fin 24) (r : PointRec) : State := { s with points := upd s.points p r }
def State.setBarometer (s : State) (r : PointRec) : State := { s with barometer := r }
def State.setCalorimeter (s : State) (r : PointRec) : State := { s with calorimeter := r }
def State.setValve (s : State) (v : Fin 8) (r : ValveRec) : State := { s with valves := upd s.valves v r }
def State.setPerm (s : State) (v : Fin 8) (r : PermRec) : State := { s with perms := upd s.perms v r }
def State.setProg (s : State) (p : Programme) : State := { s with prog := p }
def State.setDistrict (s : State) (d : Fin 6) (r : DistrictRec) : State := { s with districts := upd s.districts d r }
def State.setLoop (s : State) (l : LoopPort) : State := { s with loop := l }
def State.setAttn (s : State) (a : Attention) : State := { s with attn := a }
def State.setNv (s : State) (n : Nonvolatile) : State := { s with nv := n }

/-- The live bank, absent in UNCONFIGURED mode (Table 23). -/
def State.live (s : State) : Option Bank := s.tables.live

/-- The part's mode: RUNNING when there is a live bank. -/
def State.running (s : State) : Bool := s.tables.live.isSome

/-- R170: the relay is closed in each condition of the part but `on`. -/
def State.relayClosed (s : State) : Bool := s.power != .on

/-- An act of the part, which an unpowered part or one held in reset does not make (R170). -/
def State.whenOn (s : State) (f : State → State) : State := if s.power = .on then f s else s

/-! ## Attention (R175 to R177, R179) -/

/-- The source of CV DECLARED and the other yard sources (Table 32). -/
def srcNoSend : Fin 74 := 64
def srcNoFill : Fin 74 := 65
def srcCvDeclared : Fin 74 := 66
def srcLoopLost : Fin 74 := 67
def srcCheckErrors : Fin 74 := 68
def srcOverrun : Fin 74 := 69
def srcBankSwapped : Fin 74 := 70
def srcStoreFault : Fin 74 := 71
def srcClockInvalid : Fin 74 := 72
def srcScheduleClamped : Fin 74 := 73

/-- Table 32: the sources of a holder. -/
def srcLowTrip (h : Fin 4) : Fin 74 := ⟨5 * h.val, by omega⟩
def srcHighTrip (h : Fin 4) : Fin 74 := ⟨5 * h.val + 1, by omega⟩
def srcUncertain (h : Fin 4) : Fin 74 := ⟨5 * h.val + 2, by omega⟩
def srcSlip (h : Fin 4) : Fin 74 := ⟨5 * h.val + 3, by omega⟩
def srcLiftFault (h : Fin 4) : Fin 74 := ⟨5 * h.val + 4, by omega⟩
/-- Table 32: VALVE FAULT of V1 to V8 at 19 + v. -/
def srcValveFault (v : Fin 8) : Fin 74 := ⟨20 + v.val, by omega⟩
/-- Table 32: METER JUMP at 28 + 2 × (m − 1), METER STALL at the number after it. -/
def srcMeterJump (m : Fin 12) : Fin 74 := ⟨28 + 2 * m.val, by omega⟩
def srcMeterStall (m : Fin 12) : Fin 74 := ⟨29 + 2 * m.val, by omega⟩
/-- Table 32: END LOW at 52 + 2 × (d − 1), HEADROOM SHORT at the number after it. -/
def srcEndLow (d : Fin 6) : Fin 74 := ⟨52 + 2 * d.val, by omega⟩
def srcHeadroomShort (d : Fin 6) : Fin 74 := ⟨53 + 2 * d.val, by omega⟩

/-- R175: enabled mark and class of a source, from a live bank's map or from the fixed map of UNCONFIGURED mode. -/
def attnMap (live : Option Bank) (src : Fin 74) : Bool × AttnClass :=
  match live with
  | some b => (b.attention[src].enabled == 1, AttnClass.ofCode b.attention[src].cls)
  | none => (true, if src = srcStoreFault then .urgent else .prompt)

/-- R176: one more occurrence of a source that has an entry, saturating at 255. -/
def AttnItem.again (e : AttnItem) : AttnItem := { e with count := min 255 (e.count + 1) }

/-- R176: a new entry stands after every entry of its own class or of a class before it. -/
def insertItem (e : AttnItem) (items : List AttnItem) : List AttnItem :=
  items.filter (fun x => x.cls.code ≤ e.cls.code) ++ e :: items.filter (fun x => e.cls.code < x.cls.code)

/-- R176: an occurrence of an enabled source at the given class. -/
def Attention.occur (a : Attention) (src : Fin 74) (cls : AttnClass) (at_ : Occurrence) : Attention :=
  if a.items.any (fun e => e.source = src) then
    { a with items := a.items.map fun e => if e.source = src then e.again else e }
  else { a with items := insertItem ⟨src, cls, 1, at_, a.serials⟩ a.items, serials := a.serials + 1 }

/-- The clock as an occurrence holds it (Table 33). -/
def State.now (s : State) : Occurrence := ⟨s.clock.day, s.clock.sec, s.clock.valid⟩

/-- R176: an occurrence at a given time, under the map in force. -/
def State.raiseAt (s : State) (src : Fin 74) (t : Occurrence) : State :=
  if (attnMap s.tables.live src).1 then s.setAttn (s.attn.occur src (attnMap s.tables.live src).2 t) else s

/-- R176: a block raises a source. -/
def State.raise (s : State) (src : Fin 74) : State := s.raiseAt src s.now

/-- Raises several sources in turn. -/
def State.raiseAll (s : State) (srcs : List (Fin 74)) : State := srcs.foldl State.raise s

/-- Entries in order of creation, by insertion. -/
def insertBySerial (e : AttnItem) : List AttnItem → List AttnItem
  | [] => [e]
  | x :: xs => if e.serial < x.serial then e :: x :: xs else x :: insertBySerial e xs

/-- R175: every pending entry takes its class from the map, and the list is ordered afresh, the entries of each class in their
order of creation. -/
def Attention.reclass (a : Attention) (live : Option Bank) : Attention :=
  let items := (a.items.foldr insertBySerial []).map fun e => { e with cls := (attnMap live e.source).2 }
  { a with items := items.filter (fun e => e.cls = .urgent) ++ items.filter (fun e => e.cls = .prompt) ++
      items.filter (fun e => e.cls = .routine) }

/-- R179: a clear of a source by the count seen. -/
def Attention.clear (a : Attention) (src : Fin 74) (seen : Nat) : Attention :=
  { a with items := a.items.filterMap fun e =>
      if e.source = src then (if e.count ≤ seen then none else some { e with count := e.count - seen }) else some e }

/-- The pending count of a source, 0 without an entry. -/
def Attention.countOf (a : Attention) (src : Fin 74) : Nat := ((a.items.find? fun e => e.source = src).map AttnItem.count).getD 0

/-! ## The command queue (R65, R120, R167) -/

/-- Whether a command is of a valve. -/
def Command.isValve (c : Command) (v : Fin 8) : Bool :=
  match c with
  | .valve w _ _ _ _ => w = v
  | .set _ _ => false
/-- Whether a command is of any valve. -/
def Command.isAnyValve : Command → Bool
  | .valve _ _ _ _ _ => true
  | .set _ _ => false
/-- Whether a command is a trip-origin valve command. -/
def Command.isTrip : Command → Bool
  | .valve _ _ _ _ t => t
  | .set _ _ => false
/-- Whether a command is a SET of a district. -/
def Command.isSet (c : Command) (d : Fin 6) : Bool :=
  match c with
  | .set e _ => e = d
  | .valve _ _ _ _ _ => false
/-- Whether a command is a SET of any district. -/
def Command.isAnySet : Command → Bool
  | .set _ _ => true
  | .valve _ _ _ _ _ => false

/-- A command on the line that meets `p` is not to go back to the queue if it is broken off (log 24). -/
def Tx.voidIf (t : Tx) (p : Command → Bool) : Tx :=
  match t with
  | .own (.command c f v) => .own (.command c f (v || p c))
  | t => t

/-- R167: an owner withdraws its unsent commands that meet `p`. -/
def LoopPort.withdraw (l : LoopPort) (p : Command → Bool) : LoopPort :=
  { l with commands := l.commands.filter (fun c => !p c), tx := l.tx.voidIf p }

/-- R65: a valve command replaces an earlier unsent one of its valve, and is queued in its own age. -/
def LoopPort.placeValve (l : LoopPort) (v : Fin 8) (operate : Bool) (dir : Dir) (tag : Byte) (trip : Bool) : LoopPort :=
  { l with commands := l.commands.filter (fun c => !c.isValve v) ++ [.valve v operate dir tag trip],
           tx := l.tx.voidIf (·.isValve v) }

/-- R62: an unsent command of the valve becomes a trip-origin command. DEDUCED (log 94): so does one whose frame is on the line, which
therefore comes back as a trip-origin command if it is broken off (R166). -/
def LoopPort.promote (l : LoopPort) (v : Fin 8) : LoopPort :=
  let up : Command → Command := fun c =>
    match c with
    | .valve w o d t _ => if w = v then .valve w o d t true else c
    | .set _ _ => c
  { l with commands := l.commands.map up,
           tx := match l.tx with
             | .own (.command c f x) => .own (.command (up c) f x)
             | t => t }

/-- R120: a SET replaces the district's unsent SET in its place, or is queued last. The flag says it replaced one. -/
def LoopPort.placeSet (l : LoopPort) (d : Fin 6) (value : Nat) : LoopPort × Bool :=
  if l.commands.any (·.isSet d) then
    ({ l with commands := l.commands.map fun c => if c.isSet d then .set d value else c, tx := l.tx.voidIf (·.isSet d) }, true)
  else ({ l with commands := l.commands ++ [.set d value], tx := l.tx.voidIf (·.isSet d) }, false)

/-- The setpoint of the district's unsent SET (R124). -/
def LoopPort.unsentSet (l : LoopPort) (d : Fin 6) : Option Nat :=
  l.commands.findSome? fun c =>
    match c with
    | .set e v => if e = d then some v else none
    | .valve _ _ _ _ _ => none

/-- The setpoint of a district's SET on the line that would come back to the queue if it were broken off. -/
def Tx.setOnLine (t : Tx) (d : Fin 6) : Option Nat :=
  match t with
  | .own (.command (.set e v) _ false) => if e = d then some v else none
  | _ => none

/-! ## Places of valves and holders (Table 9) -/

/-- The holder of a valve. -/
def holderOf (v : Fin 8) : Fin 4 := ⟨v.val / 2, by omega⟩
/-- The side of a valve. -/
def sideOf (v : Fin 8) : Side := if v.val % 2 = 0 then .inlet else .outlet
/-- The valve of a holder's side. -/
def valveOf (h : Fin 4) (sd : Side) : Fin 8 :=
  match sd with
  | .inlet => ⟨2 * h.val, by omega⟩
  | .outlet => ⟨2 * h.val + 1, by omega⟩

/-- A number from 1 to `n` as a place from 0. -/
def placeOf (n k : Nat) : Option (Fin n) := if h : 1 ≤ k ∧ k ≤ n then some ⟨k - 1, by omega⟩ else none

/-- Whether a timer has expired by the time `t`. -/
def timerBy (timer : Option Nat) (t : Nat) : Bool :=
  match timer with
  | some e => decide (e ≤ t)
  | none => false

/-- Runs `f` for each place in turn. -/
def forEach {n : Nat} (f : Fin n → State → State) (s : State) : State := (List.finRange n).foldl (fun s i => f i s) s

end Sys2Proof.Machine
end

