-- ==== Sys2Proof/Machine/Flags.lean ====
section
/-! DEFINITION. The flag sets of the accounts (Table 20): their empty sets, unions and bits, and the setting of a flag in the open
interval (R130). -/

namespace Sys2Proof.Machine

def InputFlags.none : InputFlags := ⟨false, false, false⟩
def InputFlags.union (a b : InputFlags) : InputFlags := ⟨a.held || b.held, a.reference || b.reference, a.clamped || b.clamped⟩

def ChannelFlags.none : ChannelFlags := ⟨false, false, false, false, false⟩
def ChannelFlags.union (a b : ChannelFlags) : ChannelFlags :=
  ⟨a.held || b.held, a.reference || b.reference, a.clamped || b.clamped, a.jump || b.jump, a.stalled || b.stalled⟩
/-- The input flags of R130 among a channel's flags. -/
def InputFlags.toChannel (f : InputFlags) : ChannelFlags := ⟨f.held, f.reference, f.clamped, false, false⟩

def YardFlags.none : YardFlags := ⟨false, false, false, false, false, false, false, false, false⟩
def YardFlags.union (a b : YardFlags) : YardFlags :=
  ⟨a.cvDeclared || b.cvDeclared, a.loopLost || b.loopLost, a.clockInvalid || b.clockInvalid, a.clockAdjusted || b.clockAdjusted,
    a.clockStep || b.clockStep, a.restart || b.restart, a.gap || b.gap, a.stockUncertain || b.stockUncertain,
    a.stockHeld || b.stockHeld⟩

/-- Chapter 11: a flag set as bits, the first flag in the least significant bit. -/
def bitsOf : List Bool → Nat
  | [] => 0
  | b :: bs => (if b then 1 else 0) + 2 * bitsOf bs

def InputFlags.bits (f : InputFlags) : Nat := bitsOf [f.held, f.reference, f.clamped]
def ChannelFlags.bits (f : ChannelFlags) : Nat := bitsOf [f.held, f.reference, f.clamped, f.jump, f.stalled]
def YardFlags.bits (f : YardFlags) : Nat :=
  bitsOf [f.cvDeclared, f.loopLost, f.clockInvalid, f.clockAdjusted, f.clockStep, f.restart, f.gap, f.stockUncertain, f.stockHeld]

/-- Changes the open interval, where there is one. -/
def State.mapInterval (s : State) (f : OpenInterval → OpenInterval) : State :=
  s.setAccounts { s.accounts with interval := s.accounts.interval.map f }

/-- R130: a yard flag once set stays set until the interval closes. -/
def State.yardFlag (s : State) (f : YardFlags) : State := s.mapInterval fun iv => { iv with yard := iv.yard.union f }

/-- R130: channel flags of one channel in the open interval. -/
def State.channelFlag (s : State) (m : Fin 12) (f : ChannelFlags) : State :=
  s.mapInterval fun iv => { iv with channels := upd iv.channels m { iv.channels[m] with flags := iv.channels[m].flags.union f } }

end Sys2Proof.Machine
end

