-- ==== Sys2Proof/Machine/Operands.lean ====
section
/-! DEFINITION. What the frames carry: the station roles that addresses resolve to (R163, R164) and the bodies of reports and
answers (Table 35), each read once here. -/

namespace Sys2Proof.Machine

/-- Table 29: a station role. -/
inductive Station where
  | lift (h : Fin 4)
  | meter (m : Fin 12)
  | point (p : Fin 24)
  | valve (v : Fin 8)
  | governor (d : Fin 6)
  | calorimeter
  | barometer
  deriving DecidableEq, Repr

/-- The role of a kind code and a role index (Table 28; kinds in the order of R151). -/
def stationOf (kind index : Nat) : Option Station :=
  match kind with
  | 0 => (placeOf 4 index).map .lift
  | 1 => (placeOf 12 index).map .meter
  | 2 => (placeOf 24 index).map .point
  | 3 => (placeOf 8 index).map .valve
  | 4 => (placeOf 6 index).map .governor
  | 5 => some .calorimeter
  | 6 => some .barometer
  | _ => none

/-- Whether a map entry covers an address. An entry with count 0 covers none (R147). -/
def MapEntry.covers (e : MapEntry) (a : Nat) : Bool := decide (e.first ≤ a) && decide (a < e.first + e.count)

/-- R163, step 1: the address a report is treated as coming from. -/
def Bank.treatedAs (b : Bank) (a : Nat) : Nat :=
  ((b.spares.toList.find? fun x => x.used && x.a == a).map SpareEntry.b).getD a

/-- R163: the role the source address of a report resolves to. -/
def Bank.resolve (b : Bank) (a : Nat) : Option Station :=
  match b.stationMap.toList.find? fun e => e.covers (b.treatedAs a) with
  | some e => stationOf e.kind (e.index + (b.treatedAs a - e.first))
  | none => none

/-- The addresses that the map entries give a role. -/
def Bank.mapAddresses (b : Bank) (st : Station) : List Nat :=
  b.stationMap.toList.flatMap fun e =>
    (List.range e.count).filterMap fun i => if stationOf e.kind (e.index + i) = some st then some (e.first + i) else none

/-- R164: where a command to the station of a role is sent. -/
def Bank.addressOf (b : Bank) (st : Station) : Option Nat :=
  match b.mapAddresses st with
  | [] => none
  | a :: _ => some (((b.spares.toList.find? fun x => x.used && x.b == a).map SpareEntry.a).getD a)

/-- R39, R82, R123: the addresses that resolve to a role, through the map and through the aliases. -/
def Bank.addressesOf (b : Bank) (st : Station) : List Nat :=
  let direct := b.mapAddresses st
  direct ++ b.spares.toList.filterMap fun x => if x.used && direct.contains x.b then some x.a else none

/-- Whether the addresses that resolve to a role differ between two banks. -/
def addressesChanged (old new : Bank) (st : Station) : Bool :=
  !((old.addressesOf st).all (new.addressesOf st).contains && (new.addressesOf st).all (old.addressesOf st).contains)

/-! ## Report bodies (R182, Table 35) -/

/-- A lift report's content. -/
structure LiftBody where
  datum : Nat
  index : Nat
  samples : List Track
  deriving DecidableEq, Repr

/-- Table 35: track A in bit 1, track B in bit 0. DEDUCED (log 15): the other bits carry nothing. -/
def trackOf (c : Byte) : Track := ⟨c.getLsbD 1, c.getLsbD 0⟩

/-- R182: a lift report's length is 3 plus its sample count byte. -/
def liftBody (body : List Byte) : Option LiftBody :=
  match body with
  | n :: datum :: index :: rest =>
    if rest.length = n.toNat then some ⟨datum.toNat, index.toNat, rest.map trackOf⟩ else none
  | _ => none

/-- A meter report: pulse register and last-pulse time. -/
def meterBody (body : List Byte) : Option (Nat × Nat) :=
  match body with
  | [r1, r0, p1, p0] => some (natOf [r1, r0], natOf [p1, p0])
  | _ => none

/-- A point, barometer or calorimeter report. -/
def pointBody (body : List Byte) : Option (Int × Quality) :=
  match body with
  | [v1, v0, q] => (Quality.ofCode q.toNat).map fun q => (signed16 (v1 ++ v0), q)
  | _ => none

/-- A valve position report. -/
def positionBody (body : List Byte) : Option Position :=
  match body with
  | [p] => Position.ofCode p.toNat
  | _ => none

/-- A governor report: the setpoint held and whether the status is HAND. -/
def governorBody (body : List Byte) : Option (Nat × Bool) :=
  match body with
  | [v1, v0, st] => if st.toNat ≤ 1 then some (natOf [v1, v0], st.toNat == 1) else none
  | _ => none

/-- A valve answer with its tag. DEDUCED (log 16): a DONE whose third byte is not 0 holds no listed code. -/
def answerBody (body : List Byte) : Option (Byte × Answer) :=
  match body with
  | [tag, a, x] =>
    match a.toNat with
    | 1 => (Position.ofCode x.toNat).map fun p => (tag, .selected p)
    | 2 => if x = 0 then some (tag, .finished) else none
    | 3 => (RefuseReason.ofCode x.toNat).map fun r => (tag, .refused r)
    | _ => none
  | _ => none

/-! ## Command bodies (Table 35) -/

/-- The body of a command as it is sent. -/
def Command.body : Command → List Byte
  | .valve _ operate dir tag _ => [if operate then 2 else 1, tag, b8 dir.code]
  | .set _ value => 3 :: putN 2 value

/-- The role of the station a command goes to (R164). -/
def Command.station : Command → Station
  | .valve v _ _ _ _ => .valve v
  | .set d _ => .governor d

end Sys2Proof.Machine
end

