-- ==== Sys2Proof/Machine/Correction.lean ====
section
/-! DEFINITION. The Correction Engine and the point records (chapter 3). -/

namespace Sys2Proof.Machine

/-! ## The Correction Engine (R49 to R54, R57) -/

/-- R50: an input by the state of its record; `std` is the reference value. -/
def PointRec.input (r : PointRec) (std : Int) : Int × InputFlags :=
  let clamped := r.quality == .over || r.quality == .under
  match r.state with
  | .fresh => (r.value.getD 0, ⟨false, false, clamped⟩)
  | .held => (r.value.getD 0, ⟨true, false, clamped⟩)
  | .absent => (std, ⟨false, true, false⟩)

/-- R50: a gauge pressure below 0 is taken as 0, with CLAMPED. -/
def gaugeInput (x : Int × InputFlags) : Nat × InputFlags :=
  if x.1 < 0 then (0, x.2.union ⟨false, false, true⟩) else (x.1.toNat, x.2)

/-- Clamps a value; the flag says the clamp changed it. -/
def clampTo (lo hi : Nat) (x : Int) : Nat × Bool :=
  if x < lo then (lo, true) else if (hi : Int) < x then (hi, true) else (x.toNat, false)

/-- R52: the effective pressure before the clamp. -/
def effectivePressure (baro : Int) (gauge : Nat) : Int := baro + ((gauge * 100 + 68) / 136 : Nat)

/-- R53: the cell index and the fraction along one axis, a value on the far edge being taken in the last cell. -/
def cellOf (base step last x : Nat) : Nat × Nat :=
  let i := (x - base) / step
  if i ≥ last then (last - 1, step) else (i, (x - base) - step * i)

/-- An entry of the correction table (Table 8). -/
def Bank.factor (b : Bank) (i j : Nat) : Nat := (b.correction[13 * i + j]?).getD 0

/-- R53, R54: the factor for a clamped temperature and a clamped effective pressure. -/
def Bank.interpolate (b : Bank) (t e : Nat) : Nat :=
  let (i, ft) := cellOf 300 50 16 t
  let (j, fe) := cellOf 28000 250 12 e
  let x := b.factor i j * (250 - fe) + b.factor i (j + 1) * fe
  let y := b.factor (i + 1) j * (250 - fe) + b.factor (i + 1) (j + 1) * fe
  (x * (50 - ft) + y * ft + 6250) / 12500

/-- R52 to R54: the factor from the three inputs, and CLAMPED where a clamp changed a value. -/
def Bank.factorOf (b : Bank) (t : Int) (baro : Int) (gauge : Nat) : Nat × Bool :=
  let (e, ce) := clampTo 28000 31000 (effectivePressure baro gauge)
  let (tt, ct) := clampTo 300 1100 t
  (b.interpolate tt e, ce || ct)

/-- The record of the point a table names. -/
def State.pointRec (s : State) (p : Nat) : PointRec := ((pointPlace p).map fun i => s.points[i]).getD PointRec.initial

/-- R50: the factor for a meter channel's points, with the flags. -/
def State.meterFactor (s : State) (b : Bank) (tempPoint presPoint : Nat) : Nat × InputFlags :=
  let (t, ft) := (s.pointRec tempPoint).input 600
  let (bar, fb) := s.barometer.input 30000
  let (g, fg) := gaugeInput ((s.pointRec presPoint).input 0)
  let (f, c) := b.factorOf t bar g
  (f, ((ft.union fb).union fg).union ⟨false, false, c⟩)

/-- R51: the gauge pressure of a holder request. -/
def State.holderGauge (s : State) (e : HolderEntry) (h : Fin 4) : Nat × InputFlags :=
  let r := s.pointRec e.presPoint
  match r.state with
  | .fresh => gaugeInput (r.input 0)
  | _ => (s.holders[h].expected, ⟨true, false, false⟩)

/-- R51, R57: the corrected stock of a holder, in 100 cf, with the flags. A holder that is not fitted gives 0 and no flags. -/
def State.holderStock (s : State) (b : Bank) (h : Fin 4) : Nat × InputFlags :=
  if b.fitted h then
    let e := b.holders[h]
    let (t, ft) := (s.pointRec e.tempPoint).input 600
    let (bar, fb) := s.barometer.input 30000
    let (g, fg) := s.holderGauge e h
    let (f, c) := b.factorOf t bar g
    let stock := (s.holders[h].geoVolume * f + 5000) / 10000
    (min stock Config.maxVolume,
      (((ft.union fb).union fg).union ⟨false, false, c⟩).union ⟨false, false, decide (Config.maxVolume < stock)⟩)
  else (0, InputFlags.none)

/-- R44: whether the calorimeter's value is the CV in force. -/
def State.cvFresh (s : State) : Bool := s.calorimeter.state == .fresh

/-- R44: the CV in force. -/
def State.cvInForce (s : State) (b : Bank) : Nat :=
  if s.cvFresh then (s.calorimeter.value.getD 0).toNat else b.yard.declaredCv

/-! ## Taking a report, and going stale (R40 to R44, R47) -/

/-- Taking a usable report (R40). -/
def PointRec.take (r : PointRec) (v : Int) (q : Quality) (t : Nat) : PointRec :=
  { r with state := .fresh, value := some v, quality := q, usable := some t, last := some ⟨v, q, t, true⟩ }

/-- A report that is not taken sets the last report field only (R40). -/
def PointRec.leave (r : PointRec) (v : Int) (q : Quality) (t : Nat) : PointRec := { r with last := some ⟨v, q, t, false⟩ }

/-- Whether the stale timer has expired by the time `t`: FRESH, and the usable time plus the stale time reached (R41). -/
def PointRec.staleBy (r : PointRec) (stale t : Nat) : Bool :=
  match r.state, r.usable with
  | .fresh, some u => decide (u + stale * 1000 ≤ t)
  | _, _ => false

/-- R40: whether a point report is usable. -/
def pointUsable (v : Int) (q : Quality) : Bool := q != .fault && decide (-400 ≤ v) && decide (v ≤ 3000)
/-- R43: whether a barometer report is usable. -/
def barometerUsable (v : Int) (q : Quality) : Bool := q != .fault && decide (27000 ≤ v) && decide (v ≤ 32000)
/-- R44: whether a calorimeter report is usable. -/
def calorimeterUsable (v : Int) (q : Quality) : Bool := q == .good && decide (3000 ≤ v) && decide (v ≤ 6000)

/-- R47: a record's state afresh from its age against a stale time. -/
def PointRec.afresh (r : PointRec) (stale t : Nat) : PointRec :=
  match r.state, r.usable with
  | .absent, _ => r
  | _, some u => { r with state := if t < u + stale * 1000 then .fresh else .held }
  | _, none => r

/-- R47: the point, barometer and calorimeter records at a swap to the bank `b`. CV DECLARED is raised where the calorimeter goes
from FRESH to HELD. -/
def State.pointsSwap (s : State) (b : Bank) : State :=
  let cal := s.calorimeter.afresh b.yard.cvStale s.timebase
  let s1 := { s with
    points := s.points.map fun r => r.afresh b.yard.pointStale s.timebase,
    barometer := s.barometer.afresh b.yard.pointStale s.timebase,
    calorimeter := cal }
  if s.calorimeter.state = .fresh ∧ cal.state = .held then s1.raise srcCvDeclared else s1

end Sys2Proof.Machine
end

