-- ==== Sys2Proof/Machine/Valves.lean ====
section
/-! DEFINITION. The Valve Controller (chapter 4): demands, the select-then-operate exchange, position reports, and the withdrawal
of permissions. Outcome notices (R63) are left in `prog.notices`, from which Machine/Programme.lean takes them. -/

namespace Sys2Proof.Machine

/-- An operation is in flight while the state is OPENING or SHUTTING (section 4.2). -/
def ValveState.inFlight : ValveState → Bool
  | .opening => true
  | .shutting => true
  | _ => false

/-- The state of an operation in a direction. -/
def Dir.moving : Dir → ValveState
  | .toOpen => .opening
  | .toShut => .shutting

/-- The state in which a valve stands at a direction's limit. -/
def Dir.reachedState : Dir → ValveState
  | .toOpen => .opened
  | .toShut => .shut

/-- The position report that matches a direction (R70). -/
def Dir.matches (d : Dir) (p : Position) : Bool :=
  match d, p with
  | .toOpen, .opened => true
  | .toShut, .shut => true
  | _, _ => false

/-- R62: TRIP above DESK above PROGRAMME. -/
def Origin.rank : Origin → Nat
  | .trip => 2
  | .desk => 1
  | .programme => 0

/-- R63: gives the Programme Unit an outcome notice. -/
def State.notify (s : State) (v : Fin 8) (d : Dir) (reached : Bool) : State :=
  s.setProg { s.prog with notices := s.prog.notices ++ [⟨v, d, reached⟩] }

/-- R63: a notice for the demand of a valve record, where programme joined is set. -/
def State.notifyJoined (s : State) (v : Fin 8) (r : ValveRec) (reached : Bool) : State :=
  match r.joined, r.demand with
  | true, some d => s.notify v d.dir reached
  | _, _ => s

/-- R65: begins an exchange. Under LOOP_LOST no command is placed and the command phase is left IDLE (R75); DEDUCED (log 61): no exchange
then begins, and the tag stays. -/
def State.beginExchange (s : State) (v : Fin 8) (d : Dir) (trip : Bool) : State :=
  let r := s.valves[v]
  if s.loop.lost then s.setValve v { r with phase := .idle }
  else
    (s.setValve v { r with tag := r.tag + 1, phase := .selectSent, answerTimer := none }).setLoop
      (s.loop.placeValve v false d (r.tag + 1) trip)

/-- R61: a demand starts an operation. -/
def State.startOperation (s : State) (v : Fin 8) (d : Demand) (joined : Bool) : State :=
  (s.setValve v { s.valves[v] with state := d.dir.moving, demand := some d, joined := joined, reissue := 0 }).beginExchange v d.dir
    (d.origin == .trip)

/-- What became of an offered demand. -/
inductive Offer where
  | satisfied | started | joined | reversed | kept | refused
  deriving DecidableEq, Repr

/-- A refused demand changes nothing; one of PROGRAMME origin gets its failure notice at once (R61). -/
def State.refuseDemand (s : State) (v : Fin 8) (d : Demand) : State :=
  if d.origin = .programme then s.notify v d.dir false else s

/-- A demand satisfied at once: REACHED at once for PROGRAMME (R61, R63). -/
def State.satisfyDemand (s : State) (v : Fin 8) (d : Demand) : State :=
  if d.origin = .programme then s.notify v d.dir true else s

/-- Table 11: what a demand reaching a valve at rest meets. -/
def table11 (st : ValveState) (d : Demand) : Offer :=
  match st, d.dir, d.origin with
  | .unknown, _, _ => .started
  | .shut, .toOpen, _ => .started
  | .shut, .toShut, _ => .satisfied
  | .opened, .toOpen, _ => .satisfied
  | .opened, .toShut, _ => .started
  | .stuck, _, .desk => .started
  | .stuck, .toShut, .trip => .started
  | .stuck, _, _ => .refused
  | .noAnswer, .toShut, .trip => .kept
  | .noAnswer, _, _ => .refused
  | .localHand, .toShut, .trip => .kept
  | .localHand, _, _ => .refused
  | .opening, _, _ => .refused
  | .shutting, _, _ => .refused

/-- R61: a demand reaching a valve at rest. DEDUCED (log 62): a TRIP demand kept in the place of another keeps its joined mark. -/
def State.offerAtRest (s : State) (v : Fin 8) (d : Demand) : State × Offer :=
  match table11 s.valves[v].state d with
  | .started => (s.startOperation v d (d.origin == .programme), .started)
  | .satisfied => (s.satisfyDemand v d, .satisfied)
  | .kept => (s.setValve v { s.valves[v] with demand := some d }, .kept)
  | o => (s.refuseDemand v d, o)

/-- R62, same direction: the demand joins the operation in flight. -/
def State.joinOperation (s : State) (v : Fin 8) (old d : Demand) : State :=
  let r := s.valves[v]
  let up := decide (old.origin.rank < d.origin.rank)
  let s1 := s.setValve v { r with
    demand := some ⟨old.dir, if up then d.origin else old.origin⟩, joined := r.joined || d.origin == .programme }
  if up && d.origin == .trip then s1.setLoop (s1.loop.promote v) else s1

/-- R62, opposite direction and origin not below: the operation is reversed. -/
def State.reverseOperation (s : State) (v : Fin 8) (d : Demand) : State :=
  let r := s.valves[v]
  let s1 := s.notifyJoined v r false
  (s1.setValve v { r with state := d.dir.moving, demand := some d, joined := d.origin == .programme, reissue := 0,
                          answerTimer := none, travelTimer := none }).beginExchange v d.dir (d.origin == .trip)

/-- R62: a demand reaching a valve with an operation in flight. -/
def State.offerInFlight (s : State) (v : Fin 8) (old d : Demand) : State × Offer :=
  if old.dir = d.dir then (s.joinOperation v old d, .joined)
  else if old.origin.rank ≤ d.origin.rank then (s.reverseOperation v d, .reversed)
  else (s.refuseDemand v d, .refused)

/-- R61, R62: offers a demand to a valve. An OPEN demand for a side whose permission is withdrawn is refused first. -/
def State.offer (s : State) (v : Fin 8) (d : Demand) : State × Offer :=
  if d.dir = .toOpen ∧ s.perms[v].granted = false then (s.refuseDemand v d, .refused)
  else
    match s.valves[v].state.inFlight, s.valves[v].demand with
    | true, some old => s.offerInFlight v old d
    | _, _ => s.offerAtRest v d

/-- The state that `offer` leaves. -/
def State.offered (s : State) (v : Fin 8) (d : Demand) : State := (s.offer v d).1

/-! ## Ends of operations -/

/-- R70: the operation ends as a match. -/
def State.endMatch (s : State) (v : Fin 8) (d : Dir) : State :=
  let r := s.valves[v]
  ((s.setValve v { r with state := d.reachedState, demand := none, joined := false, phase := .idle, reissue := 0,
                          answerTimer := none, travelTimer := none }).setLoop (s.loop.withdraw (·.isValve v))).notifyJoined v r true

/-- R68, R70: an operation ends in STUCK, and VALVE FAULT is raised. DEDUCED (log 87): the command phase becomes IDLE, both timers stop
and the reissue count is kept, whatever ended it; (log 46): its unsent command is withdrawn. -/
def State.endStuck (s : State) (v : Fin 8) (cause : FailCause) : State :=
  let r := s.valves[v]
  (((s.setValve v { r with state := .stuck, demand := none, joined := false, phase := .idle, answerTimer := none,
                           travelTimer := none, lastFailure := some ⟨cause, r.demand, s.timebase⟩ }).setLoop
    (s.loop.withdraw (·.isValve v))).raise (srcValveFault v)).notifyJoined v r false

/-- R72: the valve enters LOCAL from any state; only a demand of TRIP origin is kept. DEDUCED (log 93): from rest, too, an unsent command
that NO_ANSWER has left queued (log 88) is withdrawn. -/
def State.enterLocal (s : State) (v : Fin 8) : State :=
  let r := s.valves[v]
  let kept := match r.demand with
    | some d => d.origin == .trip
    | none => false
  let s1 := s.setValve v { r with
    state := .localHand, demand := if kept then r.demand else none, joined := kept && r.joined, phase := .idle,
    reissue := if r.state.inFlight then 0 else r.reissue, answerTimer := none, travelTimer := none }
  let s2 := s1.setLoop (s1.loop.withdraw (·.isValve v))
  if kept then s2 else s2.notifyJoined v r false

/-- R69: a missed answer begins the exchange again once; at the second miss the valve enters NO_ANSWER, where only a demand of
TRIP origin is kept. The failure notice of an operation that ends in NO_ANSWER is given whatever its origin (R63, log 17). DEDUCED
(log 75): the first miss leaves a travel timer that runs (REFUSED NOT SELECTED after a DONE) as it is; (log 88): the second leaves an
unsent command of the valve in the queue. -/
def State.missedAnswer (s : State) (v : Fin 8) (cause : FailCause) : State :=
  let r := s.valves[v]
  match r.demand with
  | none => s
  | some d =>
    if r.reissue = 0 then
      (s.setValve v { r with reissue := 1, answerTimer := none }).beginExchange v d.dir (d.origin == .trip)
    else
      ((s.setValve v { r with state := .noAnswer, phase := .idle, answerTimer := none, travelTimer := none,
                              lastFailure := some ⟨cause, some d, s.timebase⟩,
                              demand := if d.origin = .trip then some d else none, joined := false }).raise
        (srcValveFault v)).notifyJoined v r false

/-! ## Position reports (R70 to R74) -/

/-- R72, R74: a TRIP demand kept at rest is taken from the state just set, as Table 11 gives. Programme joined is kept with it. -/
def State.takeKept (s : State) (v : Fin 8) : State :=
  let r := s.valves[v]
  match r.demand with
  | none => s
  | some d =>
    match table11 r.state d with
    | .started => s.startOperation v d r.joined
    | .satisfied => (s.setValve v { r with demand := none, joined := false }).notifyJoined v r true
    | _ => s

/-- R71: a valve OPEN while its side's permission is withdrawn is taken to SHUTTING by a TRIP demand within the same event. -/
def State.shutIfWithdrawn (s : State) (v : Fin 8) : State :=
  if s.valves[v].state = .opened ∧ s.perms[v].granted = false then s.offered v ⟨.toShut, .trip⟩ else s

/-- R71, R74: the state follows a reported position. DEDUCED (log 93): a command that NO_ANSWER has left queued (log 88) stays there, but
in LOCAL; (log 87): the reissue count of a valve that becomes STUCK is kept. -/
def State.followPosition (s : State) (v : Fin 8) (p : Position) : State :=
  match p with
  | .shut => s.setValve v { s.valves[v] with state := .shut }
  | .opened => s.setValve v { s.valves[v] with state := .opened }
  | .mid => s.setValve v { s.valves[v] with state := .unknown }
  | .fault =>
    (s.setValve v { s.valves[v] with state := .stuck, lastFailure := some ⟨.faultReported, s.valves[v].demand, s.timebase⟩ }).raise
      (srcValveFault v)
  | .localHand => s.enterLocal v

/-- R71, R72, R74: the valve follows, a kept TRIP demand is taken from the new state, and an OPEN valve without permission shuts. -/
def State.followAndTake (s : State) (v : Fin 8) (p : Position) : State := ((s.followPosition v p).takeKept v).shutIfWithdrawn v

/-- R70 to R74: a position report of a valve. -/
def State.positionReport (s : State) (v : Fin 8) (p : Position) : State :=
  let s1 := s.setValve v { s.valves[v] with reported := some ⟨p, s.timebase⟩ }
  match s.valves[v].state with
  | .opening | .shutting =>
    match s.valves[v].demand with
    | none => s1
    | some d =>
      if d.dir.matches p then s1.endMatch v d.dir
      else match p with
        | .fault => s1.endStuck v .faultReported
        | .localHand => s1.enterLocal v
        | _ => s1
  | .unknown | .shut | .opened => s1.followAndTake v p
  | .stuck => if p = .localHand then s1.enterLocal v else s1
  | .localHand => if p = .localHand ∨ p = .fault then s1 else s1.followAndTake v p
  | .noAnswer => s1.followAndTake v p

/-! ## Answers (R66 to R68) -/

/-- Records an answer in last answer. -/
def State.recordAnswer (s : State) (v : Fin 8) (a : Answer) (tag : Byte) (acted : Bool) : State :=
  s.setValve v { s.valves[v] with lastAnswer := some ⟨a, tag, s.timebase, acted⟩ }

/-- R66 to R68, R75: whether an answer meets the conditions under which it is acted on. -/
def State.answerActed (s : State) (v : Fin 8) (a : Answer) (tag : Byte) : Bool :=
  let r := s.valves[v]
  !s.loop.lost && tag == r.tag && match a with
    | .selected _ => r.phase == .selectSent
    | .finished => r.phase == .operateSent && r.answerTimer.isSome
    | .refused _ => r.phase != .idle

/-- Table 9: the travel time of a valve's side, in s. -/
def Bank.travelTime (b : Bank) (v : Fin 8) : Nat :=
  match sideOf v with
  | .inlet => b.holders[holderOf v].inletTime
  | .outlet => b.holders[holderOf v].outletTime

/-- R66: a SELECTED answer acted on. -/
def State.actSelected (s : State) (v : Fin 8) (p : Position) : State :=
  let r := s.valves[v]
  let s1 := s.setValve v { r with answerTimer := none, reported := some ⟨p, s.timebase⟩ }
  match r.demand with
  | none => s1
  | some d =>
    if d.dir.matches p then s1.endMatch v d.dir
    else
      (s1.setValve v { s1.valves[v] with phase := .operateSent }).setLoop
        (s1.loop.placeValve v true d.dir r.tag (d.origin == .trip))

/-- R67: a DONE answer acted on. -/
def State.actDone (s : State) (b : Bank) (v : Fin 8) : State :=
  s.setValve v { s.valves[v] with answerTimer := none, travelTimer := some (s.timebase + b.travelTime v * 1000) }

/-- R68: a REFUSED answer acted on. -/
def State.actRefused (s : State) (v : Fin 8) (reason : RefuseReason) : State :=
  let s1 := s.setValve v { s.valves[v] with answerTimer := none }
  match reason with
  | .localHand => (s1.setValve v { s1.valves[v] with reported := some ⟨.localHand, s.timebase⟩ }).enterLocal v
  | .fault => (s1.setValve v { s1.valves[v] with reported := some ⟨.fault, s.timebase⟩ }).endStuck v .refusedFault
  | .notSelected => s1.missedAnswer v .selectLapsed

/-- R66 to R68: an answer of a valve's station. -/
def State.valveAnswer (s : State) (b : Bank) (v : Fin 8) (tag : Byte) (a : Answer) : State :=
  let acted := s.answerActed v a tag
  let s1 := s.recordAnswer v a tag acted
  if acted then
    match a with
    | .selected p => s1.actSelected v p
    | .finished => s1.actDone b v
    | .refused r => s1.actRefused v r
  else s1

/-! ## Timers, loss and recovery -/

/-- R167: the notice that a command was sent starts the answer timer when it is of the exchange in hand. -/
def State.commandSent (s : State) (c : Command) : State :=
  match c with
  | .set _ _ => s
  | .valve v _ _ tag _ =>
    if tag = s.valves[v].tag ∧ s.valves[v].phase ≠ .idle then
      s.setValve v { s.valves[v] with answerTimer := some (s.timebase + Config.answerTime) }
    else s

/-- R75: at the loss every unsent valve command is withdrawn and every timer of the valves is stopped. -/
def State.valvesLost (s : State) : State :=
  { s with valves := s.valves.map fun r => { r with answerTimer := none, travelTimer := none },
           loop := s.loop.withdraw Command.isAnyValve }

/-- R76, R82: a valve set UNKNOWN, its demand taken afresh from a SELECT with a new tag. DEDUCED (log 93): with no demand, a command that
NO_ANSWER has left queued stays there. -/
def State.setUnknown (s : State) (v : Fin 8) : State :=
  let r := s.valves[v]
  let r1 := { r with state := .unknown, reported := none, phase := .idle, answerTimer := none, travelTimer := none, reissue := 0 }
  match r.demand with
  | none => s.setValve v r1
  | some d => (s.setValve v r1).startOperation v d r.joined

/-- R76: loop recovery at the Valve Controller. DEDUCED (log 76): the exchanges begin in the order V1 to V8, so that the lower valve's
SELECT is the older. -/
def State.valvesRecover (s : State) (b : Bank) : State :=
  forEach (fun v s => if b.fitted (holderOf v) then s.setUnknown v else s) s

/-! ## Permissions (R78 to R81) -/

/-- R78, R80: a GRANTED permission is withdrawn, a SHUT demand of TRIP origin is offered and the source is raised. A permission
already WITHDRAWN is left as it stands. -/
def State.withdraw (s : State) (h : Fin 4) (sd : Side) (cause : PermCause) (count : Nat) : State :=
  let v := valveOf h sd
  if s.perms[v].granted then
    ((s.setPerm v ⟨false, some cause, some count, some s.timebase⟩).offered v ⟨.toShut, .trip⟩).raise
      (match sd with
       | .inlet => srcHighTrip h
       | .outlet => srcLowTrip h)
  else s

/-- R78: the stops are compared with the lowest and the highest count of a holder change. -/
def State.evaluateTrips (s : State) (e : HolderEntry) (h : Fin 4) (lo hi : Nat) : State :=
  let s1 := if lo ≤ e.lowStop then s.withdraw h .outlet .lowStop lo else s
  if e.highStop ≤ hi then s1.withdraw h .inlet .highStop hi else s1

end Sys2Proof.Machine
end

