-- ==== Sys2Proof/Machine/Programme.lean ====
section
/-! DEFINITION. The Programme Unit (chapter 5): triggers, the building of transitions, their two phases, and the settling of the
notices and triggers that one step gives rise to. Then the holder change (R3) as the three blocks that receive it take it. -/

namespace Sys2Proof.Machine

/-! ## Roles (Table 13) -/

/-- Whether a role asks a side's valve to be OPEN. -/
def Role.asksOpen (r : Role) (sd : Side) : Bool :=
  match r, sd with
  | .standby, _ => false
  | .fill, .inlet => true
  | .fill, .outlet => false
  | .send, .inlet => false
  | .send, .outlet => true
  | .float, _ => true

/-- Whether a current role includes a side's work: sending for the outlet, filling for the inlet. -/
def includesSide (r : Option Role) (sd : Side) : Bool :=
  match r with
  | some r => r.asksOpen sd
  | none => false

/-- A role with a side's work added (the gained role of R93 and R94, and the adjustment of R98). -/
def Role.gain (r : Role) (sd : Side) : Role :=
  match sd, r with
  | .outlet, .standby => .send
  | .outlet, .fill => .float
  | .outlet, r => r
  | .inlet, .standby => .fill
  | .inlet, .send => .float
  | .inlet, r => r

/-- A role with a side's work given up (the outgoing holder's target of R93 and R94). -/
def Role.lose (r : Role) (sd : Side) : Role :=
  match sd, r with
  | .outlet, .send => .standby
  | .outlet, .float => .fill
  | .outlet, r => r
  | .inlet, .fill => .standby
  | .inlet, .float => .send
  | .inlet, r => r

/-- R98: the source raised for a side. -/
def Side.source : Side → Fin 74
  | .outlet => srcNoSend
  | .inlet => srcNoFill

/-- The trigger that passes a side's work on. -/
def Side.trigger : Side → Trigger
  | .outlet => .send
  | .inlet => .fill

/-- The side a changeover works on. -/
def Trigger.side : Trigger → Option Side
  | .send => some .outlet
  | .fill => some .inlet
  | _ => none

/-- R93, R94: the order in which a changeover chooses. -/
def Bank.orderOf (b : Bank) : Side → List (Fin 4)
  | .outlet => b.sendOrder
  | .inlet => b.fillOrder

/-- The role record of a holder. -/
def State.roleRec (s : State) (h : Fin 4) : RoleRec := s.prog.roles[h]

/-- Changes the role record of a holder. -/
def State.mapRole (s : State) (h : Fin 4) (f : RoleRec → RoleRec) : State :=
  s.setProg { s.prog with roles := upd s.prog.roles h (f s.prog.roles[h]) }

/-- The mark of a side: the low mark for sending, the high mark for filling. -/
def RoleRec.mark (r : RoleRec) : Side → Bool
  | .outlet => r.lowMark
  | .inlet => r.highMark

def RoleRec.setMark (r : RoleRec) (sd : Side) (m : Bool) : RoleRec :=
  match sd with
  | .outlet => { r with lowMark := m }
  | .inlet => { r with highMark := m }

/-- The role a slot entry gives a holder (section 5.1). -/
def Bank.slotRole (b : Bank) (slot : Nat) (h : Fin 4) : Role :=
  ((b.slots[slot - 1]?.bind fun e => Role.ofCode e[h]).getD .standby)

/-! ## Availability (R86) -/

/-- R86: whether a valve stands where an incoming holder's valve must. -/
def ValveState.settled : ValveState → Bool
  | .shut => true
  | .opened => true
  | _ => false

/-- R86: whether a holder is available for a role. `fromSlot` says that the role is the target a SLOT or RE-EVALUATE transition
takes for it, for which the current role may be NOT SET. -/
def State.available (s : State) (b : Bank) (h : Fin 4) (role : Role) (fromSlot : Bool) : Bool :=
  let r := s.holders[h]
  let p := s.roleRec h
  b.fitted h && (fromSlot || p.role.isSome) && r.certain && (!role.asksOpen .outlet || !r.liftFault) &&
    [Side.inlet, Side.outlet].all (fun sd =>
      !role.asksOpen sd || (s.perms[valveOf h sd].granted && s.valves[valveOf h sd].state.settled)) &&
    (!p.held || p.role == some role)

/-! ## Triggers (R87 to R91) -/

/-- R90: a trigger whose kind is already in the list is absorbed. -/
def State.enterTrigger (s : State) (t : Trigger) : State :=
  if t ∈ s.prog.deferred then s else s.setProg { s.prog with deferred := s.prog.deferred ++ [t] }

/-- R90: the conditions under which the oldest trigger is taken. -/
def State.mayTake (s : State) : Bool :=
  s.prog.transition.isNone && s.running && s.clock.valid && !s.loop.lost

/-! ## Changeovers (R93, R94) -/

/-- R93, R94: whether a holder meets the conditions of an outgoing holder. -/
def State.outgoingMeets (s : State) (b : Bank) (sd : Side) (h : Fin 4) : Bool :=
  let e := b.holders[h]
  let p := s.roleRec h
  b.fitted h && s.holders[h].certain && !p.held && includesSide p.role sd && p.mark sd &&
    (match sd with
     | .outlet => decide (s.holders[h].count ≤ e.nearEmpty)
     | .inlet => decide (e.nearFull ≤ s.holders[h].count))

/-- R93, R94: the outgoing holder: first in the order, or else first in holder order. -/
def State.findOutgoing (s : State) (b : Bank) (sd : Side) : Option (Fin 4) :=
  ((b.orderOf sd) ++ List.finRange 4).find? (s.outgoingMeets b sd)

/-- R93, R94: whether a holder qualifies as incoming, and its gained role. -/
def State.incomingRole (s : State) (b : Bank) (sd : Side) (h : Fin 4) : Option Role :=
  let e := b.holders[h]
  match (s.roleRec h).role with
  | none => none
  | some r =>
    let gained := r.gain sd
    let high := match sd with
      | .outlet => decide (e.nearEmpty + e.changeover ≤ s.holders[h].count)
      | .inlet => decide ((s.holders[h].count : Int) ≤ (e.nearFull : Int) - e.changeover)
    if s.available b h gained false && high then some gained else none

/-- The first holder of a list that qualifies as incoming, the outgoing holder skipped. -/
def State.findIncoming (s : State) (b : Bank) (sd : Side) (out : Option (Fin 4)) : List (Fin 4) → Option (Fin 4 × Role)
  | [] => none
  | h :: hs =>
    if some h = out then s.findIncoming b sd out hs
    else match s.incomingRole b sd h with
      | some r => some (h, r)
      | none => s.findIncoming b sd out hs

/-- R96: the places of an order after a holder. Where the order does not name the holder, the manual does not say where the search
goes on (log 8). -/
def placesAfter (h : Fin 4) (order : List (Fin 4)) : List (Fin 4) :=
  if h ∈ order then (order.dropWhile (· ≠ h)).drop 1 else order.drop (Config.resumePlace h.val order.length)

/-! ## The transition record -/

def State.setTransition (s : State) (t : Option Transition) : State := s.setProg { s.prog with transition := t }

/-- Sets the target of a holder's entry back to its prior role. -/
def Transition.backToPrior (t : Transition) (h : Fin 4) : Transition :=
  { t with entries := t.entries.map fun e => if e.holder = h then { e with target := e.prior } else e }

/-- R95: marks the open entry IN FLIGHT of a valve. -/
def Transition.markOpen (t : Transition) (v : Fin 8) (st : OpenState) : Transition :=
  { t with opens := t.opens.map fun o => if o.valve = v ∧ o.state = .inFlight then { o with state := st } else o }

/-- Marks the shut entry of a valve that stands in `old`. -/
def Transition.markShut (t : Transition) (v : Fin 8) (old new : ShutState) : Transition :=
  { t with shuts := t.shuts.map fun x => if x.valve = v ∧ x.state = old then { x with state := new } else x }

def Transition.openInFlight (t : Transition) (v : Fin 8) : Bool := t.opens.any fun o => o.valve = v && o.state == .inFlight
def Transition.shutInFlight (t : Transition) (v : Fin 8) : Bool := t.shuts.any fun x => x.valve = v && x.state == .inFlight

/-- R102: whether a valve has a demand in the transition in flight. -/
def Transition.hasDemand (t : Transition) (v : Fin 8) : Bool :=
  t.openInFlight v || t.shuts.any fun x => x.valve = v && (x.state == .waiting || x.state == .inFlight)

/-- R98: whether the shutting phase has ended. -/
def Transition.shutsEnded (t : Transition) : Bool := t.shuts.all fun x => x.state != .waiting && x.state != .inFlight

/-- R97: the holders with an open demand FAILED or GIVEN UP. -/
def Transition.failedHolder (t : Transition) (h : Fin 4) : Bool :=
  t.opens.any fun o => decide (holderOf o.valve = h) && (o.state == .failed || o.state == .givenUp)

/-- R99: the transition ends. After a SLOT or RE-EVALUATE transition every mark becomes CLEAR; after a changeover another holder
that meets the outgoing conditions gives a trigger. -/
def State.endTransition (s : State) (t : Transition) : State :=
  let s1 := s.setTransition none
  match t.trigger.side, s.live with
  | some sd, some b =>
    if (List.finRange 4).any fun h => !(some h == t.outgoing) && s1.outgoingMeets b sd h then s1.enterTrigger sd.trigger else s1
  | _, _ => forEach (fun h s => s.mapRole h fun r => { r with lowMark := false, highMark := false }) s1

/-- R98: whether another valve of the same side, of a fitted holder, is in state OPEN. -/
def State.otherOpen (s : State) (b : Bank) (v : Fin 8) : Bool :=
  (List.finRange 8).any fun w => w ≠ v && sideOf w == sideOf v && b.fitted (holderOf w) && s.valves[w].state == .opened

/-- R98: one WAITING shut demand is offered, or withheld. DEDUCED (log 64): a withheld shut adjusts the role of a held holder too; (log 90):
where both shuts of a holder are withheld, the second adjusts the role that the first has left, STANDBY ending at FLOAT. -/
def State.takeShut (s : State) (b : Bank) (v : Fin 8) : State :=
  match s.prog.transition with
  | none => s
  | some t =>
    if t.shuts.any fun x => x.valve = v && x.state == .waiting then
      if s.valves[v].state = .opened ∧ s.otherOpen b v = false then
        ((s.setTransition (some (t.markShut v .waiting .withheld))).raise (sideOf v).source).mapRole (holderOf v) fun r =>
          { r with role := r.role.map fun x => x.gain (sideOf v) }
      else (s.setTransition (some (t.markShut v .waiting .inFlight))).offered v ⟨.toShut, .programme⟩
    else s

/-- R98: the end of the shutting phase is looked for. -/
def State.settleShutting (s : State) : State :=
  match s.prog.transition with
  | some t => if t.shutting && t.shutsEnded then s.endTransition t else s
  | none => s

/-- R97: the roles are set and the shut list is settled; then the shutting phase begins (R98). -/
def State.finishOpening (s : State) (b : Bank) (t : Transition) : State :=
  let t1 := { t with
    shutting := true,
    shuts := t.shuts.map fun x =>
      if t.failedHolder (holderOf x.valve) ∧ x.state = .waiting then { x with state := .dropped } else x }
  let s1 := t.entries.foldl (fun s e => if t.failedHolder e.holder then s else s.mapRole e.holder fun r => { r with role := e.target }) s
  let s2 := match t.trigger.side, t.incoming with
    | some sd, some h => s1.mapRole h fun r => r.setMark sd false
    | _, _ => s1
  (forEach (fun v s => s.takeShut b v) (s2.setTransition (some t1))).settleShutting

/-- R95: the opening phase ends when no open entry is IN FLIGHT. -/
def State.settleOpening (s : State) (b : Bank) : State :=
  match s.prog.transition with
  | some t => if !t.shutting && t.opens.all (fun o => o.state != .inFlight) then s.finishOpening b t else s
  | none => s

/-- R93, R94, R96: whether a candidate gives an open demand: one that already does the side's work gives none (log 52), nor one whose
valve stands OPEN. -/
def State.givesOpen (s : State) (sd : Side) (c : Fin 4) : Bool :=
  !includesSide (s.roleRec c).role sd && s.valves[valveOf c sd].state != .opened

/-- R95: offers an open demand of the transition. -/
def State.offerOpen (s : State) (v : Fin 8) : State := s.offered v ⟨.toOpen, .programme⟩

/-- R96: the transition ends without a shutting phase. -/
def State.abandon (s : State) (t : Transition) (sd : Side) : State := (s.raise sd.source).endTransition t

/-- R96: the open demand of the incoming holder has failed, or was given up. -/
def State.failedIncoming (s : State) (b : Bank) (t : Transition) (sd : Side) (h : Fin 4) : State :=
  let t1 := t.backToPrior h
  if t.triedFurther then s.abandon t1 sd
  else
    match s.findIncoming b sd t.outgoing (placesAfter h (b.orderOf sd)) with
    | none => s.abandon t1 sd
    | some (c, gained) =>
      let v := valveOf c sd
      let needs := s.givesOpen sd c
      let t2 := { t1 with
        incoming := some c, triedFurther := true, entries := t1.entries ++ [⟨c, (s.roleRec c).role, some gained⟩],
        opens := if needs then t1.opens ++ [⟨v, .inFlight⟩] else t1.opens }
      let s1 := s.setTransition (some t2)
      if needs then s1.offerOpen v else s1.settleOpening b

/-- What follows an open entry of holder `h` that ended FAILED or GIVEN UP: R96 in a changeover, else the test of R95. -/
def State.openEnded (s : State) (b : Bank) (t : Transition) (h : Fin 4) (reached : Bool) : State :=
  match reached, t.trigger.side with
  | false, some sd => s.failedIncoming b t sd h
  | _, _ => (s.setTransition (some t)).settleOpening b

/-- R95, R98: an outcome notice is taken. One without an entry IN FLIGHT is disregarded. -/
def State.takeNotice (s : State) (b : Bank) (n : Notice) : State :=
  match s.prog.transition with
  | none => s
  | some t =>
    match n.dir with
    | .toOpen =>
      if t.openInFlight n.valve then
        s.openEnded b (t.markOpen n.valve (if n.reached then .reached else .failed)) (holderOf n.valve) n.reached
      else s
    | .toShut =>
      if t.shutInFlight n.valve then
        (s.setTransition (some (t.markShut n.valve .inFlight (if n.reached then .reached else .failed)))).settleShutting
      else s

/-- R92: the valves that a target role asks OPEN and that are not OPEN. -/
def State.openNeeds (s : State) (h : Fin 4) (r : Role) : List (Fin 8) :=
  ([Side.inlet, Side.outlet].filter fun sd => r.asksOpen sd && s.valves[valveOf h sd].state != .opened).map (valveOf h)

/-- R92: the valves that a target role asks SHUT and that are not SHUT. -/
def State.shutNeeds (s : State) (h : Fin 4) (r : Role) : List (Fin 8) :=
  ([Side.inlet, Side.outlet].filter fun sd => !r.asksOpen sd && s.valves[valveOf h sd].state != .shut).map (valveOf h)

/-- R92: the target role of a fitted holder. -/
def RoleRec.slotTarget (p : RoleRec) (t : Trigger) (slotRole : Role) : Option Role :=
  if p.held then p.role
  else match t with
    | .slot => some slotRole
    | _ => if p.retake then some slotRole else p.role

/-- R92: a holder left out for lack of availability: a valve is to be opened and the holder is not available. -/
def State.leftOut (s : State) (b : Bank) (h : Fin 4) (r : Role) : Bool :=
  !(s.openNeeds h r).isEmpty && !s.available b h r true

/-- R92: the part of one holder in a SLOT or RE-EVALUATE transition: its entry, its open and its shut demands. -/
def State.holderPart (s : State) (b : Bank) (t : Trigger) (slot : Nat) (h : Fin 4) :
    List TargetEntry × List OpenEntry × List ShutEntry :=
  if b.fitted h then
    let p := s.roleRec h
    match p.slotTarget t (b.slotRole slot h) with
    | none => ([], [], [])
    | some r =>
      if s.leftOut b h r then ([⟨h, p.role, p.role⟩], [], [])
      else ([⟨h, p.role, some r⟩], (s.openNeeds h r).map fun v => ⟨v, .inFlight⟩, (s.shutNeeds h r).map fun v => ⟨v, .waiting⟩)
  else ([], [], [])

/-- R92: a retake mark is cleared where the target came from the slot entry. -/
def State.clearRetakes (s : State) (b : Bank) : State :=
  forEach (fun h s => if b.fitted h && !(s.roleRec h).held then s.mapRole h fun r => { r with retake := false } else s) s

/-- R92: a SLOT or RE-EVALUATE trigger is built. DEDUCED (log 82): its open demands are offered in the order V1 to V8, so that the lower
valve's SELECT is the older. -/
def State.buildSlot (s : State) (b : Bank) (t : Trigger) : State :=
  match s.clock.slot with
  | none => s
  | some sl =>
    let parts := (List.finRange 4).map (s.holderPart b t sl.slot)
    let tr : Transition :=
      { trigger := t, shutting := false, outgoing := none, incoming := none, triedFurther := false,
        entries := parts.flatMap fun p => p.1, opens := parts.flatMap fun p => p.2.1, shuts := parts.flatMap fun p => p.2.2 }
    let s1 := (s.clearRetakes b).setTransition (some tr)
    (tr.opens.foldl (fun s o => s.offerOpen o.valve) s1).settleOpening b

/-- R93, R94: a SEND or FILL trigger is built. A candidate that already does the side's work leaves the opening phase nothing to wait
for, so that the outgoing valve is shut at once. -/
def State.buildChangeover (s : State) (b : Bank) (sd : Side) : State :=
  match s.findOutgoing b sd with
  | none => s
  | some o =>
    match s.findIncoming b sd (some o) (b.orderOf sd) with
    | none => s.raise sd.source
    | some (c, gained) =>
      let vo := valveOf o sd
      let vc := valveOf c sd
      let needs := s.givesOpen sd c
      let tr : Transition :=
        { trigger := sd.trigger, shutting := false, outgoing := some o, incoming := some c, triedFurther := false,
          entries := [⟨o, (s.roleRec o).role, (s.roleRec o).role.map fun r => r.lose sd⟩, ⟨c, (s.roleRec c).role, some gained⟩],
          opens := if needs then [⟨vc, .inFlight⟩] else [],
          shuts := if s.valves[vo].state != .shut then [⟨vo, .waiting⟩] else [] }
      let s1 := s.setTransition (some tr)
      (if needs then s1.offerOpen vc else s1).settleOpening b

/-- R90: a trigger taken is built into a transition. -/
def State.buildTrigger (s : State) (b : Bank) (t : Trigger) : State :=
  match t.side with
  | some sd => s.buildChangeover b sd
  | none => s.buildSlot b t

/-- R63, R90: takes the outcome notices in the order given, and then the oldest trigger whenever R90's conditions hold. -/
def State.settle : Nat → State → State
  | 0, s => s
  | n + 1, s =>
    match s.live with
    | none => s
    | some b =>
      match s.prog.notices with
      | x :: xs => State.settle n ((s.setProg { s.prog with notices := xs }).takeNotice b x)
      | [] =>
        match s.mayTake, s.prog.deferred with
        | true, t :: ts => State.settle n ((s.setProg { s.prog with deferred := ts }).buildTrigger b t)
        | _, _ => s

/-- The Programme Unit takes what the event has given rise to. DESIGN CHOICE (log 4): where R99 enters a trigger without end (a withheld
shut gives the first holder of the order its work back, and a second holder meets R93 or R94), the settling stops at the bound and the
trigger stays deferred. -/
def State.settled (s : State) : State := s.settle Config.settleBound

/-! ## Holder changes (R3) -/

/-- R88: the marks and triggers of a holder change on one side. -/
def State.markSide (s : State) (e : HolderEntry) (h : Fin 4) (sd : Side) (lo hi : Nat) : State :=
  let r := s.holders[h]
  let p := s.roleRec h
  let beyond := match sd with
    | .outlet => decide (lo ≤ e.nearEmpty)
    | .inlet => decide (e.nearFull ≤ hi)
  let back := match sd with
    | .outlet => decide (e.nearEmpty + e.changeover ≤ r.count)
    | .inlet => decide (r.count ≤ e.nearFull - e.changeover)
  let s1 :=
    if r.certain && includesSide p.role sd && !p.held && !p.mark sd && beyond then
      (s.mapRole h fun p => p.setMark sd true).enterTrigger sd.trigger
    else s
  if back then s1.mapRole h fun p => p.setMark sd false else s1

/-- R100: an incoming holder shown UNCERTAIN while its open demand is IN FLIGHT has the entry marked GIVEN UP. -/
def State.giveUp (s : State) (b : Bank) (h : Fin 4) : State :=
  match s.prog.transition with
  | none => s
  | some t =>
    if !s.holders[h].certain && t.opens.any (fun o => decide (holderOf o.valve = h) && o.state == .inFlight) then
      let t1 := { t with
        opens := t.opens.map fun (o : OpenEntry) =>
          if holderOf o.valve = h ∧ o.state = OpenState.inFlight then { o with state := OpenState.givenUp } else o }
      s.openEnded b (t1.backToPrior h) h false
    else s

/-- R3, R78, R88, R100, R130: a holder change of a fitted holder, with the lowest and the highest count held. The Valve Controller
takes it first, then the Programme Unit, then the Account Unit. DEDUCED (log 63): the marks of both sides, and an entry GIVEN UP, are
settled before a trigger that the change has entered is taken. -/
def State.holderChange (s : State) (b : Bank) (h : Fin 4) (lo hi : Nat) : State :=
  let e := b.holders[h]
  let s1 := (s.evaluateTrips e h lo hi).settled
  let s2 := (((s1.markSide e h .outlet lo hi).markSide e h .inlet lo hi).giveUp b h).settled
  if s2.holders[h].certain then s2 else s2.yardFlag { YardFlags.none with stockUncertain := true }

end Sys2Proof.Machine
end

