-- ==== Sys2Proof/Machine/Lift.lean ====
section
/-! DEFINITION. The Lift Tracker (chapter 1). -/

namespace Sys2Proof.Machine

/-! ## Steps (Table 3) -/

/-- The place of a track sample in the forward sequence 00, 01, 11, 10. -/
def Track.place (t : Track) : Nat :=
  match t.a, t.b with
  | false, false => 0
  | false, true => 1
  | true, true => 2
  | true, false => 3

/-- Table 3: the step two consecutive samples give; `none` is a SKIP. -/
def trackStep (p q : Track) : Option Int :=
  match (q.place + 4 - p.place) % 4 with
  | 0 => some 0
  | 1 => some 1
  | 3 => some (-1)
  | _ => none

/-! ## What follows from a count (R15, R18) -/

/-- R15: the cupped lifts at a count, in order. -/
def HolderEntry.cuppedAt (e : HolderEntry) (count : Nat) : List Nat :=
  e.cupList.filterMap fun x => if x.2.1 ≤ count then some x.1 else none

/-- R15: the expected pressure at a count. -/
def HolderEntry.expectedAt (e : HolderEntry) (count : Nat) : Nat :=
  e.base + (e.cupList.filterMap fun x => if x.2.1 ≤ count then some x.2.2 else none).sum

/-- R18: the volume at a height, between the breakpoints on either side of it. -/
def volumeAt : List (Nat × Nat) → Nat → Nat
  | [], _ => 0
  | [p], _ => p.2
  | p :: q :: rest, h =>
    if h < q.1 then p.2 + (h - p.1) * (q.2 - p.2) / (q.1 - p.1) else volumeAt (q :: rest) h

/-- R15, R17, R18: sets a count and brings the cupped lift set, expected pressure and geometric volume to it. When the cupped lift
set changes both cup-check runs become 0. -/
def HolderRec.placeAt (b : Bank) (h : Fin 4) (r : HolderRec) (count : Nat) : HolderRec :=
  let e := b.holders[h]
  let cupped := e.cuppedAt count
  { r with
    count := count, cupped := cupped, expected := e.expectedAt count, geoVolume := volumeAt (b.breakpoints h) count,
    outRun := if cupped = r.cupped then r.outRun else 0, inRun := if cupped = r.cupped then r.inRun else 0 }

/-! ## A lift report (R5 to R12) -/

/-- The holder while a report's samples are taken: its count, certainty and reference sample, the lowest and highest count held,
whether the count or the certainty has changed, the note and datum left, the datum height that the count was set to, and the sources
raised. -/
structure LiftRun where
  count : Nat
  certain : Bool
  ref : Track
  lo : Nat
  hi : Nat
  changed : Bool
  note : Option Note
  datum : Option LastDatum
  placed : Option Nat
  raised : List (Fin 74)
  deriving DecidableEq, Repr

/-- R6, R7: the holder becomes UNCERTAIN, with a note and an occurrence of its source. DEDUCED (log 57): the change of certainty issues a
holder change (R3) also where a datum later in the report makes the holder CERTAIN again. -/
def LiftRun.doubt (u : LiftRun) (h : Fin 4) (kind : NoteKind) (t : Nat) : LiftRun :=
  { u with certain := false, changed := u.changed || u.certain, note := some ⟨kind, none, t⟩, raised := u.raised ++ [srcUncertain h] }

/-- The count becomes `c`. -/
def LiftRun.moveTo (u : LiftRun) (c : Nat) : LiftRun :=
  { u with count := c, lo := min u.lo c, hi := max u.hi c, changed := u.changed || c != u.count }

/-- R5 to R7: one comparison. The reference sample becomes the sample just taken, whatever the step. -/
def LiftRun.sample (u : LiftRun) (e : HolderEntry) (h : Fin 4) (t : Nat) (x : Track) : LiftRun :=
  let u1 := match trackStep u.ref x with
    | none => u.doubt h .skip t
    | some d =>
      if d = 1 then (if u.count < e.travel then u.moveTo (u.count + 1) else u.doubt h .highLimit t)
      else if d = -1 then (if 0 < u.count then u.moveTo (u.count - 1) else u.doubt h .lowLimit t)
      else u
  { u1 with ref := x }

/-- R10, R11: a datum passage replaces the count by the datum height and makes the holder CERTAIN; SLIP is raised where the holder
was CERTAIN and the slip is larger than the tolerance. DEDUCED (log 57): making an UNCERTAIN holder CERTAIN issues a holder change (R3)
also where a later step of the report makes the holder UNCERTAIN again. -/
def LiftRun.passDatum (u : LiftRun) (e : HolderEntry) (h : Fin 4) (t number height : Nat) : LiftRun :=
  let slip : Int := (u.count : Int) - height
  let u1 := u.moveTo height
  { u1 with
    certain := true, changed := u1.changed || !u.certain, datum := some ⟨number, slip, t⟩, placed := some height,
    raised := if u.certain ∧ e.slipTol < slip.natAbs then u.raised ++ [srcSlip h] else u.raised }

/-- A datum passage to apply: its number, its sample index and the height of its mark. -/
structure Passage where
  number : Nat
  index : Nat
  height : Nat
  deriving DecidableEq, Repr

/-- R5, R10: the samples in turn, `i` being the index of the next; the datum passage is applied at its sample index. -/
def LiftRun.samples (e : HolderEntry) (h : Fin 4) (t : Nat) (p : Option Passage) : Nat → List Track → LiftRun → LiftRun
  | _, [], u => u
  | i, x :: xs, u =>
    let u1 := u.sample e h t x
    let u2 := match p with
      | some d => if d.index = i then u1.passDatum e h t d.number d.height else u1
      | none => u1
    LiftRun.samples e h t p (i + 1) xs u2

/-- R12: whether the datum sample index is in the report. -/
def LiftBody.indexGood (body : LiftBody) : Bool := decide (1 ≤ body.index) && decide (body.index ≤ body.samples.length)

/-- R10, R12: the passage of a report that is applied. A datum number of 0 means no passage (R182). -/
def LiftBody.passage (body : LiftBody) (e : HolderEntry) : Option Passage :=
  match e.datumHeight body.datum with
  | some height => if body.indexGood then some ⟨body.datum, body.index, height⟩ else none
  | none => none

/-- R12: the note of a passage set aside. Where both the number and the index are bad the note is a free value (log 9). -/
def LiftBody.asideNote (body : LiftBody) (e : HolderEntry) : Option NoteKind :=
  if body.datum = 0 then none
  else match e.datumHeight body.datum, body.indexGood with
    | some _, true => none
    | some _, false => some .datumIndex
    | none, true => some .unknownDatum
    | none, false => some (if Config.unknownDatumNoted body.datum body.index then .unknownDatum else .datumIndex)

/-- R5 to R12: the run of a whole report from a reference sample. -/
def liftRun (e : HolderEntry) (h : Fin 4) (r : HolderRec) (ref : Track) (body : LiftBody) (t : Nat) : LiftRun :=
  let u := LiftRun.samples e h t (body.passage e) 1 body.samples
    ⟨r.count, r.certain, ref, r.count, r.count, false, none, none, none, []⟩
  match body.asideNote e with
  | none => u
  | some k => { u with note := some ⟨k, some body.datum, t⟩, raised := u.raised ++ [srcUncertain h] }

/-- R19, R20: one holder's save, as one unit. -/
def State.saveHolder (s : State) (h : Fin 4) : State :=
  let r := s.holders[h]
  (s.setHolder h { r with savedCertain := r.certain }).setNv
    { s.nv with saves := upd s.nv.saves h (some ⟨r.count, r.certain⟩), savesBefore := upd s.nv.savesBefore h s.nv.saves[h] }

/-- R5, R10, R15, R17: the record a run leaves. The cupped lift set is brought to the datum height, where a datum was passed, and then to
the final count; either change of it sets both cup-check runs to 0. DEDUCED (log 59): between these the samples do not set it. -/
def LiftRun.record (u : LiftRun) (b : Bank) (h : Fin 4) (r : HolderRec) : HolderRec :=
  let r1 := match u.placed with
    | some height => HolderRec.placeAt b h r height
    | none => r
  HolderRec.placeAt b h { r1 with
    certain := u.certain, ref := some u.ref, note := u.note.getD r.note,
    lastDatum := match u.datum with
      | some d => some d
      | none => r.lastDatum } u.count

/-- R5, R8: a lift report of a fitted holder, in RUNNING mode. -/
def State.takeLift (s : State) (b : Bank) (h : Fin 4) (body : LiftBody) : State :=
  if b.fitted h = false ∨ body.samples = [] ∨ 16 < body.samples.length then s
  else
    let r := s.holders[h]
    match r.ref with
    | none => s.setHolder h { r with ref := body.samples.getLast? }
    | some ref =>
      let u := liftRun b.holders[h] h r ref body s.timebase
      let s1 := (s.setHolder h (u.record b h r)).raiseAll u.raised
      let s2 := if u.datum.isSome then s1.saveHolder h else s1
      if u.changed then s2.holderChange b h u.lo u.hi else s2

/-- R13: an accepted preset. -/
def State.preset (s : State) (b : Bank) (h : Fin 4) (count : Nat) : State :=
  let r := s.holders[h]
  let s1 := (s.setHolder h (HolderRec.placeAt b h { r with certain := true } count)).saveHolder h
  if count = r.count ∧ r.certain then s1 else s1.holderChange b h (min r.count count) (max r.count count)

/-- R16: the cup check of one GOOD reading of the holder's pressure point. The flag says LIFT FAULT was set, then cleared. -/
def HolderRec.cupCheck (r : HolderRec) (tol : Nat) (v : Int) : HolderRec × Bool × Bool :=
  if tol < (v - r.expected).natAbs then
    let n := min 3 (r.outRun + 1)
    ({ r with outRun := n, inRun := 0, liftFault := r.liftFault || n == 3 }, n == 3 && !r.liftFault, false)
  else
    let n := min 3 (r.inRun + 1)
    ({ r with inRun := n, outRun := 0, liftFault := r.liftFault && n != 3 }, false, n == 3 && r.liftFault)

/-- R16, R17: a report of a point is handed for each fitted holder whose pressure point it is. -/
def State.cupReading (s : State) (b : Bank) (h : Fin 4) (v : Int) (q : Quality) : State :=
  if q = .good then
    let (r, set, cleared) := s.holders[h].cupCheck b.holders[h].cupTol v
    let s1 := s.setHolder h r
    let s2 := if set then s1.raise (srcLiftFault h) else s1
    if set || cleared then s2.holderChange b h r.count r.count else s2
  else s

/-! ## Restore and swap (R21, R22) -/

/-- R21: the restored count against the maximum travel, and what follows from it. -/
def HolderRec.bring (b : Bank) (h : Fin 4) (r : HolderRec) (t : Nat) : HolderRec :=
  let travel := b.holders[h].travel
  if travel < r.count then HolderRec.placeAt b h { r with note := ⟨.limitedAtSwap, none, t⟩ } travel
  else HolderRec.placeAt b h r r.count

/-- R22: whether the new entry changes what the cup check rests on. -/
def HolderEntry.cupChanged (old new : HolderEntry) : Bool :=
  old.liftCount != new.liftCount || old.cupList != new.cupList || old.base != new.base || old.cupTol != new.cupTol ||
    old.presPoint != new.presPoint

/-- R22: a holder that stays fitted. The flag says the new maximum travel limited it, which raises UNCERTAIN. -/
def HolderRec.swapTo (old new : Bank) (h : Fin 4) (r : HolderRec) (t : Nat) : HolderRec × Bool :=
  let limited := decide (new.holders[h].travel < r.count)
  let r1 := if limited then { r with certain := false, note := ⟨.limitedAtSwap, none, t⟩ } else r
  let r2 := if old.holders[h].cupChanged new.holders[h] then { r1 with outRun := 0, inRun := 0 } else r1
  (HolderRec.placeAt new h r2 (min r.count new.holders[h].travel), limited)

/-- R22: a holder record at a swap. -/
def State.liftSwap (s : State) (old new : Bank) (h : Fin 4) : State :=
  match old.fitted h, new.fitted h with
  | true, true =>
    let (r, limited) := s.holders[h].swapTo old new h s.timebase
    if limited then (s.setHolder h r).raise (srcUncertain h) else s.setHolder h r
  | false, true => s.setHolder h ((HolderRec.restored s.nv.saves[h] s.timebase).bring new h s.timebase)
  | _, false => s

end Sys2Proof.Machine
end

