-- ==== Sys2Proof/Machine/Accounts.lean ====
section
/-! DEFINITION. The Account Unit (chapter 7): the clock, the identities of intervals, the opening of an interval, and the record that
a close makes, with the logs it enters. -/

namespace Sys2Proof.Machine

/-! ## The clock (R125, R126) -/

/-- R126: the slot of a wall time. -/
def slotOf (day sec : Nat) : DaySlot := ⟨sec / 1800 + 1, day⟩

/-- R125: whether the clock is at the second at which it stops. -/
def Clock.atLast (c : Clock) : Bool := decide (Config.lastDay ≤ c.day) && decide (Config.lastSecond ≤ c.sec)

/-- The ms since day 0, second 0. -/
def Clock.totalMs (c : Clock) : Nat := (c.day * 86400 + c.sec) * 1000 + c.ms

/-- The ms at which the clock stops (R125). -/
def lastMs : Nat := (Config.lastDay * 86400 + Config.lastSecond) * 1000

/-- R125: the clock is advanced by ms of the part's timebase, unless it stands; it goes no further than its last second. -/
def Clock.advance (c : Clock) (n : Nat) : Clock :=
  if c.advancing then
    if c.totalMs + n < lastMs then
      { c with day := (c.totalMs + n) / 1000 / 86400, sec := (c.totalMs + n) / 1000 % 86400, ms := (c.totalMs + n) % 1000 }
    else { c with day := Config.lastDay, sec := Config.lastSecond, ms := 0 }
  else c

/-- The clock's wall time, absent while the clock is INVALID. -/
def Clock.wall (c : Clock) : Option WallTime := if c.valid then some ⟨c.day, c.sec⟩ else none

/-- Seconds since day 0, second 0. -/
def WallTime.total (t : WallTime) : Nat := t.day * 86400 + t.sec

/-- The wall time of a number of seconds, absent after day 65,535 (R128). -/
def wallOf (n : Nat) : Option WallTime := if n / 86400 ≤ Config.lastDay then some ⟨n / 86400, n % 86400⟩ else none

/-- R126: the VALID clock stands in another slot than the slot in force. -/
def Clock.slotDue (c : Clock) : Bool := c.valid && c.slot != some (slotOf c.day c.sec)

/-- R126: the slot in force becomes the slot of the clock's time. -/
def Clock.takeSlot (c : Clock) : Clock := { c with slot := some (slotOf c.day c.sec) }

/-- R138: the clock set. DESIGN CHOICE (log 12): a new second begins. -/
def Clock.setTo (c : Clock) (t : WallTime) : Clock :=
  { c with valid := true, day := t.day, sec := t.sec, ms := 0, advancing := !(Clock.atLast ⟨true, t.day, t.sec, 0, true, none⟩),
           slot := some (slotOf t.day t.sec) }

/-! ## Identities (R128) -/

/-- R128: an identity, a nominal start and a nominal end, any of them absent. -/
structure Placing where
  identity : Option Identity
  nominalStart : Option WallTime
  nominalEnd : Option WallTime
  deriving DecidableEq, Repr

/-- The length of an interval in seconds, and hour G in seconds. -/
def YardEntry.lengthSec (y : YardEntry) : Nat := y.length * 60
def YardEntry.gasSec (y : YardEntry) : Nat := y.gasHour * 3600

/-- R128: an interval of a gas day that holds the given seconds into it. -/
def YardEntry.placeIn (y : YardEntry) (gasDay into : Nat) : Placing :=
  let index := into / y.lengthSec
  ⟨some ⟨gasDay, index⟩, wallOf (gasDay * 86400 + y.gasSec + index * y.lengthSec),
    wallOf (gasDay * 86400 + y.gasSec + (index + 1) * y.lengthSec)⟩

/-- R128: the identity, the nominal start and the nominal end of the interval that holds a wall time. DEDUCED (log 70): before hour G of
day 0 the nominal start is absent. -/
def YardEntry.place (y : YardEntry) (t : WallTime) : Placing :=
  if y.gasSec ≤ t.sec then y.placeIn t.day (t.sec - y.gasSec)
  else if 0 < t.day then y.placeIn (t.day - 1) (t.sec + 86400 - y.gasSec)
  else ⟨none, none, some ⟨0, y.gasSec⟩⟩

/-- R128: an interval opened with the clock INVALID has none of them. -/
def YardEntry.placeClock (y : YardEntry) (c : Clock) : Placing :=
  match c.wall with
  | some t => y.place t
  | none => ⟨none, none, none⟩

/-! ## Stock (R135) -/

/-- R135: the corrected stock of each holder, with its flags. -/
def State.stocks (s : State) (b : Bank) : Vector (Nat × InputFlags) 4 := Vector.ofFn fun h => s.holderStock b h

/-- R135: STOCK_UNCERTAIN. -/
def State.stockUncertain (s : State) (b : Bank) : Bool := (List.finRange 4).any fun h => b.fitted h && !s.holders[h].certain

/-- R135: STOCK_HELD. -/
def stockHeld (st : Vector (Nat × InputFlags) 4) : Bool := st.toList.any fun x => x.2.held || x.2.reference

/-- The total of four stocks. -/
def stockTotal (st : Vector Nat 4) : Nat := st.toList.sum

/-! ## Opening an interval (R129, R143) -/

/-- What an opening case gives: the residues carried in, the stock at open and its flags, and further yard flags. -/
structure Opening where
  residues : Vector Residue 12
  stock : Vector Nat 4
  uncertain : Bool
  held : Bool
  flags : YardFlags
  deriving DecidableEq, Repr

/-- R129: a channel's share of a newly opened interval. -/
def newShare (role : Nat) (stalled : Bool) (r : Residue) : ChannelShare :=
  { role := role, pulses := 0, raw := 0, volume := r.volume, energy := r.energy, volumeIn := r.volume, energyIn := r.energy,
    flags := { ChannelFlags.none with stalled := stalled } }

/-- R129, R131: the yard flags of a newly opened interval. -/
def State.openingFlags (s : State) (o : Opening) : YardFlags :=
  o.flags.union { YardFlags.none with
    loopLost := s.loop.lost, clockInvalid := !s.clock.valid, stockUncertain := o.uncertain, stockHeld := o.held }

/-- R129: the interval that opens. -/
def State.newInterval (s : State) (b : Bank) (o : Opening) : OpenInterval :=
  let p := b.yard.placeClock s.clock
  { identity := p.identity, nominalStart := p.nominalStart, nominalEnd := p.nominalEnd, openTime := s.clock.wall, generation := s.tables.generation,
    channels := Vector.ofFn fun m => newShare b.meters[m].role (s.channels[m].state == .stalled) o.residues[m],
    stockOpen := o.stock, stockUncertainOpen := o.uncertain, stockHeldOpen := o.held, yard := s.openingFlags o }

/-- R129: opens an interval under the live bank. -/
def State.openInterval (s : State) (o : Opening) : State :=
  match s.live with
  | some b => s.setAccounts { s.accounts with interval := some (s.newInterval b o) }
  | none => s

/-- R143: the first interval after the live bank is taken. -/
def State.firstOpening (s : State) (b : Bank) : Opening :=
  let st := s.stocks b
  { residues := Vector.replicate 12 ⟨0, 0⟩, stock := st.map (·.1), uncertain := s.stockUncertain b, held := stockHeld st,
    flags := { YardFlags.none with gap := true, clockInvalid := true } }

/-! ## The record of a close (R134 to R136) -/

/-- R134, R136: a channel's part of the record. -/
def ChannelShare.closed (c : ChannelShare) : ChannelRecord :=
  { role := c.role, pulses := c.pulses, raw := c.raw, corrected := c.volume / 10000, energy := c.energy / 100000000,
    volumeIn := c.volumeIn, energyIn := c.energyIn, volumeOut := c.volume % 10000, energyOut := c.energy % 100000000,
    flags := c.flags }

/-- R136: the sum of the corrected volumes of the channels of a role. -/
def sumRole (role : Nat) (cs : Vector ChannelRecord 12) : Nat :=
  ((cs.toList.filter fun c => c.role == role).map ChannelRecord.corrected).sum

/-- R136: the balance difference. -/
def balanceOf (make send openTotal closeTotal : Nat) : Int := (make : Int) - send - 100 * ((closeTotal : Int) - openTotal)

/-- R136: the interval record of a close. -/
def State.closeRecord (s : State) (b : Bank) (iv : OpenInterval) (extra : YardFlags) (closeTime : Option WallTime) :
    IntervalRecord :=
  let st := s.stocks b
  let cs := iv.channels.map ChannelShare.closed
  let closeTotal := stockTotal (st.map (·.1))
  { sequence := s.accounts.logs.lastSeq + 1, identity := iv.identity, openTime := iv.openTime, closeTime := closeTime,
    generation := iv.generation, channels := cs,
    holders := Vector.ofFn fun h => ⟨iv.stockOpen[h], st[h].1, s.holders[h].certain, st[h].2⟩,
    totalOpen := stockTotal iv.stockOpen, totalClose := closeTotal, make := sumRole 1 cs, send := sumRole 2 cs,
    balance := balanceOf (sumRole 1 cs) (sumRole 2 cs) (stockTotal iv.stockOpen) closeTotal,
    yard := (iv.yard.union extra).union
      { YardFlags.none with stockUncertain := s.stockUncertain b, stockHeld := stockHeld st } }

/-! ## The logs (R136, R141) -/

/-- A new record entering a log of at most `n`, the oldest leaving. -/
def enterLog {α : Type} (n : Nat) (log : List α) (x : α) : List α := (log ++ [x]).drop (log.length + 1 - n)

/-- R141: an open day record begun with a record alone. -/
def DayRecord.begun (gasDay : Nat) (r : IntervalRecord) : DayRecord :=
  { gasDay := gasDay, firstSeq := r.sequence, lastSeq := r.sequence, intervals := 1,
    channels := r.channels.map fun c => ⟨c.corrected, c.energy, c.flags⟩, make := r.make, send := r.send,
    stockOpen := r.totalOpen, stockClose := r.totalClose, balance := r.balance, yard := r.yard }

/-- R141: a record of the same gas day added. -/
def DayRecord.add (d : DayRecord) (r : IntervalRecord) : DayRecord :=
  { d with
    lastSeq := r.sequence, intervals := d.intervals + 1,
    channels := d.channels.zipWith (fun (x : DayChannel) c => ⟨x.volume + c.corrected, x.energy + c.energy, x.flags.union c.flags⟩)
      r.channels,
    make := d.make + r.make, send := d.send + r.send, stockClose := r.totalClose, balance := d.balance + r.balance,
    yard := d.yard.union r.yard }

/-- R141: a record at the open day record and the daily log. -/
def Logs.addDay (l : Logs) (r : IntervalRecord) : Logs :=
  match r.identity with
  | none => l
  | some i =>
    match l.openDay with
    | none => { l with openDay := some (.begun i.gasDay r) }
    | some d =>
      if d.gasDay = i.gasDay then { l with openDay := some (d.add r) }
      else { l with daily := enterLog Config.dailySize l.daily d, openDay := some (.begun i.gasDay r) }

/-- R136, R141: a record entering the logs. -/
def Logs.enter (l : Logs) (r : IntervalRecord) : Logs :=
  { l with log := enterLog Config.logSize l.log r, lastSeq := r.sequence }.addDay r

/-- R137: the logs of a close, and their writing to the nonvolatile store as one unit. -/
def State.writeLogs (s : State) (l : Logs) : State :=
  (s.setAccounts { s.accounts with logs := l, interval := none }).setNv { s.nv with logs := l, logsBefore := s.nv.logs }

/-- R19: the save of every fitted holder. -/
def State.saveHolders (s : State) (b : Bank) : State := forEach (fun h s => if b.fitted h then s.saveHolder h else s) s

/-- R134 to R137: the record is made, entered and written, and the holder counts are saved. -/
def State.recordClose (s : State) (b : Bank) (r : IntervalRecord) : State :=
  (s.writeLogs (s.accounts.logs.enter r)).saveHolders b

/-- R137: what the close carries to the next interval. -/
def IntervalRecord.carried (r : IntervalRecord) (uncertain held : Bool) (flags : YardFlags) : Opening :=
  { residues := r.channels.map fun c => ⟨c.volumeOut, c.energyOut⟩, stock := r.holders.map HolderStock.stockClose,
    uncertain := uncertain, held := held, flags := flags }

end Sys2Proof.Machine
end

