-- ==== Sys2Proof/Machine/Commit.lean ====
section
/-! DEFINITION. The checks that COMMIT and the restore check make on a whole bank (R150, R151, and the conditions of R1, R23, R45,
R59, R84, R107, R127 and R175), in table id order, then by index, then in the order the rules list them. -/

namespace Sys2Proof.Machine

/-- The place of a condition: listed in its rule, or stated in its prose only (log 5). -/
inductive BreakPlace where
  | listed (n : Nat)
  | prose (which : Nat)
  deriving DecidableEq, Repr

/-- The condition found broken. NOT LOADED is rule 0, place 0 (Table 40). -/
structure Break where
  table : Nat
  index : Nat
  rule : Nat
  place : BreakPlace
  deriving DecidableEq, Repr

/-- A condition: whether it holds, its rule, and its place. -/
structure Cond where
  holds : Bool
  rule : Nat
  place : BreakPlace
  deriving DecidableEq, Repr

def Cond.listed (rule n : Nat) (holds : Bool) : Cond := ⟨holds, rule, .listed n⟩
def Cond.prose (rule which : Nat) (holds : Bool) : Cond := ⟨holds, rule, .prose which⟩

/-- The first condition of an entry that is broken. -/
def firstBreak (table index : Nat) (cs : List Cond) : Option Break :=
  (cs.find? fun c => !c.holds).map fun c => ⟨table, index, c.rule, c.place⟩

/-- The first entry of a table that breaks a condition, and the condition. -/
def tableBreak (table n : Nat) (conds : Nat → List Cond) : Option Break :=
  (List.range n).findSome? fun i => firstBreak table i (conds i)

/-- Whether a number lies in a range. -/
def within (lo hi x : Nat) : Bool := decide (lo ≤ x) && decide (x ≤ hi)

/-- Each number of a list is greater than the one before it. -/
def strictlyUp : List Nat → Bool
  | x :: y :: rest => decide (x < y) && strictlyUp (y :: rest)
  | _ => true

/-! ## The station map and the aliases (R151) -/

/-- The number of role indices of a kind (R151). CALORIMETER and BAROMETER have one role each, without a range. -/
def kindRange : Nat → Option Nat
  | 0 => some 4
  | 1 => some 12
  | 2 => some 24
  | 3 => some 8
  | 4 => some 6
  | _ => none

/-- The role indices an entry gives. -/
def MapEntry.indices (e : MapEntry) : List Nat := (List.range e.count).map (e.index + ·)

/-- Whether every role index lies in the range of its kind. -/
def MapEntry.indicesFit (e : MapEntry) : Bool :=
  match kindRange e.kind with
  | some n => within 1 n e.index && decide (e.index + e.count - 1 ≤ n)
  | none => true

/-- Whether two entries in use share an address. -/
def MapEntry.sharesAddress (e f : MapEntry) : Bool :=
  decide (f.count ≠ 0) && decide (e.first < f.first + f.count) && decide (f.first < e.first + e.count)

/-- Whether two entries in use give the same role. -/
def MapEntry.sharesRole (e f : MapEntry) : Bool :=
  decide (f.count ≠ 0) && e.kind == f.kind && decide (e.index < f.index + f.count) && decide (f.index < e.index + e.count)

/-- The map entries of lower index. DEDUCED (log 26): a condition that two entries break together is named at the later. -/
def Bank.mapBefore (b : Bank) (i : Nat) : List MapEntry := b.stationMap.toList.take i

/-- The holder, channel or district of a number from 1, as a table sees it. -/
def Bank.fittedNo (b : Bank) (n : Nat) : Bool := ((placeOf 4 n).map b.fitted).getD false
def Bank.meterNo (b : Bank) (n : Nat) : Bool := ((placeOf 12 n).map fun m => b.meters[m].inUse).getD false
def Bank.districtNo (b : Bank) (n : Nat) : Bool := ((placeOf 6 n).map fun d => b.districts[d].used).getD false

/-- R151: the conditions of a map entry, whatever its role. -/
def Bank.mapConds (b : Bank) (own i : Nat) (e : MapEntry) : List Cond :=
  [ .listed 151 1 (within 1 250 e.first && within 1 250 (e.first + e.count - 1)),
    .listed 151 2 (within 1 16 e.count),
    .listed 151 3 (decide (e.kind ≤ 6)),
    .listed 151 4 e.indicesFit,
    .listed 151 5 (!e.covers own),
    .listed 151 6 ((b.mapBefore i).all fun f => !e.sharesAddress f) ]

/-- R1, R23, R45, R59, R107: the conditions of a map entry for the roles it gives. -/
def Bank.roleConds (b : Bank) (i : Nat) (e : MapEntry) : List Cond :=
  let once := (b.mapBefore i).all fun f => !e.sharesRole f
  let single := decide (e.count = 1) && (b.mapBefore i).all fun f => !(f.kind == e.kind && decide (f.count ≠ 0))
  match e.kind with
  | 0 => [.listed 1 7 (once && e.indices.all b.fittedNo)]
  | 1 => [.listed 23 3 (e.indicesFit && once), .listed 23 4 (e.indices.all b.meterNo)]
  | 2 => [.listed 45 1 (e.indicesFit && once)]
  | 3 => [.listed 59 1 e.indicesFit, .listed 59 2 once, .listed 59 3 (e.indices.all fun v => b.fittedNo ((v + 1) / 2))]
  | 4 => [.prose 107 1 e.indicesFit, .prose 107 2 once, .prose 107 3 (e.indices.all b.districtNo)]
  | 5 => [.listed 45 3 single]
  | 6 => [.listed 45 2 single]
  | _ => []

/-- Table 24, id 1. A map entry with count 0 is skipped by every check (R147). -/
def Bank.checkMap (b : Bank) (own i : Nat) : List Cond :=
  match b.stationMap[i]? with
  | some e => if e.count = 0 then [] else b.mapConds own i e ++ b.roleConds i e
  | none => []

/-- Whether an address is covered by a map entry. -/
def Bank.mapped (b : Bank) (a : Nat) : Bool := b.stationMap.toList.any fun e => e.covers a

/-- Table 24, id 2: R151. An unused alias is skipped. DEDUCED (log 67): the five conditions are numbered in their own list. -/
def Bank.checkSpare (b : Bank) (own i : Nat) : List Cond :=
  match b.spares[i]? with
  | some x =>
    if x.used then
      [ .listed 151 1 (within 1 250 x.a && within 1 250 x.b),
        .listed 151 2 (x.a != own),
        .listed 151 3 (!b.mapped x.a && (b.spares.toList.take i).all fun y => !(y.used && y.a == x.a)),
        .listed 151 4 (b.mapped x.b),
        .listed 151 5 (b.spares.toList.all fun y => !(y.used && y.a == x.b)) ]
    else []
  | none => []

/-! ## The holder table and geometry (R1) -/

/-- The cup heights and the increments in use, for lifts 2 to the number of lifts. -/
def HolderEntry.cupHeights (e : HolderEntry) : List Nat := e.cupList.map (·.2.1)
def HolderEntry.increments (e : HolderEntry) : List Nat := e.cupList.map (·.2.2)

/-- R1: every value in the entry lies within its range in Table 1. -/
def HolderEntry.inRange (e : HolderEntry) : Bool :=
  decide (e.fitted ≤ 1) && decide (e.kind ≤ 1) && within 1 25000 e.travel && within 1 4 e.lifts &&
    e.cupHeights.all (within 1 e.travel) && e.increments.all (within 0 3000) && within 0 3000 e.base && within 2 16 e.nBreaks &&
    within 0 4 e.nDatums && within 1 500 e.slipTol && within 5 200 e.cupTol && within 0 e.travel e.lowStop &&
    within 0 e.travel e.nearEmpty && within 0 e.travel e.nearFull && within 0 e.travel e.highStop && within 0 25000 e.rePermit &&
    within 0 25000 e.changeover && within 10 900 e.inletTime && within 10 900 e.outletTime && within 1 24 e.tempPoint &&
    within 1 24 e.presPoint

/-- Table 24, id 3: Table 1a, then the ranges of Table 1. -/
def Bank.checkHolder (b : Bank) (i : Nat) : List Cond :=
  match b.holders[i]? with
  | some e =>
    if e.isFitted then
      [ .listed 1 1 (if e.isPiston then e.lifts == 1 else within 1 4 e.lifts),
        .listed 1 2 (strictlyUp e.cupHeights && e.cupHeights.all fun c => decide (c ≤ e.travel)),
        .listed 1 3 (decide (e.base + e.increments.sum ≤ 3000)),
        .listed 1 5 (e.datumList.all fun x => decide (x ≤ e.travel)),
        .listed 1 6 (strictlyUp [e.lowStop, e.nearEmpty, e.nearFull, e.highStop]),
        .prose 1 1 e.inRange ]
    else []
  | none => []

/-- R1, Table 1a, Geometry: the j-th breakpoint in use against the one before it, the first and the last. -/
def geometryHolds (travel j : Nat) (ps : List (Nat × Nat)) : Bool :=
  match ps[j]? with
  | none => true
  | some p =>
    (match j with
      | 0 => p.1 == 0
      | k + 1 => match ps[k]? with
        | some q => decide (q.1 < p.1) && decide (q.2 ≤ p.2)
        | none => true) &&
    (j + 1 != ps.length || p.1 == travel)

/-- Table 24, id 4: a breakpoint in use of a fitted holder. DEDUCED (log 27): its volume lies in the range of the Conventions. -/
def Bank.checkGeometry (b : Bank) (i : Nat) : List Cond :=
  match placeOf 4 (i / 16 + 1) with
  | some h =>
    if b.fitted h then
      [ .listed 1 4 (geometryHolds b.holders[h].travel (i % 16) (b.breakpoints h)),
        .prose 1 2 (match (b.breakpoints h)[i % 16]? with
          | some p => decide (p.2 ≤ Config.maxVolume)
          | none => true) ]
    else []
  | none => []

/-! ## Meters, correction, programme, districts, yard settings, attention map -/

/-- Table 24, id 5: R23. DEDUCED (log 77): the district served, a range of Table 5 too, is left to the second condition. -/
def Bank.checkMeter (b : Bank) (i : Nat) : List Cond :=
  match b.meters[i]? with
  | some e =>
    if e.inUse then
      [ .listed 23 1 (decide (e.role ≤ 3) && within 1 10000 e.k && within 1 64 e.nMin && within 5 600 e.stall &&
          within 1 4096 e.maxPulses && within 1 24 e.tempPoint && within 1 24 e.presPoint),
        .listed 23 2 (e.role != 3 || within 1 6 e.district) ]
    else []
  | none => []

/-- Table 24, id 6: R45. -/
def Bank.checkCorrection (b : Bank) (i : Nat) : List Cond :=
  [.prose 45 1 (within 7000 13000 ((b.correction[i]?).getD 0))]

/-- Table 24, id 7: R84. The roles of holders that are not fitted are not checked. -/
def Bank.checkSlot (b : Bank) (i : Nat) : List Cond :=
  match b.slots[i]? with
  | some e => [.listed 84 1 ((List.finRange 4).all fun h => !b.fitted h || decide (e[h] ≤ 3))]
  | none => []

/-- Whether a list names nothing twice. -/
def namedOnce : List Nat → Bool
  | [] => true
  | x :: xs => !xs.contains x && namedOnce xs

/-- Table 24, id 8: R84. DEDUCED (log 78): a used place with a number outside 1 to 4 names no holder, and breaks the second condition. -/
def Bank.checkOrder (b : Bank) (i : Nat) : List Cond :=
  match b.orders[i]? with
  | some o =>
    let named := o.places.toList.take o.count
    [ .listed 84 2 (within 1 4 o.count && named.all (within 1 4) && namedOnce named),
      .listed 84 3 (named.all b.fittedNo) ]
  | none => []

/-- R107: the ranges of Table 16 but the schedule. -/
def DistrictEntry.inRange (e : DistrictEntry) : Bool :=
  decide (e.inUse ≤ 1) && within 0 3000 e.minSet && within 0 3000 e.maxSet && within 0 10000 e.boostC && within 0 3000 e.boostMax &&
    within 1 500 e.trimStep && within 0 3000 e.trimMax && within 0 3000 e.endLow && within 0 3000 e.endHigh && within 1 10 e.confirm &&
    within 0 3000 e.minDrop && within 1 3000 e.slew && within 0 500 e.deadband && within 1 24 e.inletPoint && within 1 24 e.endPoint &&
    within 0 12 e.meter

/-- Table 24, ids 9 and 10: R107. The schedule is an entry of Table 16, so it is named by the district (log 28). -/
def Bank.checkDistrict (b : Bank) (i : Nat) : List Cond :=
  match b.districts[i]? with
  | some e =>
    if e.used then
      [ .listed 107 1 (e.inRange && ((b.schedules.toList.drop (48 * i)).take 48).all (within 0 3000)),
        .listed 107 2 (decide (e.minSet ≤ e.maxSet)),
        .listed 107 3 (decide (e.endLow < e.endHigh)),
        .listed 107 4 (e.trimMax == 0 || decide (e.trimStep ≤ e.trimMax)) ]
    else []
  | none => []

/-- Table 24, id 11: R45, then R127. -/
def Bank.checkYard (b : Bank) : List Cond :=
  [ .prose 45 2 (within 10 600 b.yard.pointStale && within 60 3600 b.yard.cvStale && within 3000 6000 b.yard.declaredCv),
    .prose 127 1 ([15, 30, 60].contains b.yard.length),
    .prose 127 2 (decide (b.yard.gasHour ≤ 23)) ]

/-- Table 24, id 12: R175. -/
def Bank.checkAttention (b : Bank) (i : Nat) : List Cond :=
  match b.attention[i]? with
  | some e => [.prose 175 1 (decide (e.enabled ≤ 1) && decide (e.cls ≤ 2))]
  | none => []

/-! ## The whole check (R150) -/

/-- R150: the conditions of the entry of a table at an index. -/
def Bank.conds (b : Bank) (own t i : Nat) : List Cond :=
  match t with
  | 1 => b.checkMap own i
  | 2 => b.checkSpare own i
  | 3 => b.checkHolder i
  | 4 => b.checkGeometry i
  | 5 => b.checkMeter i
  | 6 => b.checkCorrection i
  | 7 => b.checkSlot i
  | 8 => b.checkOrder i
  | 9 => b.checkDistrict i
  | 11 => b.checkYard
  | 12 => b.checkAttention i
  | _ => []

/-- R150: the first condition that a bank breaks, for the part's own address. -/
def Bank.broken (b : Bank) (own : Nat) : Option Break :=
  [1, 2, 3, 4, 5, 6, 7, 8, 9, 10, 11, 12].findSome? fun t => tableBreak t (entryCount t) (b.conds own t)

/-- R150: in UNCONFIGURED mode the first table whose loaded mark is clear. -/
def notLoaded (marks : Vector Bool 12) : Option Break :=
  ((List.finRange 12).find? fun t => !marks[t]).map fun t => ⟨t.val + 1, 0, 0, .listed 0⟩

/-- R150: what COMMIT finds broken. -/
def State.commitBreak (s : State) : Option Break :=
  (if s.running then none else notLoaded s.tables.marks).or (s.tables.pending.broken s.own)

end Sys2Proof.Machine
end

