-- ==== Sys2Proof/Machine/Meter.lean ====
section
/-! DEFINITION. The Meter Unit (chapter 2), and the handing of an increment to the open interval (R55, R56, R130). -/

namespace Sys2Proof.Machine

/-! ## Handing an increment (R29, R55, R56, R130) -/

/-- The accumulators are 64 bits (R55, R130). What one holds after a sum that does not fit is a free value (log 7). -/
def acc64 (x : Nat) : Nat := if x < 2 ^ 64 then x else Config.overflow64 x % 2 ^ 64

/-- R130: a channel's share gains an increment. -/
def ChannelShare.gain (c : ChannelShare) (pulses raw factor cv : Nat) (f : InputFlags) : ChannelShare :=
  { c with
    pulses := c.pulses + pulses, raw := c.raw + raw, volume := acc64 (c.volume + raw * factor),
    energy := acc64 (c.energy + raw * factor * cv), flags := c.flags.union f.toChannel }

/-- R29: an increment taken is corrected and handed to the interval open when the report is taken. -/
def State.hand (s : State) (b : Bank) (m : Fin 12) (pulses : Nat) : State :=
  let e := b.meters[m]
  let (factor, flags) := s.meterFactor b e.tempPoint e.presPoint
  s.mapInterval fun iv => { iv with
    channels := upd iv.channels m (iv.channels[m].gain pulses (pulses * e.k) factor (s.cvInForce b) flags),
    yard := iv.yard.union { YardFlags.none with cvDeclared := !s.cvFresh } }

/-! ## The rate window (R30 to R32) -/

/-- A meter report with its arrival time. -/
structure MeterIn where
  register : Nat
  pulseTime : Nat
  arrival : Nat
  deriving DecidableEq, Repr

/-- A window opened from a report with 0 pulses counted. -/
def MeterIn.opens (x : MeterIn) : RateWindow := ⟨x.pulseTime, x.arrival, 0⟩

/-- R31: the elapsed time used for the rate, fine where it can be trusted. -/
def RateWindow.elapsed (w : RateWindow) (x : MeterIn) : Nat :=
  let coarse := x.arrival - w.startArrival
  let fine := (x.pulseTime + 65536 - w.startPulse) % 65536
  if coarse < 60000 ∧ 0 < fine then fine else coarse

/-- R31: whether the window closes at this report. -/
def RateWindow.closes (w : RateWindow) (nMin : Nat) (x : MeterIn) : Bool :=
  decide (nMin ≤ w.pulses) || (decide (30000 ≤ x.arrival - w.startArrival) && decide (1 ≤ w.pulses))

/-- R32: the rate of a window over an elapsed time. -/
def rateOf (pulses k elapsed : Nat) : Nat := min 99999999 (pulses * k * 3600000 / elapsed)

/-- R30 to R32: a report with an increment `d` (0 where none was taken) acts on the rate window of a MEASURING channel. -/
def ChannelRec.actWindow (c : ChannelRec) (e : MeterEntry) (d : Nat) (x : MeterIn) : ChannelRec :=
  match c.window with
  | none => { c with window := some x.opens }
  | some w0 =>
    let w := { w0 with pulses := w0.pulses + d }
    if w.closes e.nMin x && w.elapsed x != 0 then
      { c with rate := rateOf w.pulses e.k (w.elapsed x), rateTime := some x.arrival, window := some x.opens }
    else { c with window := some w }

/-! ## Taking a report (R26 to R28, R34, R36) -/

/-- R27: the increment, modulo 65,536. -/
def increment (register reference : Nat) : Nat := (register + 65536 - reference) % 65536

/-- The last report field. -/
def ChannelRec.noted (c : ChannelRec) (x : MeterIn) : ChannelRec :=
  { c with lastReport := some ⟨x.register, x.pulseTime, x.arrival⟩, waiver := false }

/-- R26: a report taken with the reference absent. Under LOOP_LOST it acts on neither window nor stall start (R36). -/
def ChannelRec.first (c : ChannelRec) (lost : Bool) (x : MeterIn) : ChannelRec :=
  let c1 := { c.noted x with reference := some x.register }
  match c.state with
  | .waiting =>
    if lost then { c1 with state := .measuring, window := none, stallStart := none }
    else { c1 with state := .measuring, window := some x.opens, stallStart := some x.arrival }
  | .measuring => if lost || c.window.isSome then c1 else { c1 with window := some x.opens }
  | .stalled => c1

/-- R28: a report that fails the plausibility test. -/
def ChannelRec.jumped (c : ChannelRec) (lost : Bool) (ref : Nat) (x : MeterIn) : ChannelRec :=
  let c1 := { c.noted x with reference := some x.register, lastJump := some ⟨ref, x.register, x.arrival⟩ }
  if c.state = .measuring ∧ lost = false then { c1 with window := some x.opens } else c1

/-- R27, R30, R33, R34: a report taken with its increment `d`, which may be 0. -/
def ChannelRec.advance (c : ChannelRec) (e : MeterEntry) (lost : Bool) (d : Nat) (x : MeterIn) : ChannelRec :=
  let c1 := { c.noted x with reference := some x.register }
  if lost then c1
  else match c.state with
    | .waiting => c1
    | .measuring => if 0 < d then { c1.actWindow e d x with stallStart := some x.arrival } else c1.actWindow e d x
    | .stalled =>
      if 0 < d then { c1 with state := .measuring, window := some x.opens, stallStart := some x.arrival } else c1

/-- R24 to R28, R36, R37: a meter report of channel `m`, in RUNNING mode. -/
def State.takeMeter (s : State) (b : Bank) (m : Fin 12) (register pulseTime : Nat) : State :=
  let e := b.meters[m]
  let c := s.channels[m]
  let x : MeterIn := ⟨register, pulseTime, s.timebase⟩
  if e.inUse then
    match c.reference with
    | none => s.setChannel m (c.first s.loop.lost x)
    | some ref =>
      let d := increment register ref
      if c.waiver = false ∧ e.maxPulses < d then
        ((s.setChannel m (c.jumped s.loop.lost ref x)).raise (srcMeterJump m)).channelFlag m { ChannelFlags.none with jump := true }
      else
        let s1 := s.setChannel m (c.advance e s.loop.lost d x)
        let s2 := if 0 < d then s1.hand b m d else s1
        if c.waiver then s2.yardFlag { YardFlags.none with loopLost := true } else s2
  else s

/-! ## Stall, recovery and swap (R33, R35, R37, R39) -/

/-- R33: whether the stall timer of a channel has expired by the time `t`, given the conditions it runs under. -/
def ChannelRec.stallDue (c : ChannelRec) (e : MeterEntry) (t : Nat) : Bool :=
  c.state == .measuring && e.inUse && timerBy (c.stallStart.map fun x => x + e.stall * 1000) t

/-- R33: the channel record on entering STALLED. -/
def ChannelRec.toStalled (c : ChannelRec) (t : Nat) : ChannelRec :=
  { c with state := .stalled, rate := 0, rateTime := some t, window := none }

/-- R33: a channel enters STALLED. -/
def State.enterStalled (s : State) (m : Fin 12) : State :=
  ((s.setChannel m (s.channels[m].toStalled s.timebase)).raise (srcMeterStall m)).channelFlag m { ChannelFlags.none with stalled := true }

/-- R37: a channel at loop recovery. -/
def ChannelRec.recover (c : ChannelRec) (t : Nat) : ChannelRec :=
  { c with
    waiver := c.waiver || (c.state != .waiting && c.reference.isSome), window := none,
    stallStart := if c.state = .measuring then some t else c.stallStart }

/-- R37: loop recovery at the Meter Unit. -/
def State.metersRecover (s : State) (b : Bank) : State :=
  { s with channels := s.channels.mapFinIdx fun i c h => if b.meters[i].inUse then c.recover s.timebase else c }

/-- R39: a channel record that keeps a role, at a swap. -/
def ChannelRec.swapTo (c : ChannelRec) (old new : MeterEntry) (moved : Bool) : ChannelRec :=
  let c1 := if moved then { c with reference := none, waiver := false } else c
  if old.k ≠ new.k ∧ c.state = .measuring then { c1 with window := none } else c1

/-- R39: a channel at a swap. DEDUCED (log 60): a channel that the new stall time makes STALLED enters it at the swap's moment. DEDUCED
(log 86): under LOOP_LOST, where no stall timer runs and the rate is held (R33, R36), a new stall time makes no channel STALLED. -/
def State.meterSwap (s : State) (old new : Bank) (m : Fin 12) : State :=
  let eo := old.meters[m]
  let en := new.meters[m]
  match eo.inUse, en.inUse with
  | false, true => s.setChannel m ChannelRec.initial
  | _, false => s
  | true, true =>
    let c := s.channels[m].swapTo eo en (addressesChanged old new (.meter m))
    let s1 := s.setChannel m c
    if eo.stall ≠ en.stall ∧ s.loop.lost = false ∧ c.stallDue en s.timebase then s1.enterStalled m else s1

end Sys2Proof.Machine
end

