-- ==== Sys2Proof/Machine/Governor.lean ====
section
/-! DEFINITION. The Governor Unit (chapter 6): governor reports, end-of-main reports, and the review of eight stages. Every quantity
is an integer in 0.01 inWG. -/

namespace Sys2Proof.Machine

/-! ## Reports (R110, R114) -/

/-- R110: a governor report of district `d`. One outside 0 to 3,000, or of a district not in use (R108), is not taken. -/
def State.governorReport (s : State) (b : Bank) (d : Fin 6) (setpoint : Nat) (hand : Bool) : State :=
  if b.districts[d].used && decide (setpoint ≤ 3000) then
    let r := s.districts[d]
    s.setDistrict d { r with reported := some ⟨setpoint, hand, s.timebase⟩, lastSent := r.lastSent.or (some setpoint) }
  else s

/-- R114: an end-of-main report acts on the runs, whatever its quality. -/
def DistrictRec.endReport (r : DistrictRec) (e : DistrictEntry) (v : Int) : DistrictRec :=
  if v < e.endLow then { r with lowRun := min e.confirm (r.lowRun + 1), highRun := 0 }
  else if (e.endHigh : Int) < v then { r with highRun := min e.confirm (r.highRun + 1), lowRun := 0 }
  else { r with lowRun := 0, highRun := 0 }

/-- R114: a taken report of a point is handed to each district in use whose end-of-main point it is. -/
def State.endOfMain (s : State) (b : Bank) (p : Fin 24) (v : Int) : State :=
  forEach (fun d s =>
    if b.districts[d].used && pointPlace b.districts[d].endPoint == some p then
      s.setDistrict d (s.districts[d].endReport b.districts[d] v)
    else s) s

/-- R114: the confirmed state of the end of the main. DEDUCED (log 25): with M 0, which only an unused district can have, NONE. -/
def DistrictRec.confirmed (r : DistrictRec) (m : Nat) : Confirmed :=
  if r.lowRun = m ∧ 0 < m then .low else if r.highRun = m ∧ 0 < m then .high else .none

/-! ## The stages of a review -/

/-- R112: the schedule value within the bounds, and whether the clamp changed it. -/
def DistrictEntry.scheduled (e : DistrictEntry) (raw : Nat) : Nat × Bool :=
  if raw < e.minSet then (e.minSet, true) else if e.maxSet < raw then (e.maxSet, true) else (raw, false)

/-- R113: the rate a review reads from the district meter channel. -/
def State.districtRate (s : State) (b : Bank) (e : DistrictEntry) : Nat :=
  match placeOf 12 e.meter with
  | none => 0
  | some m =>
    if b.meters[m].inUse then
      match s.channels[m].state with
      | .measuring => s.channels[m].rate
      | .stalled => s.channels[m].rate
      | .waiting => 0
    else 0

/-- R113: the boost of a rate. -/
def DistrictEntry.boost (e : DistrictEntry) (rate : Nat) : Nat :=
  min e.boostMax (e.boostC * (rate / 1000) * (rate / 1000) / 10000)

/-- R115: the trim after stage 3. -/
def DistrictEntry.trimmed (e : DistrictEntry) (fresh : Bool) (c : Confirmed) (trim : Nat) : Nat :=
  match fresh, c with
  | true, .low => min e.trimMax (trim + e.trimStep)
  | true, .high => trim - e.trimStep
  | _, _ => trim

/-- R115: the condition of END LOW after the step. -/
def DistrictEntry.endLowHolds (e : DistrictEntry) (fresh : Bool) (c : Confirmed) (trim : Nat) : Bool :=
  fresh && c == .low && trim == e.trimMax

/-- R117: the lowest expected pressure of the fitted holders whose outlet valve is OPEN. -/
def State.holdersPressure (s : State) (b : Bank) : Option Nat :=
  ((List.finRange 4).filterMap fun h =>
    if b.fitted h && s.valves[valveOf h .outlet].state == .opened then some s.holders[h].expected else none).min?

/-- R117: the inlet pressure and its source, absent where the headroom is not applied. -/
def State.inletPressure (s : State) (b : Bank) (e : DistrictEntry) : Option (Int × InletSource) :=
  let r := s.pointRec e.inletPoint
  if r.state = .fresh then some (r.value.getD 0, .point)
  else (s.holdersPressure b).map fun p => ((p : Int), .holders)

/-- R117: the headroom, signed. -/
def State.headroomOf (s : State) (b : Bank) (e : DistrictEntry) : Option Int :=
  (s.inletPressure b e).map fun p => p.1 - e.minDrop

/-- R117: stage 5 takes a target to the headroom; the flag is HEADROOM. -/
def limitTo (headroom : Option Int) (target : Int) : Int × Bool :=
  match headroom with
  | some h => if h < target then (h, true) else (target, false)
  | none => (target, false)

/-- R119: the result of stage 7 before it is held within the bounds. -/
def DistrictEntry.slewed (e : DistrictEntry) (last : Option Nat) (headroom : Bool) (target : Int) : Int :=
  match last with
  | none => target
  | some l =>
    if (l : Int) < target then min target ((l : Int) + e.slew)
    else if target < l then (if headroom then target else max target ((l : Int) - e.slew))
    else l

/-- R119: the result is held within the minimum and maximum setpoints. -/
def DistrictEntry.held (e : DistrictEntry) (x : Int) : Nat := (min (max x e.minSet) e.maxSet).toNat

/-- What the eight stages read at a review, and what the first seven give. -/
structure Stages where
  s : Nat
  clamped : Bool
  rate : Nat
  boost : Nat
  fresh : Bool
  confirmed : Confirmed
  trim : Nat
  target4 : Int
  headroom : Option Int
  source : Option InletSource
  limited : Bool
  target5 : Int
  target6 : Int
  result : Nat
  deriving DecidableEq, Repr

/-- R112 to R119: the stages 1 to 7 of a review, from the inputs as they stand. -/
def State.stages (s : State) (b : Bank) (d : Fin 6) (slot : Nat) : Stages :=
  let e := b.districts[d]
  let r := s.districts[d]
  let sv := e.scheduled (b.schedule d slot)
  let rate := s.districtRate b e
  let fresh := (s.pointRec e.endPoint).state == .fresh
  let conf := r.confirmed e.confirm
  let trim := e.trimmed fresh conf r.trim
  let t4 : Int := min (e.maxSet : Int) (sv.1 + e.boost rate + trim : Nat)
  let head := s.headroomOf b e
  let lim := limitTo head t4
  let t6 := max lim.1 e.minSet
  { s := sv.1, clamped := sv.2, rate := rate, boost := e.boost rate, fresh := fresh, confirmed := conf, trim := trim, target4 := t4,
    headroom := head, source := (s.inletPressure b e).map (·.2), limited := lim.2, target5 := lim.1, target6 := t6,
    result := e.held (e.slewed r.lastSent lim.2 t6) }

/-- R112: SCHEDULE CLAMPED, once for each district in each slot. -/
def State.raiseClamped (s : State) (d : Fin 6) (sl : DaySlot) (clamped : Bool) : State :=
  if clamped && s.districts[d].clampSlot != some sl then
    (s.raise srcScheduleClamped).setDistrict d { s.districts[d] with clampSlot := some sl }
  else s

/-- R115: END LOW is raised when it comes to hold, and the standing mark follows the condition. -/
def State.raiseEndLow (s : State) (d : Fin 6) (holds : Bool) : State :=
  (if holds && !s.districts[d].endLowStanding then s.raise (srcEndLow d) else s).setDistrict d
    { s.districts[d] with endLowStanding := holds }

/-- R118: HEADROOM SHORT is raised when it comes to hold, and the standing mark follows the condition. -/
def State.raiseShort (s : State) (d : Fin 6) (holds : Bool) : State :=
  (if holds && !s.districts[d].shortStanding then s.raise (srcHeadroomShort d) else s).setDistrict d
    { s.districts[d] with shortStanding := holds }

/-- R118: the floor has overridden the headroom clamp. -/
def Stages.short (g : Stages) (e : DistrictEntry) : Bool :=
  g.limited && (match g.headroom with
    | some h => decide (h < e.minSet)
    | none => false)

/-- R120: whether stage 8 places a SET, the refresh count having been advanced. -/
def DistrictRec.sends (r : DistrictRec) (e : DistrictEntry) (refresh result : Nat) : Bool :=
  match r.lastSent with
  | none => false
  | some l => decide (e.deadband ≤ ((result : Int) - l).natAbs) || refresh == 10 || r.sendDue

/-- Table 17: the last review field. -/
def Stages.record (g : Stages) (t : Nat) (outcome : SetOutcome) : Review :=
  { time := t, s := g.s, boost := g.boost, trim := g.trim, target4 := g.target4, target5 := g.target5, target6 := g.target6,
    headroom := g.headroom, source := g.source, result := g.result, outcome := outcome, rate := g.rate }

/-- R120: stage 8. -/
def State.sendStage (s : State) (d : Fin 6) (e : DistrictEntry) (g : Stages) : State :=
  let r := s.districts[d]
  let n := min 10 (r.refresh + 1)
  let r1 := { r with trim := g.trim, headroom := g.limited, refresh := n }
  if r.sends e n g.result then
    let (loop, replaced) := s.loop.placeSet d g.result
    (s.setLoop loop).setDistrict d { r1 with
      lastSent := some g.result, refresh := 0, sendDue := false,
      lastReview := some (g.record s.timebase (if replaced then .replaced else .placed)) }
  else s.setDistrict d { r1 with lastReview := some (g.record s.timebase .notSent) }

/-- R112 to R120: a review that runs. -/
def State.review (s : State) (b : Bank) (d : Fin 6) (sl : DaySlot) : State :=
  let e := b.districts[d]
  let g := s.stages b d sl.slot
  (((s.raiseClamped d sl g.clamped).raiseEndLow d (e.endLowHolds g.fresh g.confirmed g.trim)).raiseShort d (g.short e)).sendStage d e g

/-- R111: the expiry of a review timer: it restarts at once, and the review runs with the clock valid and the loop up. -/
def State.reviewExpired (s : State) (b : Bank) (d : Fin 6) : State :=
  let s1 := s.setDistrict d { s.districts[d] with reviewTimer := some (s.timebase + Config.reviewTime) }
  match s.clock.valid, s.loop.lost, s.clock.slot with
  | true, false, some sl => s1.review b d sl
  | _, _, _ => s1

/-! ## TRIM, loss, recovery and swap (R116, R122, R109, R123) -/

/-- R116: the trim set by the desk. -/
def State.trimTo (s : State) (b : Bank) (d : Fin 6) (trim : Nat) : State :=
  s.setDistrict d { s.districts[d] with trim := min trim b.districts[d].trimMax }

/-- R122: at the loss every unsent SET is withdrawn. -/
def State.governorsLost (s : State) : State := s.setLoop (s.loop.withdraw Command.isAnySet)

/-- R122: a district record at loop recovery. -/
def DistrictRec.recover (r : DistrictRec) : DistrictRec :=
  { r with lastSent := none, sendDue := true, refresh := 0, reported := none }

/-- R122: loop recovery at the Governor Unit. -/
def State.governorsRecover (s : State) (b : Bank) : State :=
  { s with districts := s.districts.mapFinIdx fun i r h => if b.districts[i].used then r.recover else r }

/-- R109: the review timers start when the live bank is taken. -/
def State.startReviews (s : State) (b : Bank) : State :=
  { s with districts := s.districts.mapFinIdx fun i r h =>
      if b.districts[i].used then { r with reviewTimer := some (s.timebase + Config.reviewTime) } else r }

/-- R123: what the end-of-main confirmation rests on. -/
def DistrictEntry.endChanged (old new : DistrictEntry) : Bool :=
  old.endLow != new.endLow || old.endHigh != new.endHigh || old.confirm != new.confirm || old.endPoint != new.endPoint

/-- R123: the record of a district that stays in use. -/
def DistrictRec.swapTo (r : DistrictRec) (old new : DistrictEntry) (moved outOfBounds : Bool) : DistrictRec :=
  let r1 := { r with trim := min r.trim new.trimMax }
  let r2 := if old.endChanged new then { r1 with lowRun := 0, highRun := 0, endLowStanding := false } else r1
  let r3 := if moved then { r2 with lastSent := none, reported := none, sendDue := true } else r2
  if outOfBounds then { r3 with sendDue := true } else r3

/-- R119, R123: whether a setpoint lies outside a district's bounds. -/
def DistrictEntry.excludes (e : DistrictEntry) (v : Nat) : Bool := decide (v < e.minSet) || decide (e.maxSet < v)

/-- R120, R123: whether the district's unsent SET lies outside the new bounds. DEDUCED (log 54): a SET on the line counts as unsent, so that
one broken off does not come back to be sent outside the bounds of the live bank. -/
def LoopPort.setOutside (l : LoopPort) (d : Fin 6) (e : DistrictEntry) : Bool :=
  (l.unsentSet d).any e.excludes || (l.tx.setOnLine d).any e.excludes

/-- R123: a district at a swap. -/
def State.districtSwap (s : State) (old new : Bank) (d : Fin 6) : State :=
  let eo := old.districts[d]
  let en := new.districts[d]
  match eo.used, en.used with
  | true, true =>
    let out := s.loop.setOutside d en
    let s1 := s.setDistrict d (s.districts[d].swapTo eo en (addressesChanged old new (.governor d)) out)
    if out then s1.setLoop (s1.loop.withdraw (·.isSet d)) else s1
  | false, true => s.setDistrict d { DistrictRec.initial with reviewTimer := some (s.timebase + Config.reviewTime) }
  | true, false => (s.setDistrict d { s.districts[d] with reviewTimer := none }).setLoop (s.loop.withdraw (·.isSet d))
  | false, false => s

end Sys2Proof.Machine
end

