-- ==== Sys2Proof/Machine/Points.lean ====
section
/-! DEFINITION. The reports and the stale timers of the points, the barometer and the calorimeter (R40 to R44). -/

namespace Sys2Proof.Machine

/-- R16, R40: a taken report is handed to the Lift Tracker for each fitted holder whose pressure point it is. DEDUCED (log 72): in the
order H1 to H4. -/
def State.cupReadings (s : State) (b : Bank) (p : Fin 24) (v : Int) (q : Quality) : State :=
  forEach (fun h s =>
    if b.fitted h && pointPlace b.holders[h].presPoint == some p then s.cupReading b h v q else s) s

/-- R40: a point report of point `p`, taken or not, and what is handed on when it is taken. -/
def State.pointReport (s : State) (b : Bank) (p : Fin 24) (v : Int) (q : Quality) : State :=
  if pointUsable v q then
    ((s.setPoint p (s.points[p].take v q s.timebase)).cupReadings b p v q).endOfMain b p v
  else s.setPoint p (s.points[p].leave v q s.timebase)

/-- R43: a barometer report. -/
def State.barometerReport (s : State) (v : Int) (q : Quality) : State :=
  s.setBarometer (if barometerUsable v q then s.barometer.take v q s.timebase else s.barometer.leave v q s.timebase)

/-- R44: a calorimeter report. -/
def State.calorimeterReport (s : State) (v : Int) (q : Quality) : State :=
  s.setCalorimeter (if calorimeterUsable v q then s.calorimeter.take v q s.timebase else s.calorimeter.leave v q s.timebase)

/-- R41: a record whose stale timer expires becomes HELD and keeps the rest. -/
def PointRec.stale (r : PointRec) : PointRec := { r with state := .held }

/-- The record that a stale timer belongs to: place 24 is the barometer. -/
def State.staleRec (s : State) (r : Fin 25) : PointRec := if h : r.val < 24 then s.points[r.val] else s.barometer

/-- R41, R43: the stale timer of a point or of the barometer expires. -/
def State.goStale (s : State) (r : Fin 25) : State :=
  if h : r.val < 24 then s.setPoint ⟨r.val, h⟩ (s.points[r.val].stale) else s.setBarometer s.barometer.stale

/-- R44: the calorimeter's stale timer expires. -/
def State.goCvStale (s : State) : State := (s.setCalorimeter s.calorimeter.stale).raise srcCvDeclared

end Sys2Proof.Machine
end

