-- ==== Sys2Proof/Machine/Swap.lean ====
section
/-! DEFINITION. The swap of the live bank, the interval close that makes it, and the taking of the live bank (R137, R154, R157 and
Table 25). -/

namespace Sys2Proof.Machine

/-! ## The Table Store at a swap (R154, R155) -/

/-- R154: the generation after a swap, wrapping from 65,535 to 1. -/
def nextGeneration (g : Nat) : Nat := if 65535 ≤ g then 1 else g + 1

/-- R154, R155: the pending bank becomes the live bank and the write of the nonvolatile copy begins. -/
def TableStore.swapped (t : TableStore) : TableStore :=
  { t with live := some t.pending, generation := nextGeneration t.generation, marks := Vector.replicate 12 true, committed := false,
           store := .writing }

/-- R154, R175: the swap at the Table Store and the Attention Unit; BANK SWAPPED is entered under the new map. -/
def State.swapTables (s : State) : State :=
  let s1 := s.setTables s.tables.swapped
  (s1.setAttn (s1.attn.reclass s1.tables.live)).raise srcBankSwapped

/-! ## Takeover of a new live bank (Table 25) -/

/-- R82: a valve whose holder ceases to be fitted. -/
def ValveRec.unfit (r : ValveRec) : ValveRec :=
  { r with demand := none, joined := false, phase := .idle, answerTimer := none, travelTimer := none }

/-- R82: a valve and the permission of its side at a swap. DEDUCED (log 93): a valve at rest whose holder ceases to be fitted has a command
that NO_ANSWER has left queued withdrawn. -/
def State.valveSwap (s : State) (old new : Bank) (v : Fin 8) : State :=
  match old.fitted (holderOf v), new.fitted (holderOf v) with
  | false, true => (s.setValve v ValveRec.initial).setPerm v PermRec.initial
  | true, false =>
    ((s.setValve v s.valves[v].unfit).setLoop (s.loop.withdraw (·.isValve v))).notifyJoined v s.valves[v] false
  | true, true => if addressesChanged old new (.valve v) then s.setUnknown v else s
  | false, false => s

/-- R105: the WAITING shut entries of a holder that ceases to be fitted are DROPPED. -/
def Transition.dropHolder (t : Transition) (h : Fin 4) : Transition :=
  { t with shuts := t.shuts.map fun x => if holderOf x.valve = h ∧ x.state = .waiting then { x with state := .dropped } else x }

/-- R105: a holder's role at a swap. -/
def State.roleSwap (s : State) (old new : Bank) (h : Fin 4) : State :=
  match old.fitted h, new.fitted h with
  | true, false => (s.mapRole h fun _ => RoleRec.initial).setTransition (s.prog.transition.map (·.dropHolder h))
  | false, true => s.mapRole h fun _ => RoleRec.initial
  | _, _ => s

/-- R105: the retake mark of every fitted holder that is not held. -/
def State.retakeAll (s : State) (b : Bank) : State :=
  forEach (fun h s => if b.fitted h && !(s.roleRec h).held then s.mapRole h fun r => { r with retake := true } else s) s

/-- R105: the Programme Unit at a swap. The trigger entered is taken in `State.swapEvents` (log 81). -/
def State.programmeSwap (s : State) (old new : Bank) : State :=
  let s1 := forEach (fun h s => s.roleSwap old new h) s
  if old.slots ≠ new.slots then (s1.retakeAll new).enterTrigger .reEvaluate
  else if old.sendOrder ≠ new.sendOrder ∨ old.fillOrder ≠ new.fillOrder then s1.enterTrigger .reEvaluate
  else s1

/-- R154, Table 25: each block takes the new bank. DEDUCED (log 91): the blocks take it in the order of Table 25; (log 73, log 76): holders,
channels, valves and districts in number order. -/
def State.takeOver (s : State) (old new : Bank) : State :=
  let s1 := forEach (fun h s => s.liftSwap old new h) s
  let s2 := (forEach (fun m s => s.meterSwap old new m) s1).pointsSwap new
  let s3 := (forEach (fun v s => s.valveSwap old new v) s2).programmeSwap old new
  forEach (fun d s => s.districtSwap old new d) s3

/-- R22: the holder change that a swap issues for a holder. DEDUCED (log 58): of one that becomes fitted, the restored count is the lowest
and the highest. -/
def State.changeAfterSwap (before : Vector HolderRec 4) (old new : Bank) (h : Fin 4) (s : State) : State :=
  let r0 := before[h]
  let r := s.holders[h]
  if new.fitted h then
    if !old.fitted h then s.holderChange new h r.count r.count
    else if r0.count ≠ r.count ∨ r0.certain ≠ r.certain ∨ r0.liftFault ≠ r.liftFault then
      s.holderChange new h (min r0.count r.count) (max r0.count r.count)
    else s
  else s

/-- R79: the trips of a holder whose stops the swap has changed. -/
def State.tripsAfterSwap (old new : Bank) (h : Fin 4) (s : State) : State :=
  let eo := old.holders[h]
  let en := new.holders[h]
  if new.fitted h && (eo.lowStop != en.lowStop || eo.highStop != en.highStop) then
    (s.evaluateTrips en h s.holders[h].count s.holders[h].count).settled
  else s

/-- R22, R79, R154: what the takeovers issue to other blocks, after the swap and after the opening of the next interval (log 38).
DEDUCED (log 73): the holder changes in the order H1 to H4, then the trips of changed stops in the order H1 to H4. DEDUCED (log 81): the
RE-EVALUATE trigger of the swap is taken at the first settling here, after the first holder change's trips. -/
def State.swapEvents (s : State) (before : Vector HolderRec 4) (old new : Bank) : State :=
  (forEach (State.tripsAfterSwap old new) (forEach (State.changeAfterSwap before old new) s)).settled

/-- R137, R154: the swap at a close, and the opening of the next interval under the new bank. -/
def State.swapAndOpen (s : State) (old : Bank) (o : Opening) : State :=
  let new := s.tables.pending
  ((s.swapTables.takeOver old new).openInterval o).swapEvents s.holders old new

/-! ## The close (R133 to R137) -/

/-- R133 to R137: the open interval closes at the given time with further yard flags, and the next one opens with `next`. -/
def State.closeInterval (s : State) (b : Bank) (extra next : YardFlags) (closeTime : Option WallTime) : State :=
  match s.accounts.interval with
  | none => s
  | some iv =>
    let r := s.closeRecord b iv extra closeTime
    let o := r.carried (s.stockUncertain b) (stockHeld (s.stocks b)) next
    let s1 := s.recordClose b r
    if s.tables.committed then s1.swapAndOpen b o else s1.openInterval o

/-! ## The taking of the live bank (Table 25) -/

/-- R21: each fitted holder is brought to the live bank. -/
def State.bringHolders (s : State) (b : Bank) : State :=
  forEach (fun h s => if b.fitted h then s.setHolder h (s.holders[h].bring b h s.timebase) else s) s

/-- R77: every permission of every fitted holder is GRANTED. -/
def State.grantAll (s : State) (b : Bank) : State :=
  forEach (fun v s => if b.fitted (holderOf v) then s.setPerm v PermRec.initial else s) s

/-- R21, R79: the holder change of each fitted holder with the restored count. DEDUCED (log 74): in the order H1 to H4. -/
def State.restoredChanges (s : State) (b : Bank) : State :=
  forEach (fun h s => if b.fitted h then s.holderChange b h s.holders[h].count s.holders[h].count else s) s

/-- Table 25: the blocks take the live bank; `first` says that the first interval opens (R143), which RESTART does not need. -/
def State.takeLive (s : State) (b : Bank) (first : Bool) : State :=
  let s1 := ((s.bringHolders b).grantAll b).startReviews b
  let s2 := if first then s1.openInterval (s1.firstOpening b) else s1
  ((s2.restoredChanges b).enterTrigger .slot).settled

/-! ## RESTART (R157, R174) -/

/-- R157: the Table Store at RESTART, after the close. -/
def TableStore.restarted (t : TableStore) : TableStore :=
  match t.live with
  | some b => { t with pending := b, marks := Vector.replicate 12 true, committed := false }
  | none => t

/-- R174, step 4: each block at its RESTART values. The clock, the logs, the live bank, the attention list and the rest of the Loop
Port are kept. DEDUCED (log 85): a command on the line does not come back if it is broken off afterwards. -/
def State.reinitialised (s : State) : State :=
  { s with
    accounts := { s.accounts with cursor := none },
    holders := s.nv.saves.map fun sv => HolderRec.restored sv s.timebase,
    channels := Vector.replicate 12 ChannelRec.initial, points := Vector.replicate 24 PointRec.initial,
    barometer := PointRec.initialRecord, calorimeter := PointRec.initialRecord,
    valves := Vector.replicate 8 ValveRec.initial, perms := Vector.replicate 8 PermRec.initial, prog := Programme.initial,
    districts := Vector.replicate 6 DistrictRec.initial, loop := s.loop.withdraw fun _ => true }

/-- R174, steps 2 to 5. -/
def State.restarted (s : State) (b : Bank) : State :=
  let s1 := s.closeInterval b { YardFlags.none with restart := true } YardFlags.none s.clock.wall
  let s2 := (s1.setTables s1.tables.restarted).reinitialised
  match s2.live with
  | some n => s2.takeLive n false
  | none => s2

end Sys2Proof.Machine
end

