-- ==== Sys2Proof/Machine/Loop.lean ====
section
/-! DEFINITION. The Loop Port (chapter 9): the through-buffer, the insertion window and its order of frames, the STATUS frame, the
routing of reports and answers, loop loss and loop recovery. -/

namespace Sys2Proof.Machine

/-! ## The transmitter and the through-buffer (R160, R166) -/

/-- R160: a free transmitter takes the oldest frame of the through-buffer, which leaves it. -/
def LoopPort.startThrough (l : LoopPort) : LoopPort :=
  match l.tx, l.buffer with
  | .idle, f :: fs => { l with tx := .through f, buffer := fs }
  | _, _ => l

/-- R165, R166: the window ends by its STATUS frame or by a yield; with the re-arm mark set it becomes ARMED. -/
def LoopPort.endWindow (l : LoopPort) : LoopPort :=
  if l.rearm then { l with window := .armed, rearm := false } else { l with window := .idle }

/-- R166, R184: a frame of the part's own that is broken off goes back to the head of its class, but for a STATUS frame and for a
command withdrawn or replaced meanwhile (log 24). -/
def LoopPort.giveBack (l : LoopPort) (o : OwnFrame) : LoopPort :=
  match o with
  | .command c _ void => if void then l else { l with commands := c :: l.commands }
  | .response f more =>
    match more, l.responses with
    | true, rest :: rs => { l with responses := (f.body :: rest) :: rs }
    | _, rs => { l with responses := [f.body] :: rs }
  | .status _ => l

/-- R160, R166: a frame received whole enters the through-buffer, is dropped, or breaks off the part's own frame. -/
def LoopPort.enter (l : LoopPort) (f : LineFrame) : LoopPort :=
  if l.buffer.length < Config.bufferSize then { l with buffer := l.buffer ++ [f] }.startThrough
  else match l.tx with
    | .through _ => l
    | .own o => { (l.giveBack o).endWindow with tx := .idle, buffer := l.buffer ++ [f] }.startThrough
    | .idle => { l with buffer := l.buffer ++ [f] }.startThrough

/-- A frame received whole, of whatever kind; the line has not been quiet since (R165). -/
def State.forward (s : State) (f : LineFrame) : State := s.setLoop { s.loop.enter f with lineQuiet := false }

/-- A frame absorbed by the part (R161). DEDUCED (log 83): it takes no place in the through-buffer, and breaks off nothing where that is
full (R166). -/
def State.absorb (s : State) : State := s.setLoop { s.loop with lineQuiet := false }

/-! ## The STATUS frame (R178, Table 39) -/

/-- Table 39: one entry shown. -/
def AttnItem.bytes (e : AttnItem) : List Byte :=
  [b8 e.source.val, b8 (e.cls.code + 4 * clockCode e.first.valid), b8 e.count] ++ putN 2 e.first.day ++ putN 3 e.first.sec

/-- R178: the entries shown. -/
def Attention.shown (a : Attention) : List AttnItem := a.items.take 12

/-- Table 39: the body of the STATUS frame, made from the state as its sending begins. -/
def State.statusBody (s : State) : List Byte :=
  [b8 (bitsOf [s.running, s.loop.lost, s.loop.cycle.isSome, s.tables.committed, !s.clock.valid]), s.loop.cycle.getD 0] ++
    putN 2 s.tables.generation ++ [b8 s.tables.store.code] ++ putN 2 s.clock.day ++ putN 3 s.clock.sec ++
    [b8 s.attn.items.length, b8 s.attn.shown.length] ++ s.attn.shown.flatMap AttnItem.bytes

/-! ## The insertion window (R164, R165, R167, R184) -/

/-- R165: the command that the order finds first: trip-origin, then other valve commands, then SETs in district order. -/
def LoopPort.nextCommand (l : LoopPort) : Option Command :=
  (l.commands.find? Command.isTrip).or
    ((l.commands.find? Command.isAnyValve).or
      ((List.finRange 6).findSome? fun d => l.commands.find? (·.isSet d)))

/-- R164: the address of the station a command goes to. -/
def State.commandAddress (s : State) (c : Command) : Option Nat := s.live.bind fun b => b.addressOf c.station

/-- R167: a command leaves the queue. -/
def LoopPort.takeCommand (l : LoopPort) (c : Command) : LoopPort := { l with commands := l.commands.erase c }

/-- R164: a frame of the part's own: its source is the own address. -/
def State.frameTo (s : State) (dest : Nat) (kind : Byte) (body : List Byte) : Frame := ⟨b8 dest, b8 s.own, kind, body⟩

/-- R164, Table 35: the frame of a command to the station at an address. -/
def State.commandFrame (s : State) (c : Command) (address : Nat) : Frame := s.frameTo address kindCommand c.body

/-- R164: the frame of a response, addressed to the desk. -/
def State.responseFrame (s : State) (body : List Byte) : Frame := s.frameTo 0 kindResponse body

/-- R164, R178: the STATUS frame, addressed to the desk. -/
def State.statusFrame (s : State) : Frame := s.frameTo 0 kindStatus s.statusBody

/-- R184: the next unsent frame of the oldest response begins; the response leaves the queue with its last frame. -/
def State.beginResponse (s : State) : Option State :=
  match s.loop.responses with
  | (b :: []) :: rs => some (s.setLoop { s.loop with tx := .own (.response (s.responseFrame b) false), responses := rs })
  | (b :: rest) :: rs => some (s.setLoop { s.loop with tx := .own (.response (s.responseFrame b) true), responses := rest :: rs })
  | _ => none

/-- R165: the next frame of the window begins. A command without a station is taken unsent, its owner being told at once (R164). DEDUCED
(log 92): a command placed between two frames of one response goes before the second of them (R184). -/
def State.beginNext : Nat → State → State
  | 0, s => s
  | n + 1, s =>
    match s.loop.nextCommand with
    | some c =>
      let s1 := s.setLoop (s.loop.takeCommand c)
      match s.commandAddress c with
      | some a => s1.setLoop { s1.loop with tx := .own (.command c (s.commandFrame c a) false) }
      | none => State.beginNext n (s1.commandSent c)
    | none =>
      match s.beginResponse with
      | some t => t
      | none => s.setLoop { s.loop with tx := .own (.status s.statusFrame) }

/-- R165: the next frame of the window; every command of the queue may be passed over. -/
def State.nextOwn (s : State) : State := State.beginNext (s.loop.commands.length + 1) s

/-- R165: the three conditions under which an ARMED window opens. -/
def LoopPort.mayOpen (l : LoopPort) : Bool := l.window == .armed && l.tailForwarded && l.buffer.isEmpty && l.lineQuiet

/-- R165: the window opens where it may, and the part sends its own frames. DEDUCED (log 69): where the transmitter is still sending a
frame that passes, the first of them begins at that frame's end, since own frames stand only between whole frames (R160). -/
def State.tryOpen (s : State) : State :=
  if s.loop.mayOpen then
    let s1 := s.setLoop { s.loop with window := .sending }
    if s.loop.tx = .idle then s1.nextOwn else s1
  else s

/-- R165: the quiet gap has passed. -/
def State.lineWentQuiet (s : State) : State := (s.setLoop { s.loop with lineQuiet := true }).tryOpen

/-- Whether a frame is a valid SCAN TAIL. -/
def LineFrame.isTail : LineFrame → Bool
  | .valid f => f.kind == kindScanTail
  | .bad _ => false

/-- R165: whether the SCAN TAIL has been forwarded once the frame `f` has been sent: no later one stands in the through-buffer. -/
def LoopPort.tailPast (l : LoopPort) (f : LineFrame) : Bool := l.tailForwarded || (f.isTail && !l.buffer.any LineFrame.isTail)

/-- R165: the moment at which a frame that passes has been sent, a frame arriving upstream or not: an arriving one starts the count of the
quiet gap again from its own end. -/
def LoopPort.passedOn (l : LoopPort) (f : LineFrame) (arriving : Bool) : LoopPort :=
  { l with tx := .idle, tailForwarded := l.tailPast f, lineQuiet := l.lineQuiet && !arriving }

/-- R160, R165: a forwarded frame has been sent. A window that opened meanwhile begins its frames; otherwise the oldest buffered frame
follows, and the window opens where it may. The line tells whether a frame is arriving then (log 20). -/
def State.throughSent (s : State) (arriving : Bool) : State :=
  match s.loop.tx with
  | .through f =>
    let l := s.loop.passedOn f arriving
    if l.window = .sending then (s.setLoop l).nextOwn else (s.setLoop l.startThrough).tryOpen
  | _ => s

/-- R167: the owner of a command is told that it was sent. -/
def State.tellOwner (s : State) (o : OwnFrame) : State :=
  match o with
  | .command c _ _ => s.commandSent c
  | _ => s

/-- R165, R166: a frame of the part's own has been sent: the window ends, yields, or goes on. -/
def State.ownSent (s : State) : State :=
  match s.loop.tx with
  | .own o =>
    let s1 := (s.tellOwner o)
    let s2 := s1.setLoop { s1.loop with tx := .idle }
    match o with
    | .status _ => s2.setLoop s2.loop.endWindow.startThrough
    | _ =>
      if Config.yieldAt ≤ s2.loop.buffer.length then s2.setLoop s2.loop.endWindow.startThrough else s2.nextOwn
  | _ => s

/-! ## Bad frames (R158, R162) -/

/-- R162: a bad frame is counted. -/
def State.countBad (s : State) : State :=
  let n := min 255 (s.loop.checkErrors + 1)
  let s1 := s.setLoop { s.loop with checkErrors := n }
  if 8 ≤ n ∧ s.loop.checkMark = false then (s1.setLoop { s1.loop with checkMark := true }).raise srcCheckErrors else s1

/-- R158: a bad frame is forwarded with exactly the characters received, and counted. -/
def State.badFrame (s : State) (chars : List Byte) : State := (s.forward (.bad chars)).countBad

/-! ## Routing (R163, R182, Table 29) -/

/-- R163, R182: a report of a station, routed by its role. -/
def State.routeTo (s : State) (b : Bank) (st : Station) (body : List Byte) : State :=
  match st with
  | .lift h => match liftBody body with
    | some x => s.takeLift b h x
    | none => s
  | .meter m => match meterBody body with
    | some x => s.takeMeter b m x.1 x.2
    | none => s
  | .point p => match pointBody body with
    | some x => s.pointReport b p x.1 x.2
    | none => s
  | .valve v => match positionBody body with
    | some x => (s.positionReport v x).settled
    | none => s
  | .governor d => match governorBody body with
    | some x => s.governorReport b d x.1 x.2
    | none => s
  | .calorimeter => match pointBody body with
    | some x => s.calorimeterReport x.1 x.2
    | none => s
  | .barometer => match pointBody body with
    | some x => s.barometerReport x.1 x.2
    | none => s

/-- R163: a report is handed to the Station Map, whatever its destination. In UNCONFIGURED mode nothing is routed. -/
def State.routeReport (s : State) (src : Byte) (body : List Byte) : State :=
  match s.live with
  | some b => match b.resolve src.toNat with
    | some st => s.routeTo b st body
    | none => s
  | none => s

/-- R163: an answer to the part is handed to the Station Map; only one of a VALVE role is acted on. -/
def State.routeAnswer (s : State) (src : Byte) (body : List Byte) : State :=
  match s.live with
  | some b => match b.resolve src.toNat, answerBody body with
    | some (.valve v), some (tag, a) => (s.valveAnswer b v tag a).settled
    | _, _ => s
  | none => s

/-- R161: a REPORT frame. -/
def State.receiveReport (s : State) (dest src : Byte) (body : List Byte) : State :=
  (s.forward (.valid ⟨dest, src, kindReport, body⟩)).routeReport src body

/-- R161: an ANSWER frame, handed on when its destination is the part's own address. -/
def State.receiveAnswer (s : State) (dest src : Byte) (body : List Byte) : State :=
  let s1 := s.forward (.valid ⟨dest, src, kindAnswer, body⟩)
  if dest.toNat = s.own then s1.routeAnswer src body else s1

/-! ## Loop recovery, SCAN HEAD and SCAN TAIL (R161, R165, R169, R177) -/

/-- R177: the deferred LOOP LOST occurrence is entered under the map in force at recovery. -/
def State.enterDeferred (s : State) : State :=
  match s.attn.deferred with
  | some t => (s.setAttn { s.attn with deferred := none }).raiseAt srcLoopLost t
  | none => s

/-- R169: the blocks take the recovery; the Programme Unit and the Valve Controller in either order. -/
def State.blocksRecover (s : State) (b : Bank) (programmeFirst : Bool) : State :=
  let s1 := (s.metersRecover b).governorsRecover b
  if programmeFirst then (s1.settled.valvesRecover b).settled else (s1.valvesRecover b).settled

/-- R169, R177: loop recovery, by a SCAN HEAD under LOOP_LOST. DEDUCED (log 84): the LOOP LOST occurrence is entered before those that
the blocks' recovery raises. -/
def State.recover (s : State) (programmeFirst : Bool) : State :=
  let s1 := (s.setLoop { s.loop with lost := false }).enterDeferred
  match s.live with
  | some b => s1.blocksRecover b programmeFirst
  | none => s1

/-- R161, R162, R165, R169: a SCAN HEAD at the Loop Port. -/
def LoopPort.head (l : LoopPort) (cycle : Byte) (t : Nat) : LoopPort :=
  { l with
    lossExpiry := t + Config.lossTime, cycle := some cycle, checkErrors := 0, checkMark := false,
    window := if l.window = .armed then .idle else l.window, rearm := false }

/-- R161: a SCAN HEAD frame. -/
def State.receiveHead (s : State) (dest src cycle : Byte) (programmeFirst : Bool) : State :=
  let s1 := s.forward (.valid ⟨dest, src, kindScanHead, [cycle]⟩)
  let s2 := s1.setLoop (s1.loop.head cycle s.timebase)
  if s.loop.lost then s2.recover programmeFirst else s2

/-- R165: a SCAN TAIL at the Loop Port. DEDUCED (log 79): the SCAN TAIL that must have been forwarded is the latest one received, so that
one forwarded before it counts no more; where the latest was dropped (R160), it is the last of those still to be forwarded. -/
def LoopPort.tail (l : LoopPort) : LoopPort :=
  if l.window = .sending then { l with rearm := true, tailForwarded := false } else { l with window := .armed, tailForwarded := false }

/-- R161: a SCAN TAIL frame. -/
def State.receiveTail (s : State) (dest src : Byte) (body : List Byte) : State :=
  let s1 := s.forward (.valid ⟨dest, src, kindScanTail, body⟩)
  s1.setLoop s1.loop.tail

/-- R169, R177: the loop becomes LOOP_LOST: its source is deferred, the blocks withdraw and hold, the open interval is flagged. -/
def State.becomeLost (s : State) : State :=
  let s1 := (s.setLoop { s.loop with lost := true }).setAttn { s.attn with deferred := some s.now }
  (s1.valvesLost.governorsLost).yardFlag { YardFlags.none with loopLost := true }

end Sys2Proof.Machine
end

