-- ==== Sys2Proof/Machine/Time.lean ====
section
/-! DEFINITION. Time: the part's timebase and the clock it advances, the expiries of the timers, the boundaries of the clock, and the
completion of the store's write. DESIGN CHOICE (log 11): the command that says a timer has expired, or that the clock has reached a
boundary, brings the timebase and the clock to that moment where they have not reached it. -/

namespace Sys2Proof.Machine

/-! ## Passing time (R125) -/

/-- R125: the timebase and the clock advance together. -/
def State.passMs (s : State) (n : Nat) : State := { s with timebase := s.timebase + n, clock := s.clock.advance n }

/-- The timebase comes to `t`, unless it has reached it. -/
def State.passTo (s : State) (t : Nat) : State := s.passMs (t - s.timebase)

/-- The clock comes to the second `t` seconds after day 0, second 0, unless it has reached it. -/
def State.passToSec (s : State) (t : Nat) : State := s.passMs (t * 1000 - s.clock.totalMs)

/-! ## Expiries -/

/-- R169: the loss timer expires with the loop UP. -/
def State.lossExpired (s : State) : State := if s.loop.lost then s else (s.passTo s.loop.lossExpiry).becomeLost

/-- R33: the time at which a channel's stall timer expires, where it runs. -/
def State.stallExpiry (s : State) (b : Bank) (m : Fin 12) : Option Nat :=
  let c := s.channels[m]
  if c.state == .measuring && b.meters[m].inUse && !s.loop.lost then c.stallStart.map (· + b.meters[m].stall * 1000) else none

/-- R33: the stall timer of a channel expires. -/
def State.stallExpired (s : State) (m : Fin 12) : State :=
  match s.live with
  | some b => match s.stallExpiry b m with
    | some e => (s.passTo e).enterStalled m
    | none => s
  | none => s

/-- R41, R44: the time at which a FRESH record's stale timer expires. -/
def PointRec.staleExpiry (r : PointRec) (stale : Nat) : Option Nat :=
  match r.state with
  | .fresh => r.usable.map (· + stale * 1000)
  | _ => none

/-- R41, R43: the stale timer of a point or of the barometer expires. -/
def State.staleExpired (s : State) (r : Fin 25) : State :=
  match s.live with
  | some b => match (s.staleRec r).staleExpiry b.yard.pointStale with
    | some e => (s.passTo e).goStale r
    | none => s
  | none => s

/-- R44: the calorimeter's stale timer expires. -/
def State.cvStaleExpired (s : State) : State :=
  match s.live with
  | some b => match s.calorimeter.staleExpiry b.yard.cvStale with
    | some e => (s.passTo e).goCvStale
    | none => s
  | none => s

/-- R69: the answer timer of a valve expires. -/
def State.answerExpired (s : State) (v : Fin 8) : State :=
  match s.valves[v].answerTimer with
  | some e => ((s.passTo e).missedAnswer v .noAnswer).settled
  | none => s

/-- R70: the travel timer of a valve expires. -/
def State.travelExpired (s : State) (v : Fin 8) : State :=
  match s.valves[v].travelTimer with
  | some e => ((s.passTo e).endStuck v .travelTimeout).settled
  | none => s

/-- R108, R111: the review timer of a district expires. -/
def State.reviewDone (s : State) (d : Fin 6) : State :=
  match s.live, s.districts[d].reviewTimer with
  | some b, some e => if b.districts[d].used then (s.passTo e).reviewExpired b d else s
  | _, _ => s

/-! ## The clock's boundaries (R125, R126, R133) -/

/-- R126: the new slot is in force and is given to the Programme Unit, which enters a SLOT trigger (R87). -/
def State.giveSlot (s : State) : State := ((s.setClock s.clock.takeSlot).enterTrigger .slot).settled

/-- R126: the next half-hour boundary of the clock, in seconds since day 0. -/
def Clock.nextBoundary (c : Clock) : Nat := c.day * 86400 + (c.sec / 1800 + 1) * 1800

/-- The seconds since day 0 at which the clock stops. -/
def lastTotal : Nat := Config.lastDay * 86400 + Config.lastSecond

/-- R126: the VALID clock reaches a half-hour boundary. -/
def State.slotBoundary (s : State) : State :=
  if s.clock.slotDue then s.giveSlot
  else if s.clock.valid && s.clock.advancing && decide (s.clock.nextBoundary ≤ lastTotal) then
    (s.passToSec s.clock.nextBoundary).giveSlot
  else s

/-- R133: the nominal end of the open interval, in seconds since day 0. -/
def State.nominalEnd (s : State) : Option Nat := (s.accounts.interval.bind OpenInterval.nominalEnd).map WallTime.total

/-- The clock's seconds since day 0. -/
def Clock.totalSec (c : Clock) : Nat := c.day * 86400 + c.sec

/-- R133: the open interval closes at the clock's time, without a clock flag. -/
def State.closeNow (s : State) : State :=
  match s.live with
  | some b => s.closeInterval b YardFlags.none YardFlags.none s.clock.wall
  | none => s

/-- R133: the VALID clock reaches the nominal end of the open interval. -/
def State.nominalEndReached (s : State) : State :=
  match s.nominalEnd with
  | some e =>
    if s.clock.valid then
      if e ≤ s.clock.totalSec then s.closeNow
      else if s.clock.advancing && decide (e ≤ lastTotal) then (s.passToSec e).closeNow
      else s
    else s
  | none => s

/-- R125: the clock reaches second 86,399 of day 65,535 and stands there. -/
def State.clockStops (s : State) : State :=
  if s.clock.advancing then
    let s1 := s.passToSec lastTotal
    s1.setClock { s1.clock with advancing := false }
  else s

/-! ## The store's write (R155) -/

/-- R155: the write completes and is read back. -/
def TableStore.written (t : TableStore) (agrees : Bool) : TableStore :=
  if agrees then { t with store := .valid, storeGen := t.generation, copy := t.live } else { t with store := .failed }

/-- R155: the nonvolatile write of the live bank completes. -/
def State.storeWritten (s : State) (agrees : Bool) : State :=
  if s.tables.store = .writing ∧ s.running then
    let s1 := s.setTables (s.tables.written agrees)
    if agrees then s1 else s1.raise srcStoreFault
  else s

/-! ## A tick -/

/-- Whether a time has come. -/
def State.due (s : State) (e : Option Nat) : Bool := timerBy e s.timebase

/-- What falls due at the timebase, one after the other. The completion of the store's write is not among it: STORE_WRITE_COMPLETE alone
gives it (R155, log 68). -/
def State.takeDue (s : State) : State :=
  let s := if !s.loop.lost && decide (s.loop.lossExpiry ≤ s.timebase) then s.lossExpired else s
  let s := forEach (fun m s => if s.due (s.live.bind fun b => s.stallExpiry b m) then s.stallExpired m else s) s
  let s := forEach (fun r s =>
    if s.due (s.live.bind fun b => (s.staleRec r).staleExpiry b.yard.pointStale) then s.staleExpired r else s) s
  let s := if s.due (s.live.bind fun b => s.calorimeter.staleExpiry b.yard.cvStale) then s.cvStaleExpired else s
  let s := forEach (fun v s => if s.due s.valves[v].answerTimer then s.answerExpired v else s) s
  let s := forEach (fun v s => if s.due s.valves[v].travelTimer then s.travelExpired v else s) s
  let s := forEach (fun d s => if s.due s.districts[d].reviewTimer then s.reviewDone d else s) s
  let s := if s.clock.slotDue then s.slotBoundary else s
  let s := if s.clock.valid && timerBy s.nominalEnd s.clock.totalSec then s.nominalEndReached else s
  if s.clock.advancing && s.clock.atLast then s.clockStops else s

/-- DESIGN CHOICE (log 3): with no command waiting, 1 ms passes, and what falls due then is taken. -/
def State.tick (s : State) : State := s.whenOn fun s => (s.passMs 1).takeDue

end Sys2Proof.Machine
end

