-- ==== Sys2Proof/Machine/Response.lean ====
section
/-! DEFINITION. The responses of the Directive Handler (R172, R183 to R185): the header, the placing in the response queue, and the
data that Tables 38 to 40 lay out. -/

namespace Sys2Proof.Machine

/-- R172: the reasons of a refusal. -/
inductive Reason where
  | unconfigured | outOfRange | badTable | committed | notPermitted | conditionPresent | inTransition | gone | unknownDirective
  deriving DecidableEq, Repr

/-- Section 11.3: the outcome byte of a refusal. -/
def Reason.code : Reason → Nat
  | .unconfigured => 1 | .outOfRange => 2 | .badTable => 3 | .committed => 4 | .notPermitted => 5 | .conditionPresent => 6
  | .inTransition => 7 | .gone => 8 | .unknownDirective => 9

/-- R172: the outcome of a directive: accepted with its data, one list for each frame, or refused. -/
inductive Reply where
  | accepted (parts : List (List Byte))
  | refused (reason : Reason) (data : List Byte)
  deriving DecidableEq, Repr

/-- Section 11.3: a response body: code, reference, outcome, part number, part count, data. -/
def responseBody (code ref outcome part parts : Nat) (data : List Byte) : List Byte :=
  [b8 code, b8 ref, b8 outcome, b8 part, b8 parts] ++ data

/-- R183, R184: the bodies of the frames of a response. -/
def Reply.frames (code ref : Byte) : Reply → List (List Byte)
  | .accepted parts => (parts.zipIdx 1).map fun x => responseBody code.toNat ref.toNat 0 x.2 parts.length x.1
  | .refused r data => [responseBody code.toNat ref.toNat r.code 1 1 data]

/-- R172: the response is placed in the response queue. -/
def State.respond (s : State) (code ref : Byte) (r : Reply) : State :=
  { s with loop := { s.loop with responses := s.loop.responses ++ [r.frames code ref] }, drawn := s.drawn + 1 }

/-- What a directive does: a state and an outcome. -/
abbrev Act := State × Reply

/-- One frame of data. -/
def one (data : List Byte) : Reply := .accepted [data]

/-- A refusal without data; nothing changes (R172). -/
def State.refuse (s : State) (r : Reason) : Act := (s, .refused r [])

/-- The value of a free place in the response being made (log 5). -/
def State.free (s : State) (p : Config.Unstated) : Nat := Config.unstated s.drawn p

/-! ## Pieces of data -/

/-- The live generation. -/
def State.genBytes (s : State) : List Byte := putN 2 s.tables.generation

/-- Loaded marks, table 1 in bit 0. -/
def TableStore.markBytes (t : TableStore) : List Byte := putN 2 (bitsOf t.marks.toList)

/-- The time remaining on a timer, in ms. -/
def remaining (t expiry : Nat) : List Byte := putN 4 (expiry - t)

/-- A wall time. -/
def WallTime.bytes (w : WallTime) : List Byte := putN 2 w.day ++ putN 3 w.sec

/-- A demand. -/
def Demand.bytes (d : Demand) : List Byte := [b8 d.dir.code, b8 d.origin.code]

/-- READ HOLDER: the cupped lift set, lift 2 in bit 0. -/
def cuppedBits (cupped : List Nat) : Nat := bitsOf [cupped.contains 2, cupped.contains 3, cupped.contains 4]

/-- Table 40, READ HOLDER. -/
def State.holderData (s : State) (b : Bank) (h : Fin 4) : List Byte :=
  let r := s.holders[h]
  [b8 (h.val + 1)] ++ putMark (b.fitted h) ++ s.genBytes ++ putN 2 r.count ++ [b8 (certainCode r.certain), b8 (cuppedBits r.cupped)] ++
    putN 2 r.expected ++ putN 3 r.geoVolume ++ [b8 r.outRun, b8 r.inRun] ++ putMark r.liftFault ++
    [b8 r.note.kind.code, b8 (r.note.datum.getD 0)] ++ putTime r.note.time ++
    putOpt 7 (fun (d : LastDatum) => [b8 d.number] ++ putS 2 d.slip ++ putTime d.time) r.lastDatum ++
    [b8 (certainCode r.savedCertain)]

/-- Table 40: a permission record. -/
def PermRec.bytes (p : PermRec) : List Byte :=
  [b8 (if p.granted then 0 else 1)] ++ putOpt 1 (fun (c : PermCause) => [b8 c.code]) p.cause ++ putOpt 2 (putN 2) p.count ++
    putOpt 4 putTime p.time

/-- Table 40: the last answer. DEDUCED (log 29): the reason is 0 where the answer has none. -/
def LastAnswer.bytes (a : LastAnswer) : List Byte :=
  [b8 a.answer.code, (match a.answer with
    | .refused r => b8 r.code
    | _ => 0), a.tag] ++ putTime a.time ++ [if a.acted then 0 else 1]

/-- Table 40: the last failure. Its demand is a free value where there was none (log 5). -/
def State.failureBytes (s : State) (f : LastFailure) : List Byte :=
  [b8 f.cause.code] ++
    (match f.demand with
      | some d => d.bytes
      | none => [b8 (s.free .failureDirection), b8 (s.free .failureOrigin)]) ++ putTime f.time

/-- Table 40, READ VALVE. -/
def State.valveData (s : State) (b : Bank) (v : Fin 8) : List Byte :=
  let r := s.valves[v]
  [b8 (v.val + 1)] ++ putMark (b.fitted (holderOf v)) ++ s.genBytes ++ [b8 r.state.code] ++
    putOpt 5 (fun (p : Reported) => [b8 p.pos.code] ++ putTime p.time) r.reported ++ putOpt 2 Demand.bytes r.demand ++
    putMark r.joined ++ [b8 r.phase.code, r.tag] ++ putOpt 4 (remaining s.timebase) r.answerTimer ++
    putOpt 4 (remaining s.timebase) r.travelTimer ++ [b8 r.reissue] ++ putOpt 8 LastAnswer.bytes r.lastAnswer ++
    putOpt 7 s.failureBytes r.lastFailure ++ s.perms[v].bytes

/-- Table 40, READ METER: the share of the open interval, all 0 for a channel not in use. -/
def State.shareBytes (s : State) (b : Bank) (m : Fin 12) : List Byte :=
  match b.meters[m].inUse, s.accounts.interval with
  | true, some iv =>
    let c := iv.channels[m]
    putN 8 c.volume ++ putN 8 c.energy ++ putN 2 c.volumeIn ++ putN 4 c.energyIn ++ [b8 c.flags.bits]
  | _, _ => List.replicate 23 0

/-- Table 40, READ METER. -/
def State.meterData (s : State) (b : Bank) (m : Fin 12) : List Byte :=
  let r := s.channels[m]
  let e := b.meters[m]
  [b8 (m.val + 1)] ++ putMark e.inUse ++ [b8 e.role] ++ putN 2 e.k ++ s.genBytes ++ [b8 r.state.code] ++
    putOpt 2 (putN 2) r.reference ++ putMark r.waiver ++
    putOpt 8 (fun (w : RateWindow) => putN 2 w.startPulse ++ putTime w.startArrival ++ putN 2 w.pulses) r.window ++ putN 4 r.rate ++
    putOpt 4 putTime r.rateTime ++ putOpt 4 putTime r.stallStart ++
    putOpt 8 (fun (x : MeterLast) => putN 2 x.register ++ putN 2 x.pulseTime ++ putTime x.arrival) r.lastReport ++
    putOpt 8 (fun (x : MeterJump) => putN 2 x.before ++ putN 2 x.reported ++ putTime x.arrival) r.lastJump ++ s.shareBytes b m

/-- Table 40, READ DISTRICT: the last review. -/
def State.reviewBytes (s : State) (r : Review) : List Byte :=
  putTime r.time ++ putN 2 r.s ++ putN 2 r.boost ++ putN 2 r.trim ++ putI 2 r.target4 ++ putI 2 r.target5 ++ putI 2 r.target6 ++
    putOpt 2 (putS 2) r.headroom ++
    [b8 ((r.source.map InletSource.code).getD (s.free .inletSource))] ++ putN 2 r.result ++ [b8 r.outcome.code]

/-- Table 40: the state and value of a point. -/
def PointRec.stateValue (r : PointRec) : List Byte := [b8 r.state.code] ++ putS 2 (r.value.getD 0)

/-- Table 40, READ DISTRICT: the state and value of a point that the entry names. A district not in use may name a point that does not
exist; what is then carried is free (log 66). -/
def State.namedPoint (s : State) (p which : Nat) : List Byte :=
  match pointPlace p with
  | some i => s.points[i].stateValue
  | none => [b8 (s.free (.pointState which))] ++ bytesOf 2 (s.free (.pointValue which))

/-- Table 40, READ DISTRICT. DEDUCED (log 30): the rate of the last review is 0 where there is none. -/
def State.districtData (s : State) (b : Bank) (d : Fin 6) : List Byte :=
  let r := s.districts[d]
  let e := b.districts[d]
  [b8 (d.val + 1)] ++ putMark e.used ++ s.genBytes ++
    putOpt 7 (fun (x : GovReport) => putN 2 x.setpoint ++ [if x.hand then 1 else 0] ++ putTime x.time) r.reported ++
    putOpt 2 (putN 2) r.lastSent ++ putMark r.sendDue ++ [b8 r.refresh] ++ putN 2 r.trim ++ [b8 r.lowRun, b8 r.highRun] ++
    putOpt 4 (remaining s.timebase) r.reviewTimer ++ putOpt 23 s.reviewBytes r.lastReview ++ putMark r.headroom ++
    putOpt 3 (fun (c : DaySlot) => [b8 c.slot] ++ putN 2 c.day) r.clampSlot ++ putMark r.endLowStanding ++ putMark r.shortStanding ++
    [b8 (r.confirmed e.confirm).code] ++ s.namedPoint e.inletPoint 0 ++ s.namedPoint e.endPoint 1 ++
    putN 4 ((r.lastReview.map Review.rate).getD 0) ++ putOpt 2 (putN 2) (s.loop.unsentSet d)

/-- Table 40, READ POINT: the record of a number 1 to 24, the barometer 25 or the calorimeter 26. -/
def State.pointNo (s : State) (n : Nat) : Option PointRec :=
  match pointPlace n with
  | some p => some s.points[p]
  | none => if n = 25 then some s.barometer else if n = 26 then some s.calorimeter else none

/-- Table 40, READ POINT. -/
def State.pointData (s : State) (b : Bank) (n : Nat) (r : PointRec) : List Byte :=
  [b8 n] ++ s.genBytes ++ [b8 r.state.code] ++ putOpt 2 (putS 2) r.value ++ [b8 r.quality.code] ++ putOpt 4 putTime r.usable ++
    putOpt 8 (fun (x : PointLast) => putS 2 x.value ++ [b8 x.quality.code] ++ putTime x.arrival ++ [if x.taken then 0 else 1]) r.last ++
    putOpt 4 (fun u => putN 4 ((s.timebase - u) / 1000)) r.usable ++
    (if n = 26 then putN 2 (s.cvInForce b) ++ [if s.cvFresh then 0 else 1] else [0, 0, 0])

/-! ## Interval and day records (Tables 38 and 39) -/

/-- Table 38: a holder's part: the certainty in bit 0, the stock flags from bit 1 (log 31). -/
def HolderStock.bytes (h : HolderStock) : List Byte :=
  putN 3 h.stockOpen ++ putN 3 h.stockClose ++ [b8 (certainCode h.certain + 2 * h.flags.bits)]

/-- Table 38: role and channel flags of a channel in one byte. -/
def roleFlags (role : Nat) (f : ChannelFlags) : Byte := b8 (role % 4 + 4 * f.bits)

/-- Table 38: a channel of a record. -/
def ChannelRecord.bytes (c : ChannelRecord) : List Byte :=
  [roleFlags c.role c.flags] ++ putN 4 c.pulses ++ putN 4 c.raw ++ putN 4 c.corrected ++ putN 4 c.energy ++ putN 2 c.volumeIn ++
    putN 4 c.energyIn ++ putN 2 c.volumeOut ++ putN 4 c.energyOut

/-- Table 38: a channel of the open interval: the accumulators in the place of corrected volume and
energy, and nothing in that of the residues carried out. DEDUCED (log 33). -/
def ChannelShare.bytes (c : ChannelShare) : List Byte :=
  [roleFlags c.role c.flags] ++ putN 4 c.pulses ++ putN 4 c.raw ++ putN 8 c.volume ++ putN 8 c.energy ++ putN 2 c.volumeIn ++
    putN 4 c.energyIn

/-- Table 38: identity. -/
def Identity.bytes (i : Identity) : List Byte := putN 2 i.gasDay ++ [b8 i.index]

/-- Table 38, frame 1 of a record of the log. -/
def IntervalRecord.head (r : IntervalRecord) : List Byte :=
  putN 4 r.sequence ++ putOpt 3 Identity.bytes r.identity ++ putOpt 5 WallTime.bytes r.openTime ++ putOpt 5 WallTime.bytes r.closeTime ++
    putN 2 r.generation ++ putN 2 r.yard.bits ++ List.replicate 12 0 ++ putN 3 r.totalOpen ++ putN 3 r.totalClose ++ putN 4 r.make ++
    putN 4 r.send ++ putS 4 r.balance ++ r.holders.toList.flatMap HolderStock.bytes

/-- Table 38: a record of the log in three frames. -/
def IntervalRecord.parts (r : IntervalRecord) : List (List Byte) :=
  [r.head, (r.channels.toList.take 6).flatMap ChannelRecord.bytes, (r.channels.toList.drop 6).flatMap ChannelRecord.bytes]

/-- R144: the time remaining to the nominal end, in s. -/
def State.endRemaining (s : State) (iv : OpenInterval) : Option Nat := iv.nominalEnd.map fun e => e.total - s.clock.totalSec

/-- Table 38: a holder's part of the open interval. The stock flags at open (Table 20) stand in bits 1 and 2, STOCK_UNCERTAIN first
(DEDUCED, log 71); the certainty, which only a close gives, has no value yet (log 5). -/
def State.openHolderBytes (s : State) (iv : OpenInterval) (h : Fin 4) : List Byte :=
  putN 3 iv.stockOpen[h] ++ putN 3 0 ++
    [b8 (s.free (.openCertainty h.val) % 2 + 2 * bitsOf [iv.stockUncertainOpen, iv.stockHeldOpen])]

/-- Table 38, frame 1 of the open interval. -/
def State.openHead (s : State) (iv : OpenInterval) : List Byte :=
  putN 4 0 ++ putOpt 3 Identity.bytes iv.identity ++ putOpt 5 WallTime.bytes iv.openTime ++ List.replicate 6 0 ++
    putN 2 iv.generation ++ putN 2 iv.yard.bits ++ putOpt 5 WallTime.bytes iv.nominalEnd ++ putOpt 3 (putN 3) (s.endRemaining iv) ++
    s.genBytes ++ putN 3 (stockTotal iv.stockOpen) ++ putN 3 0 ++ putN 4 0 ++ putN 4 0 ++ putN 4 0 ++
    (List.finRange 4).flatMap (s.openHolderBytes iv)

/-- Table 38: the open interval in three frames. -/
def State.openParts (s : State) (iv : OpenInterval) : List (List Byte) :=
  [s.openHead iv, (iv.channels.toList.take 6).flatMap ChannelShare.bytes, (iv.channels.toList.drop 6).flatMap ChannelShare.bytes]

/-- Table 39: a channel of a day record. -/
def DayChannel.bytes (c : DayChannel) : List Byte := putN 4 c.volume ++ putN 4 c.energy ++ [b8 c.flags.bits]

/-- Table 39: a day record; open is coded 0, closed 1. -/
def DayRecord.bytes (d : DayRecord) (closed : Bool) : List Byte :=
  [if closed then 1 else 0] ++ putN 2 d.gasDay ++ putN 4 d.firstSeq ++ putN 4 d.lastSeq ++ putN 2 d.intervals ++
    d.channels.toList.flatMap DayChannel.bytes ++ putN 4 d.make ++ putN 4 d.send ++ putN 3 d.stockOpen ++ putN 3 d.stockClose ++
    putS 4 d.balance ++ putN 2 d.yard.bits

/-! ## The programme (R103) -/

/-- Table 40: a role record. -/
def RoleRec.bytes (r : RoleRec) : List Byte :=
  [b8 (roleCode r.role)] ++ putMark r.held ++ putMark r.retake ++ putMark r.lowMark ++ putMark r.highMark

/-- Table 40: a holder number, 0 where absent. -/
def holderNo (h : Option (Fin 4)) : Byte := b8 ((h.map fun x => x.val + 1).getD 0)

/-- Table 40: the transition in flight. -/
def Transition.bytes (t : Transition) : List Byte :=
  [b8 t.trigger.code, if t.shutting then 1 else 0, holderNo t.outgoing, holderNo t.incoming]

/-- Table 40: the four places of the deferred list; the places after its length carry 0 (log 32). -/
def deferredBytes (l : List Trigger) : List Byte := [b8 l.length] ++ ((l.map fun (t : Trigger) => b8 t.code) ++ List.replicate 4 0).take 4

/-- Table 40, HOLD ROLE and RELEASE ROLE. -/
def State.programmeData (s : State) : List Byte :=
  s.prog.roles.toList.flatMap RoleRec.bytes ++ putOpt 4 Transition.bytes s.prog.transition ++ deferredBytes s.prog.deferred

end Sys2Proof.Machine
end

