-- ==== Sys2Proof/Machine/Directives.lean ====
section
/-! DEFINITION. What each directive of Table 31 does (R172 to R174, and the rule the table names), as an act: a state and an outcome.
A refused directive changes no state but the response queue. -/

namespace Sys2Proof.Machine

/-- R168, R172: a directive handed to the Directive Handler. With 8 responses waiting it is not acted on; a body of a wrong length is
refused with OUT_OF_RANGE; otherwise it is acted on and its response is placed. -/
def State.directive (s : State) (code ref : Byte) (lengthOk : Bool) (act : State → Act) : State :=
  if Config.responsePlaces ≤ s.loop.responses.length then s.raise srcOverrun
  else if lengthOk then (act s).1.respond code ref (act s).2
  else s.respond code ref (.refused .outOfRange [])

/-- R173: a directive that is refused with UNCONFIGURED without a live bank. -/
def State.withBank (s : State) (f : Bank → Act) : Act :=
  match s.live with
  | some b => f b
  | none => s.refuse .unconfigured

/-- The parameters of a directive, as numbers of the given widths (Table 36). -/
def param (ws : List Nat) (ps : List Byte) (i : Nat) : Nat := fld (fieldsOf ws ps) i

/-! ## The pending bank (R148 to R153) -/

/-- R148: whether a segment lies within a table. -/
def segmentOk (t first n : Nat) : Bool := within 1 12 t && within 1 24 n && decide (first + n ≤ entryCount t)

/-- Table 36: the body length of LOAD SEGMENT, which needs an entry size (log 34). -/
def loadLengthOk (ps : List Byte) : Bool :=
  let t := param [1, 2, 1] ps 0
  decide (4 ≤ ps.length) && (!within 1 12 t || (ps.drop 4).length == param [1, 2, 1] ps 2 * entrySize t)

/-- R148: entries written into a table of the pending bank, and its mark set. -/
def TableStore.load (t : TableStore) (id first n : Nat) (entries : List Byte) : TableStore :=
  { t with pending := Bank.loadEntries id n first entries t.pending, marks := t.marks.setIfInBounds (id - 1) true }

/-- R148. -/
def State.actLoadSegment (s : State) (ps : List Byte) : Act :=
  let t := param [1, 2, 1] ps 0
  let first := param [1, 2, 1] ps 1
  let n := param [1, 2, 1] ps 2
  if s.tables.committed then s.refuse .committed
  else if segmentOk t first n then
    let s1 := s.setTables (s.tables.load t first n (ps.drop 4))
    (s1, one ([b8 t] ++ putN 2 first ++ [b8 n] ++ s1.tables.markBytes))
  else s.refuse .outOfRange

/-- Table 40: the place byte of a broken condition; one stated in prose has no place (log 5). -/
def State.placeByte (s : State) (k : Break) : Byte :=
  match k.place with
  | .listed n => b8 n
  | .prose w => b8 (s.free (.prosePlace k.rule w))

/-- Table 40: the data of BAD_TABLE. -/
def State.breakData (s : State) (k : Break) : List Byte := [b8 k.table] ++ putN 2 k.index ++ [b8 k.rule, s.placeByte k]

/-- R152: a COMMIT that passes every check. -/
def State.commitPassed (s : State) : State :=
  match s.live with
  | some b =>
    let s1 := s.setTables { s.tables with committed := true }
    if s.clock.valid then s1 else s1.closeInterval b YardFlags.none YardFlags.none none
  | none => s.swapTables.takeLive s.tables.pending true

/-- Table 40: live generation and commit state. -/
def State.commitData (s : State) : List Byte := s.genBytes ++ [b8 (commitCode s.tables.committed)]

/-- R150, R152. -/
def State.actCommit (s : State) : Act :=
  if s.tables.committed then s.refuse .committed
  else match s.commitBreak with
    | some k => (s, .refused .badTable (s.breakData k))
    | none => (s.commitPassed, one s.commitPassed.commitData)

/-- R153: the pending bank after DISCARD. -/
def TableStore.discard (t : TableStore) : TableStore :=
  match t.live with
  | some b => { t with pending := b, marks := Vector.replicate 12 true, committed := false }
  | none => { t with pending := Bank.blank, marks := Vector.replicate 12 false, committed := false }

/-- R153. -/
def State.actDiscard (s : State) : Act := (s.setTables s.tables.discard, one s.commitData)

/-- R149: the data of READ TABLE from a bank. -/
def State.tableData (s : State) (bank t first n : Nat) (b : Bank) : List Byte :=
  [b8 bank, b8 t] ++ putN 2 first ++ [b8 n] ++ s.commitData ++ s.tables.markBytes ++ b.readEntries t n first

/-- R149, R183: READ TABLE of a bank that is there. -/
def State.readBank (s : State) (bank t first n : Nat) (b : Bank) : Act :=
  if segmentOk t first n && decide (n * entrySize t ≤ 185) then (s, one (s.tableData bank t first n b)) else s.refuse .outOfRange

/-- R149: LIVE is bank 0, PENDING bank 1. -/
def State.actReadTable (s : State) (ps : List Byte) : Act :=
  let w := [1, 1, 2, 1]
  match param w ps 0 with
  | 0 => s.withBank fun b => s.readBank 0 (param w ps 1) (param w ps 2) (param w ps 3) b
  | 1 => s.readBank 1 (param w ps 1) (param w ps 2) (param w ps 3) s.tables.pending
  | _ => s.refuse .outOfRange

/-! ## The accounts (R138 to R146) -/

/-- The record of the account log with a sequence number. -/
def Logs.find (l : Logs) (q : Nat) : Option IntervalRecord := l.log.find? fun r => r.sequence == q

/-- R144: the oldest and newest sequence numbers held; without a record, free values (log 5). -/
def State.oldestSeq (s : State) : Nat := (s.accounts.logs.log.head?.map IntervalRecord.sequence).getD (s.free .goneSequence)
def State.newestSeq (s : State) : Nat := (s.accounts.logs.log.getLast?.map IntervalRecord.sequence).getD (s.free .goneSequence)

/-- R144, R145: a record taken sets the read cursor. -/
def State.readRecord (s : State) (r : IntervalRecord) : Act :=
  (s.setAccounts { s.accounts with cursor := some r.sequence }, .accepted r.parts)

/-- R144. -/
def State.actReadInterval (s : State) (q : Nat) : Act :=
  if q = 0 then
    match s.live, s.accounts.interval with
    | some _, some iv => (s, .accepted (s.openParts iv))
    | _, _ => s.refuse .unconfigured
  else match s.accounts.logs.find q with
    | some r => s.readRecord r
    | none =>
      if s.accounts.logs.lastSeq < q then s.refuse .outOfRange
      else (s, .refused .gone (putN 4 s.oldestSeq ++ putN 4 s.newestSeq))

/-- R145. -/
def State.actReadNext (s : State) : Act :=
  let l := s.accounts.logs
  match s.accounts.cursor with
  | none => match l.log with
    | [] => s.refuse .outOfRange
    | r :: _ => s.readRecord r
  | some c => match l.find (c + 1) with
    | some r => s.readRecord r
    | none => if l.log = [] ∨ l.lastSeq ≤ c then s.refuse .outOfRange else (s, .refused .gone (putN 4 s.oldestSeq))

/-- R146: the newest closed day record of a gas day. -/
def Logs.closedDay (l : Logs) (g : Nat) : Option DayRecord := l.daily.reverse.find? fun d => d.gasDay == g

/-- R146. The gas days of an empty daily log are free values (log 5). -/
def State.actReadDay (s : State) (g : Nat) : Act :=
  let l := s.accounts.logs
  match l.openDay.filter fun d => d.gasDay == g with
  | some d => (s, one (d.bytes false))
  | none => match l.closedDay g with
    | some d => (s, one (d.bytes true))
    | none => (s, .refused .gone
        (putN 2 ((l.daily.head?.map DayRecord.gasDay).getD (s.free .goneOldestDay)) ++
          putN 2 ((l.daily.getLast?.map DayRecord.gasDay).getD (s.free .goneNewestDay))))

/-- R138: the cases of a SET CLOCK (Table 40). -/
inductive ClockCase where
  | fromInvalid | stepOfZero | adjusted | clockStep
  deriving DecidableEq, Repr

def ClockCase.code : ClockCase → Nat
  | .fromInvalid => 0 | .stepOfZero => 1 | .adjusted => 2 | .clockStep => 3

/-- Section 7.5: the step of a SET CLOCK. -/
def Clock.stepTo (c : Clock) (t : WallTime) : Int := ((t.day : Int) - c.day) * 86400 + ((t.sec : Int) - c.sec)

/-- R138 to R140: the case a SET CLOCK meets. -/
def Clock.caseOf (c : Clock) (t : WallTime) : ClockCase :=
  if c.valid then
    if c.stepTo t = 0 then .stepOfZero else if (c.stepTo t).natAbs ≤ 300 then .adjusted else .clockStep
  else .fromInvalid

/-- R128, R138: the open interval takes the identity, the nominal start and the nominal end of the new time. -/
def State.identify (s : State) (b : Bank) (t : WallTime) : State :=
  s.mapInterval fun iv => let p := b.yard.place t; { iv with
    identity := p.identity, nominalStart := p.nominalStart, nominalEnd := p.nominalEnd }

/-- R139: a step of 1 to 300 s. -/
def State.adjustTo (s : State) (b : Bank) (t : WallTime) : State :=
  let s1 := s.yardFlag { YardFlags.none with clockAdjusted := true }
  match s.nominalEnd with
  | some e =>
    if e ≤ t.total then s1.closeInterval b YardFlags.none { YardFlags.none with clockAdjusted := true } (some t) else s1
  | none => s1

/-- R138 to R140: the step at the open interval; `before` is the clock before the directive. -/
def State.applyStep (s : State) (b : Bank) (before : Clock) (t : WallTime) : State :=
  match before.caseOf t with
  | .fromInvalid => s.identify b t
  | .stepOfZero => s
  | .adjusted => s.adjustTo b t
  | .clockStep =>
    s.closeInterval b { YardFlags.none with clockStep := true } { YardFlags.none with clockStep := true } (some ⟨before.day, before.sec⟩)

/-- R126, R138: the clock takes the new time and the Programme Unit is given the slot. -/
def State.clockTo (s : State) (t : WallTime) : State := ((s.setClock (s.clock.setTo t)).enterTrigger .slot).settled

/-- Table 40, SET CLOCK. -/
def Clock.setData (c : Clock) (t : WallTime) : List Byte :=
  [b8 (clockCode c.valid)] ++ putN 2 c.day ++ putN 3 c.sec ++ t.bytes ++
    putOpt 4 (putS 4) (if c.valid then some (c.stepTo t) else none) ++ [b8 (c.caseOf t).code]

/-- R138. -/
def State.actSetClock (s : State) (t : WallTime) : Act :=
  s.withBank fun b =>
    if Config.lastSecond < t.sec ∨ (t.day = 0 ∧ t.sec < b.yard.gasSec) then s.refuse .outOfRange
    else ((s.clockTo t).applyStep b s.clock t, one (s.clock.setData t))

/-! ## Reading records (R4, R38, R48, R83, R124) -/

def State.actReadHolder (s : State) (n : Nat) : Act :=
  s.withBank fun b => match placeOf 4 n with
    | some h => (s, one (s.holderData b h))
    | none => s.refuse .outOfRange

def State.actReadValve (s : State) (n : Nat) : Act :=
  s.withBank fun b => match placeOf 8 n with
    | some v => (s, one (s.valveData b v))
    | none => s.refuse .outOfRange

def State.actReadMeter (s : State) (n : Nat) : Act :=
  s.withBank fun b => match placeOf 12 n with
    | some m => (s, one (s.meterData b m))
    | none => s.refuse .outOfRange

def State.actReadDistrict (s : State) (n : Nat) : Act :=
  s.withBank fun b => match placeOf 6 n with
    | some d => (s, one (s.districtData b d))
    | none => s.refuse .outOfRange

def State.actReadPoint (s : State) (n : Nat) : Act :=
  s.withBank fun b => match s.pointNo n with
    | some r => (s, one (s.pointData b n r))
    | none => s.refuse .outOfRange

/-! ## Valves and permissions (R64, R80, R81) -/

/-- A fitted holder of a number. -/
def Bank.fittedHolder (b : Bank) (n : Nat) : Option (Fin 4) := (placeOf 4 n).filter fun h => b.fitted h

/-- R64: a valve, of a fitted holder, of a number. -/
def Bank.fittedValve (b : Bank) (n : Nat) : Option (Fin 8) := (placeOf 8 n).filter fun v => b.fitted (holderOf v)

/-- R102: whether a valve has a demand in the transition in flight. -/
def State.inTransition (s : State) (v : Fin 8) : Bool := (s.prog.transition.map fun t => t.hasDemand v).getD false

/-- Table 40, VALVE. -/
def State.valveReply (s : State) (v : Fin 8) : List Byte :=
  [b8 (v.val + 1), b8 s.valves[v].state.code] ++ putOpt 2 Demand.bytes s.valves[v].demand

/-- R64: the demand of DESK origin offered. -/
def State.deskDemand (s : State) (v : Fin 8) (d : Dir) : Act :=
  match s.offer v ⟨d, .desk⟩ with
  | (_, .refused) => s.refuse .notPermitted
  | (s1, _) => (s1.settled, one (s1.valveReply v))

/-- R64, R102. -/
def State.actValve (s : State) (n dir : Nat) : Act :=
  s.withBank fun b => match b.fittedValve n, Dir.ofCode dir with
    | some v, some d => if s.inTransition v then s.refuse .inTransition else s.deskDemand v d
    | _, _ => s.refuse .outOfRange

/-- R81: the conditions of SET PERMIT. -/
def State.permitHolds (s : State) (b : Bank) (h : Fin 4) (sd : Side) : Bool :=
  let e := b.holders[h]
  s.holders[h].certain && (match sd with
    | .outlet => decide (e.lowStop + e.rePermit < s.holders[h].count)
    | .inlet => decide ((s.holders[h].count : Int) < (e.highStop : Int) - e.rePermit))

/-- Table 40, SET PERMIT. -/
def State.permReply (s : State) (h : Fin 4) (sd : Side) : List Byte :=
  [b8 (h.val + 1), b8 (match sd with
    | .inlet => 0
    | .outlet => 1)] ++ s.perms[valveOf h sd].bytes

/-- R81, R89: a permission restored. -/
def State.permit (s : State) (h : Fin 4) (sd : Side) : State :=
  (((s.setPerm (valveOf h sd) PermRec.initial).mapRole h fun r => { r with retake := true }).enterTrigger .reEvaluate).settled

/-- R81. -/
def State.actSetPermit (s : State) (n side : Nat) : Act :=
  s.withBank fun b => match b.fittedHolder n, Side.ofCode side with
    | some h, some sd =>
      if s.perms[valveOf h sd].granted then (s, one (s.permReply h sd))
      else if s.permitHolds b h sd then (s.permit h sd, one ((s.permit h sd).permReply h sd))
      else s.refuse .conditionPresent
    | _, _ => s.refuse .outOfRange

/-- R80. -/
def State.actWithdrawPermit (s : State) (n side : Nat) : Act :=
  s.withBank fun b => match b.fittedHolder n, Side.ofCode side with
    | some h, some sd =>
      let s1 := (s.withdraw h sd .desk s.holders[h].count).settled
      (s1, one (s1.permReply h sd ++ [b8 s1.valves[valveOf h sd].state.code]))
    | _, _ => s.refuse .outOfRange

/-! ## The programme (R103, R104) -/

/-- R103: whether a holder has an entry in the transition in flight. -/
def State.hasEntry (s : State) (h : Fin 4) : Bool :=
  (s.prog.transition.map fun t => t.entries.any fun e => e.holder = h).getD false

/-- R103: the hold of a holder; one already held is left as it stands. -/
def RoleRec.hold (r : RoleRec) : RoleRec := if r.held then r else { r with held := true, retake := false }

/-- R103. -/
def State.actHoldRole (s : State) (n : Nat) : Act :=
  s.withBank fun b => match b.fittedHolder n with
    | some h =>
      if (s.roleRec h).role = none then s.refuse .conditionPresent
      else if s.hasEntry h then s.refuse .inTransition
      else (s.mapRole h RoleRec.hold, one (s.mapRole h RoleRec.hold).programmeData)
    | none => s.refuse .outOfRange

/-- R104: a hold released. -/
def State.release (s : State) (h : Fin 4) : State :=
  if (s.roleRec h).held then
    ((s.mapRole h fun r => { r with held := false, retake := true }).enterTrigger .reEvaluate).settled
  else s

/-- R104. DEDUCED (log 65): the response carries the programme after the RE-EVALUATE trigger has been taken, where it may be. -/
def State.actReleaseRole (s : State) (n : Nat) : Act :=
  s.withBank fun b => match b.fittedHolder n with
    | some h => (s.release h, one (s.release h).programmeData)
    | none => s.refuse .outOfRange

/-! ## Presets, trims, attention, RESTART (R13, R116, R174, R179) -/

/-- R13. -/
def State.actPresetLift (s : State) (n count : Nat) : Act :=
  s.withBank fun b => match b.fittedHolder n with
    | some h =>
      if count ≤ b.holders[h].travel then
        (s.preset b h count, one ([b8 n] ++ putN 2 s.holders[h].count ++ [b8 (certainCode s.holders[h].certain)]))
      else s.refuse .outOfRange
    | none => s.refuse .outOfRange

/-- R116. -/
def State.actTrim (s : State) (n trim : Nat) : Act :=
  s.withBank fun b => match (placeOf 6 n).filter fun d => b.districts[d].used with
    | some d =>
      let s1 := s.trimTo b d trim
      (s1, one ([b8 n] ++ putN 2 s.districts[d].trim ++ putN 2 s1.districts[d].trim ++
        [b8 (s.districts[d].confirmed b.districts[d].confirm).code]))
    | none => s.refuse .outOfRange

/-- R179. -/
def State.actClearAttention (s : State) (n seen : Nat) : Act :=
  if h : n < 74 then
    let s1 := s.setAttn (s.attn.clear ⟨n, h⟩ seen)
    (s1, one [b8 n, b8 (s.attn.countOf ⟨n, h⟩), b8 (s1.attn.countOf ⟨n, h⟩)])
  else s.refuse .outOfRange

/-- Table 40, RESTART. -/
def State.restartData (s : State) : List Byte :=
  s.commitData ++ [b8 (clockCode s.clock.valid)] ++ putN 2 s.clock.day ++ putN 3 s.clock.sec ++ putN 4 (s.accounts.logs.lastSeq + 1)

/-- R174. The response's data are those of step 1; RESTART keeps the response queue (R171), so placing the response after the other
steps leaves the state that placing it first leaves. -/
def State.actRestart (s : State) : Act := s.withBank fun b => (s.restarted b, one s.restartData)

/-! ## The directives by code (Table 36) -/

def State.takeLoadSegment (s : State) (ref : Byte) (ps : List Byte) : State :=
  s.directive 1 ref (loadLengthOk ps) fun s => s.actLoadSegment ps
def State.takeCommit (s : State) (ref : Byte) (ps : List Byte) : State := s.directive 2 ref (ps.length == 0) State.actCommit
def State.takeDiscard (s : State) (ref : Byte) (ps : List Byte) : State := s.directive 3 ref (ps.length == 0) State.actDiscard
def State.takeReadTable (s : State) (ref : Byte) (ps : List Byte) : State :=
  s.directive 4 ref (ps.length == 5) fun s => s.actReadTable ps
def State.takeReadInterval (s : State) (ref : Byte) (ps : List Byte) : State :=
  s.directive 5 ref (ps.length == 4) fun s => s.actReadInterval (param [4] ps 0)
def State.takeReadNext (s : State) (ref : Byte) (ps : List Byte) : State := s.directive 6 ref (ps.length == 0) State.actReadNext
def State.takeReadDay (s : State) (ref : Byte) (ps : List Byte) : State :=
  s.directive 7 ref (ps.length == 2) fun s => s.actReadDay (param [2] ps 0)
def State.takeReadHolder (s : State) (ref : Byte) (ps : List Byte) : State :=
  s.directive 8 ref (ps.length == 1) fun s => s.actReadHolder (param [1] ps 0)
def State.takeReadValve (s : State) (ref : Byte) (ps : List Byte) : State :=
  s.directive 9 ref (ps.length == 1) fun s => s.actReadValve (param [1] ps 0)
def State.takeReadMeter (s : State) (ref : Byte) (ps : List Byte) : State :=
  s.directive 10 ref (ps.length == 1) fun s => s.actReadMeter (param [1] ps 0)
def State.takeReadDistrict (s : State) (ref : Byte) (ps : List Byte) : State :=
  s.directive 11 ref (ps.length == 1) fun s => s.actReadDistrict (param [1] ps 0)
def State.takeReadPoint (s : State) (ref : Byte) (ps : List Byte) : State :=
  s.directive 12 ref (ps.length == 1) fun s => s.actReadPoint (param [1] ps 0)
def State.takeSetClock (s : State) (ref : Byte) (ps : List Byte) : State :=
  s.directive 13 ref (ps.length == 5) fun s => s.actSetClock ⟨param [2, 3] ps 0, param [2, 3] ps 1⟩
def State.takeValve (s : State) (ref : Byte) (ps : List Byte) : State :=
  s.directive 14 ref (ps.length == 2) fun s => s.actValve (param [1, 1] ps 0) (param [1, 1] ps 1)
def State.takeSetPermit (s : State) (ref : Byte) (ps : List Byte) : State :=
  s.directive 15 ref (ps.length == 2) fun s => s.actSetPermit (param [1, 1] ps 0) (param [1, 1] ps 1)
def State.takeWithdrawPermit (s : State) (ref : Byte) (ps : List Byte) : State :=
  s.directive 16 ref (ps.length == 2) fun s => s.actWithdrawPermit (param [1, 1] ps 0) (param [1, 1] ps 1)
def State.takeHoldRole (s : State) (ref : Byte) (ps : List Byte) : State :=
  s.directive 17 ref (ps.length == 1) fun s => s.actHoldRole (param [1] ps 0)
def State.takeReleaseRole (s : State) (ref : Byte) (ps : List Byte) : State :=
  s.directive 18 ref (ps.length == 1) fun s => s.actReleaseRole (param [1] ps 0)
def State.takePresetLift (s : State) (ref : Byte) (ps : List Byte) : State :=
  s.directive 19 ref (ps.length == 3) fun s => s.actPresetLift (param [1, 2] ps 0) (param [1, 2] ps 1)
def State.takeTrim (s : State) (ref : Byte) (ps : List Byte) : State :=
  s.directive 20 ref (ps.length == 3) fun s => s.actTrim (param [1, 2] ps 0) (param [1, 2] ps 1)
def State.takeClearAttention (s : State) (ref : Byte) (ps : List Byte) : State :=
  s.directive 21 ref (ps.length == 2) fun s => s.actClearAttention (param [1, 1] ps 0) (param [1, 1] ps 1)
def State.takeRestart (s : State) (ref : Byte) (ps : List Byte) : State := s.directive 22 ref (ps.length == 0) State.actRestart
/-- R172, R183: a code that names no directive. -/
def State.takeUnknown (s : State) (code ref : Byte) : State := s.directive code ref true fun s => s.refuse .unknownDirective

/-- Table 36: a directive body of 2 bytes or more, by its code. -/
def State.takeByCode (s : State) (code ref : Byte) (ps : List Byte) : State :=
  match code.toNat with
  | 1 => s.takeLoadSegment ref ps
  | 2 => s.takeCommit ref ps
  | 3 => s.takeDiscard ref ps
  | 4 => s.takeReadTable ref ps
  | 5 => s.takeReadInterval ref ps
  | 6 => s.takeReadNext ref ps
  | 7 => s.takeReadDay ref ps
  | 8 => s.takeReadHolder ref ps
  | 9 => s.takeReadValve ref ps
  | 10 => s.takeReadMeter ref ps
  | 11 => s.takeReadDistrict ref ps
  | 12 => s.takeReadPoint ref ps
  | 13 => s.takeSetClock ref ps
  | 14 => s.takeValve ref ps
  | 15 => s.takeSetPermit ref ps
  | 16 => s.takeWithdrawPermit ref ps
  | 17 => s.takeHoldRole ref ps
  | 18 => s.takeReleaseRole ref ps
  | 19 => s.takePresetLift ref ps
  | 20 => s.takeTrim ref ps
  | 21 => s.takeClearAttention ref ps
  | 22 => s.takeRestart ref ps
  | _ => s.takeUnknown code ref

/-- R172, R183: a directive body; one shorter than 2 bytes is answered with code 0 and reference 0. -/
def State.takeDirective (s : State) (body : List Byte) : State :=
  match body with
  | code :: ref :: ps => s.takeByCode code ref ps
  | _ => s.takeUnknown 0 0

end Sys2Proof.Machine
end

