-- ==== Sys2Proof/Machine/Frames.lean ====
section
/-! DEFINITION. The commands of the loop: frames received, and frames sent (chapters 9 and 11). Each acts only while the part is on;
otherwise the relay is closed and the part receives nothing (R170). -/

namespace Sys2Proof.Machine

/-- R159, R161: a DIRECTIVE frame, by its destination; one to 255 is a broadcast. DEDUCED (log 95): a broadcast body of fewer than 2 bytes
spells no SET CLOCK (R183), and is only forwarded. -/
def State.receiveDirective (s : State) (dest src : Byte) (body : List Byte) : State :=
  if dest.toNat = s.own ∧ dest ≠ 255 then (if src = 0 then s.absorb.takeDirective body else s.absorb)
  else
    let s1 := s.forward (.valid ⟨dest, src, kindDirective, body⟩)
    match body with
    | code :: ref :: ps => if dest = 255 ∧ src = 0 ∧ code = 13 then s1.takeSetClock ref ps else s1
    | _ => s1

/-- R161, R181, Table 27: a valid frame, by its kind. A SCAN HEAD of another body length is not acted on. -/
def State.receive (s : State) (f : Frame) : State :=
  match f.kind.toNat, f.body with
  | 1, [cycle] => s.receiveHead f.dest f.src cycle false
  | 2, body => s.receiveTail f.dest f.src body
  | 3, body => s.receiveReport f.dest f.src body
  | 5, body => s.receiveAnswer f.dest f.src body
  | 6, body => s.receiveDirective f.dest f.src body
  | _, _ => s.forward (.valid f)

/-- R158: a frame received whole, valid or bad. -/
def State.take (s : State) (f : LineFrame) : State :=
  match f with
  | .valid f => s.receive f
  | .bad cs => s.badFrame cs

/-- R158: characters of the line: each frame that they make is taken in turn. A frame that has not ended has no effect yet (log 20). -/
def State.hear (s : State) (cs : List Byte) : State := (heard cs).1.foldl State.take s

/-- R158: characters of the line, and then a gap: a frame that has not ended is broken by it, and is bad. -/
def State.hearGap (s : State) (cs : List Byte) : State :=
  if (heard cs).2 = [] then s.hear cs else (s.hear cs).badFrame (heard cs).2

/-- R158: what a valid frame does. A body of more than 200 characters makes no valid frame: its characters are heard for what they are. -/
def State.whole (s : State) (f : Frame) (act : State → State) : State :=
  if f.body.length ≤ Config.maxBody then act s else s.hear f.chars

/-- The outcome of a command of the loop. -/
def State.onLine (s : State) (f : State → State) : Host.Outcome State Fault Refusal := .next (s.whenOn f)

/-- SCAN_HEAD (R161). -/
def execScanHead (dest src cycle : Byte) (programmeFirst : Bool) (s : State) : Host.Outcome State Fault Refusal :=
  s.onLine fun s => s.receiveHead dest src cycle programmeFirst

/-- SCAN_TAIL (R165). -/
def execScanTail (dest src : Byte) (body : List Byte) (s : State) : Host.Outcome State Fault Refusal :=
  s.onLine fun s => s.whole ⟨dest, src, kindScanTail, body⟩ fun s => s.receiveTail dest src body

/-- BAD_FRAME_RECEIVED (R158, R181): the characters make what frames they make; those of a frame with a wrong check, or with a length
above 200, make one bad frame. -/
def execBadFrameReceived (chars : List Byte) (s : State) : Host.Outcome State Fault Refusal := s.onLine fun s => s.hear chars

/-- CHARACTER_GAP (R158): the characters of a frame that has not ended before the gap are a bad frame. -/
def execCharacterGap (chars : List Byte) (s : State) : Host.Outcome State Fault Refusal := s.onLine fun s => s.hearGap chars

/-- FRAME_FORWARDED (R160). A frame that some other row names is taken as that row takes it. -/
def execFrameForwarded (dest src kind : Byte) (body : List Byte) (s : State) : Host.Outcome State Fault Refusal :=
  s.onLine fun s => s.whole ⟨dest, src, kind, body⟩ fun s => s.receive ⟨dest, src, kind, body⟩

/-- THROUGH_FRAME_SENT (R160). The line tells whether a further frame is arriving upstream at that moment (log 20). -/
def execThroughFrameSent (s : State) (arriving : Bool := false) : Host.Outcome State Fault Refusal :=
  s.onLine fun s => s.throughSent arriving

/-- LIFT_REPORT (R5), with the body of Table 35. -/
def execLiftReport (dest src datum index : Byte) (samples : List Byte) (s : State) : Host.Outcome State Fault Refusal :=
  let body := b8 samples.length :: datum :: index :: samples
  s.onLine fun s => s.whole ⟨dest, src, kindReport, body⟩ fun s => s.receiveReport dest src body

/-- METER_REPORT (R27). -/
def execMeterReport (dest src : Byte) (register pulseTime : Half) (s : State) : Host.Outcome State Fault Refusal :=
  s.onLine fun s => s.receiveReport dest src (halfBytes register ++ halfBytes pulseTime)

/-- POINT_REPORT (R40). -/
def execPointReport (dest src : Byte) (value : Half) (quality : Byte) (s : State) : Host.Outcome State Fault Refusal :=
  s.onLine fun s => s.receiveReport dest src (halfBytes value ++ [quality])

/-- BAROMETER_REPORT (R43). -/
def execBarometerReport (dest src : Byte) (value : Half) (quality : Byte) (s : State) : Host.Outcome State Fault Refusal :=
  s.onLine fun s => s.receiveReport dest src (halfBytes value ++ [quality])

/-- CALORIMETER_REPORT (R44). -/
def execCalorimeterReport (dest src : Byte) (value : Half) (quality : Byte) (s : State) : Host.Outcome State Fault Refusal :=
  s.onLine fun s => s.receiveReport dest src (halfBytes value ++ [quality])

/-- VALVE_POSITION_REPORT (R70). -/
def execValvePositionReport (dest src position : Byte) (s : State) : Host.Outcome State Fault Refusal :=
  s.onLine fun s => s.receiveReport dest src [position]

/-- GOVERNOR_REPORT (R110). -/
def execGovernorReport (dest src : Byte) (setpoint : Half) (status : Byte) (s : State) : Host.Outcome State Fault Refusal :=
  s.onLine fun s => s.receiveReport dest src (halfBytes setpoint ++ [status])

/-- SELECTED (R66). -/
def execAnswerSelected (dest src tag position : Byte) (s : State) : Host.Outcome State Fault Refusal :=
  s.onLine fun s => s.receiveAnswer dest src [tag, 1, position]

/-- DONE (R67). -/
def execAnswerDone (dest src tag : Byte) (s : State) : Host.Outcome State Fault Refusal :=
  s.onLine fun s => s.receiveAnswer dest src [tag, 2, 0]

/-- REFUSED (R68). -/
def execAnswerRefused (dest src tag reason : Byte) (s : State) : Host.Outcome State Fault Refusal :=
  s.onLine fun s => s.receiveAnswer dest src [tag, 3, reason]

/-- QUIET_GAP_ELAPSED (R165). -/
def execQuietGapElapsed (s : State) : Host.Outcome State Fault Refusal := s.onLine State.lineWentQuiet

/-- OWN_FRAME_SENT (R165). -/
def execOwnFrameSent (s : State) : Host.Outcome State Fault Refusal := s.onLine State.ownSent

/-- DIRECTIVE_DISCARDED (R161): absorbed, and discarded without a response. -/
def execDirectiveDiscarded (src : Byte) (body : List Byte) (s : State) : Host.Outcome State Fault Refusal :=
  s.onLine fun s => s.whole ⟨b8 s.own, src, kindDirective, body⟩ fun s => if src = 0 then s.absorb.takeDirective body else s.absorb

end Sys2Proof.Machine
end

