-- ==== Sys2Proof/Machine/Desk.lean ====
section
/-! DEFINITION. The directives as commands (Table 31): a DIRECTIVE frame from the desk, source 0, to the part's own address, which is
absorbed and handed to the Directive Handler (R161). -/

namespace Sys2Proof.Machine

/-- The outcome of a directive of the desk with a body, which `f` takes once its frame is absorbed. -/
def State.fromDesk (s : State) (body : List Byte) (f : State → State) : Host.Outcome State Fault Refusal :=
  .next (s.whenOn fun s => s.whole ⟨b8 s.own, 0, kindDirective, body⟩ fun s => f s.absorb)

/-- DIRECTIVE_UNKNOWN (R172, R183): any body; one that spells a known directive is taken as that directive. -/
def execDirectiveUnknown (body : List Byte) (s : State) : Host.Outcome State Fault Refusal :=
  s.fromDesk body fun s => s.takeDirective body

/-- LOAD_SEGMENT (R148). -/
def execLoadSegment (ref : Byte) (params : List Byte) (s : State) : Host.Outcome State Fault Refusal :=
  s.fromDesk (1 :: ref :: params) fun s => s.takeLoadSegment ref params

/-- COMMIT (R150 to R152). -/
def execCommit (ref : Byte) (params : List Byte) (s : State) : Host.Outcome State Fault Refusal :=
  s.fromDesk (2 :: ref :: params) fun s => s.takeCommit ref params

/-- DISCARD (R153). -/
def execDiscard (ref : Byte) (params : List Byte) (s : State) : Host.Outcome State Fault Refusal :=
  s.fromDesk (3 :: ref :: params) fun s => s.takeDiscard ref params

/-- READ_TABLE (R149). -/
def execReadTable (ref : Byte) (params : List Byte) (s : State) : Host.Outcome State Fault Refusal :=
  s.fromDesk (4 :: ref :: params) fun s => s.takeReadTable ref params

/-- READ_INTERVAL (R144). -/
def execReadInterval (ref : Byte) (params : List Byte) (s : State) : Host.Outcome State Fault Refusal :=
  s.fromDesk (5 :: ref :: params) fun s => s.takeReadInterval ref params

/-- READ_NEXT (R145). -/
def execReadNext (ref : Byte) (params : List Byte) (s : State) : Host.Outcome State Fault Refusal :=
  s.fromDesk (6 :: ref :: params) fun s => s.takeReadNext ref params

/-- READ_DAY (R146). -/
def execReadDay (ref : Byte) (params : List Byte) (s : State) : Host.Outcome State Fault Refusal :=
  s.fromDesk (7 :: ref :: params) fun s => s.takeReadDay ref params

/-- READ_HOLDER (R4). -/
def execReadHolder (ref : Byte) (params : List Byte) (s : State) : Host.Outcome State Fault Refusal :=
  s.fromDesk (8 :: ref :: params) fun s => s.takeReadHolder ref params

/-- READ_VALVE (R83). -/
def execReadValve (ref : Byte) (params : List Byte) (s : State) : Host.Outcome State Fault Refusal :=
  s.fromDesk (9 :: ref :: params) fun s => s.takeReadValve ref params

/-- READ_METER (R38). -/
def execReadMeter (ref : Byte) (params : List Byte) (s : State) : Host.Outcome State Fault Refusal :=
  s.fromDesk (10 :: ref :: params) fun s => s.takeReadMeter ref params

/-- READ_DISTRICT (R124). -/
def execReadDistrict (ref : Byte) (params : List Byte) (s : State) : Host.Outcome State Fault Refusal :=
  s.fromDesk (11 :: ref :: params) fun s => s.takeReadDistrict ref params

/-- READ_POINT (R48). -/
def execReadPoint (ref : Byte) (params : List Byte) (s : State) : Host.Outcome State Fault Refusal :=
  s.fromDesk (12 :: ref :: params) fun s => s.takeReadPoint ref params

/-- SET_CLOCK (R138 to R140), addressed to the part, or broadcast, forwarded, and taken alike (R161). -/
def execSetClock (broadcast : Bool) (ref : Byte) (params : List Byte) (s : State) : Host.Outcome State Fault Refusal :=
  if broadcast then s.onLine fun s => s.whole ⟨255, 0, kindDirective, 13 :: ref :: params⟩ fun s =>
    s.receiveDirective 255 0 (13 :: ref :: params)
  else s.fromDesk (13 :: ref :: params) fun s => s.takeSetClock ref params

/-- VALVE (R64). -/
def execValve (ref : Byte) (params : List Byte) (s : State) : Host.Outcome State Fault Refusal :=
  s.fromDesk (14 :: ref :: params) fun s => s.takeValve ref params

/-- SET_PERMIT (R81). -/
def execSetPermit (ref : Byte) (params : List Byte) (s : State) : Host.Outcome State Fault Refusal :=
  s.fromDesk (15 :: ref :: params) fun s => s.takeSetPermit ref params

/-- WITHDRAW_PERMIT (R80). -/
def execWithdrawPermit (ref : Byte) (params : List Byte) (s : State) : Host.Outcome State Fault Refusal :=
  s.fromDesk (16 :: ref :: params) fun s => s.takeWithdrawPermit ref params

/-- HOLD_ROLE (R103). -/
def execHoldRole (ref : Byte) (params : List Byte) (s : State) : Host.Outcome State Fault Refusal :=
  s.fromDesk (17 :: ref :: params) fun s => s.takeHoldRole ref params

/-- RELEASE_ROLE (R104). -/
def execReleaseRole (ref : Byte) (params : List Byte) (s : State) : Host.Outcome State Fault Refusal :=
  s.fromDesk (18 :: ref :: params) fun s => s.takeReleaseRole ref params

/-- PRESET_LIFT (R13). -/
def execPresetLift (ref : Byte) (params : List Byte) (s : State) : Host.Outcome State Fault Refusal :=
  s.fromDesk (19 :: ref :: params) fun s => s.takePresetLift ref params

/-- TRIM (R116). -/
def execTrim (ref : Byte) (params : List Byte) (s : State) : Host.Outcome State Fault Refusal :=
  s.fromDesk (20 :: ref :: params) fun s => s.takeTrim ref params

/-- CLEAR_ATTENTION (R179). -/
def execClearAttention (ref : Byte) (params : List Byte) (s : State) : Host.Outcome State Fault Refusal :=
  s.fromDesk (21 :: ref :: params) fun s => s.takeClearAttention ref params

/-- RESTART (R174). -/
def execRestart (ref : Byte) (params : List Byte) (s : State) : Host.Outcome State Fault Refusal :=
  s.fromDesk (22 :: ref :: params) fun s => s.takeRestart ref params

end Sys2Proof.Machine
end

