-- ==== Sys2Proof/Machine/Power.lean ====
section
/-! DEFINITION. Power-on, power loss and the reset pin (R156, R170, and the power-on rules of every block). -/

namespace Sys2Proof.Machine

/-- R156: the bank that the store gives at power-on: a VALID copy whose check value agrees and whose every condition holds for the
strapped address. -/
def TableStore.restorable (t : TableStore) (own : Nat) (copySound : Bool) : Option Bank :=
  match t.store, copySound, t.copy with
  | .valid, true, some b => if (b.broken own).isNone then some b else none
  | _, _, _ => none

/-- R156: the Table Store after power-on. -/
def TableStore.powerOn (t : TableStore) (own : Nat) (copySound : Bool) : TableStore :=
  match t.restorable own copySound with
  | some b =>
    { t with live := some b, generation := t.storeGen, pending := b, marks := Vector.replicate 12 true, committed := false }
  | none =>
    { t with live := none, generation := 0, pending := Bank.blank, marks := Vector.replicate 12 false, committed := false,
             store := if t.store = .valid then .failed else t.store }

/-- R156: STORE FAULT is raised where no bank is restored, unless the part has never held one. -/
def TableStore.faultAtPowerOn (t : TableStore) (own : Nat) (copySound : Bool) : Bool :=
  (t.restorable own copySound).isNone && t.store != .empty

/-- What the nonvolatile stores held before their last write is gone once that write has outlived a power loss. -/
def Nonvolatile.settled (n : Nonvolatile) : Nonvolatile := { n with savesBefore := n.saves, logsBefore := n.logs }

/-- R137, R19: what a power loss leaves of writes that it cuts. The command says which writes were cut (log 13). -/
def Nonvolatile.cut (n : Nonvolatile) (logCut : Bool) (savesCut : List (Fin 4)) : Nonvolatile :=
  { n with
    saves := Vector.ofFn fun h => if h ∈ savesCut then n.savesBefore[h] else n.saves[h],
    logs := if logCut then n.logsBefore else n.logs }

/-- R143, R170: the part stops; the open interval is lost whole and a frame on the line is cut short. Every other record of the
part's is set afresh at the next power-on. -/
def State.stopped (s : State) (p : Power) (nv : Nonvolatile) : State :=
  { s with power := p, accounts := { s.accounts with interval := none }, loop := { s.loop with tx := .idle }, nv := nv }

/-- R159: the addresses the straps may read. -/
def strapsOk (own : Nat) : Bool := decide (1 ≤ own) && decide (own ≤ 250)

/-- R125, R156, R180: the blocks at their power-on values, with the occurrences of power-on entered in their order. -/
def State.powerOnBlocks (s : State) (own : Nat) (copySound : Bool) : State :=
  let s1 := (State.poweredOn own s.nv.settled (s.tables.powerOn own copySound) s.pending s.drawn).raise srcClockInvalid
  if s.tables.faultAtPowerOn own copySound then s1.raise srcStoreFault else s1

/-- R156: start-up. -/
def State.powerOn (s : State) (straps : Byte) (copySound : Bool) : State :=
  let own := straps.toNat
  if strapsOk own then
    let s1 := s.powerOnBlocks own copySound
    match s1.live with
    | some b => s1.takeLive b true
    | none => s1
  else s.stopped .strapHeld s.nv

/-! ## The commands -/

/-- POWER_ON (R156, R159). -/
def execPowerOn (straps : Byte) (copySound : Bool) (s : State) : Host.Outcome State Fault Refusal := .next (s.powerOn straps copySound)

/-- POWER_LOSS (R143, R170). -/
def execPowerLoss (logCut : Bool) (savesCut : List (Fin 4)) (s : State) : Host.Outcome State Fault Refusal :=
  .next (s.stopped .unpowered (s.nv.cut logCut savesCut))

/-- RESET_PIN_HELD (R170). DEDUCED (log 14): what the part holds is lost as at a power loss, since POWER_ON follows the release. -/
def execResetPinHeld (logCut : Bool) (savesCut : List (Fin 4)) (s : State) : Host.Outcome State Fault Refusal :=
  .next (s.stopped .resetHeld (s.nv.cut logCut savesCut))

end Sys2Proof.Machine
end

