-- ==== Sys2Proof/Machine/Timers.lean ====
section
/-! DEFINITION. The commands that are events of the part's own: timers, boundaries of the clock, and the store's write. An unpowered
part, or one held in reset, has none of them. -/

namespace Sys2Proof.Machine

/-- The outcome of an event of the part's own. -/
def State.onTime (s : State) (f : State → State) : Host.Outcome State Fault Refusal := .next (s.whenOn f)

/-- LOSS_TIMER_EXPIRY (R169). -/
def execLossTimerExpiry (s : State) : Host.Outcome State Fault Refusal := s.onTime State.lossExpired
/-- STALL_TIMER_EXPIRY (R33). -/
def execStallTimerExpiry (m : Fin 12) (s : State) : Host.Outcome State Fault Refusal := s.onTime fun s => s.stallExpired m
/-- STALE_TIMER_EXPIRY (R41, R43). -/
def execStaleTimerExpiry (r : Fin 25) (s : State) : Host.Outcome State Fault Refusal := s.onTime fun s => s.staleExpired r
/-- CV_STALE_TIMER_EXPIRY (R44). -/
def execCvStaleTimerExpiry (s : State) : Host.Outcome State Fault Refusal := s.onTime State.cvStaleExpired
/-- ANSWER_TIMER_EXPIRY (R69). -/
def execAnswerTimerExpiry (v : Fin 8) (s : State) : Host.Outcome State Fault Refusal := s.onTime fun s => s.answerExpired v
/-- TRAVEL_TIMER_EXPIRY (R70). -/
def execTravelTimerExpiry (v : Fin 8) (s : State) : Host.Outcome State Fault Refusal := s.onTime fun s => s.travelExpired v
/-- REVIEW_TIMER_EXPIRY (R111). -/
def execReviewTimerExpiry (d : Fin 6) (s : State) : Host.Outcome State Fault Refusal := s.onTime fun s => s.reviewDone d
/-- SLOT_BOUNDARY (R126). -/
def execSlotBoundary (s : State) : Host.Outcome State Fault Refusal := s.onTime State.slotBoundary
/-- NOMINAL_END_REACHED (R133). -/
def execNominalEndReached (s : State) : Host.Outcome State Fault Refusal := s.onTime State.nominalEndReached
/-- STORE_WRITE_COMPLETE (R155). -/
def execStoreWriteComplete (agrees : Bool) (s : State) : Host.Outcome State Fault Refusal := s.onTime fun s => s.storeWritten agrees
/-- CLOCK_STOPS_ADVANCING (R125). -/
def execClockStopsAdvancing (s : State) : Host.Outcome State Fault Refusal := s.onTime State.clockStops

end Sys2Proof.Machine
end

