-- ==== Sys2Proof/Machine/Dispatch.lean ====
section
/-! DEFINITION. One arm per command. -/

namespace Sys2Proof.Machine

def exec (i : Instr) (s : State) : Host.Outcome State Fault Refusal :=
  match i with
  | .powerOn straps copySound => Sys2Proof.Machine.execPowerOn straps copySound s
  | .powerLoss logCut savesCut => Sys2Proof.Machine.execPowerLoss logCut savesCut s
  | .resetPinHeld logCut savesCut => Sys2Proof.Machine.execResetPinHeld logCut savesCut s
  | .scanHead dest src cycle programmeFirst => Sys2Proof.Machine.execScanHead dest src cycle programmeFirst s
  | .scanTail dest src body => Sys2Proof.Machine.execScanTail dest src body s
  | .badFrameReceived chars => Sys2Proof.Machine.execBadFrameReceived chars s
  | .characterGap chars => Sys2Proof.Machine.execCharacterGap chars s
  | .frameForwarded dest src kind body => Sys2Proof.Machine.execFrameForwarded dest src kind body s
  | .throughFrameSent arriving => Sys2Proof.Machine.execThroughFrameSent s arriving
  | .liftReport dest src datum index samples => Sys2Proof.Machine.execLiftReport dest src datum index samples s
  | .meterReport dest src register pulseTime => Sys2Proof.Machine.execMeterReport dest src register pulseTime s
  | .pointReport dest src value quality => Sys2Proof.Machine.execPointReport dest src value quality s
  | .barometerReport dest src value quality => Sys2Proof.Machine.execBarometerReport dest src value quality s
  | .calorimeterReport dest src value quality => Sys2Proof.Machine.execCalorimeterReport dest src value quality s
  | .valvePositionReport dest src position => Sys2Proof.Machine.execValvePositionReport dest src position s
  | .governorReport dest src setpoint status => Sys2Proof.Machine.execGovernorReport dest src setpoint status s
  | .answerSelected dest src tag position => Sys2Proof.Machine.execAnswerSelected dest src tag position s
  | .answerDone dest src tag => Sys2Proof.Machine.execAnswerDone dest src tag s
  | .answerRefused dest src tag reason => Sys2Proof.Machine.execAnswerRefused dest src tag reason s
  | .quietGapElapsed => Sys2Proof.Machine.execQuietGapElapsed s
  | .ownFrameSent => Sys2Proof.Machine.execOwnFrameSent s
  | .lossTimerExpiry => Sys2Proof.Machine.execLossTimerExpiry s
  | .stallTimerExpiry m => Sys2Proof.Machine.execStallTimerExpiry m s
  | .staleTimerExpiry r => Sys2Proof.Machine.execStaleTimerExpiry r s
  | .cvStaleTimerExpiry => Sys2Proof.Machine.execCvStaleTimerExpiry s
  | .answerTimerExpiry v => Sys2Proof.Machine.execAnswerTimerExpiry v s
  | .travelTimerExpiry v => Sys2Proof.Machine.execTravelTimerExpiry v s
  | .reviewTimerExpiry d => Sys2Proof.Machine.execReviewTimerExpiry d s
  | .slotBoundary => Sys2Proof.Machine.execSlotBoundary s
  | .nominalEndReached => Sys2Proof.Machine.execNominalEndReached s
  | .storeWriteComplete agrees => Sys2Proof.Machine.execStoreWriteComplete agrees s
  | .directiveUnknown body => Sys2Proof.Machine.execDirectiveUnknown body s
  | .loadSegment ref params => Sys2Proof.Machine.execLoadSegment ref params s
  | .commit ref params => Sys2Proof.Machine.execCommit ref params s
  | .discard ref params => Sys2Proof.Machine.execDiscard ref params s
  | .readTable ref params => Sys2Proof.Machine.execReadTable ref params s
  | .readInterval ref params => Sys2Proof.Machine.execReadInterval ref params s
  | .readNext ref params => Sys2Proof.Machine.execReadNext ref params s
  | .readDay ref params => Sys2Proof.Machine.execReadDay ref params s
  | .readHolder ref params => Sys2Proof.Machine.execReadHolder ref params s
  | .readValve ref params => Sys2Proof.Machine.execReadValve ref params s
  | .readMeter ref params => Sys2Proof.Machine.execReadMeter ref params s
  | .readDistrict ref params => Sys2Proof.Machine.execReadDistrict ref params s
  | .readPoint ref params => Sys2Proof.Machine.execReadPoint ref params s
  | .setClock broadcast ref params => Sys2Proof.Machine.execSetClock broadcast ref params s
  | .valve ref params => Sys2Proof.Machine.execValve ref params s
  | .setPermit ref params => Sys2Proof.Machine.execSetPermit ref params s
  | .withdrawPermit ref params => Sys2Proof.Machine.execWithdrawPermit ref params s
  | .holdRole ref params => Sys2Proof.Machine.execHoldRole ref params s
  | .releaseRole ref params => Sys2Proof.Machine.execReleaseRole ref params s
  | .presetLift ref params => Sys2Proof.Machine.execPresetLift ref params s
  | .trim ref params => Sys2Proof.Machine.execTrim ref params s
  | .clearAttention ref params => Sys2Proof.Machine.execClearAttention ref params s
  | .restart ref params => Sys2Proof.Machine.execRestart ref params s
  | .directiveDiscarded src body => Sys2Proof.Machine.execDirectiveDiscarded src body s
  | .clockStopsAdvancing => Sys2Proof.Machine.execClockStopsAdvancing s

end Sys2Proof.Machine
end

