-- ==== Sys2Proof/Safety.lean ====
section
/-! DEFINITION. What a sound state of the HY4 is, in the terms the manual's rules use: the invariants that every step keeps, and the
readings of a state that claims about commands use. -/

namespace Sys2Proof.Machine

/-! ## Outcomes -/

/-- A command completes: exec answers a next state, of which `P` holds. -/
def Completes (c : Instr) (s : State) (P : State → Prop) : Prop := ∃ t, exec c s = .next t ∧ P t

/-! ## Invariants -/

/-- R125: the clock holds a second of a day and a day number of its range. -/
def Clock.Ok (c : Clock) : Prop := c.day ≤ Config.lastDay ∧ c.sec ≤ Config.lastSecond ∧ c.ms < 1000

/-- R136, R141: at most 96 interval records, each one sequence number above the one before it, the newest the last sequence number;
and at most 14 day records. -/
def Logs.Ok (l : Logs) : Prop :=
  l.log.length ≤ Config.logSize ∧ l.daily.length ≤ Config.dailySize ∧
    ∀ i, (h : i < l.log.length) → l.log[i].sequence + (l.log.length - 1 - i) = l.lastSeq

/-- R136, R137, R141: the logs in hand, in the nonvolatile store, and in the store before its last write. -/
def State.LogsOk (s : State) : Prop := s.accounts.logs.Ok ∧ s.nv.logs.Ok ∧ s.nv.logsBefore.Ok

/-- R160, R162: the through-buffer holds at most 8 frames; the check errors of a cycle are at most 255. -/
def LoopPort.LineOk (l : LoopPort) : Prop := l.buffer.length ≤ Config.bufferSize ∧ l.checkErrors ≤ 255

/-- The number of commands of the queue that meet a test. -/
def LoopPort.count (l : LoopPort) (p : Command → Bool) : Nat := (l.commands.filter p).length

/-- The command on the line that goes back to the queue if it is broken off meets a test. -/
def Tx.holds (t : Tx) (p : Command → Bool) : Bool :=
  match t with
  | .own (.command c _ void) => !void && p c
  | _ => false

/-- R167: at most one command of each valve and one SET of each district, one on the line that can still come back among them. -/
def LoopPort.QueueOk (l : LoopPort) : Prop :=
  (∀ v, l.count (·.isValve v) + (l.tx.holds (·.isValve v)).toNat ≤ 1) ∧
  (∀ d, l.count (·.isSet d) + (l.tx.holds (·.isSet d)).toNat ≤ 1)

/-- R176: at most one entry for each source, in class order, each count from 1 to 255. -/
def Attention.Ok (a : Attention) : Prop :=
  (a.items.map AttnItem.source).Nodup ∧ a.items.Pairwise (fun x y => x.cls.code ≤ y.cls.code) ∧
    ∀ e ∈ a.items, 1 ≤ e.count ∧ e.count ≤ 255

/-- R175, R176: no two entries were created together, the entries of one class stand in their order of creation, and an entry created
next is the last created. -/
def Attention.InOrder (a : Attention) : Prop :=
  (a.items.map AttnItem.serial).Nodup ∧ a.items.Pairwise (fun x y => x.cls = y.cls → x.serial < y.serial) ∧
    ∀ e ∈ a.items, e.serial < a.serials

/-- R90: the deferred trigger list holds at most one trigger of each kind. -/
def Programme.Ok (p : Programme) : Prop := p.deferred.Nodup

/-- R150, R156: the live bank breaks no condition, and neither does a pending bank that is COMMITTED. -/
def State.BanksOk (s : State) : Prop :=
  (∀ b, s.tables.live = some b → b.broken s.own = none) ∧
    (s.tables.committed = true → s.tables.pending.broken s.own = none ∧ s.tables.live.isSome)

/-- R129, R132: while the part is on, an interval is open exactly in RUNNING mode, and in UNCONFIGURED mode the clock is INVALID. -/
def State.IntervalOk (s : State) : Prop :=
  s.power = .on → s.accounts.interval.isSome = s.running ∧ (s.running = false → s.clock.valid = false)

/-- R60, R62, R78: a demand of TRIP origin is a SHUT demand; an OPEN demand is carried by an OPENING operation alone, and a fitted
holder's OPENING valve has one; a valve whose permission is WITHDRAWN is neither OPEN nor OPENING; and in UNCONFIGURED mode every valve
is UNKNOWN, without a demand or a travel timer. -/
def State.PermitOk (s : State) : Prop :=
  ∀ v : Fin 8,
    (∀ d, s.valves[v].demand = some d →
      (d.origin = .trip → d.dir = .toShut) ∧ (d.dir = .toOpen → s.valves[v].state = .opening)) ∧
    (∀ b, s.live = some b → b.fitted (holderOf v) = true → s.valves[v].state = .opening →
      ∃ d, s.valves[v].demand = some d ∧ d.dir = .toOpen) ∧
    (s.perms[v].granted = false → s.valves[v].state ≠ .opened ∧ s.valves[v].state ≠ .opening) ∧
    (s.live = none → s.valves[v].state = .unknown ∧ s.valves[v].demand = none ∧ s.valves[v].travelTimer = none)

/-- R114, R120: the runs of a district are never both above 0, and the refresh count is at most 10. -/
def DistrictRec.Ok (r : DistrictRec) : Prop := (r.lowRun = 0 ∨ r.highRun = 0) ∧ r.refresh ≤ 10

/-- R109, R114: the runs of a district in use go no further than its confirm count M; without a live bank they are 0. -/
def State.ConfirmOk (s : State) : Prop :=
  ∀ d : Fin 6,
    (∀ b, s.live = some b → b.districts[d].used = true →
      s.districts[d].lowRun ≤ b.districts[d].confirm ∧ s.districts[d].highRun ≤ b.districts[d].confirm) ∧
    (s.live = none → s.districts[d].lowRun = 0 ∧ s.districts[d].highRun = 0)

/-- R16: the cup-check runs of a holder are at most 3 and never both above 0. -/
def HolderRec.RunsOk (r : HolderRec) : Prop := r.outRun ≤ 3 ∧ r.inRun ≤ 3 ∧ (r.outRun = 0 ∨ r.inRun = 0)

/-- R16, R114, R120: the runs and counts of every holder and every district. -/
def State.RunsOk (s : State) : Prop :=
  (∀ h : Fin 4, s.holders[h].RunsOk) ∧ (∀ d : Fin 6, s.districts[d].Ok) ∧ s.ConfirmOk

/-! ## Readings of a state -/

/-- The frames the ring has still to receive from the part, the one being sent first: R160 keeps them in arrival order. -/
def LoopPort.carried (l : LoopPort) : List LineFrame :=
  (match l.tx with
   | .through f => [f]
   | _ => []) ++ l.buffer

/-- R165: a command is the first that the order of a window finds: trip-origin valve commands, other valve commands, SETs in district
order. -/
def LoopPort.FirstInOrder (l : LoopPort) (c : Command) : Prop :=
  l.commands.find? Command.isTrip = some c ∨
  (l.commands.find? Command.isTrip = none ∧ l.commands.find? Command.isAnyValve = some c) ∨
  (l.commands.find? Command.isAnyValve = none ∧
    ∃ d : Fin 6, l.commands.find? (·.isSet d) = some c ∧ ∀ e, e < d → l.commands.find? (·.isSet e) = none)

/-- R164, R165, R184: a window with the transmitter free in the state `s` begins its next frame, and leaves `t`. A command that the order
finds first and that has a station is sent to it; one without a station is taken unsent, its owner being told, and the order is applied
afresh; with no command the next frame of the oldest response begins, and with none the STATUS frame. A command goes before the rest of a
response whose first frames have been sent (log 92). -/
inductive State.Begins : State → State → Prop where
  | command (s : State) (b : Bank) (c : Command) (a : Nat) : s.live = some b → s.loop.FirstInOrder c → b.addressOf c.station = some a →
      State.Begins s { s with loop := { s.loop with
        commands := s.loop.commands.erase c, tx := .own (.command c ⟨b8 a, b8 s.own, 4, c.body⟩ false) } }
  | unsent (s t : State) (c : Command) : s.loop.FirstInOrder c → (∀ b, s.live = some b → b.addressOf c.station = none) →
      State.Begins { s.commandSent c with loop := { s.loop with commands := s.loop.commands.erase c } } t → State.Begins s t
  | response (s : State) (r : List Byte) (rest : List (List Byte)) (rs : List (List (List Byte))) :
      s.loop.commands = [] → s.loop.responses = (r :: rest) :: rs →
      State.Begins s { s with loop := { s.loop with
        tx := .own (.response ⟨0, b8 s.own, 7, r⟩ (!rest.isEmpty)), responses := if rest = [] then rs else rest :: rs } }
  | status (s : State) : s.loop.commands = [] → (∀ r rest rs, s.loop.responses ≠ (r :: rest) :: rs) →
      State.Begins s { s with loop := { s.loop with tx := .own (.status ⟨0, b8 s.own, 8, s.statusBody⟩) } }

/-- R176: one occurrence of a source: a new entry with count 1 and the occurrence's time, or one more in the count of the entry that the
source has, its first occurrence kept. -/
def Attention.Gained (a a' : Attention) (src : Fin 74) (o : Occurrence) : Prop :=
  (src ∉ a.items.map AttnItem.source → ∃ e ∈ a'.items, e.source = src ∧ e.count = 1 ∧ e.first = o) ∧
  (∀ e ∈ a.items, e.source = src → ∃ e' ∈ a'.items, e'.source = src ∧ e'.count = min 255 (e.count + 1) ∧ e'.first = e.first)

/-- R176: between two states a source has no new occurrence. -/
def State.NotRaised (s t : State) (src : Fin 74) : Prop := ∀ e, e.source = src → (e ∈ t.attn.items ↔ e ∈ s.attn.items)

/-- R176: between two states a source was raised once: with the source enabled it gained an occurrence at the clock's time, and
otherwise its entry is as it was. -/
def State.Raised (s t : State) (src : Fin 74) : Prop :=
  ((attnMap s.tables.live src).1 = true → s.attn.Gained t.attn src s.now) ∧
  ((attnMap s.tables.live src).1 = false → s.NotRaised t src)

/-- R176: between two states a source was raised a number of times, each time at the clock's time: with the source enabled a new entry has
that count and the time, and an entry that it has already that many more; with it disabled its entry is as it was. -/
def State.RaisedTimes (s t : State) (src : Fin 74) (n : Nat) : Prop :=
  (n = 0 ∨ (attnMap s.tables.live src).1 = false → s.NotRaised t src) ∧
  (0 < n → (attnMap s.tables.live src).1 = true →
    (src ∉ s.attn.items.map AttnItem.source → ∃ e ∈ t.attn.items, e.source = src ∧ e.count = min 255 n ∧ e.first = s.now) ∧
    (∀ e ∈ s.attn.items, e.source = src → ∃ e' ∈ t.attn.items, e'.source = src ∧ e'.count = min 255 (e.count + n) ∧ e'.first = e.first))

/-- R175, R176: between two states a source has no new occurrence, the map in force becoming that of `new`: its entry is as it was but for
its class. -/
def State.OnlyReclassed (s t : State) (new : Bank) (src : Fin 74) : Prop :=
  ∀ e : AttnItem, e.source = src → ({ e with cls := (attnMap (some new) src).2 } ∈ t.attn.items ↔ ∃ c, { e with cls := c } ∈ s.attn.items)

/-- R154, R175, R176: the attention list at a swap to the bank `new`. BANK SWAPPED is entered under the new map; every pending entry has
its class from the new map; the list is in class order, and within a class in order of creation; and no entry is lost. -/
structure State.Reclassed (s t : State) (new : Bank) : Prop where
  swapped : (attnMap (some new) srcBankSwapped).1 = true → s.attn.Gained t.attn srcBankSwapped s.now
  notSwapped : (attnMap (some new) srcBankSwapped).1 = false → s.OnlyReclassed t new srcBankSwapped
  classes : ∀ e ∈ t.attn.items, e.cls = (attnMap (some new) e.source).2
  ordered : t.attn.items.Pairwise (fun x y => x.cls.code ≤ y.cls.code)
  created : s.attn.InOrder → t.attn.InOrder
  kept : ∀ e ∈ s.attn.items, ∃ e' ∈ t.attn.items,
    e'.source = e.source ∧ e'.serial = e.serial ∧ e'.first = e.first ∧ min 255 e.count ≤ e'.count

/-- R78, R80: what the withdrawal of one side of a holder does, for a cause, at a count: the permission is WITHDRAWN with the cause, the
count and the time; the side's TRIP source is raised; and a SHUT demand of TRIP origin acts on the valve by its state (R61, R62). Under
LOOP_LOST it places no command (R75; the tag stays, log 61). -/
def State.Withdrawn (s t : State) (h : Fin 4) (sd : Side) (cause : PermCause) (count : Nat) : Prop :=
  let v := valveOf h sd
  let r := s.valves[v]
  let kept : Option Demand := some ⟨.toShut, .trip⟩
  t.perms[v] = ⟨false, some cause, some count, some s.timebase⟩ ∧
  s.Raised t (if sd = .outlet then srcLowTrip h else srcHighTrip h) ∧
  (r.state = .shut → t.valves[v] = r) ∧
  (r.state = .noAnswer ∨ r.state = .localHand → t.valves[v].state = r.state ∧ t.valves[v].demand = kept) ∧
  (r.state = .shutting → r.demand.map Demand.dir = some .toShut → t.valves[v].state = .shutting ∧ t.valves[v].demand = kept) ∧
  (r.state ∈ [.unknown, .opened, .stuck] ∨ (r.state = .opening ∧ r.demand.map Demand.dir = some .toOpen) → s.loop.lost = false →
    t.valves[v].state = .shutting ∧ t.valves[v].demand = kept ∧ t.valves[v].phase = .selectSent ∧ t.valves[v].tag = r.tag + 1 ∧
    .valve v false .toShut (r.tag + 1) true ∈ t.loop.commands) ∧
  (r.state ∈ [.unknown, .opened, .stuck] ∨ (r.state = .opening ∧ r.demand.map Demand.dir = some .toOpen) → s.loop.lost = true →
    t.valves[v].state = .shutting ∧ t.valves[v].demand = kept ∧ t.valves[v].phase = .idle ∧ t.valves[v].tag = r.tag)

/-- R78: what a trip of one side of a holder does, at a count. -/
def State.Tripped (s t : State) (h : Fin 4) (sd : Side) (count : Nat) : Prop :=
  s.Withdrawn t h sd (if sd = .outlet then .lowStop else .highStop) count

/-- R3: the lowest and the highest of the counts of which `p` holds. -/
def Spans (p : Nat → Prop) (lo hi : Nat) : Prop := p lo ∧ p hi ∧ ∀ n, p n → lo ≤ n ∧ n ≤ hi

/-- R78: the two stops at a change of a holder with a lowest and a highest count. A side whose permission is already WITHDRAWN, and one
whose stop is not reached, keep their permission. -/
def State.Trips (s t : State) (b : Bank) (h : Fin 4) (lo hi : Nat) : Prop :=
  let e := b.holders[h]
  (s.perms[valveOf h .outlet].granted = true → lo ≤ e.lowStop → s.Tripped t h .outlet lo) ∧
  (s.perms[valveOf h .inlet].granted = true → e.highStop ≤ hi → s.Tripped t h .inlet hi) ∧
  (s.perms[valveOf h .outlet].granted = false ∨ e.lowStop < lo → t.perms[valveOf h .outlet] = s.perms[valveOf h .outlet]) ∧
  (s.perms[valveOf h .inlet].granted = false ∨ hi < e.highStop → t.perms[valveOf h .inlet] = s.perms[valveOf h .inlet]) ∧
  (∀ v, holderOf v ≠ h → t.perms[v] = s.perms[v])

/-- R78: a count meets the stop of a side of a holder. -/
def Bank.MeetsStop (b : Bank) (h : Fin 4) (sd : Side) (n : Nat) : Prop :=
  if sd = .outlet then n ≤ b.holders[h].lowStop else b.holders[h].highStop ≤ n

/-- R78: the stop of one side of a holder has been compared with a count, whatever followed for its valve and for other holders. With the
permission GRANTED and the stop met by the count it is WITHDRAWN with the cause, the count and the time, the side's TRIP source is raised,
and the valve is SHUT or has a SHUT demand of TRIP origin, where an operation that was in flight carried a demand of its direction (section
4.2); otherwise the side keeps its permission, and its TRIP source is not raised. -/
def State.StopCompared (s t : State) (b : Bank) (h : Fin 4) (sd : Side) (n : Nat) : Prop :=
  let v := valveOf h sd
  let src := if sd = .outlet then srcLowTrip h else srcHighTrip h
  (s.perms[v].granted = true → b.MeetsStop h sd n →
    t.perms[v] = ⟨false, some (if sd = .outlet then .lowStop else .highStop), some n, some s.timebase⟩ ∧ s.Raised t src ∧
    ((s.valves[v].state = .opening → s.valves[v].demand.map Demand.dir = some .toOpen) →
      (s.valves[v].state = .shutting → s.valves[v].demand.map Demand.dir = some .toShut) →
      t.valves[v].state = .shut ∨
        (t.valves[v].state ∈ [.shutting, .noAnswer, .localHand] ∧ t.valves[v].demand = some ⟨.toShut, .trip⟩))) ∧
  (s.perms[v].granted = false ∨ ¬b.MeetsStop h sd n → t.perms[v] = s.perms[v] ∧ s.NotRaised t src)

/-- R78: the two stops of a holder have been compared with a count. -/
def State.StopsCompared (s t : State) (b : Bank) (h : Fin 4) (n : Nat) : Prop := ∀ sd : Side, s.StopCompared t b h sd n

/-- R82, R154, R175: the state of which the stops are compared at a swap that leaves `t`: the tables and the clock of `t`, the attention list
classed by the new map, and the valves and permissions of a holder that becomes fitted at their initial values. -/
def State.atSwap (s t : State) (old new : Bank) : State :=
  let joins (v : Fin 8) : Bool := !old.fitted (holderOf v) && new.fitted (holderOf v)
  { s with
    tables := t.tables, clock := t.clock, attn := s.attn.reclass (some new),
    valves := Vector.ofFn fun v => if joins v then ValveRec.initial else s.valves[v],
    perms := Vector.ofFn fun v => if joins v then PermRec.initial else s.perms[v] }

/-- R78, R79: a holder's count lies between its stops, so that no trip follows from it. -/
def State.BetweenStops (s : State) (b : Bank) (h : Fin 4) : Prop :=
  b.holders[h].lowStop < s.holders[h].count ∧ s.holders[h].count < b.holders[h].highStop

/-- R93, R94: a holder meets the conditions of an outgoing holder of a side. -/
def State.Outgoing (s : State) (b : Bank) (sd : Side) (h : Fin 4) : Prop :=
  b.fitted h = true ∧ s.holders[h].certain = true ∧ s.prog.roles[h].held = false ∧ includesSide s.prog.roles[h].role sd = true ∧
    (if sd = .outlet then s.prog.roles[h].lowMark = true ∧ s.holders[h].count ≤ b.holders[h].nearEmpty
     else s.prog.roles[h].highMark = true ∧ b.holders[h].nearFull ≤ s.holders[h].count)

/-- R93, R94: a holder of a role qualifies as the incoming holder of a side. For filling the comparison is exact (log 45): with a
changeover margin above the near-full height no count qualifies. -/
def State.Incoming (s : State) (b : Bank) (sd : Side) (h : Fin 4) (r : Role) : Prop :=
  s.prog.roles[h].role = some r ∧ s.available b h (r.gain sd) false = true ∧
    (if sd = .outlet then b.holders[h].nearEmpty + b.holders[h].changeover ≤ s.holders[h].count
     else s.holders[h].count + b.holders[h].changeover ≤ b.holders[h].nearFull)

/-- R93, R94, R96: the first holder of a list that qualifies, the outgoing holder skipped. -/
def State.FirstIncoming (s : State) (b : Bank) (sd : Side) (out : Option (Fin 4)) (places : List (Fin 4)) (c : Fin 4) (r : Role) : Prop :=
  some c ≠ out ∧ s.Incoming b sd c r ∧
    ∃ before after, places = before ++ c :: after ∧ ∀ k ∈ before, some k = out ∨ ∀ q, ¬s.Incoming b sd k q

/-- R61, R65: the record of a valve at rest on which a demand has started an operation, with the loop UP. -/
def ValveRec.starting (r : ValveRec) (d : Demand) (joined : Bool) : ValveRec :=
  { r with state := if d.dir = .toOpen then .opening else .shutting, demand := some d, joined := joined, phase := .selectSent,
           tag := r.tag + 1, answerTimer := none, reissue := 0 }

/-- R61, R65, R75: a demand has started an operation on a valve whose record was `r`. With the loop UP its SELECT is queued; under
LOOP_LOST no command is placed and the command phase is IDLE (the tag stays, log 61). -/
def State.begun (s : State) (v : Fin 8) (r : ValveRec) (d : Demand) (joined : Bool) : State :=
  if s.loop.lost then { s with valves := upd s.valves v { r with
    state := if d.dir = .toOpen then .opening else .shutting, demand := some d, joined := joined, phase := .idle, reissue := 0 } }
  else { s with
    valves := upd s.valves v (r.starting d joined), loop := s.loop.placeValve v false d.dir (r.tag + 1) (d.origin == .trip) }

/-- R93, R94: the first holder that meets the conditions of an outgoing holder of a side, in the order of the side, or else in holder
order. -/
def State.FirstOutgoing (s : State) (b : Bank) (sd : Side) (o : Fin 4) : Prop :=
  s.Outgoing b sd o ∧
    ∃ before after, b.orderOf sd ++ List.finRange 4 = before ++ o :: after ∧ ∀ k ∈ before, ¬s.Outgoing b sd k

/-- R92: the target role of a holder in a SLOT or RE-EVALUATE transition, absent where it is NOT SET. -/
def State.target (s : State) (b : Bank) (t : Trigger) (slot : Nat) (h : Fin 4) : Option Role :=
  if s.prog.roles[h].held = false ∧ (t = .slot ∨ s.prog.roles[h].retake = true) then some (b.slotRole slot h) else s.prog.roles[h].role

/-- R92: a fitted holder takes part in a SLOT or RE-EVALUATE transition with a target role: it is available for it, or it has nothing to
open (log 47). -/
def State.TakesPart (s : State) (b : Bank) (t : Trigger) (slot : Nat) (h : Fin 4) (r : Role) : Prop :=
  b.fitted h = true ∧ s.target b t slot h = some r ∧
    (s.available b h r true = true ∨ ∀ sd, r.asksOpen sd = true → s.valves[valveOf h sd].state = .opened)

/-- R92: the transition that a SLOT or RE-EVALUATE trigger is built into, with its entries, its open demands and its shut demands. -/
def State.SlotTransition (s : State) (b : Bank) (t : Trigger) (slot : Nat) (tr : Transition) : Prop :=
  tr.trigger = t ∧ tr.shutting = false ∧ tr.outgoing = none ∧ tr.incoming = none ∧ tr.triedFurther = false ∧
  (∀ e, e ∈ tr.entries ↔ b.fitted e.holder = true ∧ e.prior = s.prog.roles[e.holder].role ∧
    ((∃ r, s.TakesPart b t slot e.holder r ∧ e.target = some r) ∨
      (s.target b t slot e.holder ≠ none ∧ (∀ r, ¬s.TakesPart b t slot e.holder r) ∧ e.target = e.prior))) ∧
  (tr.entries.map TargetEntry.holder).Nodup ∧
  (∀ o, o ∈ tr.opens ↔ o.state = .inFlight ∧ s.valves[o.valve].state ≠ .opened ∧
    ∃ r, s.TakesPart b t slot (holderOf o.valve) r ∧ r.asksOpen (sideOf o.valve) = true) ∧
  (∀ x, x ∈ tr.shuts ↔ x.state = .waiting ∧ s.valves[x.valve].state ≠ .shut ∧
    ∃ r, s.TakesPart b t slot (holderOf x.valve) r ∧ r.asksOpen (sideOf x.valve) = false)

/-- R95: the open demands of a transition have been offered to valves that stand SHUT, each of which begins to open. -/
def State.OpensBegin (s u : State) (opens : List OpenEntry) : Prop :=
  (∀ o ∈ opens, u.valves[o.valve] = s.valves[o.valve].starting ⟨.toOpen, .programme⟩ true ∧
    .valve o.valve false .toOpen (s.valves[o.valve].tag + 1) false ∈ u.loop.commands) ∧
  (∀ v, (∀ o ∈ opens, o.valve ≠ v) → u.valves[v] = s.valves[v]) ∧
  u.perms = s.perms ∧ u.attn = s.attn ∧ u.prog.notices = s.prog.notices ∧ u.prog.deferred = s.prog.deferred

/-- R97, R98: a shut demand waits as the shutting phase begins: its holder has opened every gas path it was to open. -/
def Transition.Waits (t : Transition) (v : Fin 8) : Prop := ⟨v, .waiting⟩ ∈ t.shuts ∧ t.failedHolder (holderOf v) = false

/-- R98: a shut demand that is withheld: its valve is the last OPEN one of its side, every other being shut before it. -/
def State.Withheld (s : State) (b : Bank) (t : Transition) (v : Fin 8) : Prop :=
  t.Waits v ∧ s.valves[v].state = .opened ∧
    ∀ w, w ≠ v → sideOf w = sideOf v → b.fitted (holderOf w) = true → s.valves[w].state = .opened → t.Waits w ∧ w < v

/-- R99: what follows the end of a transition: the marks of every holder CLEAR, or a trigger where a further holder is to be handled. -/
def State.Ends (s u : State) (b : Bank) (t : Transition) : Prop :=
  u.prog.transition = none ∧
  (t.trigger.side = none → u.prog.deferred = s.prog.deferred ∧ ∀ h : Fin 4, u.prog.roles[h].lowMark = false ∧ u.prog.roles[h].highMark = false) ∧
  (∀ sd, t.trigger.side = some sd →
    ((∃ h, some h ≠ t.outgoing ∧ u.Outgoing b sd h) → sd.trigger ∈ u.prog.deferred) ∧
    ((∀ h, some h ≠ t.outgoing → ¬u.Outgoing b sd h) → u.prog.deferred = s.prog.deferred))

/-- R97, R98: the opening phase of a transition has ended in the state `s`: the roles are set, and the shut demands are placed, withheld
or dropped. A withheld one gives its holder the side's work back, and two of one holder both sides' (log 90). -/
structure State.ShutsBegin (s u : State) (b : Bank) (t : Transition) : Prop where
  placed : ∀ v, t.Waits v → ¬s.Withheld b t v → s.valves[v].state = .opened ∨ s.valves[v].state = .unknown → s.loop.lost = false →
    u.valves[v] = s.valves[v].starting ⟨.toShut, .programme⟩ true ∧
      .valve v false .toShut (s.valves[v].tag + 1) false ∈ u.loop.commands
  kept : ∀ v, s.Withheld b t v ∨ ¬t.Waits v → u.valves[v] = s.valves[v]
  raised : ∀ v, s.Withheld b t v → s.Raised u (sideOf v).source
  notRaised : ∀ sd, (∀ v, sideOf v = sd → ¬s.Withheld b t v) → s.NotRaised u sd.source
  roles : (t.entries.map TargetEntry.holder).Nodup → ∀ e ∈ t.entries,
    let r := if t.failedHolder e.holder then s.prog.roles[e.holder].role else e.target
    let v := valveOf e.holder
    (¬s.Withheld b t (v .inlet) → ¬s.Withheld b t (v .outlet) → u.prog.roles[e.holder].role = r) ∧
    (s.Withheld b t (v .inlet) → ¬s.Withheld b t (v .outlet) → u.prog.roles[e.holder].role = r.map fun x => x.gain .inlet) ∧
    (¬s.Withheld b t (v .inlet) → s.Withheld b t (v .outlet) → u.prog.roles[e.holder].role = r.map fun x => x.gain .outlet) ∧
    (s.Withheld b t (v .inlet) → s.Withheld b t (v .outlet) →
      u.prog.roles[e.holder].role = r.map fun x => (x.gain .inlet).gain .outlet)
  others : ∀ h : Fin 4, (∀ e ∈ t.entries, e.holder ≠ h) → (∀ v, holderOf v = h → ¬t.Waits v) →
    u.prog.roles[h].role = s.prog.roles[h].role
  held : ∀ h : Fin 4, u.prog.roles[h].held = s.prog.roles[h].held
  mark : ∀ sd c, t.trigger.side = some sd → t.incoming = some c → (u.prog.roles[c]).mark sd = false
  ends : (∀ v, t.Waits v → s.Withheld b t v) → (∀ x ∈ t.shuts, x.state ≠ .inFlight) → s.Ends u b t
  goesOn : (∃ v, t.Waits v ∧ ¬s.Withheld b t v) → ∃ t', u.prog.transition = some t' ∧ t'.shutting = true ∧ t'.trigger = t.trigger ∧
    t'.entries = t.entries ∧ t'.outgoing = t.outgoing ∧ t'.incoming = t.incoming ∧ t'.opens = t.opens ∧
    t'.shuts.map ShutEntry.valve = t.shuts.map ShutEntry.valve ∧
    (∀ v, s.Withheld b t v → ⟨v, .withheld⟩ ∈ t'.shuts) ∧
    (∀ v, t.Waits v → ¬s.Withheld b t v → ⟨v, .inFlight⟩ ∈ t'.shuts) ∧
    (∀ v, ⟨v, .waiting⟩ ∈ t.shuts → t.failedHolder (holderOf v) = true → ⟨v, .dropped⟩ ∈ t'.shuts) ∧
    (∀ x ∈ t.shuts, x.state ≠ .waiting → x ∈ t'.shuts)
  perms : u.perms = s.perms

/-- R22, R39, R47, R78, R79, R82, R123: what a swap from one live bank to another makes of the holders, the channels, the points, the
permissions and the districts, whatever the programme does. The stops are compared for a holder that becomes fitted, for one whose stops
the swap has changed, and for one that the new maximum travel limits: with its present count, and the high stop of the last with the
count before, its highest. -/
structure State.RecordsTaken (s t : State) (old new : Bank) : Prop where
  lifts : ∀ h : Fin 4,
    (old.fitted h = true → new.fitted h = true →
      let n := min s.holders[h].count new.holders[h].travel
      t.holders[h].count = n ∧ t.holders[h].ref = s.holders[h].ref ∧ t.holders[h].lastDatum = s.holders[h].lastDatum ∧
      t.holders[h].liftFault = s.holders[h].liftFault ∧ t.holders[h].cupped = new.holders[h].cuppedAt n ∧
      t.holders[h].expected = new.holders[h].expectedAt n ∧ t.holders[h].geoVolume = volumeAt (new.breakpoints h) n ∧
      (s.holders[h].count ≤ new.holders[h].travel →
        t.holders[h].certain = s.holders[h].certain ∧ t.holders[h].note = s.holders[h].note) ∧
      (new.holders[h].travel < s.holders[h].count →
        t.holders[h].certain = false ∧ t.holders[h].note = ⟨.limitedAtSwap, none, s.timebase⟩) ∧
      (old.holders[h].cupChanged new.holders[h] = true → t.holders[h].outRun = 0 ∧ t.holders[h].inRun = 0)) ∧
    (old.fitted h = false → new.fitted h = true →
      t.holders[h].count = min ((s.nv.saves[h].map HolderSave.count).getD 0) new.holders[h].travel ∧
      t.holders[h].certain = false ∧ t.holders[h].ref = none) ∧
    (new.fitted h = false → t.holders[h].count = s.holders[h].count ∧ t.holders[h].certain = s.holders[h].certain ∧
      t.holders[h].ref = s.holders[h].ref)
  meters : ∀ m : Fin 12,
    let moved := addressesChanged old new (.meter m)
    let c := s.channels[m]
    let kept : ChannelRec := { c with
      reference := if moved then none else c.reference, waiver := c.waiver && !moved,
      window := if old.meters[m].k ≠ new.meters[m].k ∧ c.state = .measuring then none else c.window }
    (old.meters[m].inUse = false → new.meters[m].inUse = true → t.channels[m] = ChannelRec.initial) ∧
    (new.meters[m].inUse = false → t.channels[m] = c) ∧
    (old.meters[m].inUse = true → new.meters[m].inUse = true →
      (old.meters[m].stall = new.meters[m].stall ∨ s.loop.lost = true ∨ c.state ≠ .measuring → t.channels[m] = kept) ∧
      (∀ x, old.meters[m].stall ≠ new.meters[m].stall → s.loop.lost = false → c.state = .measuring → c.stallStart = some x →
        t.channels[m] = if s.timebase < x + new.meters[m].stall * 1000 then kept
          else { kept with state := .stalled, rate := 0, rateTime := some s.timebase, window := none }))
  points : ∀ p : Fin 24, t.points[p] = s.points[p].afresh new.yard.pointStale s.timebase
  barometer : t.barometer = s.barometer.afresh new.yard.pointStale s.timebase
  calorimeter : t.calorimeter = s.calorimeter.afresh new.yard.cvStale s.timebase
  perms : ∀ v : Fin 8,
    let h := holderOf v
    new.fitted h = false ∨ (old.fitted h = true ∧ old.holders[h].lowStop = new.holders[h].lowStop ∧
      old.holders[h].highStop = new.holders[h].highStop ∧ s.holders[h].count ≤ new.holders[h].travel) → t.perms[v] = s.perms[v]
  stops : ∀ (h : Fin 4) (sd : Side), new.fitted h = true →
    old.fitted h = false ∨ old.holders[h].lowStop ≠ new.holders[h].lowStop ∨ old.holders[h].highStop ≠ new.holders[h].highStop ∨
      new.holders[h].travel < s.holders[h].count →
    (s.atSwap t old new).StopCompared t new h sd
      (if sd = .outlet ∨ old.fitted h = false then t.holders[h].count else s.holders[h].count)
  districts : ∀ d : Fin 6,
    let eo := old.districts[d]
    let en := new.districts[d]
    let r := s.districts[d]
    let moved := addressesChanged old new (.governor d)
    let outside : Prop := ∃ x, (s.loop.unsentSet d = some x ∨ s.loop.tx.setOnLine d = some x) ∧ (x < en.minSet ∨ en.maxSet < x)
    (eo.used = false → en.used = true → t.districts[d] = { DistrictRec.initial with reviewTimer := some (s.timebase + 60000) }) ∧
    (eo.used = true → en.used = false → t.districts[d] = { r with reviewTimer := none } ∧ t.loop.unsentSet d = none) ∧
    (eo.used = true → en.used = true →
      t.districts[d].trim = min r.trim en.trimMax ∧ t.districts[d].reviewTimer = r.reviewTimer ∧ t.districts[d].refresh = r.refresh ∧
      t.districts[d].lastSent = (if moved then none else r.lastSent) ∧
      t.districts[d].reported = (if moved then none else r.reported) ∧
      (eo.endLow = en.endLow → eo.endHigh = en.endHigh → eo.confirm = en.confirm → eo.endPoint = en.endPoint →
        t.districts[d].lowRun = r.lowRun ∧ t.districts[d].highRun = r.highRun ∧ t.districts[d].endLowStanding = r.endLowStanding) ∧
      (eo.endLow ≠ en.endLow ∨ eo.endHigh ≠ en.endHigh ∨ eo.confirm ≠ en.confirm ∨ eo.endPoint ≠ en.endPoint →
        t.districts[d].lowRun = 0 ∧ t.districts[d].highRun = 0 ∧ t.districts[d].endLowStanding = false) ∧
      (outside → t.districts[d].sendDue = true ∧ t.loop.unsentSet d = none) ∧
      (¬outside → t.districts[d].sendDue = (r.sendDue || moved) ∧ t.loop.unsentSet d = s.loop.unsentSet d))

/-- R22, R39, R47, R82, R105, R123: what a swap from one live bank to another makes of the records of all the blocks, where the swap finds no
transition in flight, no notice and no trigger that may be taken. -/
structure State.TakenOver (s t : State) (old new : Bank) : Prop extends s.RecordsTaken t old new where
  valves : ∀ v : Fin 8,
    let h := holderOf v
    let r := s.valves[v]
    let clear : Prop := s.holders[h].count ≤ new.holders[h].travel ∧
      ((old.holders[h].lowStop = new.holders[h].lowStop ∧ old.holders[h].highStop = new.holders[h].highStop) ∨
        (new.holders[h].lowStop < s.holders[h].count ∧ s.holders[h].count < new.holders[h].highStop))
    (old.fitted h = false → new.fitted h = true → t.BetweenStops new h →
      t.valves[v] = ValveRec.initial ∧ t.perms[v] = PermRec.initial) ∧
    (old.fitted h = true → new.fitted h = false → t.perms[v] = s.perms[v] ∧
      t.valves[v] = { r with demand := none, joined := false, phase := .idle, answerTimer := none, travelTimer := none }) ∧
    (old.fitted h = false → new.fitted h = false → t.valves[v] = r ∧ t.perms[v] = s.perms[v]) ∧
    (old.fitted h = true → new.fitted h = true → clear → t.perms[v] = s.perms[v] ∧
      (addressesChanged old new (.valve v) = false → t.valves[v] = r) ∧
      (addressesChanged old new (.valve v) = true → r.demand = none → t.valves[v] = { r with
        state := .unknown, reported := none, phase := .idle, answerTimer := none, travelTimer := none, reissue := 0 }) ∧
      (∀ d, addressesChanged old new (.valve v) = true → r.demand = some d → s.loop.lost = false →
        t.valves[v] = { r.starting d r.joined with reported := none, travelTimer := none } ∧
        .valve v false d.dir (r.tag + 1) (d.origin == .trip) ∈ t.loop.commands) ∧
      (∀ d, addressesChanged old new (.valve v) = true → r.demand = some d → s.loop.lost = true → t.valves[v] = { r with
        state := if d.dir = .toOpen then .opening else .shutting, reported := none, phase := .idle, answerTimer := none,
        travelTimer := none, reissue := 0 }))
  roles : ∀ h : Fin 4,
    let r : RoleRec := if old.fitted h = new.fitted h then s.prog.roles[h] else RoleRec.initial
    t.prog.roles[h].role = r.role ∧ t.prog.roles[h].held = r.held ∧
    t.prog.roles[h].retake = (r.retake || (decide (old.slots ≠ new.slots) && new.fitted h && !r.held))
  triggers : old.slots ≠ new.slots ∨ old.sendOrder ≠ new.sendOrder ∨ old.fillOrder ≠ new.fillOrder → .reEvaluate ∈ t.prog.deferred

/-! ## Sound banks: the conditions of COMMIT, table by table -/

/-- R1, Table 1, Table 1a: the entry of a fitted holder, but for its breakpoints. Lifts 2 to 4 stand at places 0 to 2. -/
structure HolderEntry.Sound (e : HolderEntry) : Prop where
  kinds : e.fitted = 1 ∧ e.kind ≤ 1 ∧ 1 ≤ e.lifts ∧ e.lifts ≤ 4 ∧ (e.kind = 1 → e.lifts = 1)
  travel : 1 ≤ e.travel ∧ e.travel ≤ 25000
  cups : ∀ k : Fin 3, k.val + 2 ≤ e.lifts → 1 ≤ e.cups[k] ∧ e.cups[k] ≤ e.travel ∧ e.incs[k] ≤ 3000 ∧
    ∀ j, j < k → e.cups[j] < e.cups[k]
  pressure : e.base + ((List.finRange 3).map fun k => if k.val + 2 ≤ e.lifts then e.incs[k] else 0).sum ≤ 3000
  breakpoints : 2 ≤ e.nBreaks ∧ e.nBreaks ≤ 16
  datums : e.nDatums ≤ 4 ∧ ∀ k : Fin 4, k.val < e.nDatums → e.datums[k] ≤ e.travel
  tolerances : 1 ≤ e.slipTol ∧ e.slipTol ≤ 500 ∧ 5 ≤ e.cupTol ∧ e.cupTol ≤ 200
  stops : e.lowStop < e.nearEmpty ∧ e.nearEmpty < e.nearFull ∧ e.nearFull < e.highStop ∧ e.highStop ≤ e.travel
  margins : e.rePermit ≤ 25000 ∧ e.changeover ≤ 25000
  times : 10 ≤ e.inletTime ∧ e.inletTime ≤ 900 ∧ 10 ≤ e.outletTime ∧ e.outletTime ≤ 900
  points : 1 ≤ e.tempPoint ∧ e.tempPoint ≤ 24 ∧ 1 ≤ e.presPoint ∧ e.presPoint ≤ 24

/-- R1, Table 1a: the breakpoints of a fitted holder, entries 16 × holder on, rise from 0 to the maximum travel, and their volumes do not
fall. A volume lies in the range of the Conventions (log 27). -/
def Bank.GeometrySound (b : Bank) (h : Fin 4) : Prop :=
  let n := b.holders[h].nBreaks
  let at_ (j : Nat) : Option GeoEntry := b.geometry[16 * h.val + j]?
  (∀ p, at_ 0 = some p → p.height = 0) ∧ (∀ p, at_ (n - 1) = some p → p.height = b.holders[h].travel) ∧
  (∀ j p q, j + 1 < n → at_ j = some p → at_ (j + 1) = some q → p.height < q.height ∧ p.volume ≤ q.volume) ∧
  ∀ j p, j < n → at_ j = some p → p.volume ≤ 999999

/-- R23, Table 5: the entry of a channel in use. -/
def MeterEntry.Sound (e : MeterEntry) : Prop :=
  e.role ≤ 3 ∧ 1 ≤ e.k ∧ e.k ≤ 10000 ∧ 1 ≤ e.nMin ∧ e.nMin ≤ 64 ∧ 5 ≤ e.stall ∧ e.stall ≤ 600 ∧ 1 ≤ e.maxPulses ∧
  e.maxPulses ≤ 4096 ∧ 1 ≤ e.tempPoint ∧ e.tempPoint ≤ 24 ∧ 1 ≤ e.presPoint ∧ e.presPoint ≤ 24 ∧
  (e.role = 3 → 1 ≤ e.district ∧ e.district ≤ 6)

/-- R84: an order holds 1 to 4 fitted holders, none twice. -/
def Bank.OrderSound (b : Bank) (o : OrderEntry) : Prop :=
  1 ≤ o.count ∧ o.count ≤ 4 ∧
  ∀ j : Fin 4, j.val < o.count → (∃ h : Fin 4, o.places[j] = h.val + 1 ∧ b.fitted h = true) ∧ ∀ i, i < j → o.places[i] ≠ o.places[j]

/-- R107, Table 16: the entry of a district in use. -/
structure DistrictEntry.Sound (e : DistrictEntry) : Prop where
  used : e.inUse = 1
  bounds : e.minSet ≤ e.maxSet ∧ e.maxSet ≤ 3000
  boost : e.boostC ≤ 10000 ∧ e.boostMax ≤ 3000
  trim : 1 ≤ e.trimStep ∧ e.trimStep ≤ 500 ∧ e.trimMax ≤ 3000 ∧ (e.trimMax ≠ 0 → e.trimStep ≤ e.trimMax)
  ends : e.endLow < e.endHigh ∧ e.endHigh ≤ 3000 ∧ 1 ≤ e.confirm ∧ e.confirm ≤ 10
  rest : e.minDrop ≤ 3000 ∧ 1 ≤ e.slew ∧ e.slew ≤ 3000 ∧ e.deadband ≤ 500 ∧ 1 ≤ e.inletPoint ∧ e.inletPoint ≤ 24 ∧
    1 ≤ e.endPoint ∧ e.endPoint ≤ 24 ∧ e.meter ≤ 12

/-- R45, R127: the yard settings. -/
def YardEntry.Sound (y : YardEntry) : Prop :=
  10 ≤ y.pointStale ∧ y.pointStale ≤ 600 ∧ 60 ≤ y.cvStale ∧ y.cvStale ≤ 3600 ∧ 3000 ≤ y.declaredCv ∧ y.declaredCv ≤ 6000 ∧
  (y.length = 15 ∨ y.length = 30 ∨ y.length = 60) ∧ y.gasHour ≤ 23

/-- R151, R1, R23, R45, R59, R107: a station map entry whose count is not 0, at its place. -/
structure Bank.MapSound (b : Bank) (own : Nat) (i : Fin 40) (e : MapEntry) : Prop where
  addresses : 1 ≤ e.first ∧ e.first + e.count ≤ 251 ∧ e.count ≤ 16
  kind : e.kind ≤ 6
  roles : ∀ n, (e.kind, n) ∈ [(0, 4), (1, 12), (2, 24), (3, 8), (4, 6)] → 1 ≤ e.index ∧ e.index + e.count ≤ n + 1
  single : 5 ≤ e.kind → e.count = 1
  notOwn : e.covers own = false
  apart : ∀ j, j < i →
    let f := b.stationMap[j]
    f.count ≠ 0 →
      (∀ a, e.covers a = true → f.covers a = false) ∧
      (f.kind = e.kind → e.kind ≤ 4 ∧ (e.index + e.count ≤ f.index ∨ f.index + f.count ≤ e.index))
  present : ∀ n, e.index ≤ n → n < e.index + e.count →
    (∀ h : Fin 4, e.kind = 0 → n = h.val + 1 → b.fitted h = true) ∧
    (∀ m : Fin 12, e.kind = 1 → n = m.val + 1 → b.meters[m].inUse = true) ∧
    (∀ v : Fin 8, e.kind = 3 → n = v.val + 1 → b.fitted (holderOf v) = true) ∧
    (∀ d : Fin 6, e.kind = 4 → n = d.val + 1 → b.districts[d].used = true)

/-- R151: an alias in use, at its place. -/
structure Bank.SpareSound (b : Bank) (own : Nat) (i : Fin 8) (x : SpareEntry) : Prop where
  addresses : 1 ≤ x.a ∧ x.a ≤ 250 ∧ 1 ≤ x.b ∧ x.b ≤ 250
  notOwn : x.a ≠ own
  free : (∀ j : Fin 40, b.stationMap[j].covers x.a = false) ∧ ∀ j, j < i → b.spares[j].used = true → b.spares[j].a ≠ x.a
  mapped : ∃ j : Fin 40, b.stationMap[j].covers x.b = true
  noChain : ∀ j : Fin 8, b.spares[j].used = true → b.spares[j].a ≠ x.b

/-- R150, Table 24: what COMMIT asks of a bank, for the part's own address. -/
structure Bank.Sound (b : Bank) (own : Nat) : Prop where
  map : ∀ i : Fin 40, b.stationMap[i].count ≠ 0 → b.MapSound own i b.stationMap[i]
  spares : ∀ i : Fin 8, b.spares[i].used = true → b.SpareSound own i b.spares[i]
  holders : ∀ h : Fin 4, b.fitted h = true → b.holders[h].Sound ∧ b.GeometrySound h
  meters : ∀ m : Fin 12, b.meters[m].inUse = true → b.meters[m].Sound
  correction : ∀ i : Fin 221, 7000 ≤ b.correction[i] ∧ b.correction[i] ≤ 13000
  slots : ∀ (i : Fin 48) (h : Fin 4), b.fitted h = true → b.slots[i][h] ≤ 3
  orders : ∀ o : Fin 2, b.OrderSound b.orders[o]
  districts : ∀ d : Fin 6, b.districts[d].used = true → b.districts[d].Sound ∧ ∀ slot, 1 ≤ slot → slot ≤ 48 → b.schedule d slot ≤ 3000
  yard : b.yard.Sound
  attention : ∀ n : Fin 74, b.attention[n].enabled ≤ 1 ∧ b.attention[n].cls ≤ 2

/-! ## Closes -/

/-- R134 to R136: the record that the close of an open interval makes, with the yard flags that the event of the close sets. -/
structure State.Recorded (s : State) (b : Bank) (iv : OpenInterval) (extra : YardFlags) (r : IntervalRecord) : Prop where
  taken : r.sequence = s.accounts.logs.lastSeq + 1 ∧ r.identity = iv.identity ∧ r.openTime = iv.openTime ∧ r.generation = iv.generation
  channels : ∀ m : Fin 12,
    let c := iv.channels[m]
    let x := r.channels[m]
    x.role = c.role ∧ x.pulses = c.pulses ∧ x.raw = c.raw ∧ x.volumeIn = c.volumeIn ∧ x.energyIn = c.energyIn ∧ x.flags = c.flags ∧
    x.corrected * 10000 + x.volumeOut = c.volume ∧ x.volumeOut < 10000 ∧
    x.energy * 100000000 + x.energyOut = c.energy ∧ x.energyOut < 100000000
  holders : ∀ h : Fin 4, r.holders[h] = ⟨iv.stockOpen[h], (s.holderStock b h).1, s.holders[h].certain, (s.holderStock b h).2⟩
  totals : r.totalOpen = ((List.finRange 4).map fun h => iv.stockOpen[h]).sum ∧
    r.totalClose = ((List.finRange 4).map fun h => (s.holderStock b h).1).sum
  sums :
    let ofRole (role : Nat) : Nat :=
      ((List.finRange 12).map fun m => if iv.channels[m].role = role then iv.channels[m].volume / 10000 else 0).sum
    r.make = ofRole 1 ∧ r.send = ofRole 2 ∧
    r.balance = (ofRole 1 : Int) - ofRole 2 - 100 * ((r.totalClose : Int) - r.totalOpen)
  uncertain : r.yard.stockUncertain = true ↔
    iv.yard.stockUncertain = true ∨ extra.stockUncertain = true ∨ ∃ h, b.fitted h = true ∧ s.holders[h].certain = false
  held : r.yard.stockHeld = true ↔
    iv.yard.stockHeld = true ∨ extra.stockHeld = true ∨ ∃ h, (s.holderStock b h).2.held = true ∨ (s.holderStock b h).2.reference = true
  otherFlags : { r.yard with stockUncertain := false, stockHeld := false } =
    { iv.yard.union extra with stockUncertain := false, stockHeld := false }

/-- R129, R131, R137: the interval that a close opens under the bank `n`, where the record `r` has been made and the state `t` follows; its
flags are those of its opening, but that STOCK_UNCERTAIN may have been set since (R22, R137). -/
structure State.Opened (s t : State) (b n : Bank) (r : IntervalRecord) (extra : YardFlags) (iv : OpenInterval) : Prop where
  placed : iv.identity = (n.yard.placeClock t.clock).identity ∧ iv.nominalStart = (n.yard.placeClock t.clock).nominalStart ∧
    iv.nominalEnd = (n.yard.placeClock t.clock).nominalEnd
  openTime : iv.openTime = if t.clock.valid = true then some ⟨t.clock.day, t.clock.sec⟩ else none
  generation : iv.generation = t.tables.generation
  channels : ∀ m : Fin 12,
    let x := r.channels[m]
    iv.channels[m] = ⟨n.meters[m].role, 0, 0, x.volumeOut, x.energyOut, x.volumeOut, x.energyOut,
      ⟨false, false, false, false, t.channels[m].state == .stalled⟩⟩
  stock : ∀ h : Fin 4, iv.stockOpen[h] = r.holders[h].stockClose
  uncertain : (iv.stockUncertainOpen = true ↔ ∃ h, b.fitted h = true ∧ s.holders[h].certain = false) ∧
    (iv.stockUncertainOpen = true → iv.yard.stockUncertain = true)
  held : (iv.stockHeldOpen = true ↔ ∃ h, (s.holderStock b h).2.held = true ∨ (s.holderStock b h).2.reference = true) ∧
    iv.yard.stockHeld = (extra.stockHeld || iv.stockHeldOpen)
  otherFlags : { iv.yard with stockUncertain := false, stockHeld := false } =
    { extra with loopLost := extra.loopLost || s.loop.lost, clockInvalid := extra.clockInvalid || !t.clock.valid,
                 stockUncertain := false, stockHeld := false }

/-- R143: the first interval that opens under a live bank just taken, in the state `t` that follows: it is marked by GAP and CLOCK INVALID,
its residues, accumulators and pulses are 0, and its stocks are those of the holders as they were brought to the bank. -/
structure State.FirstOpened (t : State) (n : Bank) (iv : OpenInterval) : Prop where
  placed : t.clock.valid = false →
    iv.identity = none ∧ iv.nominalStart = none ∧ iv.nominalEnd = none ∧ iv.openTime = none
  generation : iv.generation = t.tables.generation
  channels : ∀ m : Fin 12, iv.channels[m] =
    ⟨n.meters[m].role, 0, 0, 0, 0, 0, 0, ⟨false, false, false, false, t.channels[m].state == .stalled⟩⟩
  stock : ∀ h : Fin 4, iv.stockOpen[h] = (t.holderStock n h).1
  uncertain : (iv.stockUncertainOpen = true ↔ ∃ h, n.fitted h = true ∧ t.holders[h].certain = false) ∧
    iv.yard.stockUncertain = iv.stockUncertainOpen
  held : (iv.stockHeldOpen = true ↔ ∃ h, (t.holderStock n h).2.held = true ∨ (t.holderStock n h).2.reference = true) ∧
    iv.yard.stockHeld = iv.stockHeldOpen
  otherFlags : { iv.yard with stockUncertain := false, stockHeld := false } =
    { YardFlags.none with gap := true, clockInvalid := true, loopLost := t.loop.lost }

/-- R141: the open day record and the daily log after a record has been made. -/
def Logs.DayKept (l l' : Logs) (r : IntervalRecord) : Prop :=
  let begun (d : DayRecord) (g : Nat) : Prop :=
    d.gasDay = g ∧ d.firstSeq = r.sequence ∧ d.lastSeq = r.sequence ∧ d.intervals = 1 ∧ d.make = r.make ∧ d.send = r.send ∧
    d.stockOpen = r.totalOpen ∧ d.stockClose = r.totalClose ∧ d.balance = r.balance ∧ d.yard = r.yard ∧
    ∀ m : Fin 12, d.channels[m] = ⟨r.channels[m].corrected, r.channels[m].energy, r.channels[m].flags⟩
  (r.identity = none → l'.openDay = l.openDay ∧ l'.daily = l.daily) ∧
  ∀ i, r.identity = some i → ∃ d, l'.openDay = some d ∧
    (l.openDay = none → begun d i.gasDay ∧ l'.daily = l.daily) ∧
    ∀ o, l.openDay = some o →
      (o.gasDay ≠ i.gasDay → begun d i.gasDay ∧ l'.daily.getLast? = some o ∧
        (l.daily.length < 14 → l'.daily = l.daily ++ [o]) ∧ (l.daily.length = 14 → l'.daily = l.daily.drop 1 ++ [o])) ∧
      (o.gasDay = i.gasDay → l'.daily = l.daily ∧ d.gasDay = o.gasDay ∧ d.firstSeq = o.firstSeq ∧ d.lastSeq = r.sequence ∧
        d.intervals = o.intervals + 1 ∧ d.make = o.make + r.make ∧ d.send = o.send + r.send ∧ d.stockOpen = o.stockOpen ∧
        d.stockClose = r.totalClose ∧ d.balance = o.balance + r.balance ∧ d.yard = o.yard.union r.yard ∧
        ∀ m : Fin 12, d.channels[m] = ⟨o.channels[m].volume + r.channels[m].corrected, o.channels[m].energy + r.channels[m].energy,
          o.channels[m].flags.union r.channels[m].flags⟩)

/-! ## Records as the desk reads them: the widths of Tables 38 and 39 -/

/-- A wall time that its fields hold. -/
def WallTime.Fits (w : WallTime) : Prop := w.day < 2 ^ 16 ∧ w.sec < 2 ^ 24

/-- Table 38: every quantity of an interval record fits its field. -/
structure IntervalRecord.Fits (r : IntervalRecord) : Prop where
  numbers : r.sequence < 2 ^ 32 ∧ r.generation < 2 ^ 16
  identity : ∀ i, r.identity = some i → i.gasDay < 2 ^ 16 ∧ i.index < 2 ^ 8
  times : (∀ w, r.openTime = some w → w.Fits) ∧ (∀ w, r.closeTime = some w → w.Fits)
  totals : r.totalOpen < 2 ^ 24 ∧ r.totalClose < 2 ^ 24 ∧ r.make < 2 ^ 32 ∧ r.send < 2 ^ 32 ∧ -2 ^ 31 ≤ r.balance ∧ r.balance < 2 ^ 31
  holders : ∀ h : Fin 4, r.holders[h].stockOpen < 2 ^ 24 ∧ r.holders[h].stockClose < 2 ^ 24
  channels : ∀ m : Fin 12,
    let c := r.channels[m]
    c.role < 4 ∧ c.pulses < 2 ^ 32 ∧ c.raw < 2 ^ 32 ∧ c.corrected < 2 ^ 32 ∧ c.energy < 2 ^ 32 ∧ c.volumeIn < 2 ^ 16 ∧
    c.energyIn < 2 ^ 32 ∧ c.volumeOut < 2 ^ 16 ∧ c.energyOut < 2 ^ 32

/-- Table 38: every quantity of the open interval fits its field. -/
structure OpenInterval.Fits (iv : OpenInterval) : Prop where
  numbers : iv.generation < 2 ^ 16 ∧ ((List.finRange 4).map fun h => iv.stockOpen[h]).sum < 2 ^ 24
  identity : ∀ i, iv.identity = some i → i.gasDay < 2 ^ 16 ∧ i.index < 2 ^ 8
  times : (∀ w, iv.openTime = some w → w.Fits) ∧ (∀ w, iv.nominalEnd = some w → w.Fits)
  channels : ∀ m : Fin 12,
    let c := iv.channels[m]
    c.role < 4 ∧ c.pulses < 2 ^ 32 ∧ c.raw < 2 ^ 32 ∧ c.volume < 2 ^ 64 ∧ c.energy < 2 ^ 64 ∧ c.volumeIn < 2 ^ 16 ∧ c.energyIn < 2 ^ 32

/-- Table 39: every quantity of a day record fits its field. -/
structure DayRecord.Fits (d : DayRecord) : Prop where
  numbers : d.gasDay < 2 ^ 16 ∧ d.firstSeq < 2 ^ 32 ∧ d.lastSeq < 2 ^ 32 ∧ d.intervals < 2 ^ 16
  totals : d.make < 2 ^ 32 ∧ d.send < 2 ^ 32 ∧ d.stockOpen < 2 ^ 24 ∧ d.stockClose < 2 ^ 24 ∧ -2 ^ 31 ≤ d.balance ∧ d.balance < 2 ^ 31
  channels : ∀ m : Fin 12, d.channels[m].volume < 2 ^ 32 ∧ d.channels[m].energy < 2 ^ 32

/-- Table 20: the channel flags in bits from 0 up. -/
def ChannelFlags.byTable (f : ChannelFlags) : Nat :=
  f.held.toNat + 2 * f.reference.toNat + 4 * f.clamped.toNat + 8 * f.jump.toNat + 16 * f.stalled.toNat

/-- Table 20: the yard flags in bits from 0 up. -/
def YardFlags.byTable (f : YardFlags) : Nat :=
  f.cvDeclared.toNat + 2 * f.loopLost.toNat + 4 * f.clockInvalid.toNat + 8 * f.clockAdjusted.toNat + 16 * f.clockStep.toNat +
    32 * f.restart.toNat + 64 * f.gap.toNat + 128 * f.stockUncertain.toNat + 256 * f.stockHeld.toNat

/-- R112 to R118: the values of the stages 1 to 6 of a review of a district in a slot. -/
structure State.StagesAre (s : State) (b : Bank) (d : Fin 6) (slot : Nat) (g : Stages) : Prop where
  schedule :
    let e := b.districts[d]
    let raw := b.schedule d slot
    (raw < e.minSet → g.s = e.minSet ∧ g.clamped = true) ∧
    (e.minSet ≤ raw → e.maxSet < raw → g.s = e.maxSet ∧ g.clamped = true) ∧
    (e.minSet ≤ raw → raw ≤ e.maxSet → g.s = raw ∧ g.clamped = false)
  rate :
    (b.districts[d].meter = 0 → g.rate = 0) ∧
    ∀ m : Fin 12, b.districts[d].meter = m.val + 1 →
      (b.meters[m].inUse = true → s.channels[m].state ≠ .waiting → g.rate = s.channels[m].rate) ∧
      (b.meters[m].inUse = false ∨ s.channels[m].state = .waiting → g.rate = 0)
  boost : g.boost = min b.districts[d].boostMax (b.districts[d].boostC * (g.rate / 1000) * (g.rate / 1000) / 10000)
  fresh : ∀ p : Fin 24, b.districts[d].endPoint = p.val + 1 → (g.fresh = true ↔ s.points[p].state = .fresh)
  confirmed : 0 < b.districts[d].confirm →
    (g.confirmed = .low ↔ s.districts[d].lowRun = b.districts[d].confirm) ∧
    (g.confirmed = .high ↔ s.districts[d].lowRun ≠ b.districts[d].confirm ∧ s.districts[d].highRun = b.districts[d].confirm)
  trim :
    let e := b.districts[d]
    let old := s.districts[d].trim
    (g.fresh = true → g.confirmed = .low → g.trim = min e.trimMax (old + e.trimStep)) ∧
    (g.fresh = true → g.confirmed = .high → g.trim = old - e.trimStep) ∧
    (g.fresh = false ∨ g.confirmed = .none → g.trim = old)
  target4 : g.target4 = min (b.districts[d].maxSet : Int) (g.s + g.boost + g.trim : Nat)
  inletPoint : ∀ p : Fin 24, b.districts[d].inletPoint = p.val + 1 → ∀ v, s.points[p].state = .fresh → s.points[p].value = some v →
    g.source = some .point ∧ g.headroom = some (v - b.districts[d].minDrop)
  inletHolders : ∀ p : Fin 24, b.districts[d].inletPoint = p.val + 1 → s.points[p].state ≠ .fresh →
    let sends (h : Fin 4) : Prop := b.fitted h = true ∧ s.valves[valveOf h .outlet].state = .opened
    ((∀ h, ¬sends h) → g.source = none ∧ g.headroom = none) ∧
    (∀ h, sends h → (∀ k, sends k → s.holders[h].expected ≤ s.holders[k].expected) →
      g.source = some .holders ∧ g.headroom = some ((s.holders[h].expected : Int) - b.districts[d].minDrop))
  target5 :
    (∀ x, g.headroom = some x → x < g.target4 → g.target5 = x ∧ g.limited = true) ∧
    (g.headroom = none ∨ (∃ x, g.headroom = some x ∧ g.target4 ≤ x) → g.target5 = g.target4 ∧ g.limited = false)
  target6 : g.target6 = max g.target5 (b.districts[d].minSet : Int)
  bounds : b.districts[d].minSet ≤ b.districts[d].maxSet →
    (b.districts[d].minSet : Int) ≤ g.target6 ∧ g.target6 ≤ b.districts[d].maxSet

/-- R168: the part is on and a directive finds room for its response. -/
def State.canAnswer (s : State) : Prop := s.power = .on ∧ s.loop.responses.length < Config.responsePlaces

/-- R161, R168: the state of an absorbed directive whose response, of the bodies given, is placed: nothing else changes. -/
def State.replied (s : State) (bodies : List (List Byte)) : State :=
  { s with loop := { s.loop with lineQuiet := false, responses := s.loop.responses ++ [bodies] }, drawn := s.drawn + 1 }

/-- Section 11.3: an accepted directive answered in one frame. -/
def State.accepts (s : State) (code ref : Byte) (data : List Byte) : State := s.replied [[code, ref, 0, 1, 1] ++ data]

/-- Section 11.3: a refused directive. -/
def State.refuses (s : State) (code ref reason : Byte) (data : List Byte) : State := s.replied [[code, ref, reason, 1, 1] ++ data]

/-- The state a frame received and forwarded leaves, before it is acted on (R160). -/
def State.passed (s : State) (dest src kind : Byte) (body : List Byte) : State := s.forward (.valid ⟨dest, src, kind, body⟩)

/-- R182, Table 35: the bodies of a REPORT that are routed to a role: of its length, and with a listed code where they hold one. -/
def Station.Routed (st : Station) (body : List Byte) : Prop :=
  match st with
  | .lift _ => ∃ n rest, body = n :: rest ∧ rest.length = 2 + n.toNat
  | .meter _ => body.length = 4
  | .valve _ => ∃ pos, body = [pos] ∧ pos.toNat ≤ 4
  | .governor _ => ∃ x y status, body = [x, y, status] ∧ status.toNat ≤ 1
  | .point _ | .calorimeter | .barometer => ∃ x y quality, body = [x, y, quality] ∧ quality.toNat ≤ 3

/-- R182, Table 35: the bodies of an ANSWER that are routed (a DONE's third byte is 0, log 16). -/
def AnswerRouted (body : List Byte) : Prop :=
  ∃ tag answer x : Byte, body = [tag, answer, x] ∧
    ((answer = 1 ∧ x.toNat ≤ 4) ∨ (answer = 2 ∧ x = 0) ∨ (answer = 3 ∧ 1 ≤ x.toNat ∧ x.toNat ≤ 3))

/-- R161, R163, R181, R182, Table 27: a valid frame that the part forwards and does not act on, by its kind: a SCAN HEAD of a body other
than one byte; no SCAN TAIL; a REPORT that is routed to no role; an ANSWER to another address, or routed to no valve; a DIRECTIVE to
another address, or a broadcast one that is no SET CLOCK of source 0 (one too short to hold a code and a reference is none, log 95); and
every other frame. -/
def State.OnlyForwards (s : State) (f : Frame) : Prop :=
  match f.kind.toNat with
  | 1 => f.body.length ≠ 1
  | 2 => False
  | 3 => ∀ b st, s.live = some b → b.resolve f.src.toNat = some st → ¬st.Routed f.body
  | 5 => f.dest.toNat = s.own → ∀ b v, s.live = some b → b.resolve f.src.toNat = some (.valve v) → ¬AnswerRouted f.body
  | 6 => if f.dest = 255 then f.src = 0 → ∀ ref ps, f.body ≠ 13 :: ref :: ps else f.dest.toNat ≠ s.own
  | _ => True

/-- R63, R90: the Programme Unit has no notice to take, and no trigger that it may take. -/
def State.ProgrammeIdle (s : State) : Prop := s.prog.notices = [] ∧ (s.prog.deferred = [] ∨ s.mayTake = false)

/-- What no command of a holder, a valve or the programme changes: the frame of those commands. -/
structure State.Keeps (s t : State) : Prop where
  pending : t.pending = s.pending
  power : t.power = s.power
  own : t.own = s.own
  timebase : t.timebase = s.timebase
  clock : t.clock = s.clock
  tables : t.tables = s.tables
  channels : t.channels = s.channels
  points : t.points = s.points
  barometer : t.barometer = s.barometer
  calorimeter : t.calorimeter = s.calorimeter

/-- R5: the count that a list of samples leads to from a count and a reference sample, where no step is a SKIP or meets a limit. -/
def walk (travel : Nat) : Track → Nat → List Track → Option Nat
  | _, n, [] => some n
  | r, n, x :: xs =>
    match trackStep r x with
    | some 1 => if n < travel then walk travel x (n + 1) xs else none
    | some (-1) => if 0 < n then walk travel x (n - 1) xs else none
    | some _ => walk travel x n xs
    | none => none

/-- R5 to R7: the count that a list of samples leads to from a count and a reference sample, with the steps that were a SKIP or were refused
at a limit, in order: each leaves the count, and the comparison goes on from its sample. -/
def reckon (travel : Nat) : Track → Nat → List Track → Nat × List NoteKind
  | _, n, [] => (n, [])
  | r, n, x :: xs =>
    let m : Nat := match trackStep r x with
      | some 1 => if n < travel then n + 1 else n
      | some (-1) => n - 1
      | _ => n
    let doubt : List NoteKind := match trackStep r x with
      | none => [.skip]
      | some 1 => if n < travel then [] else [.highLimit]
      | some (-1) => if 0 < n then [] else [.lowLimit]
      | some _ => []
    let rest := reckon travel x m xs
    (rest.1, doubt ++ rest.2)

/-- R169, R177: the loop has become UP in the state `t`: the LOOP LOST occurrence held back in `s` has been entered with the time held,
under the map in force, and no other source has an occurrence. -/
def State.LossEntered (s t : State) : Prop :=
  t.attn.deferred = none ∧
  (∀ o, s.attn.deferred = some o → (attnMap s.tables.live srcLoopLost).1 = true → s.attn.Gained t.attn srcLoopLost o) ∧
  (s.attn.deferred = none ∨ (attnMap s.tables.live srcLoopLost).1 = false → t.attn.items = s.attn.items) ∧
  ∀ x, x ≠ srcLoopLost → s.NotRaised t x

/-- R76: the valves at loop recovery, from the state `s` with the loop UP. A fitted valve without a demand is UNKNOWN with no exchange; one
with a demand starts it afresh with a new tag, its SELECT queued. Nothing else of the part changes. -/
structure State.ValvesRecovered (s t : State) (b : Bank) : Prop where
  notFitted : ∀ v : Fin 8, b.fitted (holderOf v) = false → t.valves[v] = s.valves[v]
  unknown : ∀ v : Fin 8, b.fitted (holderOf v) = true → s.valves[v].demand = none →
    t.valves[v] = { s.valves[v] with
      state := .unknown, reported := none, phase := .idle, answerTimer := none, travelTimer := none, reissue := 0 }
  afresh : ∀ (v : Fin 8) (d : Demand), b.fitted (holderOf v) = true → s.valves[v].demand = some d →
    t.valves[v] = { s.valves[v].starting d s.valves[v].joined with reported := none, travelTimer := none } ∧
    .valve v false d.dir (s.valves[v].tag + 1) (d.origin == .trip) ∈ t.loop.commands
  others : { t with valves := s.valves, loop := { t.loop with commands := s.loop.commands, tx := s.loop.tx } } = s

/-- Table 36: the number of parameter characters of a directive, but for LOAD SEGMENT. -/
def paramCount : Nat → Option Nat
  | 2 => some 0 | 3 => some 0 | 4 => some 5 | 5 => some 4 | 6 => some 0 | 7 => some 2 | 8 => some 1 | 9 => some 1 | 10 => some 1
  | 11 => some 1 | 12 => some 1 | 13 => some 5 | 14 => some 2 | 15 => some 2 | 16 => some 2 | 17 => some 1 | 18 => some 1
  | 19 => some 3 | 20 => some 3 | 21 => some 2 | 22 => some 0 | _ => none

/-- A directive of the desk to the part's own address: its code of Table 36, its reference number and its parameters. -/
def directiveOf : Instr → Option (Nat × Byte × List Byte)
  | .loadSegment r p => some (1, r, p) | .commit r p => some (2, r, p) | .discard r p => some (3, r, p)
  | .readTable r p => some (4, r, p) | .readInterval r p => some (5, r, p) | .readNext r p => some (6, r, p)
  | .readDay r p => some (7, r, p) | .readHolder r p => some (8, r, p) | .readValve r p => some (9, r, p)
  | .readMeter r p => some (10, r, p) | .readDistrict r p => some (11, r, p) | .readPoint r p => some (12, r, p)
  | .setClock false r p => some (13, r, p) | .valve r p => some (14, r, p) | .setPermit r p => some (15, r, p)
  | .withdrawPermit r p => some (16, r, p) | .holdRole r p => some (17, r, p) | .releaseRole r p => some (18, r, p)
  | .presetLift r p => some (19, r, p) | .trim r p => some (20, r, p) | .clearAttention r p => some (21, r, p)
  | .restart r p => some (22, r, p) | _ => none

end Sys2Proof.Machine
end

