-- ==== Sys2Proof/WellFormed.lean ====
section
/-! DEFINITION. Which terms of Instr stand for something that can reach the part: the ranges of Table 26 and Table 34, and the forms
that chapter 11 gives. `exec` gives every term a meaning all the same. -/

namespace Sys2Proof

/-- Table 26: a source is 0 to 250. -/
def sourceOk (src : Byte) : Bool := decide (src.toNat ≤ 250)

/-- Table 26: the greatest body. -/
def bodyOk (body : List Byte) : Bool := decide (body.length ≤ Config.maxBody)

/-- Table 35: a listed quality, position, refusal reason, governor status. -/
def qualityOk (q : Byte) : Bool := (Machine.Quality.ofCode q.toNat).isSome
def positionOk (p : Byte) : Bool := (Machine.Position.ofCode p.toNat).isSome
def reasonOk (r : Byte) : Bool := (Machine.RefuseReason.ofCode r.toNat).isSome
def statusOk (x : Byte) : Bool := decide (x.toNat ≤ 1)

/-- R158: characters that make one bad frame, and nothing beside it. -/
def badCharsOk (cs : List Byte) : Bool := Machine.heard cs == ([.bad cs], [])

/-- R158: characters of a frame that has not ended, which a gap breaks. -/
def gapCharsOk (cs : List Byte) : Bool := cs != [] && Machine.heard cs == ([], cs)

/-- A directive body after code and reference. -/
def paramsOk (ps : List Byte) : Bool := decide (ps.length + 2 ≤ Config.maxBody)

/-- R160: a forwarded frame is none of the frames that other rows name by their kind. -/
def forwardedOk (kind : Byte) (body : List Byte) : Bool :=
  kind != Machine.kindScanTail && !(kind == Machine.kindScanHead && body.length == 1)

/-- R172: whether a directive body spells a directive of Table 36. -/
def namesDirective (body : List Byte) : Bool :=
  match body with
  | code :: _ :: _ => decide (1 ≤ code.toNat) && decide (code.toNat ≤ 22)
  | _ => false

/-- Whether a command has a form that can reach the part. -/
def Instr.wf (i : Instr) : Bool :=
  match i with
  | .powerOn _ _ => true
  | .powerLoss _ savesCut => decide savesCut.Nodup
  | .resetPinHeld _ savesCut => decide savesCut.Nodup
  | .scanHead _ src _ _ => sourceOk src
  | .scanTail _ src body => sourceOk src && bodyOk body
  | .badFrameReceived chars => badCharsOk chars
  | .characterGap chars => gapCharsOk chars
  | .frameForwarded _ src kind body => sourceOk src && bodyOk body && forwardedOk kind body
  | .throughFrameSent _ => true
  | .liftReport _ src _ _ samples => sourceOk src && decide (samples.length + 3 ≤ Config.maxBody)
  | .meterReport _ src _ _ => sourceOk src
  | .pointReport _ src _ quality => sourceOk src && qualityOk quality
  | .barometerReport _ src _ quality => sourceOk src && qualityOk quality
  | .calorimeterReport _ src _ quality => sourceOk src && qualityOk quality
  | .valvePositionReport _ src position => sourceOk src && positionOk position
  | .governorReport _ src _ status => sourceOk src && statusOk status
  | .answerSelected _ src _ position => sourceOk src && positionOk position
  | .answerDone _ src _ => sourceOk src
  | .answerRefused _ src _ reason => sourceOk src && reasonOk reason
  | .quietGapElapsed => true
  | .ownFrameSent => true
  | .lossTimerExpiry => true
  | .stallTimerExpiry _ => true
  | .staleTimerExpiry _ => true
  | .cvStaleTimerExpiry => true
  | .answerTimerExpiry _ => true
  | .travelTimerExpiry _ => true
  | .reviewTimerExpiry _ => true
  | .slotBoundary => true
  | .nominalEndReached => true
  | .storeWriteComplete _ => true
  | .directiveUnknown body => bodyOk body && !namesDirective body
  | .loadSegment _ ps => paramsOk ps
  | .commit _ ps => paramsOk ps
  | .discard _ ps => paramsOk ps
  | .readTable _ ps => paramsOk ps
  | .readInterval _ ps => paramsOk ps
  | .readNext _ ps => paramsOk ps
  | .readDay _ ps => paramsOk ps
  | .readHolder _ ps => paramsOk ps
  | .readValve _ ps => paramsOk ps
  | .readMeter _ ps => paramsOk ps
  | .readDistrict _ ps => paramsOk ps
  | .readPoint _ ps => paramsOk ps
  | .setClock _ _ ps => paramsOk ps
  | .valve _ ps => paramsOk ps
  | .setPermit _ ps => paramsOk ps
  | .withdrawPermit _ ps => paramsOk ps
  | .holdRole _ ps => paramsOk ps
  | .releaseRole _ ps => paramsOk ps
  | .presetLift _ ps => paramsOk ps
  | .trim _ ps => paramsOk ps
  | .clearAttention _ ps => paramsOk ps
  | .restart _ ps => paramsOk ps
  | .directiveDiscarded src body => sourceOk src && bodyOk body && src != 0
  | .clockStopsAdvancing => true

end Sys2Proof
end

