-- ==== Sys2Proof/Certificates/Slice0/Obligations.lean ====
section
/-! DEFINITION. The statements for the provers, each with the rules of the manual it formalises. A state `s.passed …` is the state a
frame received and forwarded leaves (R160), `s.passTo e` the state with the timebase brought to `e`, and `s.accepts …`, `s.refuses …`
the state in which a response has been placed and nothing else has changed. -/

open Sys2Proof Sys2Proof.Machine

/-! ## The step, and reset -/

/-- A step takes the command at the front of the queue and runs it with the queue's rest. -/
def Obligations.StepRunsFront : Prop :=
  ∀ (c : Instr) (q : List Instr) (s : State), step { s with pending := c :: q } = exec c { s with pending := q }

/-- MODEL'S CHOICE (log 3). With no command waiting a part that is on passes 1 ms of its timebase, and the queue stays empty; a part
that is not on is left as it is. -/
def Obligations.IdleStep : Prop :=
  ∀ s : State, s.pending = [] →
    (s.power ≠ .on → step s = .next s) ∧
    (s.power = .on → ∃ t, step s = .next t ∧ t.timebase = s.timebase + 1 ∧ t.pending = [] ∧ t.power = .on ∧ t.own = s.own)

/-- R21, R46, R60, R77, R85, R109, R125, R143, R147, R171, R180: what power-on leaves in a part that has never held a bank, and the
invariants hold of it. -/
def Obligations.ResetState : Prop :=
  (∀ h : Fin 4, State.reset.holders[h].count = 0 ∧ State.reset.holders[h].certain = false ∧ State.reset.holders[h].ref = none ∧
    State.reset.holders[h].outRun = 0 ∧ State.reset.holders[h].inRun = 0 ∧ State.reset.holders[h].liftFault = false ∧
    State.reset.holders[h].cupped = [] ∧ State.reset.holders[h].expected = 0 ∧ State.reset.holders[h].geoVolume = 0) ∧
  (∀ m : Fin 12, State.reset.channels[m].state = .waiting ∧ State.reset.channels[m].reference = none ∧
    State.reset.channels[m].window = none ∧ State.reset.channels[m].rate = 0) ∧
  (∀ p : Fin 24, State.reset.points[p] = ⟨.absent, some 0, .good, none, none⟩) ∧
  State.reset.barometer = ⟨.absent, none, .good, none, none⟩ ∧ State.reset.calorimeter = ⟨.absent, none, .good, none, none⟩ ∧
  (∀ v : Fin 8, State.reset.valves[v].state = .unknown ∧ State.reset.valves[v].demand = none ∧ State.reset.valves[v].phase = .idle) ∧
  (∀ v : Fin 8, State.reset.perms[v] = ⟨true, none, none, none⟩) ∧
  (∀ h : Fin 4, State.reset.prog.roles[h] = ⟨none, false, false, false, false⟩) ∧ State.reset.prog.transition = none ∧ State.reset.prog.deferred = [] ∧
  (∀ d : Fin 6, State.reset.districts[d].lastSent = none ∧ State.reset.districts[d].sendDue = true ∧
    State.reset.districts[d].trim = 0) ∧
  State.reset.clock.valid = false ∧ State.reset.clock.day = 0 ∧ State.reset.clock.sec = 0 ∧ State.reset.clock.slot = none ∧
  State.reset.accounts.interval = none ∧ State.reset.accounts.logs = ⟨[], [], none, 0⟩ ∧ State.reset.accounts.cursor = none ∧
  State.reset.running = false ∧ State.reset.tables.generation = 0 ∧ State.reset.tables.pending = Bank.blank ∧
  State.reset.tables.committed = false ∧ State.reset.tables.store = .empty ∧
  State.reset.loop.lost = false ∧ State.reset.loop.window = .idle ∧ State.reset.loop.buffer = [] ∧ State.reset.loop.commands = [] ∧
  State.reset.loop.responses = [] ∧ State.reset.loop.cycle = none ∧ State.reset.loop.checkErrors = 0 ∧
  State.reset.attn.items.map (fun e => (e.source, e.cls, e.count)) = [(srcClockInvalid, .prompt, 1)] ∧
  State.reset.attn.deferred = none ∧ State.reset.pending = [] ∧
  State.reset.clock.Ok ∧ State.reset.LogsOk ∧ State.reset.loop.LineOk ∧ State.reset.loop.QueueOk ∧ State.reset.attn.Ok ∧
  State.reset.attn.InOrder ∧ State.reset.prog.Ok ∧ State.reset.BanksOk ∧ State.reset.IntervalOk ∧ State.reset.PermitOk ∧ State.reset.RunsOk

/-! ## Invariants that every step keeps -/

/-- R125: the clock stays within a day of 86,400 seconds and day numbers 0 to 65,535. -/
def Obligations.ClockKept : Prop := ∀ s t : State, s.clock.Ok → step s = .next t → t.clock.Ok

/-- R136, R137, R141: the logs stay within 96 interval records in rising sequence and 14 day records, in hand and in the store. -/
def Obligations.LogsKept : Prop := ∀ s t : State, s.LogsOk → step s = .next t → t.LogsOk

/-- R90, R160, R162: the through-buffer, the check-error count and the deferred trigger list stay within their bounds. -/
def Obligations.BoundsKept : Prop :=
  ∀ s t : State, s.loop.LineOk → s.prog.Ok → step s = .next t → t.loop.LineOk ∧ t.prog.Ok

/-- R65, R120, R167: the command queue holds at most one command of each valve and one SET of each district. -/
def Obligations.QueueKept : Prop := ∀ s t : State, s.loop.QueueOk → step s = .next t → t.loop.QueueOk

/-- R175, R176, R179: the pending attention list keeps one entry for each source, in class order, with counts from 1 to 255, and the
entries of a class in their order of creation. -/
def Obligations.AttentionKept : Prop :=
  ∀ s t : State, step s = .next t → (s.attn.Ok → t.attn.Ok) ∧ (s.attn.InOrder → t.attn.InOrder)

/-- R1, R23, R45, R59, R84, R107, R127, R150 to R152, R154, R156, R175: no bank that breaks a condition ever becomes the live bank; and the
banks that break none are those of which every condition of Table 24 holds (`Bank.Sound`). MODEL'S CHOICE: a breakpoint's volume
lies in the range of the Conventions (log 27), any number but 0 marks an alias in use (log 10), the role index of a CALORIMETER or
BAROMETER map entry is not checked (log 51), and the roles of a slot entry have the codes 0 to 3 (log 89). -/
def Obligations.BanksKept : Prop :=
  (∀ s t : State, s.BanksOk → step s = .next t → t.BanksOk) ∧ ∀ (b : Bank) (own : Nat), b.broken own = none ↔ b.Sound own

/-- R129, R132, R143: an interval is open exactly in RUNNING mode, and the clock is INVALID in UNCONFIGURED mode. -/
def Obligations.IntervalKept : Prop := ∀ s t : State, s.IntervalOk → step s = .next t → t.IntervalOk

/-- R61, R71, R78, R81: a valve whose permission is WITHDRAWN is neither OPEN nor OPENING, whatever happens. -/
def Obligations.PermitsKept : Prop := ∀ s t : State, s.PermitOk → step s = .next t → t.PermitOk

/-- R16, R17, R114, R120, Table 17: the cup-check runs stay within 3 and never run together; nor do the end-of-main runs, which stay
within the confirm count M of a district in use. -/
def Obligations.RunsKept : Prop := ∀ s t : State, s.RunsOk → step s = .next t → t.RunsOk

/-! ## Frames, tables and arithmetic -/

/-- R158, R181, Table 34: the characters that make a valid frame are exactly those that a frame of a body of at most 200 characters is
sent as, and the check over the characters "123456789" is 29B1 hexadecimal. In the characters of the line one that is not the lead
character is discarded; a frame is heard whole; one whose length exceeds 200 is a bad frame that ends at its length character; one
whose check does not agree is a bad frame; and what follows is heard in its turn. -/
def Obligations.FrameCheck : Prop :=
  (∀ cs : List Byte, validChars cs = true ↔ ∃ f : Frame, f.body.length ≤ 200 ∧ cs = f.chars) ∧
  checkOf [0x31, 0x32, 0x33, 0x34, 0x35, 0x36, 0x37, 0x38, 0x39] = 0x29B1 ∧
  (∀ (c : Byte) (rest : List Byte), c ≠ 165 → heard (c :: rest) = heard rest) ∧
  (∀ (f : Frame) (rest : List Byte), f.body.length ≤ 200 →
    heard (f.chars ++ rest) = (.valid f :: (heard rest).1, (heard rest).2)) ∧
  (∀ (dest src kind len : Byte) (rest : List Byte), 200 < len.toNat →
    heard ([165, dest, src, kind, len] ++ rest) = (.bad [165, dest, src, kind, len] :: (heard rest).1, (heard rest).2)) ∧
  (∀ (dest src kind len high low : Byte) (body rest : List Byte), len.toNat ≤ 200 → body.length = len.toNat →
    [high, low] ≠ halfBytes (checkOf (dest :: src :: kind :: len :: body)) →
    let cs := [165, dest, src, kind, len] ++ body ++ [high, low]
    heard (cs ++ rest) = (.bad cs :: (heard rest).1, (heard rest).2)) ∧
  (∀ (dest src kind len : Byte) (body : List Byte), len.toNat ≤ 200 → body.length < len.toNat + 2 →
    heard ([165, dest, src, kind, len] ++ body) = ([], [165, dest, src, kind, len] ++ body))

/-- R158, R181: a valid frame with any one character changed is not a valid frame. -/
def Obligations.OneCharacterChanged : Prop :=
  ∀ (cs : List Byte) (i : Nat) (h : i < cs.length) (x : Byte), validChars cs = true → x ≠ cs[i] → validChars (cs.set i x) = false

/-- R148, R149: an accepted LOAD SEGMENT writes its entries into the pending bank, where they read back as they were loaded, and
changes no other entry of any table; the table's loaded mark is set; nothing else of the part changes. It is refused with COMMITTED while
a bank is COMMITTED, and with OUT_OF_RANGE for a table that does not exist, a count of 0 or above 24, a segment that runs past the table's
last entry, or a body that does not carry the stated count of whole entries; no entry is then written. MODEL'S CHOICE (log 34): the body
is measured first, so that one of a wrong length is refused with OUT_OF_RANGE while a bank is COMMITTED too. -/
def Obligations.LoadSegment : Prop :=
  ∀ (s : State) (ref : Byte), s.canAnswer →
    let refused (ps : List Byte) (reason : Byte) : Prop := exec (.loadSegment ref ps) s = .next (s.refuses 1 ref reason [])
    (∀ ps, ps.length < 4 → refused ps 2) ∧
    ∀ (t first n : Nat) (bs : List Byte), t < 256 → first < 65536 → n < 256 → bs.length ≤ 194 →
      let ps : List Byte := b8 t :: bytesOf 2 first ++ b8 n :: bs
      (1 ≤ t → t ≤ 12 → bs.length ≠ n * entrySize t → refused ps 2) ∧
      (s.tables.committed = true → t = 0 ∨ 12 < t ∨ bs.length = n * entrySize t → refused ps 4) ∧
      (s.tables.committed = false → t = 0 ∨ 12 < t ∨ n = 0 ∨ 24 < n ∨ entryCount t < first + n → refused ps 2) ∧
      (∀ ht : t - 1 < 12, s.tables.committed = false → 1 ≤ t → 1 ≤ n → n ≤ 24 → first + n ≤ entryCount t →
        bs.length = n * entrySize t →
        ∃ P : Bank,
          exec (.loadSegment ref ps) s =
            .next (({ s with tables := { s.tables with pending := P, marks := s.tables.marks.set (t - 1) true ht } }).accepts 1 ref
              (b8 t :: bytesOf 2 first ++ b8 n :: bytesOf 2 (bitsOf (s.tables.marks.set (t - 1) true ht).toList))) ∧
          P.readEntries t n first = bs ∧
          ∀ u i, u ≠ t ∨ i < first ∨ first + n ≤ i → P.fields u i = s.tables.pending.fields u i)

/-- R52, R53, R54: the factor of the correction table for a temperature, a barometric pressure and a gauge pressure. -/
def Obligations.CorrectionFactor : Prop :=
  ∀ (b : Bank) (t baro : Int) (gauge : Nat),
    let e0 : Int := baro + ((gauge * 100 + 68) / 136 : Nat)
    let e := (max 28000 (min 31000 e0)).toNat
    let tc := (max 300 (min 1100 t)).toNat
    let i := if tc = 1100 then 15 else (tc - 300) / 50
    let ft := if tc = 1100 then 50 else (tc - 300) - 50 * i
    let j := if e = 31000 then 11 else (e - 28000) / 250
    let fe := if e = 31000 then 250 else (e - 28000) - 250 * j
    let f := b.factor
    let x := f i j * (250 - fe) + f i (j + 1) * fe
    let y := f (i + 1) j * (250 - fe) + f (i + 1) (j + 1) * fe
    let v := x * (50 - ft) + y * ft
    (gauge ≤ 3000 → baro ≤ 32000 → gauge * 100 + 68 ≤ 300068 ∧ e0 ≤ 34206) ∧
    i + 1 ≤ 16 ∧ j + 1 ≤ 12 ∧ (tc < 1100 → ft ≤ 49) ∧ (e < 31000 → fe ≤ 249) ∧
    (b.factorOf t baro gauge).1 = (v + 6250) / 12500 ∧
    ((b.factorOf t baro gauge).2 = true ↔ e0 ≠ (e : Int) ∨ t ≠ (tc : Int)) ∧
    (fe = 0 → ft = 0 → v = f i j * 12500 ∧ (b.factorOf t baro gauge).1 = f i j) ∧
    (tc = 1100 → e = 31000 → (b.factorOf t baro gauge).1 = f 16 12) ∧
    ((∀ k l, k ≤ 16 → l ≤ 12 → 7000 ≤ f k l ∧ f k l ≤ 13000) →
      v ≤ 162500000 ∧ 7000 ≤ (b.factorOf t baro gauge).1 ∧ (b.factorOf t baro gauge).1 ≤ 13000)

/-- R125: the advancing clock moves with the timebase, stops at second 86,399 of day 65,535, and keeps its state and its slot. -/
def Obligations.ClockAdvance : Prop :=
  ∀ (c : Clock) (n : Nat), c.Ok →
    (c.advance n).Ok ∧ (c.advance n).valid = c.valid ∧ (c.advance n).slot = c.slot ∧
    (c.advancing = false → c.advance n = c) ∧
    (c.advancing = true → c.totalMs + n < (65535 * 86400 + 86399) * 1000 → (c.advance n).totalMs = c.totalMs + n) ∧
    (c.advancing = true → (65535 * 86400 + 86399) * 1000 ≤ c.totalMs + n →
      (c.advance n).day = 65535 ∧ (c.advance n).sec = 86399 ∧ (c.advance n).ms = 0)

/-- R128: the identity of an interval that holds a wall time: its gas day, its index, a nominal start at or before the time, and a nominal
end after the time by at most the interval's length. Before hour G of day 0 there is no identity and the nominal end is hour G; that
there is no nominal start there is the model's choice (log 70). With the clock INVALID there is none of the three. -/
def Obligations.IntervalHoldsTime : Prop :=
  ∀ (y : YardEntry) (t : WallTime), (y.length = 15 ∨ y.length = 30 ∨ y.length = 60) → y.gasHour ≤ 23 → t.sec ≤ 86399 →
    (∀ c : Clock, c.valid = false → y.placeClock c = ⟨none, none, none⟩) ∧
    (∀ c : Clock, c.valid = true → y.placeClock c = y.place ⟨c.day, c.sec⟩) ∧
    (t.day = 0 → t.sec < y.gasHour * 3600 → y.place t = ⟨none, none, some ⟨0, y.gasHour * 3600⟩⟩) ∧
    (y.gasHour * 3600 ≤ t.sec ∨ 0 < t.day → ∃ i : Identity,
      (y.place t).identity = some i ∧
      i.gasDay = (if y.gasHour * 3600 ≤ t.sec then t.day else t.day - 1) ∧
      i.index * (y.length * 60) ≤ t.total - (i.gasDay * 86400 + y.gasHour * 3600) ∧
      t.total - (i.gasDay * 86400 + y.gasHour * 3600) < (i.index + 1) * (y.length * 60) ∧
      i.index < 24 * 60 / y.length ∧
      (t.day ≤ 65535 → ∃ b : WallTime, (y.place t).nominalStart = some b ∧ b.sec ≤ 86399 ∧ b.total ≤ t.total ∧
        b.total = i.gasDay * 86400 + y.gasHour * 3600 + i.index * (y.length * 60)) ∧
      (∀ e, (y.place t).nominalEnd = some e → e.sec ≤ 86399 ∧ t.total < e.total ∧ e.total ≤ t.total + y.length * 60 ∧
        e.total = i.gasDay * 86400 + y.gasHour * 3600 + (i.index + 1) * (y.length * 60)) ∧
      ((y.place t).nominalEnd = none ↔
        65535 * 86400 + 86400 ≤ i.gasDay * 86400 + y.gasHour * 3600 + (i.index + 1) * (y.length * 60)))

/-- R119: the result of a review. -/
def Obligations.ReviewResult : Prop :=
  ∀ (s : State) (b : Bank) (d : Fin 6) (slot : Nat), b.districts[d].minSet ≤ b.districts[d].maxSet →
    let g := s.stages b d slot
    let lo : Int := b.districts[d].minSet
    let hi : Int := b.districts[d].maxSet
    let slew : Int := b.districts[d].slew
    ∃ x : Int,
      (s.districts[d].lastSent = none → x = g.target6) ∧
      (∀ l : Nat, s.districts[d].lastSent = some l →
        ((l : Int) < g.target6 → x = min g.target6 (l + slew)) ∧
        (g.target6 < (l : Int) → g.limited = true → x = g.target6) ∧
        (g.target6 < (l : Int) → g.limited = false → x = max g.target6 (l - slew)) ∧
        (g.target6 = (l : Int) → x = l)) ∧
      (g.result : Int) = (if x < lo then lo else if hi < x then hi else x) ∧
      (x < lo ∨ hi < x → ∃ l : Nat, s.districts[d].lastSent = some l ∧ ((l : Int) < lo ∨ hi < (l : Int))) ∧
      ((g.result : Int) - g.target6).natAbs ≤ (x - g.target6).natAbs ∧
      lo ≤ (g.result : Int) ∧ (g.result : Int) ≤ hi

/-- R15, R18: what follows from a count. A lift is cupped when its cup height is at or below the count; the expected pressure is the base
pressure and the increment of each cupped lift; the volume at a breakpoint is the breakpoint's, between two breakpoints it is
interpolated between theirs, rounded down, and with rising breakpoints it does not fall as the count rises. -/
def Obligations.VolumeFollowsCount : Prop :=
  (∀ (b : Bank) (h : Fin 4) (r : HolderRec) (n k : Nat),
    (HolderRec.placeAt b h r n).count = n ∧
    (k ∈ (HolderRec.placeAt b h r n).cupped ↔ ∃ c i, (k, c, i) ∈ b.holders[h].cupList ∧ c ≤ n) ∧
    (HolderRec.placeAt b h r n).expected =
      b.holders[h].base + ((b.holders[h].cupList.filter fun x => x.2.1 ≤ n).map fun x => x.2.2).sum ∧
    (HolderRec.placeAt b h r n).geoVolume = volumeAt (b.breakpoints h) n) ∧
  (∀ ps : List (Nat × Nat), ps.Pairwise (fun p q => p.1 < q.1 ∧ p.2 ≤ q.2) →
    (∀ p ∈ ps, volumeAt ps p.1 = p.2) ∧ (∀ n m, n ≤ m → volumeAt ps n ≤ volumeAt ps m) ∧
    (∀ (i : Nat) (hi : i + 1 < ps.length) (n : Nat), ps[i].1 ≤ n → n < ps[i + 1].1 →
      volumeAt ps n = ps[i].2 + (n - ps[i].1) * (ps[i + 1].2 - ps[i].2) / (ps[i + 1].1 - ps[i].1)))

/-! ## Frames on the line -/

/-- R158, R160, R161, R163, R166, R181, R182: a valid frame that is not acted on (`State.OnlyForwards`: a COMMAND, RESPONSE or STATUS
frame, or one of an unknown kind; a SCAN HEAD of a body other than one character; a DIRECTIVE to another address, or a broadcast one that
is no SET CLOCK of the desk; an ANSWER to another address, or that is routed to no valve; a REPORT that is routed to no role) only enters
the through-buffer, or is dropped, or breaks off the part's own frame; nothing else changes. A body of more than 200 characters makes no
valid frame. MODEL'S CHOICE: a void command is not put back (log 24); a response broken off goes back to a queue that holds 8 already
(log 40); a DONE whose third byte is not 0 is not routed (log 16); and a broadcast directive too short to hold a reference is no SET CLOCK
(log 95). -/
def Obligations.FrameForwarded : Prop :=
  (∀ (s : State) (dest src kind : Byte) (body : List Byte), 200 < body.length →
    exec (.frameForwarded dest src kind body) s = exec (.badFrameReceived (Frame.chars ⟨dest, src, kind, body⟩)) s) ∧
  ∀ (s : State) (dest src kind : Byte) (body : List Byte), s.power = .on → body.length ≤ 200 →
    s.OnlyForwards ⟨dest, src, kind, body⟩ →
    let f : LineFrame := .valid ⟨dest, src, kind, body⟩
    let l : LoopPort := { s.loop with lineQuiet := false }
    let ended : Window := if l.rearm then .armed else .idle
    (∀ g, l.tx = .through g → l.buffer.length < 8 →
      exec (.frameForwarded dest src kind body) s = .next { s with loop := { l with buffer := l.buffer ++ [f] } }) ∧
    (∀ g, l.tx = .through g → 8 ≤ l.buffer.length → exec (.frameForwarded dest src kind body) s = .next { s with loop := l }) ∧
    (∀ o, l.tx = .own o → l.buffer.length < 8 →
      exec (.frameForwarded dest src kind body) s = .next { s with loop := { l with buffer := l.buffer ++ [f] } }) ∧
    (l.tx = .idle → l.buffer = [] → exec (.frameForwarded dest src kind body) s = .next { s with loop := { l with tx := .through f } }) ∧
    (∀ g gs, l.tx = .idle → l.buffer = g :: gs →
      exec (.frameForwarded dest src kind body) s = .next { s with loop := { l with tx := .through g, buffer := gs ++ [f] } }) ∧
    (∀ c a g gs, l.tx = .own (.command c a true) → l.buffer = g :: gs → 8 ≤ l.buffer.length →
      exec (.frameForwarded dest src kind body) s = .next { s with loop := { l with
        tx := .through g, buffer := gs ++ [f], window := ended, rearm := false } }) ∧
    (∀ x r rs g gs, l.tx = .own (.response x true) → l.responses = r :: rs → l.buffer = g :: gs → 8 ≤ l.buffer.length →
      exec (.frameForwarded dest src kind body) s = .next { s with loop := { l with
        tx := .through g, buffer := gs ++ [f], responses := (x.body :: r) :: rs, window := ended, rearm := false } }) ∧
    (∀ c a g gs, l.tx = .own (.command c a false) → l.buffer = g :: gs → 8 ≤ l.buffer.length →
      exec (.frameForwarded dest src kind body) s = .next { s with loop := { l with
        tx := .through g, buffer := gs ++ [f], commands := c :: l.commands, window := ended, rearm := false } }) ∧
    (∀ x g gs, l.tx = .own (.response x false) → l.buffer = g :: gs → 8 ≤ l.buffer.length →
      exec (.frameForwarded dest src kind body) s = .next { s with loop := { l with
        tx := .through g, buffer := gs ++ [f], responses := [x.body] :: l.responses, window := ended, rearm := false } }) ∧
    (∀ x g gs, l.tx = .own (.status x) → l.buffer = g :: gs → 8 ≤ l.buffer.length →
      exec (.frameForwarded dest src kind body) s = .next { s with loop := { l with
        tx := .through g, buffer := gs ++ [f], window := ended, rearm := false } })

/-- R161, R163: in UNCONFIGURED mode, or from an address that resolves to no role, a report is forwarded and nothing else. -/
def Obligations.UnroutedReports : Prop :=
  ∀ (s : State) (dest src : Byte), s.power = .on → (∀ b, s.live = some b → b.resolve src.toNat = none) →
    (∀ datum index xs, xs.length ≤ 197 → exec (.liftReport dest src datum index xs) s =
      .next (s.passed dest src kindReport (b8 xs.length :: datum :: index :: xs))) ∧
    (∀ r p, exec (.meterReport dest src r p) s = .next (s.passed dest src kindReport (halfBytes r ++ halfBytes p))) ∧
    (∀ v q, exec (.pointReport dest src v q) s = .next (s.passed dest src kindReport (halfBytes v ++ [q]))) ∧
    (∀ v q, exec (.barometerReport dest src v q) s = .next (s.passed dest src kindReport (halfBytes v ++ [q]))) ∧
    (∀ v q, exec (.calorimeterReport dest src v q) s = .next (s.passed dest src kindReport (halfBytes v ++ [q]))) ∧
    (∀ p, exec (.valvePositionReport dest src p) s = .next (s.passed dest src kindReport [p])) ∧
    (∀ v x, exec (.governorReport dest src v x) s = .next (s.passed dest src kindReport (halfBytes v ++ [x])))

/-- R160, R165: when a forwarded frame has been sent the transmitter takes the oldest frame of the through-buffer; with none the window
opens where it may, and its first frame begins. A frame that is arriving upstream at that moment starts the count of the quiet gap again,
and the window stays shut. MODEL'S CHOICE: the command says whether one is arriving (log 20); the SCAN TAIL that must have been forwarded
is the latest one received (log 79); and a window that opens while a frame that passes is being sent begins its own frames at that
frame's end (log 69). -/
def Obligations.ThroughFrameSent : Prop :=
  ∀ (s : State) (f : LineFrame) (arriving : Bool), s.power = .on → s.loop.tx = .through f →
    let l : LoopPort := { s.loop with
      tx := .idle, tailForwarded := s.loop.tailForwarded || (f.isTail && !s.loop.buffer.any LineFrame.isTail),
      lineQuiet := s.loop.lineQuiet && !arriving }
    (s.loop.window ≠ .sending →
      (∀ g gs, s.loop.buffer = g :: gs → exec (.throughFrameSent arriving) s = .next { s with loop := { l with
        tx := .through g, buffer := gs,
        window := if l.window = .armed ∧ l.tailForwarded = true ∧ gs = [] ∧ l.lineQuiet = true then .sending else l.window } }) ∧
      (s.loop.buffer = [] → Completes (.throughFrameSent arriving) s fun t =>
        if l.window = .armed ∧ l.tailForwarded = true ∧ l.lineQuiet = true then
          State.Begins { s with loop := { l with window := .sending } } t
        else t = { s with loop := l })) ∧
    (s.loop.window = .sending → Completes (.throughFrameSent arriving) s (State.Begins { s with loop := l }))

/-- R162: the count of bad frames of a scan cycle and its raised mark. A bad frame, heard by its characters or broken by a gap (R158), is
counted, and the eighth of a cycle raises CHECK ERRORS once; a SCAN HEAD clears both; and no other command that can reach the part
changes them. -/
def Obligations.CheckErrors : Prop :=
  (∀ (s : State) (i : Instr) (cs : List Byte), s.power = .on →
    (i = .badFrameReceived cs ∧ heard cs = ([.bad cs], [])) ∨ (i = .characterGap cs ∧ cs ≠ [] ∧ heard cs = ([], cs)) →
    let n := min 255 (s.loop.checkErrors + 1)
    Completes i s fun t =>
      t.loop.checkErrors = n ∧ t.loop.checkMark = (s.loop.checkMark || decide (8 ≤ n)) ∧
      (8 ≤ n → s.loop.checkMark = false → s.Raised t srcCheckErrors ∧ ∀ src, src ≠ srcCheckErrors → s.NotRaised t src) ∧
      (n < 8 ∨ s.loop.checkMark = true → t.attn = s.attn) ∧
      { t with loop := s.loop, attn := s.attn } = s) ∧
  (∀ (s : State) (dest src cycle : Byte) (first : Bool), s.power = .on →
    Completes (.scanHead dest src cycle first) s fun t => t.loop.checkErrors = 0 ∧ t.loop.checkMark = false) ∧
  (∀ (s t : State) (i : Instr), exec i s = .next t → i.wf = true →
    (∀ cs, i ≠ .badFrameReceived cs ∧ i ≠ .characterGap cs) → (∀ d x c f, i ≠ .scanHead d x c f) → (∀ x c, i ≠ .powerOn x c) →
    t.loop.checkErrors = s.loop.checkErrors ∧ t.loop.checkMark = s.loop.checkMark)

/-- R161, R162, R165, R169: a SCAN HEAD with the loop UP restarts the loss timer, keeps the cycle number, clears the check errors,
disarms an ARMED window and clears the re-arm mark of one that is SENDING; it is forwarded, and nothing else changes. -/
def Obligations.ScanHead : Prop :=
  ∀ (s : State) (dest src cycle : Byte) (first : Bool), s.power = .on → s.loop.lost = false →
    let l := (s.passed dest src kindScanHead [cycle]).loop
    exec (.scanHead dest src cycle first) s = .next { s with loop := { l with
      lossExpiry := s.timebase + 10000, cycle := some cycle, checkErrors := 0, checkMark := false,
      window := if l.window = .armed then .idle else l.window, rearm := false } }

/-- R37, R76, R90, R122, R169, R177: loop recovery. The loop is UP, the LOOP LOST occurrence held back is entered with the time held,
under the map in force, and the channels and the districts take the recovery; in UNCONFIGURED mode nothing else changes. In RUNNING mode
the Valve Controller and the Programme Unit take it in the order that the command gives. Where a trigger waits that may be taken, the
Programme Unit builds it first on the valve states held through the loss, or else on the valves set UNKNOWN. Where the Programme Unit has
nothing to take, only the valves follow. MODEL'S CHOICE (log 84): the LOOP LOST occurrence is entered before those that a trigger taken at
the recovery raises. -/
def Obligations.LoopRecovery : Prop :=
  ∀ (s : State) (dest src cycle : Byte) (first : Bool), s.power = .on → s.loop.lost = true →
    let l := (s.passed dest src kindScanHead [cycle]).loop
    let up : LoopPort := { l with
      lost := false, lossExpiry := s.timebase + 10000, cycle := some cycle, checkErrors := 0, checkMark := false,
      window := if l.window = .armed then .idle else l.window, rearm := false }
    (s.live = none → Completes (.scanHead dest src cycle first) s fun t =>
      s.LossEntered t ∧ t.loop = up ∧ { t with loop := s.loop, attn := s.attn } = s) ∧
    ∀ b : Bank, s.live = some b → ∃ w : State,
      (s.LossEntered w ∧ w.loop = up ∧
        (∀ m : Fin 12, w.channels[m] =
          if b.meters[m].inUse then
            { s.channels[m] with
              waiver := s.channels[m].waiver || (s.channels[m].state != .waiting && s.channels[m].reference.isSome), window := none,
              stallStart := if s.channels[m].state = .measuring then some s.timebase else s.channels[m].stallStart }
          else s.channels[m]) ∧
        (∀ d : Fin 6, w.districts[d] =
          if b.districts[d].used then
            { s.districts[d] with lastSent := none, sendDue := true, refresh := 0, reported := none }
          else s.districts[d]) ∧
        { w with loop := s.loop, attn := s.attn, channels := s.channels, districts := s.districts } = s) ∧
      (s.prog.notices = [] → s.prog.deferred = [] ∨ s.prog.transition.isSome = true ∨ s.clock.valid = false →
        Completes (.scanHead dest src cycle first) s (w.ValvesRecovered · b)) ∧
      (∀ x xs, s.prog.notices = [] → s.prog.transition = none → s.clock.valid = true → s.prog.deferred = x :: xs →
        let built (v : State) : State := State.buildTrigger { v with prog := { v.prog with deferred := xs } } b x
        (first = true → (built w).ProgrammeIdle →
          Completes (.scanHead dest src cycle first) s ((built w).ValvesRecovered · b)) ∧
        (first = false → ∃ v, w.ValvesRecovered v b ∧
          ((built v).ProgrammeIdle → exec (.scanHead dest src cycle first) s = .next (built v)))) ∧
      (Completes (.scanHead dest src cycle first) s fun t =>
        (∃ v u, v.ValvesRecovered u b ∧
          (first = true → v = w.settled ∧ t = u.settled) ∧ (first = false → v = w ∧ t = u.settled)) ∧
        t.attn.deferred = none ∧ t.loop.lost = false ∧ t.loop.lossExpiry = s.timebase + 10000 ∧ t.loop.cycle = some cycle ∧
        t.channels = w.channels ∧ t.districts = w.districts ∧ t.holders = s.holders ∧ t.points = s.points ∧
        t.barometer = s.barometer ∧ t.calorimeter = s.calorimeter ∧ t.perms = s.perms ∧ t.clock = s.clock ∧ t.accounts = s.accounts ∧
        t.tables = s.tables ∧ t.nv = s.nv ∧ t.timebase = s.timebase)

/-- R160, R161, R165: a SCAN TAIL is forwarded and arms the window, or marks a SENDING window for re-arming, and in both cases the
condition that the SCAN TAIL has been forwarded no longer holds. MODEL'S CHOICE: the SCAN TAIL of that condition is the latest one
received, so that one forwarded before it counts no more (log 79); and one with a body acts alike (log 53). -/
def Obligations.ScanTail : Prop :=
  ∀ (s : State) (dest src : Byte) (body : List Byte), s.power = .on → body.length ≤ 200 →
    let l := (s.passed dest src kindScanTail body).loop
    exec (.scanTail dest src body) s = .next { s with loop :=
      if l.window = .sending then { l with rearm := true, tailForwarded := false }
      else { l with window := .armed, tailForwarded := false } }

/-- R164, R165, R184: after the quiet gap an ARMED window opens when the SCAN TAIL has left and nothing waits to be forwarded, and with the
transmitter free its first frame begins: a trip-origin valve command, else another valve command, else a SET in district order, else the
oldest response, else the STATUS frame, its source the own address. Where one of the conditions fails, only the quiet line is noted.
The body of the STATUS frame has the bytes of Table 39. MODEL'S CHOICE (log 69): a window that opens while a frame that passes is still
being sent is SENDING, and its first frame waits for the end of that frame; (log 6): a quantity that does not fit its field. -/
def Obligations.WindowOpens : Prop :=
  ∀ s : State, s.power = .on →
    let l : LoopPort := { s.loop with lineQuiet := true }
    let opened : State := { s with loop := { l with window := .sending } }
    let body := s.statusBody
    let bit (x : Bool) (n : Nat) : Nat := if x then n else 0
    (body.length = 12 + 8 * min 12 s.attn.items.length ∧
      (s.tables.generation < 2 ^ 16 → s.clock.day < 2 ^ 16 → s.clock.sec < 2 ^ 24 →
        body.take 12 =
          [b8 (bit s.running 1 + bit s.loop.lost 2 + bit s.loop.cycle.isSome 4 + bit s.tables.committed 8 + bit (!s.clock.valid) 16),
            s.loop.cycle.getD 0] ++ bytesOf 2 s.tables.generation ++
            [b8 ([StoreState.empty, .writing, .valid, .failed].idxOf s.tables.store)] ++ bytesOf 2 s.clock.day ++
            bytesOf 3 s.clock.sec ++ [b8 s.attn.items.length, b8 (min 12 s.attn.items.length)]) ∧
      (∀ n e, n < 12 → s.attn.items[n]? = some e → e.first.day < 2 ^ 16 → e.first.sec < 2 ^ 24 →
        (body.drop (12 + 8 * n)).take 8 =
          [b8 e.source.val, b8 ([AttnClass.urgent, .prompt, .routine].idxOf e.cls + bit (!e.first.valid) 4), b8 e.count] ++
            bytesOf 2 e.first.day ++ bytesOf 3 e.first.sec)) ∧
    (Completes .quietGapElapsed s fun t => t.loop.lineQuiet = true ∧ t.loop.buffer = s.loop.buffer ∧ s.Keeps t) ∧
    (l.window ≠ .armed ∨ l.tailForwarded = false ∨ l.buffer ≠ [] → exec .quietGapElapsed s = .next { s with loop := l }) ∧
    (l.window = .armed → l.tailForwarded = true → l.buffer = [] →
      (l.tx ≠ .idle → exec .quietGapElapsed s = .next opened) ∧
      (l.tx = .idle → Completes .quietGapElapsed s opened.Begins ∧
        (∀ (b : Bank) (c : Command) (a : Nat), s.live = some b → l.FirstInOrder c → b.addressOf c.station = some a →
          exec .quietGapElapsed s = .next { s with loop := { l with
            window := .sending, commands := l.commands.erase c, tx := .own (.command c ⟨b8 a, b8 s.own, 4, c.body⟩ false) } }) ∧
        (∀ r rest rs, l.commands = [] → l.responses = (r :: rest) :: rs →
          exec .quietGapElapsed s = .next { s with loop := { l with
            window := .sending, tx := .own (.response ⟨0, b8 s.own, 7, r⟩ (!rest.isEmpty)),
            responses := if rest = [] then rs else rest :: rs } }) ∧
        (l.commands = [] → l.responses = [] →
          exec .quietGapElapsed s =
            .next { s with loop := { l with window := .sending, tx := .own (.status ⟨0, b8 s.own, 8, s.statusBody⟩) } })))

/-- R160, R165, R166, R167: when a frame of the part's own has been sent. A STATUS frame ends the window. After a command or a response the
window yields with 6 frames or more in the through-buffer, and otherwise its next frame begins. The sending of a valve command of the
exchange in hand starts the answer timer; that of one whose tag no longer matches, and that of a SET, starts nothing. MODEL'S CHOICE: a
command whose sending ends under LOOP_LOST starts its timer too (log 56); a command goes before the rest of a response (log 92). -/
def Obligations.OwnFrameSent : Prop :=
  ∀ s : State, s.power = .on →
    let ended : Window := if s.loop.rearm then .armed else .idle
    let goesOn (told : State) : Prop :=
      (∀ g gs, s.loop.buffer = g :: gs → 6 ≤ s.loop.buffer.length → exec .ownFrameSent s =
        .next { told with loop := { s.loop with tx := .through g, buffer := gs, window := ended, rearm := false } }) ∧
      (s.loop.buffer.length < 6 → Completes .ownFrameSent s (State.Begins { told with loop := { s.loop with tx := .idle } }))
    (∀ x, s.loop.tx = .own (.status x) → s.loop.buffer = [] →
      exec .ownFrameSent s = .next { s with loop := { s.loop with tx := .idle, window := ended, rearm := false } }) ∧
    (∀ x g gs, s.loop.tx = .own (.status x) → s.loop.buffer = g :: gs →
      exec .ownFrameSent s =
        .next { s with loop := { s.loop with tx := .through g, buffer := gs, window := ended, rearm := false } }) ∧
    (∀ v op dir tag trip x void, s.loop.tx = .own (.command (.valve v op dir tag trip) x void) →
      (tag = s.valves[v].tag → s.valves[v].phase ≠ .idle →
        goesOn { s with valves := upd s.valves v { s.valves[v] with answerTimer := some (s.timebase + 5000) } }) ∧
      (tag ≠ s.valves[v].tag ∨ s.valves[v].phase = .idle → goesOn s)) ∧
    (∀ d n x void, s.loop.tx = .own (.command (.set d n) x void) → goesOn s) ∧
    (∀ x more, s.loop.tx = .own (.response x more) → goesOn s)

/-! ## Reports -/

/-- R5 to R8, R15 to R18, R182: a report of 0 or of more than 16 samples is forwarded and not taken; the first report of a holder without
a reference sample only sets it; and a one-sample report whose step is a SKIP, or would pass a limit, leaves the count, makes the holder
UNCERTAIN, sets the note and raises the holder's source. Where the holder was CERTAIN a holder change follows with the count as its lowest
and highest, and the open interval is flagged (R3, R78, R130); with it UNCERTAIN already nothing further follows. In a report of several
samples each such step raises the source once more, the last gives the note, and counting goes on from its sample (`reckon`). MODEL'S
CHOICE: a trip under LOOP_LOST leaves the exchange tag as it was (log 61); the cup-check runs start again by the cupped lift set before and
after the report, whatever set its samples pass between (log 59); bits 2 to 7 of a sample byte are ignored (log 15). -/
def Obligations.LiftSample : Prop :=
  ∀ (s : State) (b : Bank) (h : Fin 4) (dest src index : Byte) (x : Byte), s.power = .on → s.live = some b →
    b.resolve src.toNat = some (.lift h) → b.fitted h = true →
    (∀ (datum : Byte) (xs : List Byte), xs = [] ∨ (16 < xs.length ∧ xs.length ≤ 197) →
      exec (.liftReport dest src datum index xs) s =
        .next (s.passed dest src kindReport (b8 xs.length :: datum :: index :: xs))) ∧
    (∀ (datum : Byte) (xs : List Byte), xs.length ≤ 15 → s.holders[h].ref = none →
      exec (.liftReport dest src datum index (xs ++ [x])) s =
        .next ((s.passed dest src kindReport (b8 (xs.length + 1) :: datum :: index :: (xs ++ [x]))).setHolder h
          { s.holders[h] with ref := some (trackOf x) })) ∧
    (∀ (r : Track) (kind : NoteKind), s.holders[h].ref = some r →
      ((kind = .skip ∧ trackStep r (trackOf x) = none) ∨
       (kind = .highLimit ∧ trackStep r (trackOf x) = some 1 ∧ b.holders[h].travel ≤ s.holders[h].count) ∨
       (kind = .lowLimit ∧ trackStep r (trackOf x) = some (-1) ∧ s.holders[h].count = 0)) →
      let left := HolderRec.placeAt b h { s.holders[h] with
        certain := false, ref := some (trackOf x), note := ⟨kind, none, s.timebase⟩ } s.holders[h].count
      let p := s.passed dest src kindReport [1, 0, index, x]
      (s.holders[h].certain = false →
        exec (.liftReport dest src 0 index [x]) s = .next ((p.setHolder h left).raise (srcUncertain h))) ∧
      (Completes (.liftReport dest src 0 index [x]) s fun t =>
        t.holders = upd s.holders h left ∧ s.Keeps t ∧ t.districts = s.districts ∧ t.nv = s.nv ∧
          t.accounts.logs = s.accounts.logs ∧ t.loop.buffer = p.loop.buffer ∧ s.Raised t (srcUncertain h) ∧
          (s.holders[h].certain = true → s.Trips t b h s.holders[h].count s.holders[h].count ∧
            t.accounts.interval = s.accounts.interval.map fun iv => { iv with yard := { iv.yard with stockUncertain := true } }))) ∧
    (∀ (r : Track) (xs : List Byte) (ks : List NoteKind) (kind : NoteKind) (n : Nat), xs.length ≤ 16 → s.holders[h].ref = some r →
      reckon b.holders[h].travel r s.holders[h].count (xs.map trackOf) = (n, ks ++ [kind]) →
      let held (c : Nat) : Prop := ∃ k, (reckon b.holders[h].travel r s.holders[h].count ((xs.take k).map trackOf)).1 = c
      Completes (.liftReport dest src 0 index xs) s fun t =>
        t.holders = upd s.holders h (HolderRec.placeAt b h { s.holders[h] with
          certain := false, ref := (xs.map trackOf).getLast?, note := ⟨kind, none, s.timebase⟩ } n) ∧
        s.RaisedTimes t (srcUncertain h) (ks.length + 1) ∧
        s.Keeps t ∧ t.districts = s.districts ∧ t.nv = s.nv ∧ t.accounts.logs = s.accounts.logs ∧
        (∀ lo hi, Spans held lo hi →
          (lo < hi ∨ s.holders[h].certain = true → s.Trips t b h lo hi ∧
            t.accounts.interval = s.accounts.interval.map fun iv => { iv with yard := { iv.yard with stockUncertain := true } }) ∧
          (lo = hi → s.holders[h].certain = false → t.perms = s.perms ∧ t.valves = s.valves ∧ t.prog = s.prog ∧
            t.accounts = s.accounts)))

/-- R3, R5, R15, R18, R78: a report whose steps all count moves the count by their sum, from the reference sample on. A report that moves
it trips where the lowest or the highest count held during the report, the count at its start among them, meets a stop. MODEL'S CHOICE: a
trip under LOOP_LOST leaves the exchange tag as it was (log 61); the cup-check runs start again by the cupped lift set before and after
the report (log 59); bits 2 to 7 of a sample byte are ignored (log 15). -/
def Obligations.LiftCount : Prop :=
  ∀ (s : State) (b : Bank) (h : Fin 4) (dest src index : Byte) (xs : List Byte) (r : Track) (n : Nat),
    s.power = .on → s.live = some b → b.resolve src.toNat = some (.lift h) → b.fitted h = true → 1 ≤ xs.length → xs.length ≤ 16 →
    s.holders[h].ref = some r → walk b.holders[h].travel r s.holders[h].count (xs.map trackOf) = some n →
    Completes (.liftReport dest src 0 index xs) s fun t =>
      t.holders = upd s.holders h (HolderRec.placeAt b h { s.holders[h] with ref := (xs.map trackOf).getLast? } n) ∧
      s.Keeps t ∧ t.districts = s.districts ∧ t.nv = s.nv ∧ t.accounts.logs = s.accounts.logs ∧
      (∀ x, xs = [x] → n ≠ s.holders[h].count → s.Trips t b h (min s.holders[h].count n) (max s.holders[h].count n)) ∧
      (∀ lo hi, Spans (fun c => ∃ k, walk b.holders[h].travel r s.holders[h].count ((xs.take k).map trackOf) = some c) lo hi → lo < hi →
        s.Trips t b h lo hi) ∧
      (s.holders[h].certain = true → n = s.holders[h].count → (∀ x ∈ xs, trackOf x = r) →
        t.valves = s.valves ∧ t.perms = s.perms ∧ t.prog = s.prog ∧ t.attn = s.attn)

/-- R3, R6, R7, R10, R11, R12, R15, R17, R19, R78: a datum passage at a sample of a report puts the datum height in the place of the count
reached there, the samples after it count from that height, and the holder becomes CERTAIN; the slip is recorded, SLIP is raised where the
holder was CERTAIN then and the slip is above the tolerance, the count after the whole report is saved, and the stops are compared with
the lowest and the highest count held, the count before the datum and the datum height among them. A SKIP, or a step refused at a limit,
before the passage or after it raises UNCERTAIN and sets the note; one after it leaves the holder UNCERTAIN. The cupped lift set is
brought to the datum height and then to the final count, and the cup-check runs start again where either changes it; LIFT FAULT is kept. A
passage whose number names no datum mark, or whose index is no sample's, is set aside: the samples count and the stops are compared with
the counts held, UNCERTAIN is raised, the note is set, and the certainty stays but for what the samples show. MODEL'S CHOICE: where both
are bad, which note stands is a free value (log 9); the passage is set aside after all the samples, so that its note stands whatever
SKIP or limit steps the report holds (log 23); a certainty that changes and returns issues a holder change too, by a doubt before the
datum, or by a datum that makes an UNCERTAIN holder CERTAIN before a later doubt (log 57); a trip under LOOP_LOST leaves the exchange tag
as it was (log 61); the samples on either side of a datum start no run again by themselves (log 59); bits 2 to 7 of a sample byte are
ignored (log 15). -/
def Obligations.LiftDatum : Prop :=
  ∀ (s : State) (b : Bank) (h : Fin 4) (dest src datum index : Byte) (xs : List Byte) (r : Track),
    s.power = .on → s.live = some b → b.resolve src.toNat = some (.lift h) → b.fitted h = true → 1 ≤ xs.length → xs.length ≤ 16 →
    s.holders[h].ref = some r →
    let upTo (k : Nat) : Nat × List NoteKind := reckon b.holders[h].travel r s.holders[h].count ((xs.take k).map trackOf)
    (∀ n ks, reckon b.holders[h].travel r s.holders[h].count (xs.map trackOf) = (n, ks) →
      datum ≠ 0 → b.holders[h].datumHeight datum.toNat = none ∨ index.toNat = 0 ∨ xs.length < index.toNat →
      Completes (.liftReport dest src datum index xs) s fun t => ∃ kind : NoteKind,
        (kind = .unknownDatum ∧ b.holders[h].datumHeight datum.toNat = none ∨
          kind = .datumIndex ∧ (index.toNat = 0 ∨ xs.length < index.toNat)) ∧
        t.holders = upd s.holders h (HolderRec.placeAt b h { s.holders[h] with
          certain := s.holders[h].certain && ks.isEmpty, ref := (xs.map trackOf).getLast?,
          note := ⟨kind, some datum.toNat, s.timebase⟩ } n) ∧
        (∀ lo hi, Spans (fun c => ∃ k, (upTo k).1 = c) lo hi → lo < hi ∨ (s.holders[h].certain = true ∧ ks ≠ []) → s.Trips t b h lo hi) ∧
        ((∀ x ∈ xs, trackOf x = r) → t.valves = s.valves ∧ t.perms = s.perms ∧ t.prog = s.prog ∧ t.accounts = s.accounts) ∧
        s.RaisedTimes t (srcUncertain h) (ks.length + 1) ∧ t.nv = s.nv ∧ s.Keeps t ∧ t.districts = s.districts) ∧
    ∀ (height n m : Nat) (ks js : List NoteKind) (q : Track), 1 ≤ index.toNat → b.holders[h].datumHeight datum.toNat = some height →
    upTo index.toNat = (n, ks) → (xs.map trackOf)[index.toNat - 1]? = some q →
    let after (k : Nat) : Nat × List NoteKind := reckon b.holders[h].travel q height (((xs.drop index.toNat).take k).map trackOf)
    after xs.length = (m, js) →
    let stood : Prop := s.holders[h].certain = true ∧ ks = []
    Completes (.liftReport dest src datum index xs) s fun t =>
      (∀ lo hi, Spans (fun c => (∃ k, k ≤ index.toNat ∧ (upTo k).1 = c) ∨ ∃ k, (after k).1 = c) lo hi →
        lo < hi ∨ ¬stood ∨ js ≠ [] → s.Trips t b h lo hi) ∧
      (stood → b.holders[h].slipTol < ((n : Int) - height).natAbs → s.Raised t (srcSlip h)) ∧
      (¬stood ∨ ((n : Int) - height).natAbs ≤ b.holders[h].slipTol → s.NotRaised t (srcSlip h)) ∧
      s.RaisedTimes t (srcUncertain h) (ks.length + js.length) ∧
      t.holders[h].count = m ∧ t.holders[h].certain = js.isEmpty ∧ t.holders[h].savedCertain = js.isEmpty ∧
      t.holders[h].ref = (xs.map trackOf).getLast? ∧
      t.holders[h].lastDatum = some ⟨datum.toNat, (n : Int) - height, s.timebase⟩ ∧
      t.holders[h].note = ((ks ++ js).getLast?.map fun k => (⟨k, none, s.timebase⟩ : Note)).getD s.holders[h].note ∧
      t.holders[h].cupped = b.holders[h].cuppedAt m ∧ t.holders[h].expected = b.holders[h].expectedAt m ∧
      (s.holders[h].cupped = b.holders[h].cuppedAt height → b.holders[h].cuppedAt height = b.holders[h].cuppedAt m →
        t.holders[h].outRun = s.holders[h].outRun ∧ t.holders[h].inRun = s.holders[h].inRun) ∧
      (s.holders[h].cupped ≠ b.holders[h].cuppedAt height ∨ b.holders[h].cuppedAt height ≠ b.holders[h].cuppedAt m →
        t.holders[h].outRun = 0 ∧ t.holders[h].inRun = 0) ∧ t.holders[h].liftFault = s.holders[h].liftFault ∧
      t.holders[h].geoVolume = volumeAt (b.breakpoints h) m ∧
      t.nv.saves = upd s.nv.saves h (some ⟨m, js.isEmpty⟩) ∧ t.nv.logs = s.nv.logs ∧
      t.accounts.logs = s.accounts.logs ∧
      t.accounts.interval = s.accounts.interval.map (fun iv =>
        if js = [] then iv else { iv with yard := { iv.yard with stockUncertain := true } }) ∧
      (∀ k, k ≠ h → t.holders[k] = s.holders[k]) ∧ s.Keeps t ∧ t.districts = s.districts

/-- R27, R29 to R34, R37, R55, R130: an increment of a channel with a reference, plausible or taken under the recovery waiver, is counted,
corrected and handed to the open interval; the waiver is cleared, and the interval flagged LOOP LOST. With the loop UP a MEASURING
channel's window opens, or counts the increment and gives a rate when it closes, and an increment takes a STALLED channel to MEASURING.
Under LOOP_LOST the report does not touch state, window, rate or stall start. MODEL'S CHOICE: a report of increment 0 flags the interval
too (log 41), and a WAITING channel with a reference, which no run reaches, keeps these four as well (log 80). -/
def Obligations.MeterIncrement : Prop :=
  ∀ (s : State) (b : Bank) (m : Fin 12) (iv : OpenInterval) (dest src : Byte) (register pulseTime : Half) (ref : Nat),
    s.power = .on → s.live = some b → b.resolve src.toNat = some (.meter m) → b.meters[m].inUse = true →
    s.channels[m].reference = some ref → s.accounts.interval = some iv →
    let e := b.meters[m]
    let d := (register.toNat + 65536 - ref) % 65536
    let factor := (s.meterFactor b e.tempPoint e.presPoint).1
    let cv := s.cvInForce b
    s.channels[m].waiver = true ∨ d ≤ e.maxPulses → iv.channels[m].volume + d * e.k * factor < 2 ^ 64 →
    iv.channels[m].energy + d * e.k * factor * cv < 2 ^ 64 →
    ∃ (c : ChannelRec) (a : Accounts),
      exec (.meterReport dest src register pulseTime) s =
        .next { s.passed dest src kindReport (halfBytes register ++ halfBytes pulseTime) with
          channels := upd s.channels m c, accounts := a } ∧
      c.reference = some register.toNat ∧ c.lastReport = some ⟨register.toNat, pulseTime.toNat, s.timebase⟩ ∧ c.waiver = false ∧
      c.lastJump = s.channels[m].lastJump ∧ a.logs = s.accounts.logs ∧ a.cursor = s.accounts.cursor ∧
      (d = 0 → s.channels[m].waiver = false → a = s.accounts) ∧
      (∃ jv, a.interval = some jv ∧
        jv.yard = (iv.yard.union { YardFlags.none with cvDeclared := decide (0 < d) && !s.cvFresh }).union
          { YardFlags.none with loopLost := s.channels[m].waiver } ∧
        (0 < d → jv.channels[m].flags = iv.channels[m].flags.union (s.meterFactor b e.tempPoint e.presPoint).2.toChannel) ∧
        (∀ k, k ≠ m → jv.channels[k] = iv.channels[k]) ∧
        jv.channels[m].pulses = iv.channels[m].pulses + d ∧ jv.channels[m].raw = iv.channels[m].raw + d * e.k ∧
        jv.channels[m].volume = iv.channels[m].volume + d * e.k * factor ∧
        jv.channels[m].energy = iv.channels[m].energy + d * e.k * factor * cv ∧
        jv.channels[m].volumeIn = iv.channels[m].volumeIn ∧ jv.channels[m].energyIn = iv.channels[m].energyIn ∧
        jv.identity = iv.identity ∧ jv.nominalStart = iv.nominalStart ∧ jv.nominalEnd = iv.nominalEnd) ∧
      (s.loop.lost = true ∨ s.channels[m].state = .waiting → c.state = s.channels[m].state ∧ c.window = s.channels[m].window ∧
        c.rate = s.channels[m].rate ∧ c.rateTime = s.channels[m].rateTime ∧ c.stallStart = s.channels[m].stallStart) ∧
      (s.loop.lost = false → s.channels[m].state = .stalled →
        c.rate = s.channels[m].rate ∧ c.rateTime = s.channels[m].rateTime ∧
        (d = 0 → c.state = .stalled ∧ c.window = s.channels[m].window ∧ c.stallStart = s.channels[m].stallStart) ∧
        (0 < d → c.state = .measuring ∧ c.window = some ⟨pulseTime.toNat, s.timebase, 0⟩ ∧ c.stallStart = some s.timebase)) ∧
      (s.loop.lost = false → s.channels[m].state = .measuring → s.channels[m].window = none →
        c.state = .measuring ∧ c.window = some ⟨pulseTime.toNat, s.timebase, 0⟩ ∧ c.rate = s.channels[m].rate ∧
        c.rateTime = s.channels[m].rateTime ∧ c.stallStart = (if 0 < d then some s.timebase else s.channels[m].stallStart)) ∧
      (∀ w, s.loop.lost = false → s.channels[m].state = .measuring → s.channels[m].window = some w →
        let pulses := w.pulses + d
        let coarse := s.timebase - w.startArrival
        let fine := (pulseTime.toNat + 65536 - w.startPulse) % 65536
        let elapsed := if coarse < 60000 ∧ 0 < fine then fine else coarse
        c.state = .measuring ∧
        c.stallStart = (if 0 < d then some s.timebase else s.channels[m].stallStart) ∧
        (if (e.nMin ≤ pulses ∨ (30000 ≤ coarse ∧ 1 ≤ pulses)) ∧ elapsed ≠ 0 then
          c.rate = min 99999999 (pulses * e.k * 3600000 / elapsed) ∧ c.rateTime = some s.timebase ∧
            c.window = some ⟨pulseTime.toNat, s.timebase, 0⟩
        else
          c.rate = s.channels[m].rate ∧ c.rateTime = s.channels[m].rateTime ∧ c.window = some { w with pulses := pulses }))

/-- R26, R28, R36: a report of a channel without a reference only sets it and clears the waiver. A WAITING channel starts measuring, under
LOOP_LOST with the window EMPTY and no stall start; with the loop UP a MEASURING channel's EMPTY window opens, and an OPEN one is kept; a
STALLED channel stays STALLED. A report that fails the plausibility test replaces the reference, counts nothing, raises METER JUMP and
flags the channel in the open interval. -/
def Obligations.MeterReference : Prop :=
  ∀ (s : State) (b : Bank) (m : Fin 12) (dest src : Byte) (register pulseTime : Half),
    s.power = .on → s.live = some b → b.resolve src.toNat = some (.meter m) → b.meters[m].inUse = true →
    let p := s.passed dest src kindReport (halfBytes register ++ halfBytes pulseTime)
    let opened : RateWindow := ⟨pulseTime.toNat, s.timebase, 0⟩
    let noted : ChannelRec := { s.channels[m] with
      reference := some register.toNat, waiver := false, lastReport := some ⟨register.toNat, pulseTime.toNat, s.timebase⟩ }
    (s.channels[m].reference = none → exec (.meterReport dest src register pulseTime) s = .next (p.setChannel m
      (match s.channels[m].state, s.loop.lost, s.channels[m].window with
        | .waiting, false, _ => { noted with state := .measuring, window := some opened, stallStart := some s.timebase }
        | .waiting, true, _ => { noted with state := .measuring, window := none, stallStart := none }
        | .measuring, false, none => { noted with window := some opened }
        | .measuring, _, _ => noted
        | .stalled, _, _ => noted))) ∧
    (∀ ref, s.channels[m].reference = some ref → s.channels[m].waiver = false →
      b.meters[m].maxPulses < (register.toNat + 65536 - ref) % 65536 →
      let jumped : ChannelRec := { noted with lastJump := some ⟨ref, register.toNat, s.timebase⟩ }
      exec (.meterReport dest src register pulseTime) s =
        .next (((p.setChannel m (if s.channels[m].state = .measuring ∧ s.loop.lost = false then { jumped with window := some opened }
          else jumped)).raise (srcMeterJump m)).channelFlag m { ChannelFlags.none with jump := true }))

/-- R3, R16, R40, R78, R114: a usable point report is taken, compared with the expected pressure of each fitted holder that names the point,
and put to the runs of each district in use whose end-of-main point it is; an unusable one sets the last report field only. LIFT FAULT is
raised by the comparison that sets it and by no other; where none sets or clears it, valves, permissions, programme, accounts and attention
list stay; where one does, the stops of its holder are compared with the count, and every other permission stays. Where several holders'
do, a side that trips leaves its valve SHUT or with a SHUT demand of TRIP origin. MODEL'S CHOICE: a trip under LOOP_LOST leaves the
exchange tag as it was (log 61); the holders are taken in the order H1 to H4 (log 72), so that the first one's trips are as they are
alone. -/
def Obligations.PointReport : Prop :=
  ∀ (s : State) (b : Bank) (p : Fin 24) (dest src : Byte) (value : Half) (code : Byte) (q : Quality),
    s.power = .on → s.live = some b → b.resolve src.toNat = some (.point p) → Quality.ofCode code.toNat = some q →
    let v := value.toInt
    (q = .fault ∨ v < -400 ∨ 3000 < v →
      exec (.pointReport dest src value code) s = .next ((s.passed dest src kindReport (halfBytes value ++ [code])).setPoint p
        { s.points[p] with last := some ⟨v, q, s.timebase, false⟩ })) ∧
    (q ≠ .fault → -400 ≤ v → v ≤ 3000 → Completes (.pointReport dest src value code) s fun t =>
      let reads (h : Fin 4) : Prop := b.fitted h = true ∧ b.holders[h].presPoint = p.val + 1 ∧ q = .good
      let outside (h : Fin 4) : Prop := b.holders[h].cupTol < (v - s.holders[h].expected).natAbs
      let sets (h : Fin 4) : Prop := reads h ∧ outside h ∧ s.holders[h].liftFault = false ∧ 2 ≤ s.holders[h].outRun
      let clears (h : Fin 4) : Prop := reads h ∧ ¬outside h ∧ s.holders[h].liftFault = true ∧ 2 ≤ s.holders[h].inRun
      (∀ h, (sets h → s.Raised t (srcLiftFault h)) ∧ (¬sets h → s.NotRaised t (srcLiftFault h))) ∧
      ((∀ h, ¬sets h ∧ ¬clears h) → t.valves = s.valves ∧ t.perms = s.perms ∧ t.prog = s.prog ∧ t.attn = s.attn ∧
        t.accounts = s.accounts ∧ t.loop = (s.passed dest src kindReport (halfBytes value ++ [code])).loop) ∧
      (∀ h, sets h ∨ clears h → (∀ k, sets k ∨ clears k → k = h) → s.Trips t b h s.holders[h].count s.holders[h].count) ∧
      (∀ h, (sets h ∨ clears h → s.StopsCompared t b h s.holders[h].count) ∧
        (¬sets h → ¬clears h → ∀ sd, t.perms[valveOf h sd] = s.perms[valveOf h sd])) ∧
      (∀ h sd, sets h ∨ clears h → (∀ k, sets k ∨ clears k → h ≤ k) → s.perms[valveOf h sd].granted = true →
        b.MeetsStop h sd s.holders[h].count → s.Tripped t h sd s.holders[h].count) ∧
      t.points = upd s.points p ⟨.fresh, some v, q, some s.timebase, some ⟨v, q, s.timebase, true⟩⟩ ∧
      (∀ h : Fin 4,
        (b.fitted h = false ∨ b.holders[h].presPoint ≠ p.val + 1 ∨ q ≠ .good → t.holders[h] = s.holders[h]) ∧
        (b.fitted h = true → b.holders[h].presPoint = p.val + 1 → q = .good →
          let r := s.holders[h]
          if b.holders[h].cupTol < (v - r.expected).natAbs then
            t.holders[h] = { r with outRun := min 3 (r.outRun + 1), inRun := 0, liftFault := r.liftFault || 2 ≤ r.outRun }
          else t.holders[h] = { r with inRun := min 3 (r.inRun + 1), outRun := 0, liftFault := r.liftFault && r.inRun < 2 })) ∧
      (∀ d : Fin 6,
        (b.districts[d].used = false ∨ b.districts[d].endPoint ≠ p.val + 1 → t.districts[d] = s.districts[d]) ∧
        (b.districts[d].used = true → b.districts[d].endPoint = p.val + 1 →
          let e := b.districts[d]
          let r := s.districts[d]
          t.districts[d] =
            if v < (e.endLow : Int) then { r with lowRun := min e.confirm (r.lowRun + 1), highRun := 0 }
            else if (e.endHigh : Int) < v then { r with highRun := min e.confirm (r.highRun + 1), lowRun := 0 }
            else { r with lowRun := 0, highRun := 0 })) ∧
      t.timebase = s.timebase ∧ t.clock = s.clock ∧ t.tables = s.tables ∧ t.channels = s.channels ∧ t.barometer = s.barometer ∧
      t.calorimeter = s.calorimeter ∧ t.nv = s.nv ∧ t.accounts.logs = s.accounts.logs)

/-- R43, R44, R110: barometer, calorimeter and governor reports change their own record only. -/
def Obligations.GasAndGovernorReports : Prop :=
  ∀ (s : State) (b : Bank) (dest src : Byte) (value : Half) (code : Byte), s.power = .on → s.live = some b →
    let p := s.passed dest src kindReport (halfBytes value ++ [code])
    let v := value.toInt
    (∀ q, b.resolve src.toNat = some .barometer → Quality.ofCode code.toNat = some q →
      exec (.barometerReport dest src value code) s = .next (p.setBarometer
        (if q ≠ .fault ∧ 27000 ≤ v ∧ v ≤ 32000 then ⟨.fresh, some v, q, some s.timebase, some ⟨v, q, s.timebase, true⟩⟩
         else { s.barometer with last := some ⟨v, q, s.timebase, false⟩ }))) ∧
    (∀ q, b.resolve src.toNat = some .calorimeter → Quality.ofCode code.toNat = some q →
      exec (.calorimeterReport dest src value code) s = .next (p.setCalorimeter
        (if q = .good ∧ 3000 ≤ v ∧ v ≤ 6000 then ⟨.fresh, some v, q, some s.timebase, some ⟨v, q, s.timebase, true⟩⟩
         else { s.calorimeter with last := some ⟨v, q, s.timebase, false⟩ }))) ∧
    (∀ d : Fin 6, b.resolve src.toNat = some (.governor d) → code.toNat ≤ 1 →
      exec (.governorReport dest src value code) s = .next
        (if b.districts[d].used = true ∧ value.toNat ≤ 3000 then
          p.setDistrict d { s.districts[d] with
            reported := some ⟨value.toNat, code == 1, s.timebase⟩,
            lastSent := some (s.districts[d].lastSent.getD value.toNat) }
         else p))

/-- R63, R70 to R74: a position report that matches the operation in flight ends it, with a REACHED notice where the programme had joined
it; FAULT ends it in STUCK and LOCAL in LOCAL, and any other position is only recorded. A valve at rest follows its report, an OPEN one
whose permission is WITHDRAWN being shut at once; a TRIP demand kept in LOCAL or NO_ANSWER is taken from the state so set; and one of a
STUCK valve, but LOCAL, only sets the reported position. MODEL'S CHOICE: a kept TRIP demand keeps its joined mark (log 17); an operation
that ends in STUCK has its unsent command withdrawn (log 46), its phase IDLE, its timers stopped and its reissue count kept (log 87); a
command left over at rest is withdrawn in LOCAL and stays queued otherwise (log 93); and under LOOP_LOST the exchange tag stays (log 61). -/
def Obligations.ValvePosition : Prop :=
  ∀ (s : State) (b : Bank) (v : Fin 8) (dest src code : Byte) (pos : Position), s.power = .on → s.live = some b →
    b.resolve src.toNat = some (.valve v) → Position.ofCode code.toNat = some pos →
    let p := s.passed dest src kindReport [code]
    let r : ValveRec := { s.valves[v] with reported := some ⟨pos, s.timebase⟩ }
    let gives (t : State) : Prop := exec (.valvePositionReport dest src code) s = .next t
    let told (t : State) (d : Dir) (reached : Bool) : State :=
      State.settled { t with prog := { s.prog with notices := s.prog.notices ++ [⟨v, d, reached⟩] } }
    let without (x : ValveRec) : State := { p with
      valves := upd s.valves v { x with phase := .idle, answerTimer := none, travelTimer := none },
      loop := p.loop.withdraw (·.isValve v) }
    let faulted (d : Option Demand) : ValveRec := { r with state := .stuck, lastFailure := some ⟨.faultReported, d, s.timebase⟩ }
    let inLocal : ValveRec := { r with state := .localHand }
    (∀ d : Demand, s.valves[v].demand = some d →
      (d.dir = .toOpen ∧ s.valves[v].state = .opening) ∨ (d.dir = .toShut ∧ s.valves[v].state = .shutting) →
      let goal : Position := if d.dir = .toOpen then .opened else .shut
      let ended := without { r with
        state := (if d.dir = .toOpen then .opened else .shut), demand := none, joined := false, reissue := 0 }
      let stuck := (without { faulted (some d) with demand := none, joined := false }).raise (srcValveFault v)
      let dropped := without { inLocal with demand := none, joined := false, reissue := 0 }
      (pos = goal → (s.valves[v].joined = false → s.ProgrammeIdle → gives ended) ∧
        (s.valves[v].joined = true → gives (told ended d.dir true))) ∧
      (pos = .fault → (s.valves[v].joined = false → s.ProgrammeIdle → gives stuck) ∧
        (s.valves[v].joined = true → gives (told stuck d.dir false))) ∧
      (pos = .localHand →
        (d.origin = .trip → s.ProgrammeIdle → gives (without { inLocal with reissue := 0 })) ∧
        (d.origin ≠ .trip → s.valves[v].joined = false → s.ProgrammeIdle → gives dropped) ∧
        (d.origin ≠ .trip → s.valves[v].joined = true → gives (told dropped d.dir false))) ∧
      (pos ∉ [goal, .fault, .localHand] → s.ProgrammeIdle → gives (p.setValve v r))) ∧
    (s.ProgrammeIdle → s.valves[v].demand = none →
      (s.valves[v].state ∈ [.unknown, .shut, .opened, .localHand, .noAnswer] →
        (pos = .shut → gives (p.setValve v { r with state := .shut })) ∧
        (pos = .opened → s.perms[v].granted = true → gives (p.setValve v { r with state := .opened })) ∧
        (pos = .opened → s.perms[v].granted = false → gives (p.begun v r ⟨.toShut, .trip⟩ false)) ∧
        (pos = .mid → gives (p.setValve v { r with state := .unknown }))) ∧
      (s.valves[v].state ∈ [.unknown, .shut, .opened, .noAnswer] → pos = .fault →
        gives ((p.setValve v (faulted none)).raise (srcValveFault v))) ∧
      (s.valves[v].state ∈ [.unknown, .shut, .opened, .stuck, .noAnswer] → pos = .localHand →
        gives (without { inLocal with joined := false }))) ∧
    (s.ProgrammeIdle → s.valves[v].state = .stuck → pos ≠ .localHand → gives (p.setValve v r)) ∧
    (s.ProgrammeIdle → s.valves[v].state = .localHand → pos = .localHand ∨ pos = .fault → gives (p.setValve v r)) ∧
    (s.valves[v].demand = some ⟨.toShut, .trip⟩ → s.valves[v].state = .localHand ∨ s.valves[v].state = .noAnswer →
      let shut : State := p.setValve v { r with state := .shut, demand := none, joined := false }
      (pos = .shut → (s.valves[v].joined = false → s.ProgrammeIdle → gives shut) ∧
        (s.valves[v].joined = true → gives (told shut .toShut true))) ∧
      (s.ProgrammeIdle → pos = .opened ∨ pos = .mid → gives (p.begun v r ⟨.toShut, .trip⟩ r.joined)) ∧
      (s.ProgrammeIdle → s.valves[v].state = .noAnswer → pos = .fault →
        gives ((p.begun v (faulted (some ⟨.toShut, .trip⟩)) ⟨.toShut, .trip⟩ r.joined).raise (srcValveFault v))) ∧
      (s.ProgrammeIdle → s.valves[v].state = .noAnswer → pos = .localHand → gives (without inLocal)))

/-! ## Answers and the timers of the valves -/

/-- R63, R66, R70, R161: a SELECTED answer of the exchange in hand places the OPERATE, or, where its position is the demanded one, ends the
operation as a match, with a REACHED notice where the programme had joined it; any other is recorded as IGNORED, and an answer to another
address is only forwarded. -/
def Obligations.AnswerSelected : Prop :=
  ∀ (s : State) (b : Bank) (v : Fin 8) (dest src tag code : Byte) (pos : Position), s.power = .on → s.live = some b →
    b.resolve src.toNat = some (.valve v) → Position.ofCode code.toNat = some pos →
    let p := s.passed dest src kindAnswer [tag, 1, code]
    let noted (acted : Bool) : ValveRec := { s.valves[v] with lastAnswer := some ⟨.selected pos, tag, s.timebase, acted⟩ }
    (dest.toNat ≠ s.own → exec (.answerSelected dest src tag code) s = .next p) ∧
    (s.ProgrammeIdle → dest.toNat = s.own → tag ≠ s.valves[v].tag ∨ s.valves[v].phase ≠ .selectSent ∨ s.loop.lost = true →
      exec (.answerSelected dest src tag code) s = .next (p.setValve v (noted false))) ∧
    (∀ d : Demand, dest.toNat = s.own → s.loop.lost = false → tag = s.valves[v].tag → s.valves[v].phase = .selectSent →
      s.valves[v].demand = some d → pos = (if d.dir = .toOpen then .opened else .shut) →
      let ended : State := { p with
        valves := upd s.valves v { noted true with
          reported := some ⟨pos, s.timebase⟩, state := (if d.dir = .toOpen then .opened else .shut), demand := none, joined := false,
          phase := .idle, reissue := 0, answerTimer := none, travelTimer := none },
        loop := p.loop.withdraw (·.isValve v) }
      (s.valves[v].joined = false → s.ProgrammeIdle → exec (.answerSelected dest src tag code) s = .next ended) ∧
      (s.valves[v].joined = true → exec (.answerSelected dest src tag code) s =
        .next (State.settled { ended with prog := { s.prog with notices := s.prog.notices ++ [⟨v, d.dir, true⟩] } }))) ∧
    (∀ d : Demand, s.ProgrammeIdle → dest.toNat = s.own → s.loop.lost = false → tag = s.valves[v].tag →
      s.valves[v].phase = .selectSent → s.valves[v].demand = some d →
      (d.dir = .toOpen → pos ≠ .opened) → (d.dir = .toShut → pos ≠ .shut) →
      exec (.answerSelected dest src tag code) s = .next { p with
        valves := upd s.valves v { noted true with
          answerTimer := none, reported := some ⟨pos, s.timebase⟩, phase := .operateSent },
        loop := p.loop.placeValve v true d.dir tag (d.origin == .trip) })

/-- R63, R67 to R69, R72, R75: a DONE answer starts the travel timer; a REFUSED answer for FAULT makes the valve STUCK, for LOCAL puts it into
LOCAL, and for NOT SELECTED is a missed answer; each ends the operation with a failure notice where the programme had joined it, but that
LOCAL keeps a TRIP demand, and the first miss the exchange. A DONE answer, and a REFUSED answer of any reason, out of its place is recorded
as IGNORED, and one to another address is only forwarded (R161). MODEL'S CHOICE: a valve made STUCK has its unsent command withdrawn (log 46), its phase IDLE, its timers stopped and its
reissue count kept (log 87); a kept TRIP demand keeps its joined mark in LOCAL, while in NO_ANSWER the notice is given whatever the origin
(log 17); the first miss leaves a travel timer that runs as it was (log 75), and the second an unsent command in the queue (log 88). -/
def Obligations.AnswerDoneRefused : Prop :=
  ∀ (s : State) (b : Bank) (v : Fin 8) (src dest tag : Byte), s.power = .on → s.live = some b →
    b.resolve src.toNat = some (.valve v) →
    let p (body : List Byte) := s.passed dest src kindAnswer body
    (dest.toNat ≠ s.own →
      exec (.answerDone dest src tag) s = .next (p [tag, 2, 0]) ∧
      ∀ code, exec (.answerRefused dest src tag code) s = .next (p [tag, 3, code])) ∧
    (dest.toNat = s.own →
      let noted (a : Answer) (acted : Bool) : ValveRec := { s.valves[v] with lastAnswer := some ⟨a, tag, s.timebase, acted⟩ }
      let told (t : State) (d : Demand) : State :=
        State.settled { t with prog := { s.prog with notices := s.prog.notices ++ [⟨v, d.dir, false⟩] } }
      let acted : Prop := tag = s.valves[v].tag ∧ s.valves[v].phase ≠ .idle ∧ s.loop.lost = false
      (s.ProgrammeIdle →
        tag ≠ s.valves[v].tag ∨ s.valves[v].phase ≠ .operateSent ∨ s.valves[v].answerTimer = none ∨ s.loop.lost = true →
        exec (.answerDone dest src tag) s = .next ((p [tag, 2, 0]).setValve v (noted .finished false))) ∧
      (s.ProgrammeIdle → tag = s.valves[v].tag → s.valves[v].phase = .operateSent → s.valves[v].answerTimer ≠ none →
        s.loop.lost = false →
        let seconds := if v.val % 2 = 0 then b.holders[holderOf v].inletTime else b.holders[holderOf v].outletTime
        exec (.answerDone dest src tag) s = .next ((p [tag, 2, 0]).setValve v { noted .finished true with
          answerTimer := none, travelTimer := some (s.timebase + seconds * 1000) })) ∧
      (∀ (code : Byte) (reason : RefuseReason), RefuseReason.ofCode code.toNat = some reason →
        let gives (t : State) : Prop := exec (.answerRefused dest src tag code) s = .next t
        let q := p [tag, 3, code]
        (s.ProgrammeIdle → ¬acted → gives (q.setValve v (noted (.refused reason) false))) ∧
        (∀ d, reason = .notSelected → acted → s.valves[v].demand = some d →
          let silent : State := (q.setValve v { noted (.refused .notSelected) true with
            state := .noAnswer, phase := .idle, answerTimer := none, travelTimer := none, joined := false,
            demand := (if d.origin = .trip then some d else none),
            lastFailure := some ⟨.selectLapsed, some d, s.timebase⟩ }).raise (srcValveFault v)
          (s.ProgrammeIdle → s.valves[v].reissue = 0 → gives { q with
            valves := upd s.valves v { noted (.refused .notSelected) true with
              reissue := 1, tag := s.valves[v].tag + 1, phase := .selectSent, answerTimer := none },
            loop := q.loop.placeValve v false d.dir (s.valves[v].tag + 1) (d.origin == .trip) }) ∧
          (s.ProgrammeIdle → s.valves[v].reissue ≠ 0 → s.valves[v].joined = false → gives silent) ∧
          (s.valves[v].reissue ≠ 0 → s.valves[v].joined = true → gives (told silent d))) ∧
        (reason = .fault → acted →
          let stuck : State := { q with
            valves := upd s.valves v { noted (.refused .fault) true with
              state := .stuck, reported := some ⟨.fault, s.timebase⟩, demand := none, joined := false, phase := .idle, answerTimer := none,
              travelTimer := none, lastFailure := some ⟨.refusedFault, s.valves[v].demand, s.timebase⟩ },
            loop := q.loop.withdraw (·.isValve v) }.raise (srcValveFault v)
          (s.ProgrammeIdle → s.valves[v].joined = false → gives stuck) ∧
          (∀ d, s.valves[v].joined = true → s.valves[v].demand = some d → gives (told stuck d))) ∧
        (∀ d, reason = .localHand → acted → s.valves[v].demand = some d → s.valves[v].state.inFlight = true →
          let inLocal (kept : Option Demand) (joined : Bool) : State := { q with
            valves := upd s.valves v { noted (.refused .localHand) true with
              state := .localHand, reported := some ⟨.localHand, s.timebase⟩, demand := kept, joined := joined,
              phase := .idle, reissue := 0, answerTimer := none, travelTimer := none },
            loop := q.loop.withdraw (·.isValve v) }
          (s.ProgrammeIdle → d.origin = .trip → gives (inLocal (some d) s.valves[v].joined)) ∧
          (s.ProgrammeIdle → d.origin ≠ .trip → s.valves[v].joined = false → gives (inLocal none false)) ∧
          (d.origin ≠ .trip → s.valves[v].joined = true → gives (told (inLocal none false) d)))))

/-- R63, R69, R70: at the first missed answer the exchange begins again with a new tag; at the second the valve enters NO_ANSWER; a
travel timer's expiry makes it STUCK; each of the two ends with a failure notice where the programme had joined the operation. MODEL'S
CHOICE: the command brings the timebase to the expiry, and without the timer running it changes nothing (log 11); a valve made STUCK has
its unsent command withdrawn (log 46), its answer timer stopped and its reissue count kept (log 87); in NO_ANSWER the notice is given
whatever the origin (log 17), and an unsent command stays in the queue (log 88); and the first miss leaves the travel timer as it was
(log 75). -/
def Obligations.ValveTimers : Prop :=
  ∀ (s : State) (v : Fin 8), s.power = .on → s.live ≠ none →
    let told (t : State) (d : Demand) : State :=
      State.settled { t with prog := { s.prog with notices := s.prog.notices ++ [⟨v, d.dir, false⟩] } }
    (s.valves[v].answerTimer = none → exec (.answerTimerExpiry v) s = .next s) ∧
    (s.valves[v].travelTimer = none → exec (.travelTimerExpiry v) s = .next s) ∧
    (∀ e d, s.ProgrammeIdle → s.valves[v].answerTimer = some e → s.valves[v].demand = some d → s.valves[v].reissue = 0 →
      s.loop.lost = false →
      exec (.answerTimerExpiry v) s = .next { s.passTo e with
        valves := upd s.valves v { s.valves[v] with
          reissue := 1, tag := s.valves[v].tag + 1, phase := .selectSent, answerTimer := none },
        loop := s.loop.placeValve v false d.dir (s.valves[v].tag + 1) (d.origin == .trip) }) ∧
    (∀ e d, s.valves[v].answerTimer = some e → s.valves[v].demand = some d → s.valves[v].reissue ≠ 0 →
      let silent : State := ((s.passTo e).setValve v { s.valves[v] with
        state := .noAnswer, phase := .idle, answerTimer := none, travelTimer := none, joined := false,
        demand := (if d.origin = .trip then some d else none),
        lastFailure := some ⟨.noAnswer, some d, (s.passTo e).timebase⟩ }).raise (srcValveFault v)
      (s.ProgrammeIdle → s.valves[v].joined = false → exec (.answerTimerExpiry v) s = .next silent) ∧
      (s.valves[v].joined = true → exec (.answerTimerExpiry v) s = .next (told silent d))) ∧
    (∀ e, s.valves[v].travelTimer = some e →
      let stuck : State := { s.passTo e with
        valves := upd s.valves v { s.valves[v] with
          state := .stuck, demand := none, joined := false, phase := .idle, answerTimer := none, travelTimer := none,
          lastFailure := some ⟨.travelTimeout, s.valves[v].demand, (s.passTo e).timebase⟩ },
        loop := s.loop.withdraw (·.isValve v) }.raise (srcValveFault v)
      (s.ProgrammeIdle → s.valves[v].joined = false → exec (.travelTimerExpiry v) s = .next stuck) ∧
      (∀ d, s.valves[v].joined = true → s.valves[v].demand = some d → exec (.travelTimerExpiry v) s = .next (told stuck d)))

/-! ## Other events of time -/

/-- R36, R75, R122, R131, R169, R177: the loss timer's expiry with the loop UP makes it LOOP_LOST: every unsent command is withdrawn,
the timers of the valves stop, LOOP LOST is held back with the clock's time, and the open interval is flagged. MODEL'S CHOICE (log 11):
the command brings the timebase and the clock to the expiry, and with the loop lost already it changes nothing. -/
def Obligations.LossExpiry : Prop :=
  ∀ s : State, s.power = .on →
    (s.loop.lost = true → exec .lossTimerExpiry s = .next s) ∧
    (s.loop.lost = false → Completes .lossTimerExpiry s fun t =>
      let p := s.passTo s.loop.lossExpiry
      t.loop.lost = true ∧ t.loop.commands = [] ∧ t.loop.responses = s.loop.responses ∧ t.loop.buffer = s.loop.buffer ∧
      t.loop.window = s.loop.window ∧ t.loop.cycle = s.loop.cycle ∧
      (∀ v : Fin 8, t.valves[v] = { s.valves[v] with answerTimer := none, travelTimer := none }) ∧
      t.attn.deferred = some ⟨p.clock.day, p.clock.sec, p.clock.valid⟩ ∧ t.attn.items = s.attn.items ∧
      t.accounts.interval = s.accounts.interval.map (fun iv => { iv with yard := { iv.yard with loopLost := true } }) ∧
      t.accounts.logs = s.accounts.logs ∧ t.timebase = max s.timebase s.loop.lossExpiry ∧ t.clock = p.clock ∧
      t.holders = s.holders ∧ t.channels = s.channels ∧ t.points = s.points ∧ t.barometer = s.barometer ∧
      t.calorimeter = s.calorimeter ∧ t.perms = s.perms ∧ t.prog = s.prog ∧ t.districts = s.districts ∧ t.tables = s.tables ∧
      t.nv = s.nv)

/-- R33, R41, R43, R44: a stall timer's expiry makes a MEASURING channel STALLED with rate 0, raises METER STALL and flags the channel;
a stale timer's expiry makes a FRESH record HELD and keeps the rest of it, CV DECLARED being raised for the calorimeter. MODEL'S CHOICE
(log 11): the command brings the timebase to the expiry, and with the timer stopped it changes nothing. -/
def Obligations.StallAndStale : Prop :=
  ∀ (s : State) (b : Bank), s.power = .on → s.live = some b →
    (∀ (m : Fin 12) (x : Nat), b.meters[m].inUse = true → s.channels[m].state = .measuring → s.loop.lost = false →
      s.channels[m].stallStart = some x →
      let p := s.passTo (x + b.meters[m].stall * 1000)
      exec (.stallTimerExpiry m) s = .next
        (((p.setChannel m { s.channels[m] with state := .stalled, rate := 0, rateTime := some p.timebase, window := none }).raise
          (srcMeterStall m)).channelFlag m { ChannelFlags.none with stalled := true })) ∧
    (∀ m : Fin 12, s.channels[m].state ≠ .measuring ∨ s.loop.lost = true → exec (.stallTimerExpiry m) s = .next s) ∧
    (∀ (r : Fin 25) (h : r.val < 24) (u : Nat), s.points[r.val].state = .fresh → s.points[r.val].usable = some u →
      exec (.staleTimerExpiry r) s = .next ((s.passTo (u + b.yard.pointStale * 1000)).setPoint ⟨r.val, h⟩
        { s.points[r.val] with state := .held })) ∧
    (∀ u : Nat, s.barometer.state = .fresh → s.barometer.usable = some u →
      exec (.staleTimerExpiry 24) s =
        .next ((s.passTo (u + b.yard.pointStale * 1000)).setBarometer { s.barometer with state := .held })) ∧
    (∀ u : Nat, s.calorimeter.state = .fresh → s.calorimeter.usable = some u →
      exec .cvStaleTimerExpiry s = .next
        (((s.passTo (u + b.yard.cvStale * 1000)).setCalorimeter { s.calorimeter with state := .held }).raise srcCvDeclared))

/-- R111 to R118, R120: at its timer's expiry a review restarts the timer, and with the clock VALID and the loop UP it runs. The stages 1
to 6 have the values that the rules give (`State.StagesAre`); SCHEDULE CLAMPED, END LOW and HEADROOM SHORT are raised when they come to
hold; the trim and the last review are set, and a SET of the result is queued when the result is as far from the last sent setpoint as the
deadband asks, at the tenth review since the last SET, or when one is due; never before a setpoint is known. The last review says whether
the SET was PLACED, REPLACED one that was still unsent, or was NOT SENT; and no other source is raised. MODEL'S CHOICE (log 11): the
command brings the timebase to the expiry. -/
def Obligations.Review : Prop :=
  ∀ (s : State) (b : Bank) (d : Fin 6) (e : Nat), s.power = .on → s.live = some b → b.districts[d].used = true →
    s.districts[d].reviewTimer = some e →
    let p := s.passTo e
    (s.clock.valid = false ∨ s.loop.lost = true →
      exec (.reviewTimerExpiry d) s =
        .next (p.setDistrict d { s.districts[d] with reviewTimer := some (p.timebase + 60000) })) ∧
    (∀ sl : DaySlot, s.clock.valid = true → s.loop.lost = false → s.clock.slot = some sl →
      Completes (.reviewTimerExpiry d) s fun t =>
        let g := p.stages b d sl.slot
        let r := s.districts[d]
        let n := min 10 (r.refresh + 1)
        let endLow : Prop := g.fresh = true ∧ g.confirmed = .low ∧ g.trim = b.districts[d].trimMax
        let short : Prop := g.limited = true ∧ ∃ x, g.headroom = some x ∧ x < (b.districts[d].minSet : Int)
        let sends : Prop := ∃ l : Nat, r.lastSent = some l ∧
          (b.districts[d].deadband ≤ ((g.result : Int) - l).natAbs ∨ n = 10 ∨ r.sendDue = true)
        p.StagesAre b d sl.slot g ∧
        (g.clamped = true → r.clampSlot ≠ some sl → p.Raised t srcScheduleClamped ∧ t.districts[d].clampSlot = some sl) ∧
        (g.clamped = false ∨ r.clampSlot = some sl → p.NotRaised t srcScheduleClamped ∧ t.districts[d].clampSlot = r.clampSlot) ∧
        (t.districts[d].endLowStanding = true ↔ endLow) ∧
        (endLow → r.endLowStanding = false → p.Raised t (srcEndLow d)) ∧
        (¬endLow ∨ r.endLowStanding = true → p.NotRaised t (srcEndLow d)) ∧
        (t.districts[d].shortStanding = true ↔ short) ∧
        (short → r.shortStanding = false → p.Raised t (srcHeadroomShort d)) ∧
        (¬short ∨ r.shortStanding = true → p.NotRaised t (srcHeadroomShort d)) ∧
        t.districts[d].reviewTimer = some (p.timebase + 60000) ∧ t.districts[d].trim = g.trim ∧
        t.districts[d].headroom = g.limited ∧
        (∀ src, src ∉ [srcScheduleClamped, srcEndLow d, srcHeadroomShort d] → p.NotRaised t src) ∧
        (∃ o : SetOutcome, t.districts[d].lastReview = some {
            time := p.timebase, s := g.s, boost := g.boost, trim := g.trim, target4 := g.target4, target5 := g.target5,
            target6 := g.target6, headroom := g.headroom, source := g.source, result := g.result, outcome := o, rate := g.rate } ∧
          (sends → s.loop.unsentSet d = none → o = .placed) ∧ (sends → s.loop.unsentSet d ≠ none → o = .replaced) ∧
          (¬sends → o = .notSent)) ∧
        t.districts[d].lowRun = r.lowRun ∧ t.districts[d].highRun = r.highRun ∧ t.districts[d].reported = r.reported ∧
        (sends →
          t.districts[d].lastSent = some g.result ∧ t.districts[d].refresh = 0 ∧ t.districts[d].sendDue = false ∧
            t.loop.unsentSet d = some g.result) ∧
        (¬sends →
          t.districts[d].lastSent = r.lastSent ∧ t.districts[d].refresh = n ∧ t.districts[d].sendDue = r.sendDue ∧
            t.loop = s.loop) ∧
        (∀ k, k ≠ d → t.districts[k] = s.districts[k]) ∧
        p.Keeps t ∧ t.holders = s.holders ∧ t.valves = s.valves ∧ t.perms = s.perms ∧ t.prog = s.prog ∧ t.accounts = s.accounts ∧
        t.nv = s.nv)

/-- R87, R92, R125, R126, R155: at a half-hour boundary the new slot is in force and its SLOT trigger is entered, and taken where it may
be; a SLOT or RE-EVALUATE trigger taken is built from the target roles, and its open demands are placed, or with none the shutting
phase begins; the clock stops at second 86,399 of day 65,535; and a completed store write makes the copy VALID, or FAILED with STORE FAULT raised.
MODEL'S CHOICE (log 11): the command brings the timebase and the clock to the boundary, or to the stop, unless time has brought them to
it, and changes nothing where neither can come; a holder with nothing to open takes part whether it is available or not (log 47); a
withheld shut gives a held holder the side's work back too (log 64), and two of one holder both sides' (log 90); and a slot entry codes the
roles from 0 (log 89). -/
def Obligations.ClockAndStoreEvents : Prop :=
  (∀ s : State, s.power = .on → s.clock.Ok → s.clock.valid = true → s.clock.advancing = true → s.clock.slotDue = false →
    s.clock.nextBoundary ≤ 65535 * 86400 + 86399 →
    let p := s.passTo (s.timebase + (s.clock.nextBoundary * 1000 - s.clock.totalMs))
    let given : State := { p with
      clock := { s.clock with
        day := s.clock.nextBoundary / 86400, sec := s.clock.nextBoundary % 86400, ms := 0,
        slot := some ⟨s.clock.nextBoundary % 86400 / 1800 + 1, s.clock.nextBoundary / 86400⟩ },
      prog := { s.prog with
        deferred := if Trigger.slot ∈ s.prog.deferred then s.prog.deferred else s.prog.deferred ++ [.slot] } }
    (s.prog.notices = [] → s.loop.lost = true ∨ s.prog.transition.isSome = true → exec .slotBoundary s = .next given) ∧
    exec .slotBoundary s = .next given.settled ∧
    given.settled.clock = given.clock ∧ given.settled.timebase = given.timebase ∧ given.settled.accounts = s.accounts ∧
    given.settled.holders = s.holders ∧ given.settled.channels = s.channels ∧ given.settled.districts = s.districts ∧
    given.settled.nv = s.nv) ∧
  (∀ s : State, s.power = .on → s.clock.slotDue = true →
    let given : State := { s with
      clock := { s.clock with slot := some ⟨s.clock.sec / 1800 + 1, s.clock.day⟩ },
      prog := { s.prog with
        deferred := if Trigger.slot ∈ s.prog.deferred then s.prog.deferred else s.prog.deferred ++ [.slot] } }
    (s.prog.notices = [] → s.loop.lost = true ∨ s.prog.transition.isSome = true → exec .slotBoundary s = .next given) ∧
    exec .slotBoundary s = .next given.settled ∧
    given.settled.clock = given.clock ∧ given.settled.timebase = s.timebase ∧ given.settled.accounts = s.accounts ∧
    given.settled.holders = s.holders ∧ given.settled.channels = s.channels ∧ given.settled.districts = s.districts ∧
    given.settled.nv = s.nv) ∧
  (∀ s : State, s.power = .on → s.clock.slotDue = false →
    s.clock.advancing = false ∨ 65535 * 86400 + 86399 < s.clock.nextBoundary → exec .slotBoundary s = .next s) ∧
  (∀ (s : State) (b : Bank) (t : Trigger) (sl : DaySlot), s.live = some b → t = .slot ∨ t = .reEvaluate → s.clock.slot = some sl →
    s.loop.lost = false →
    let u := s.buildTrigger b t
    let unretaken (h : Fin 4) : RoleRec :=
      if b.fitted h = true ∧ s.prog.roles[h].held = false then { s.prog.roles[h] with retake := false } else s.prog.roles[h]
    ∃ tr, s.SlotTransition b t sl.slot tr ∧
      (tr.opens ≠ [] → u.prog.transition = some tr ∧ s.OpensBegin u tr.opens ∧ ∀ h, u.prog.roles[h] = unretaken h) ∧
      (tr.opens = [] → s.ShutsBegin u b tr ∧ ∀ h, u.prog.roles[h].retake = (unretaken h).retake)) ∧
  (∀ s : State, s.power = .on → s.clock.valid = false → exec .slotBoundary s = .next s) ∧
  (∀ s : State, s.power = .on → s.clock.Ok → s.clock.advancing = true → Completes .clockStopsAdvancing s fun t =>
    t.clock = { s.clock with day := 65535, sec := 86399, ms := 0, advancing := false } ∧ t.prog = s.prog ∧ t.loop = s.loop ∧
      t.accounts = s.accounts ∧ t.valves = s.valves ∧ t.holders = s.holders) ∧
  (∀ s : State, s.power = .on → s.clock.advancing = false → exec .clockStopsAdvancing s = .next s) ∧
  (∀ s : State, s.power = .on → s.tables.store = .writing → s.running = true →
    exec (.storeWriteComplete true) s = .next { s with tables := { s.tables with
      store := .valid, storeGen := s.tables.generation, copy := s.tables.live } } ∧
    exec (.storeWriteComplete false) s = .next ({ s with tables := { s.tables with store := .failed } }.raise srcStoreFault)) ∧
  (∀ (s : State) (agrees : Bool), s.power = .on → s.tables.store ≠ .writing → exec (.storeWriteComplete agrees) s = .next s)

/-- R129, R133 to R137, R141, R152, R154, R155: at its nominal end the open interval closes. Every channel's accumulators are divided
exactly, and its residues pass to the interval that opens; the record (`State.Recorded`) takes the next sequence number and enters the
log, the day and the store; the stock at close is the stock at open of the next interval (`State.Opened`); and each fitted holder is
saved. With a bank COMMITTED the close swaps it in: it becomes the live bank under the next generation, the store write begins, and the
next interval opens under it; the stops of the holders that it concerns are compared with their counts (R22, R79, in
`State.RecordsTaken`). MODEL'S CHOICE: the command brings the clock to the nominal end (log 11); and those of the swap that `Commit` names
(log 39, 54, 58, 60, 61, 86). -/
def Obligations.NominalEnd : Prop :=
  ∀ (s : State) (b : Bank) (iv : OpenInterval) (e : WallTime), s.power = .on → s.live = some b →
    s.clock.valid = true → s.accounts.interval = some iv → iv.nominalEnd = some e →
    let next : Bank := if s.tables.committed then s.tables.pending else b
    (s.clock.totalSec < e.total → s.clock.advancing = false ∨ 65535 * 86400 + 86399 < e.total → exec .nominalEndReached s = .next s) ∧
    (s.clock.totalSec < e.total → s.clock.advancing = true → e.total ≤ 65535 * 86400 + 86399 →
      exec .nominalEndReached s = exec .nominalEndReached (s.passToSec e.total) ∧ e.total ≤ (s.passToSec e.total).clock.totalSec) ∧
    (e.total ≤ s.clock.totalSec → Completes .nominalEndReached s fun t => ∃ (r : IntervalRecord) (jv : OpenInterval),
      s.Recorded b iv YardFlags.none r ∧ s.Opened t b next r YardFlags.none jv ∧ s.accounts.logs.DayKept t.accounts.logs r ∧
      t.live = some next ∧ t.tables.committed = false ∧
      (s.tables.committed = false → t.tables = s.tables ∧ t.attn = s.attn ∧ jv.yard.stockUncertain = jv.stockUncertainOpen) ∧
      (s.tables.committed = true →
        t.tables = { s.tables with
          live := some next, generation := (if 65535 ≤ s.tables.generation then 1 else s.tables.generation + 1), committed := false,
          marks := Vector.replicate 12 true, store := .writing } ∧
        jv.generation = t.tables.generation ∧ s.RecordsTaken t b next ∧ s.Reclassed t next ∧
        (s.prog.transition = none → s.prog.notices = [] →
          s.loop.lost = true ∨ (s.prog.deferred = [] ∧ b.slots = next.slots ∧ b.sendOrder = next.sendOrder ∧
            b.fillOrder = next.fillOrder) →
          s.TakenOver t b next)) ∧
      t.accounts.logs.log.getLast? = some r ∧ t.accounts.interval = some jv ∧
      r.sequence = s.accounts.logs.lastSeq + 1 ∧ t.accounts.logs.lastSeq = r.sequence ∧ t.nv.logs = t.accounts.logs ∧
      r.identity = iv.identity ∧ r.openTime = iv.openTime ∧ r.closeTime = some ⟨s.clock.day, s.clock.sec⟩ ∧
      r.generation = iv.generation ∧
      (∀ m : Fin 12,
        r.channels[m].corrected * 10000 + r.channels[m].volumeOut = iv.channels[m].volume ∧ r.channels[m].volumeOut < 10000 ∧
        r.channels[m].energy * 100000000 + r.channels[m].energyOut = iv.channels[m].energy ∧
        r.channels[m].energyOut < 100000000 ∧
        r.channels[m].pulses = iv.channels[m].pulses ∧ r.channels[m].raw = iv.channels[m].raw ∧
        jv.channels[m].volumeIn = r.channels[m].volumeOut ∧ jv.channels[m].volume = r.channels[m].volumeOut ∧
        jv.channels[m].energyIn = r.channels[m].energyOut ∧ jv.channels[m].energy = r.channels[m].energyOut ∧
        jv.channels[m].pulses = 0 ∧ jv.channels[m].raw = 0 ∧ jv.channels[m].role = next.meters[m].role) ∧
      (∀ h : Fin 4, r.holders[h].stockOpen = iv.stockOpen[h] ∧ r.holders[h].stockClose = (s.holderStock b h).1 ∧
        jv.stockOpen[h] = r.holders[h].stockClose ∧
        (b.fitted h = true → t.nv.saves[h] = some ⟨s.holders[h].count, s.holders[h].certain⟩) ∧
        (b.fitted h = false → t.nv.saves[h] = s.nv.saves[h]) ∧
        (s.tables.committed = false → b.fitted h = true →
          t.holders[h] = { s.holders[h] with savedCertain := s.holders[h].certain }) ∧
        (s.tables.committed = false → b.fitted h = false → t.holders[h] = s.holders[h])) ∧
      r.balance = (r.make : Int) - r.send - 100 * ((r.totalClose : Int) - r.totalOpen) ∧
      jv.identity = (next.yard.place ⟨s.clock.day, s.clock.sec⟩).identity ∧
      jv.nominalStart = (next.yard.place ⟨s.clock.day, s.clock.sec⟩).nominalStart ∧
      jv.nominalEnd = (next.yard.place ⟨s.clock.day, s.clock.sec⟩).nominalEnd ∧
      t.clock = s.clock ∧ t.timebase = s.timebase ∧ t.own = s.own ∧ t.power = s.power ∧ t.pending = s.pending ∧
      t.accounts.cursor = s.accounts.cursor ∧ t.loop.responses = s.loop.responses ∧ t.loop.buffer = s.loop.buffer ∧
      t.loop.window = s.loop.window ∧ t.loop.lost = s.loop.lost ∧
      (s.tables.committed = false →
        jv.generation = s.tables.generation ∧ s.Keeps t ∧ t.valves = s.valves ∧ t.perms = s.perms ∧ t.prog = s.prog ∧
        t.districts = s.districts ∧ t.loop = s.loop))

/-! ## Power -/

/-- R21, R60, R77, R79, R85, R125, R129, R143, R156, R159, R171, R175, R180: power-on. With straps outside 1 to 250 the part stays held in
reset. With no bank to restore it is UNCONFIGURED, with STORE FAULT unless it has never held one. With a bank to restore it is RUNNING on
it, the store state kept: every permission is GRANTED but where the restored count meets a stop, the programme holds a SLOT trigger, the
first interval is open with GAP and CLOCK INVALID and every residue 0 (`State.FirstOpened`), and CLOCK INVALID and what the trips raise
stand in the attention list with the classes of the restored map, where it enables them. MODEL'S CHOICE: the timebase, and with it every
timer, starts from 0 (log 2); a part that is on already starts afresh (log 48); the records of a part held in reset by its straps stay as
they are (log 37). -/
def Obligations.PowerOn : Prop :=
  ∀ (s : State) (straps : Byte) (sound : Bool),
    (straps.toNat = 0 ∨ 250 < straps.toNat →
      exec (.powerOn straps sound) s = .next { s with
        power := .strapHeld, accounts := { s.accounts with interval := none }, loop := { s.loop with tx := .idle } }) ∧
    (1 ≤ straps.toNat → straps.toNat ≤ 250 → s.tables.restorable straps.toNat sound = none →
      Completes (.powerOn straps sound) s fun t =>
        t.power = .on ∧ t.own = straps.toNat ∧ t.running = false ∧ t.tables.generation = 0 ∧ t.tables.pending = Bank.blank ∧
        t.tables.committed = false ∧ t.tables.store = (if s.tables.store = .valid then .failed else s.tables.store) ∧
        t.clock.valid = false ∧ t.clock.day = 0 ∧ t.clock.sec = 0 ∧ t.accounts.interval = none ∧ t.accounts.logs = s.nv.logs ∧
        t.accounts.cursor = none ∧ t.loop = LoopPort.initial ∧ t.attn.deferred = none ∧
        t.attn.items.map (fun x => (x.source, x.cls, x.count)) =
          (if s.tables.store = .empty then [(srcClockInvalid, .prompt, 1)]
           else [(srcStoreFault, .urgent, 1), (srcClockInvalid, .prompt, 1)]) ∧
        (∀ h : Fin 4, t.holders[h].count = (s.nv.saves[h].map HolderSave.count).getD 0 ∧ t.holders[h].certain = false ∧
          t.holders[h].ref = none) ∧
        (∀ v : Fin 8, t.valves[v] = ValveRec.initial ∧ t.perms[v] = ⟨true, none, none, none⟩) ∧
        (∀ h : Fin 4, t.prog.roles[h] = ⟨none, false, false, false, false⟩) ∧ t.prog.transition = none ∧ t.prog.deferred = [] ∧
        t.nv.saves = s.nv.saves ∧ t.nv.logs = s.nv.logs ∧ t.pending = s.pending) ∧
    (∀ b : Bank, 1 ≤ straps.toNat → straps.toNat ≤ 250 → s.tables.restorable straps.toNat sound = some b →
      Completes (.powerOn straps sound) s fun t =>
        t.power = .on ∧ t.own = straps.toNat ∧ t.live = some b ∧ t.tables.generation = s.tables.storeGen ∧ t.tables.pending = b ∧
        t.tables.committed = false ∧ t.tables.store = s.tables.store ∧ t.clock.valid = false ∧ t.accounts.logs = s.nv.logs ∧
        (∃ iv, t.accounts.interval = some iv ∧ t.FirstOpened b iv ∧ (iv.yard.stockUncertain = true ↔ ∃ h, b.fitted h = true)) ∧
        t.attn.deferred = none ∧
        (∀ src : Fin 74,
          let raised : Prop := (attnMap (some b) src).1 = true ∧ (src = srcClockInvalid ∨ ∃ h : Fin 4, b.fitted h = true ∧
            ((src = srcLowTrip h ∧ t.holders[h].count ≤ b.holders[h].lowStop) ∨
              (src = srcHighTrip h ∧ b.holders[h].highStop ≤ t.holders[h].count)))
          (raised → ∃ e ∈ t.attn.items, e.source = src ∧ e.cls = (attnMap (some b) src).2 ∧ e.count = 1 ∧ e.first = ⟨0, 0, false⟩) ∧
          (¬raised → ∀ e ∈ t.attn.items, e.source ≠ src)) ∧
        t.loop.lost = false ∧ t.loop.lossExpiry = 10000 ∧ t.loop.cycle = none ∧ t.loop.responses = [] ∧
        (∀ h : Fin 4, t.holders[h].certain = false ∧ t.holders[h].ref = none ∧
          (b.fitted h = true →
            t.holders[h].count = min ((s.nv.saves[h].map HolderSave.count).getD 0) b.holders[h].travel)) ∧
        (∀ v : Fin 8, b.fitted (holderOf v) = false ∨ t.BetweenStops b (holderOf v) →
          t.valves[v] = ValveRec.initial ∧ t.perms[v] = ⟨true, none, none, none⟩) ∧
        (∀ h : Fin 4, b.fitted h = true →
          (t.holders[h].count ≤ b.holders[h].lowStop →
            t.perms[valveOf h .outlet] = ⟨false, some .lowStop, some t.holders[h].count, some 0⟩ ∧
            t.valves[valveOf h .outlet] = ValveRec.initial.starting ⟨.toShut, .trip⟩ false) ∧
          (b.holders[h].highStop ≤ t.holders[h].count →
            t.perms[valveOf h .inlet] = ⟨false, some .highStop, some t.holders[h].count, some 0⟩ ∧
            t.valves[valveOf h .inlet] = ValveRec.initial.starting ⟨.toShut, .trip⟩ false)) ∧
        (∀ h : Fin 4, t.prog.roles[h] = ⟨none, false, false, false, false⟩) ∧ t.prog.transition = none ∧ t.prog.deferred = [.slot] ∧
        (∀ m : Fin 12, t.channels[m] = ChannelRec.initial) ∧
        (∀ d : Fin 6, t.districts[d].lastSent = none ∧
          (b.districts[d].used = true → t.districts[d].reviewTimer = some 60000)) ∧
        t.nv.saves = s.nv.saves ∧ t.nv.logs = s.nv.logs)

/-- R19, R137, R143, R170: a power loss, and the reset pin, stop the part and close the bypass relay; the open interval is lost whole;
of a write that is cut the store keeps what it held before, whole, and every other write stands. MODEL'S CHOICE: the held reset pin loses
the open interval and cuts writes as a power loss does (log 14), the command says which writes are cut (log 13), and nothing else
changes before the next power-on (log 37). -/
def Obligations.PowerLost : Prop :=
  ∀ (s : State) (logCut : Bool) (cuts : List (Fin 4)), ∃ n : Nonvolatile,
    exec (.powerLoss logCut cuts) s = .next { s with
      power := .unpowered, accounts := { s.accounts with interval := none }, loop := { s.loop with tx := .idle }, nv := n } ∧
    exec (.resetPinHeld logCut cuts) s = .next { s with
      power := .resetHeld, accounts := { s.accounts with interval := none }, loop := { s.loop with tx := .idle }, nv := n } ∧
    (∀ h : Fin 4, n.saves[h] = if h ∈ cuts then s.nv.savesBefore[h] else s.nv.saves[h]) ∧
    n.logs = (if logCut = true then s.nv.logsBefore else s.nv.logs) ∧
    n.savesBefore = s.nv.savesBefore ∧ n.logsBefore = s.nv.logsBefore

/-! ## Directives -/

/-- R161, R168, R172, R173, R183: a directive that is not acted on. With 8 responses waiting only DIRECTIVE OVERRUN is raised; a wrong
length is refused with OUT_OF_RANGE; one that acts on the jobs is refused in UNCONFIGURED mode; one whose number names no fitted holder, no
valve of one, or no district in use is refused with OUT_OF_RANGE; an unknown code is refused with UNKNOWN_DIRECTIVE; and a directive not of
source 0 is absorbed and discarded. A broadcast SET CLOCK that is not acted on is forwarded, and answered in the same way. MODEL'S CHOICE:
a response that its forwarding breaks off goes back to the queue, and counts there before it is handed (log 40). -/
def Obligations.DirectivesTurnedAway : Prop :=
  (∀ (s : State) (i : Instr) (code : Nat) (ref : Byte) (ps : List Byte), directiveOf i = some (code, ref, ps) → s.power = .on →
    ps.length ≤ 198 →
    (8 ≤ s.loop.responses.length → exec i s = .next (s.absorb.raise srcOverrun)) ∧
    (∀ n, s.loop.responses.length < 8 → paramCount code = some n → ps.length ≠ n → exec i s = .next (s.refuses (b8 code) ref 2 [])) ∧
    (∀ n, s.loop.responses.length < 8 → s.live = none → paramCount code = some n → ps.length = n →
      code ∈ [8, 9, 10, 11, 12, 13, 14, 15, 16, 17, 18, 19, 20, 22] ∨ (code = 4 ∧ ps.head? = some 0) ∨
        (code = 5 ∧ ps = [0, 0, 0, 0]) →
      exec i s = .next (s.refuses (b8 code) ref 1 []))) ∧
  (∀ (s : State) (ref : Byte) (ps : List Byte), s.power = .on → ps.length ≤ 198 →
    let p := s.passed 255 0 kindDirective (13 :: ref :: ps)
    (8 ≤ p.loop.responses.length → exec (.setClock true ref ps) s = .next (p.raise srcOverrun)) ∧
    (p.loop.responses.length < 8 → ps.length ≠ 5 → exec (.setClock true ref ps) s = .next (p.refuses 13 ref 2 [])) ∧
    (p.loop.responses.length < 8 → s.live = none → ps.length = 5 →
      exec (.setClock true ref ps) s = .next (p.refuses 13 ref 1 []))) ∧
  (∀ (s : State) (b : Bank) (ref n x y : Byte), s.canAnswer → s.live = some b →
    let refused (code : Byte) (i : Instr) : Prop := exec i s = .next (s.refuses code ref 2 [])
    ((∀ h : Fin 4, b.fitted h = true → n.toNat ≠ h.val + 1) →
      refused 15 (.setPermit ref [n, x]) ∧ refused 16 (.withdrawPermit ref [n, x]) ∧ refused 17 (.holdRole ref [n]) ∧
      refused 18 (.releaseRole ref [n]) ∧ refused 19 (.presetLift ref [n, x, y])) ∧
    ((∀ v : Fin 8, b.fitted (holderOf v) = true → n.toNat ≠ v.val + 1) → refused 14 (.valve ref [n, x])) ∧
    ((∀ d : Fin 6, b.districts[d].used = true → n.toNat ≠ d.val + 1) → refused 20 (.trim ref [n, x, y]))) ∧
  (∀ (s : State) (body : List Byte), s.power = .on → body.length ≤ 200 →
    (∀ code ref ps, body = code :: ref :: ps → code.toNat = 0 ∨ 22 < code.toNat → s.loop.responses.length < 8 →
      exec (.directiveUnknown body) s = .next (s.refuses code ref 9 [])) ∧
    (body.length < 2 → s.loop.responses.length < 8 → exec (.directiveUnknown body) s = .next (s.refuses 0 0 9 [])) ∧
    (∀ src, src ≠ 0 → exec (.directiveDiscarded src body) s = .next { s with loop := { s.loop with lineQuiet := false } }))

/-- R22, R79, R143, R150, R152, R154, R155: COMMIT. A broken condition is refused with its table, index and place. In RUNNING mode with
the clock VALID the bank waits; with the clock INVALID the open interval closes and the bank is swapped in; in UNCONFIGURED mode it is
swapped in at once and the part becomes RUNNING, its first interval open with GAP and CLOCK INVALID (`State.FirstOpened`) and the stops
compared with the counts brought to the bank. A swap compares the stops of the holders that it concerns (`State.RecordsTaken`), enters
BANK SWAPPED under the new map and gives every pending entry its class from it, the list being ordered afresh (R175). MODEL'S CHOICE, at
the swap: the slots are compared as whole tables (log 39); a SET on the line counts as unsent (log 54); a holder that becomes fitted is
tripped by its restored count alone (log 58); a channel that the new stall time makes STALLED has the swap's moment as its rate time (log
60), and under LOOP_LOST none is made so (log 86); and under LOOP_LOST an exchange begun afresh keeps its tag (log 61). -/
def Obligations.Commit : Prop :=
  ∀ (s : State) (ref : Byte), s.canAnswer →
    (s.tables.committed = true → exec (.commit ref []) s = .next (s.refuses 2 ref 4 [])) ∧
    (∀ t i k n, s.tables.committed = false → s.commitBreak = some ⟨t, i, k, .listed n⟩ →
      exec (.commit ref []) s = .next (s.refuses 2 ref 3 (b8 t :: putN 2 i ++ [b8 k, b8 n]))) ∧
    (∀ t i k n, s.tables.committed = false → s.commitBreak = some ⟨t, i, k, .prose n⟩ →
      ∃ place : Byte, exec (.commit ref []) s = .next (s.refuses 2 ref 3 (b8 t :: putN 2 i ++ [b8 k, place]))) ∧
    (∀ t : Fin 12, s.live = none → s.tables.committed = false → (∀ u : Fin 12, u < t → s.tables.marks[u] = true) → s.tables.marks[t] = false →
      exec (.commit ref []) s = .next (s.refuses 2 ref 3 [b8 (t.val + 1), 0, 0, 0, 0])) ∧
    (∀ b, s.tables.committed = false → s.live = some b → s.tables.pending.broken s.own = none → s.clock.valid = true →
      exec (.commit ref []) s =
        .next ({ s with tables := { s.tables with committed := true } }.accepts 2 ref (putN 2 s.tables.generation ++ [1]))) ∧
    (∀ b iv, s.tables.committed = false → s.live = some b → s.tables.pending.broken s.own = none → s.clock.valid = false →
      s.accounts.interval = some iv →
      Completes (.commit ref []) s fun t =>
        t.live = some s.tables.pending ∧ t.tables.generation = (if 65535 ≤ s.tables.generation then 1 else s.tables.generation + 1) ∧
        t.tables.committed = false ∧ t.tables.store = .writing ∧ t.accounts.logs.lastSeq = s.accounts.logs.lastSeq + 1 ∧
        t.accounts.interval.isSome = true ∧ t.clock = s.clock ∧
        t.loop.responses = s.loop.responses ++ [[[2, ref, 0, 1, 1] ++ putN 2 t.tables.generation ++ [0]]] ∧
        (s.prog.transition = none → s.prog.notices = [] → s.TakenOver t b s.tables.pending) ∧
        s.RecordsTaken t b s.tables.pending ∧ s.Reclassed t s.tables.pending ∧
        ∃ r jv, t.accounts.logs.log.getLast? = some r ∧ t.accounts.interval = some jv ∧ r.closeTime = none ∧
          s.Recorded b iv YardFlags.none r ∧ s.accounts.logs.DayKept t.accounts.logs r ∧
          s.Opened t b s.tables.pending r YardFlags.none jv) ∧
    (s.tables.committed = false → s.live = none → (∀ u : Fin 12, s.tables.marks[u] = true) →
      s.tables.pending.broken s.own = none →
      Completes (.commit ref []) s fun t =>
        t.live = some s.tables.pending ∧ t.tables.generation = (if 65535 ≤ s.tables.generation then 1 else s.tables.generation + 1) ∧
        t.tables.committed = false ∧ t.tables.store = .writing ∧ t.accounts.logs = s.accounts.logs ∧ t.clock = s.clock ∧
        (∃ iv, t.accounts.interval = some iv ∧ t.FirstOpened s.tables.pending iv) ∧
        (∀ h : Fin 4, t.holders[h].certain = s.holders[h].certain ∧ (s.tables.pending.fitted h = true →
          t.holders[h].count = min s.holders[h].count s.tables.pending.holders[h].travel)) ∧
        (s.PermitOk → ∀ (h : Fin 4) (sd : Side), s.tables.pending.fitted h = true →
          (s.atSwap t Bank.blank s.tables.pending).StopCompared t s.tables.pending h sd t.holders[h].count) ∧
        s.Reclassed t s.tables.pending ∧
        t.loop.responses = s.loop.responses ++ [[[2, ref, 0, 1, 1] ++ putN 2 t.tables.generation ++ [0]]])

/-- R149, R153, R183: DISCARD makes the pending bank a copy of the live bank, or blank; READ TABLE answers the entries that a bank holds.
It is refused with OUT_OF_RANGE for a bank that is neither LIVE nor PENDING, a table that does not exist, a count of 0 or above 24,
entries past the table's last, and entries that take more than 185 bytes; and with UNCONFIGURED for the LIVE bank where there is none. -/
def Obligations.DiscardAndReadTable : Prop :=
  ∀ (s : State) (ref : Byte), s.canAnswer →
    (let answer := putN 2 s.tables.generation ++ [if s.tables.committed then 1 else 0]
     (∀ b, s.live = some b → exec (.discard ref []) s = .next ({ s with tables := { s.tables with
        pending := b, marks := Vector.replicate 12 true, committed := false } }.accepts 3 ref answer)) ∧
     (s.live = none → exec (.discard ref []) s = .next ({ s with tables := { s.tables with
        pending := Bank.blank, marks := Vector.replicate 12 false, committed := false } }.accepts 3 ref answer)) ∧
     (∀ bank t first n, bank < 256 → t < 256 → first < 65536 → n < 256 →
        let refused (reason : Byte) : Prop :=
          exec (.readTable ref (b8 bank :: b8 t :: bytesOf 2 first ++ [b8 n])) s = .next (s.refuses 4 ref reason [])
        (1 < bank → refused 2) ∧
        (bank = 0 → s.live = none → refused 1) ∧
        (bank = 1 ∨ s.live.isSome = true →
          t = 0 ∨ 12 < t ∨ n = 0 ∨ 24 < n ∨ entryCount t < first + n ∨ 185 < n * entrySize t → refused 2)) ∧
     (∀ bank t first n b, bank ≤ 1 → (if bank = 0 then s.live = some b else b = s.tables.pending) → 1 ≤ t → t ≤ 12 → 1 ≤ n → n ≤ 24 →
        first + n ≤ entryCount t → n * entrySize t ≤ 185 →
        exec (.readTable ref (b8 bank :: b8 t :: bytesOf 2 first ++ [b8 n])) s =
          .next (s.accepts 4 ref (b8 bank :: b8 t :: bytesOf 2 first ++ b8 n :: answer ++
            bytesOf 2 (bitsOf s.tables.marks.toList) ++ b.readEntries t n first))))

/-- R4, R38, R48, R83, R124, Table 40: the five directives that read a record answer with its data and change nothing; a number outside
the range is refused with OUT_OF_RANGE. The data have the length that Table 40 gives, and carry where it puts them the number, the
in-use mark, the live generation and the record's own fields, each in its width and the enumerations by their place in their lists. A
quantity is one that fits its width; MODEL'S CHOICE (log 6): one that does not is carried as a free value. -/
def Obligations.ReadRecords : Prop :=
  let mark (x : Bool) : Byte := if x then 1 else 0
  let signed (x : Int) : List Byte := bytesOf 2 (x % 65536).toNat
  let two (x : Option Nat) : List Byte := match x with
    | some n => 1 :: bytesOf 2 n
    | none => [0, 0, 0]
  let valued (x : Option Int) : List Byte := match x with
    | some n => 1 :: signed n
    | none => [0, 0, 0]
  ∀ (s : State) (b : Bank) (ref : Byte), s.canAnswer → s.live = some b →
    (∀ h : Fin 4, exec (.readHolder ref [b8 (h.val + 1)]) s = .next (s.accepts 8 ref (s.holderData b h))) ∧
    (∀ v : Fin 8, exec (.readValve ref [b8 (v.val + 1)]) s = .next (s.accepts 9 ref (s.valveData b v))) ∧
    (∀ m : Fin 12, exec (.readMeter ref [b8 (m.val + 1)]) s = .next (s.accepts 10 ref (s.meterData b m))) ∧
    (∀ d : Fin 6, exec (.readDistrict ref [b8 (d.val + 1)]) s = .next (s.accepts 11 ref (s.districtData b d))) ∧
    (∀ p : Fin 24, exec (.readPoint ref [b8 (p.val + 1)]) s = .next (s.accepts 12 ref (s.pointData b (p.val + 1) s.points[p]))) ∧
    exec (.readPoint ref [25]) s = .next (s.accepts 12 ref (s.pointData b 25 s.barometer)) ∧
    exec (.readPoint ref [26]) s = .next (s.accepts 12 ref (s.pointData b 26 s.calorimeter)) ∧
    (∀ n : Byte,
      (n.toNat = 0 ∨ 4 < n.toNat → exec (.readHolder ref [n]) s = .next (s.refuses 8 ref 2 [])) ∧
      (n.toNat = 0 ∨ 8 < n.toNat → exec (.readValve ref [n]) s = .next (s.refuses 9 ref 2 [])) ∧
      (n.toNat = 0 ∨ 12 < n.toNat → exec (.readMeter ref [n]) s = .next (s.refuses 10 ref 2 [])) ∧
      (n.toNat = 0 ∨ 6 < n.toNat → exec (.readDistrict ref [n]) s = .next (s.refuses 11 ref 2 [])) ∧
      (n.toNat = 0 ∨ 26 < n.toNat → exec (.readPoint ref [n]) s = .next (s.refuses 12 ref 2 []))) ∧
    (s.tables.generation < 65536 →
      let generation := bytesOf 2 s.tables.generation
      (∀ h : Fin 4,
        let r := s.holders[h]
        let data := s.holderData b h
        data.length = 31 ∧
        (r.count < 65536 → r.expected < 65536 → r.geoVolume < 2 ^ 24 → data.take 16 =
          [b8 (h.val + 1), mark (b.fitted h)] ++ generation ++ bytesOf 2 r.count ++
            [mark (!r.certain), b8 ((if 2 ∈ r.cupped then 1 else 0) + (if 3 ∈ r.cupped then 2 else 0) + if 4 ∈ r.cupped then 4 else 0)] ++
            bytesOf 2 r.expected ++ bytesOf 3 r.geoVolume ++ [b8 r.outRun, b8 r.inRun, mark r.liftFault]) ∧
        (r.lastDatum = none → (data.drop 22).take 8 = [0, 0, 0, 0, 0, 0, 0, 0]) ∧
        (∀ x, r.lastDatum = some x → -32768 ≤ x.slip → x.slip ≤ 32767 →
          (data.drop 22).take 8 = [1, b8 x.number] ++ signed x.slip ++ bytesOf 4 x.time) ∧
        data.getLast? = some (mark (!r.savedCertain))) ∧
      (∀ v : Fin 8,
        let r := s.valves[v]
        let data := s.valveData b v
        data.length = 56 ∧
        data.take 5 = [b8 (v.val + 1), mark (b.fitted (holderOf v))] ++ generation ++
          [b8 ([ValveState.unknown, .shut, .opening, .opened, .shutting, .stuck, .noAnswer, .localHand].idxOf r.state)] ∧
        (data.drop 5).take 6 = (match r.reported with
          | none => [0, 0, 0, 0, 0, 0]
          | some x => [1, b8 ([Position.shut, .opened, .mid, .fault, .localHand].idxOf x.pos)] ++ bytesOf 4 x.time) ∧
        (data.drop 11).take 6 = (match r.demand with
          | none => [0, 0, 0]
          | some d => [1, if d.dir = .toOpen then 1 else 0, b8 ([Origin.trip, .desk, .programme].idxOf d.origin)]) ++
          [mark r.joined, b8 ([Phase.idle, .selectSent, .operateSent].idxOf r.phase), r.tag] ∧
        (data.drop 45).take 1 = [mark (!s.perms[v].granted)]) ∧
      (∀ m : Fin 12,
        let r := s.channels[m]
        let e := b.meters[m]
        let data := s.meterData b m
        data.length = 76 ∧
        (e.k < 65536 → data.take 8 = [b8 (m.val + 1), mark e.inUse, b8 e.role] ++ bytesOf 2 e.k ++ generation ++
          [b8 ([ChannelState.waiting, .measuring, .stalled].idxOf r.state)]) ∧
        (r.reference.getD 0 < 65536 → (data.drop 8).take 4 = two r.reference ++ [mark r.waiver]) ∧
        (r.rate < 2 ^ 32 → (data.drop 21).take 4 = bytesOf 4 r.rate) ∧
        (e.inUse = false → data.drop 53 = List.replicate 23 0) ∧
        (∀ iv, e.inUse = true → s.accounts.interval = some iv → iv.channels[m].volume < 2 ^ 64 → iv.channels[m].energy < 2 ^ 64 →
          (data.drop 53).take 16 = bytesOf 8 iv.channels[m].volume ++ bytesOf 8 iv.channels[m].energy)) ∧
      (∀ d : Fin 6,
        let r := s.districts[d]
        let e := b.districts[d]
        let data := s.districtData b d
        data.length = 71 ∧
        data.take 4 = [b8 (d.val + 1), mark e.used] ++ generation ∧
        (r.lastSent.getD 0 < 65536 → r.trim < 65536 → (data.drop 12).take 9 =
          two r.lastSent ++ [mark r.sendDue, b8 r.refresh] ++ bytesOf 2 r.trim ++ [b8 r.lowRun, b8 r.highRun]) ∧
        (data.drop 50).take 1 = [mark r.headroom] ∧
        (0 < e.confirm → (data.drop 57).take 1 =
          [if r.lowRun = e.confirm then 1 else if r.highRun = e.confirm then 2 else 0]) ∧
        (∀ p : Fin 24, e.inletPoint = p.val + 1 → -32768 ≤ s.points[p].value.getD 0 → s.points[p].value.getD 0 ≤ 32767 →
          (data.drop 58).take 3 =
            b8 ([Freshness.absent, .fresh, .held].idxOf s.points[p].state) :: signed (s.points[p].value.getD 0)) ∧
        ((s.loop.unsentSet d).getD 0 < 65536 → data.drop 68 = two (s.loop.unsentSet d))) ∧
      (∀ (n : Nat) (r : PointRec), n ≤ 26 → -32768 ≤ r.value.getD 0 → r.value.getD 0 ≤ 32767 →
        let data := s.pointData b n r
        data.length = 30 ∧
        data.take 8 = [b8 n] ++ generation ++ [b8 ([Freshness.absent, .fresh, .held].idxOf r.state)] ++ valued r.value ++
          [b8 ([Quality.good, .over, .under, .fault].idxOf r.quality)] ∧
        (n ≠ 26 → data.drop 27 = [0, 0, 0]) ∧
        (n = 26 → s.cvInForce b < 65536 → data.drop 27 = bytesOf 2 (s.cvInForce b) ++ [mark (!s.cvFresh)])))

/-- R144 to R146, R185, Table 38, Table 39: a record that the account log holds is answered whole in three frames and sets the read cursor;
READ NEXT gives the record after the cursor; the open day, or else a day of the daily log, is answered; a number past the last is
refused, and one no longer held is GONE. The frames of an interval record and of the open interval, and a day record, carry the bytes of
Tables 38 and 39. MODEL'S CHOICE: a quantity that does not fit its field (log 6); the certainty and the stock flags share a byte in this
order (log 31); the layout of the open interval's channels (log 33); and the stock flags at open (log 71). -/
def Obligations.ReadAccounts : Prop :=
  ∀ (s : State) (ref : Byte), s.canAnswer →
    let l := s.accounts.logs
    let frames (code : Byte) (parts : List (List Byte)) : List (List Byte) :=
      (parts.zipIdx 1).map fun x => [code, ref, 0, b8 x.2, b8 parts.length] ++ x.1
    let bit (x : Bool) (n : Nat) : Nat := if x then n else 0
    let signed (x : Int) : List Byte := bytesOf 4 (x % 2 ^ 32).toNat
    let identity (x : Option Identity) : List Byte := match x with
      | some i => 1 :: bytesOf 2 i.gasDay ++ [b8 i.index]
      | none => [0, 0, 0, 0]
    let wall (x : Option WallTime) : List Byte := match x with
      | some w => 1 :: bytesOf 2 w.day ++ bytesOf 3 w.sec
      | none => [0, 0, 0, 0, 0, 0]
    (∀ r : IntervalRecord, r.parts.map List.length = [82, 174, 174] ∧ (r.Fits →
      let channel (m : Fin 12) : List Byte :=
        let c := r.channels[m]
        [b8 (c.role + 4 * c.flags.byTable)] ++ bytesOf 4 c.pulses ++ bytesOf 4 c.raw ++ bytesOf 4 c.corrected ++ bytesOf 4 c.energy ++
          bytesOf 2 c.volumeIn ++ bytesOf 4 c.energyIn ++ bytesOf 2 c.volumeOut ++ bytesOf 4 c.energyOut
      let holder (h : Fin 4) : List Byte :=
        let x := r.holders[h]
        bytesOf 3 x.stockOpen ++ bytesOf 3 x.stockClose ++
          [b8 (bit (!x.certain) 1 + bit x.flags.held 2 + bit x.flags.reference 4 + bit x.flags.clamped 8)]
      r.parts =
        [bytesOf 4 r.sequence ++ identity r.identity ++ wall r.openTime ++ wall r.closeTime ++ bytesOf 2 r.generation ++
            bytesOf 2 r.yard.byTable ++ List.replicate 12 0 ++ bytesOf 3 r.totalOpen ++ bytesOf 3 r.totalClose ++ bytesOf 4 r.make ++
            bytesOf 4 r.send ++ signed r.balance ++ [0, 1, 2, 3].flatMap holder,
          [0, 1, 2, 3, 4, 5].flatMap channel, [6, 7, 8, 9, 10, 11].flatMap channel])) ∧
    (∀ iv : OpenInterval, (s.openParts iv).map List.length = [82, 186, 186] ∧
      (iv.Fits → s.tables.generation < 2 ^ 16 → (∀ e, iv.nominalEnd = some e → e.total - s.clock.totalSec < 2 ^ 24) →
        let channel (m : Fin 12) : List Byte :=
          let c := iv.channels[m]
          [b8 (c.role + 4 * c.flags.byTable)] ++ bytesOf 4 c.pulses ++ bytesOf 4 c.raw ++ bytesOf 8 c.volume ++ bytesOf 8 c.energy ++
            bytesOf 2 c.volumeIn ++ bytesOf 4 c.energyIn
        ∃ head : List Byte,
          s.openParts iv = [head, [0, 1, 2, 3, 4, 5].flatMap channel, [6, 7, 8, 9, 10, 11].flatMap channel] ∧
          head.take 54 = bytesOf 4 0 ++ identity iv.identity ++ wall iv.openTime ++ wall none ++ bytesOf 2 iv.generation ++
            bytesOf 2 iv.yard.byTable ++ wall iv.nominalEnd ++
            (match iv.nominalEnd with
              | some e => 1 :: bytesOf 3 (e.total - s.clock.totalSec)
              | none => [0, 0, 0, 0]) ++ bytesOf 2 s.tables.generation ++
            bytesOf 3 ((List.finRange 4).map fun h => iv.stockOpen[h]).sum ++ List.replicate 15 0 ∧
          ∀ h : Fin 4, iv.stockOpen[h] < 2 ^ 24 → ∃ certainty : Nat, certainty ≤ 1 ∧
            (head.drop (54 + 7 * h.val)).take 7 = bytesOf 3 iv.stockOpen[h] ++
              [0, 0, 0, b8 (certainty + bit iv.stockUncertainOpen 2 + bit iv.stockHeldOpen 4)])) ∧
    (∀ (d : DayRecord) (closed : Bool), (d.bytes closed).length = 141 ∧ (d.Fits →
      d.bytes closed = b8 (bit closed 1) :: bytesOf 2 d.gasDay ++ bytesOf 4 d.firstSeq ++ bytesOf 4 d.lastSeq ++
        bytesOf 2 d.intervals ++ ((List.finRange 12).flatMap fun m =>
          let c := d.channels[m]
          bytesOf 4 c.volume ++ bytesOf 4 c.energy ++ [b8 c.flags.byTable]) ++
        bytesOf 4 d.make ++ bytesOf 4 d.send ++ bytesOf 3 d.stockOpen ++ bytesOf 3 d.stockClose ++ signed d.balance ++
        bytesOf 2 d.yard.byTable)) ∧
    (∀ r q, l.log.find? (fun x => x.sequence == q) = some r → 0 < q → q < 2 ^ 32 →
      exec (.readInterval ref (bytesOf 4 q)) s =
        .next ({ s with accounts := { s.accounts with cursor := some r.sequence } }.replied (frames 5 r.parts))) ∧
    (∀ q, l.log.find? (fun x => x.sequence == q) = none → l.lastSeq < q → 0 < q → q < 2 ^ 32 →
      exec (.readInterval ref (bytesOf 4 q)) s = .next (s.refuses 5 ref 2 [])) ∧
    (∀ q first last, l.log.find? (fun x => x.sequence == q) = none → q ≤ l.lastSeq → 0 < q → q < 2 ^ 32 →
      l.log.head? = some first → l.log.getLast? = some last →
      exec (.readInterval ref (bytesOf 4 q)) s =
        .next (s.refuses 5 ref 8 (putN 4 first.sequence ++ putN 4 last.sequence))) ∧
    (∀ b iv, s.live = some b → s.accounts.interval = some iv →
      exec (.readInterval ref [0, 0, 0, 0]) s = .next (s.replied (frames 5 (s.openParts iv)))) ∧
    (∀ r, s.accounts.cursor = none → l.log.head? = some r → exec (.readNext ref []) s =
      .next ({ s with accounts := { s.accounts with cursor := some r.sequence } }.replied (frames 6 r.parts))) ∧
    (∀ c r, s.accounts.cursor = some c → l.log.find? (fun x => x.sequence == c + 1) = some r → exec (.readNext ref []) s =
      .next ({ s with accounts := { s.accounts with cursor := some r.sequence } }.replied (frames 6 r.parts))) ∧
    (l.log = [] → exec (.readNext ref []) s = .next (s.refuses 6 ref 2 [])) ∧
    (∀ c first, s.accounts.cursor = some c → l.log.find? (fun x => x.sequence == c + 1) = none → c < l.lastSeq →
      l.log.head? = some first → exec (.readNext ref []) s = .next (s.refuses 6 ref 8 (putN 4 first.sequence))) ∧
    (∀ c, s.accounts.cursor = some c → l.log.find? (fun x => x.sequence == c + 1) = none → l.lastSeq ≤ c →
      exec (.readNext ref []) s = .next (s.refuses 6 ref 2 [])) ∧
    (∀ g d, g < 65536 → l.openDay = some d → d.gasDay = g →
      exec (.readDay ref (bytesOf 2 g)) s = .next (s.accepts 7 ref (d.bytes false))) ∧
    (∀ g d, g < 65536 → (∀ o, l.openDay = some o → o.gasDay ≠ g) → l.daily.reverse.find? (fun x => x.gasDay == g) = some d →
      exec (.readDay ref (bytesOf 2 g)) s = .next (s.accepts 7 ref (d.bytes true))) ∧
    (∀ g first last, g < 65536 → (∀ o, l.openDay = some o → o.gasDay ≠ g) → (∀ x ∈ l.daily, x.gasDay ≠ g) → l.daily.head? = some first →
      l.daily.getLast? = some last →
      exec (.readDay ref (bytesOf 2 g)) s = .next (s.refuses 7 ref 8 (putN 2 first.gasDay ++ putN 2 last.gasDay)))

/-- R87, R126, R138 to R140, R161: SET CLOCK. The clock takes the new time and becomes VALID, its slot is in force, and a SLOT trigger is
entered and taken where it may be; what the Programme Unit does so is all that happens to valves, permissions and programme where no bank
is swapped in. From INVALID the open interval takes the identity of the new time; a step of at most 300 s flags it, and one that reaches
or passes the nominal end closes it there; a larger step closes it. A close makes the record of R136 and swaps a COMMITTED bank in (R154),
BANK SWAPPED being entered at the new time (R138). A broadcast SET CLOCK acts alike, one that finds the through-buffer full among them
(R160): the frame is dropped, or breaks off the part's own frame, and is acted on. MODEL'S CHOICE: a response broken off so goes back to
the queue, which may leave no room for the answer (log 40); and, at the swap, those that `Commit` names (log 39, 54, 58, 60, 61, 86). -/
def Obligations.SetClock : Prop :=
  ∀ (s : State) (b : Bank) (broadcast : Bool) (ref : Byte) (day sec : Nat), s.power = .on → s.live = some b → day ≤ 65535 →
    let ps := bytesOf 2 day ++ bytesOf 3 sec
    let step : Int := ((day : Int) - s.clock.day) * 86400 + ((sec : Int) - s.clock.sec)
    let queue : List (List (List Byte)) :=
      if broadcast = true ∧ 8 ≤ s.loop.buffer.length then
        match s.loop.tx, s.loop.responses with
        | .own (.response x true), r :: rs => (x.body :: r) :: rs
        | .own (.response x _), rs => [x.body] :: rs
        | _, rs => rs
      else s.loop.responses
    let stepBytes : List Byte := if s.clock.valid then 1 :: bytesOf 4 (step % 2 ^ 32).toNat else [0, 0, 0, 0, 0]
    let applied : Byte := if s.clock.valid = false then 0 else if step = 0 then 1 else if step.natAbs ≤ 300 then 2 else 3
    let next : Bank := if s.tables.committed then s.tables.pending else b
    let adjusted : YardFlags := { YardFlags.none with clockAdjusted := true }
    let stepped : YardFlags := { YardFlags.none with clockStep := true }
    let p : State := if broadcast then s.passed 255 0 kindDirective (13 :: ref :: ps)
      else { s with loop := { s.loop with lineQuiet := false } }
    let passes (iv : OpenInterval) : Prop := ∃ e, iv.nominalEnd = some e ∧ e.total ≤ day * 86400 + sec
    let closes (iv : OpenInterval) : Prop := s.clock.valid = true ∧ (300 < step.natAbs ∨ (step ≠ 0 ∧ passes iv))
    (8 ≤ queue.length → Completes (.setClock broadcast ref ps) s fun t =>
      t.clock = s.clock ∧ t.accounts = s.accounts ∧ t.loop.responses = queue ∧ s.Raised t srcOverrun) ∧
    (broadcast = false → queue.length < 8 → sec < 2 ^ 24 → 86399 < sec ∨ (day = 0 ∧ sec < b.yard.gasHour * 3600) →
      exec (.setClock broadcast ref ps) s = .next (s.refuses 13 ref 2 [])) ∧
    (queue.length < 8 → sec < 2 ^ 24 → 86399 < sec ∨ (day = 0 ∧ sec < b.yard.gasHour * 3600) →
      Completes (.setClock broadcast ref ps) s fun t =>
        t.clock = s.clock ∧ t.accounts = s.accounts ∧ t.loop.responses = queue ++ [[[13, ref, 2, 1, 1]]]) ∧
    (queue.length < 8 → sec ≤ 86399 → day ≠ 0 ∨ b.yard.gasHour * 3600 ≤ sec →
      Completes (.setClock broadcast ref ps) s fun t =>
        t.clock.valid = true ∧ t.clock.day = day ∧ t.clock.sec = sec ∧ t.clock.slot = some ⟨sec / 1800 + 1, day⟩ ∧
        t.timebase = s.timebase ∧ t.own = s.own ∧
        (∃ data, t.loop.responses = queue ++ [[[13, ref, 0, 1, 1] ++ data]] ∧
          (s.clock.Ok → step.natAbs < 2 ^ 31 → data =
            [if s.clock.valid then 0 else 1] ++ bytesOf 2 s.clock.day ++ bytesOf 3 s.clock.sec ++ ps ++ stepBytes ++ [applied])) ∧
        let given : State := { p with
          clock := t.clock,
          prog := { s.prog with
            deferred := if Trigger.slot ∈ s.prog.deferred then s.prog.deferred else s.prog.deferred ++ [.slot] } }
        (s.prog.notices = [] → s.loop.lost = true ∨ s.prog.transition.isSome = true → given.settled = given) ∧
        (∀ iv, s.accounts.interval = some iv →
          (¬closes iv → t.tables = s.tables ∧ t.holders = s.holders ∧ t.nv = s.nv) ∧
          (¬closes iv ∨ s.tables.committed = false →
            t.prog = given.settled.prog ∧ t.valves = given.settled.valves ∧ t.attn = given.settled.attn ∧
            t.loop.commands = given.settled.loop.commands ∧ t.perms = s.perms ∧ t.districts = s.districts ∧
            t.channels = s.channels ∧ t.points = s.points ∧ t.barometer = s.barometer ∧ t.calorimeter = s.calorimeter) ∧
          (closes iv → t.live = some next ∧ t.tables.committed = false ∧
            (s.tables.committed = false → t.tables = s.tables) ∧
            (s.tables.committed = true → t.tables.store = .writing ∧ (s.setClock t.clock).Reclassed t next ∧
              t.tables.generation = (if 65535 ≤ s.tables.generation then 1 else s.tables.generation + 1) ∧
              p.RecordsTaken t b next ∧ (s.prog.notices = [] → s.loop.lost = true → .slot ∈ t.prog.deferred) ∧
              (s.prog.transition = none → s.prog.notices = [] → s.loop.lost = true → p.TakenOver t b next))) ∧
          (s.clock.valid = false → t.accounts.logs = s.accounts.logs ∧
            t.accounts.interval = some { iv with
              identity := (b.yard.place ⟨day, sec⟩).identity, nominalStart := (b.yard.place ⟨day, sec⟩).nominalStart,
              nominalEnd := (b.yard.place ⟨day, sec⟩).nominalEnd }) ∧
          (s.clock.valid = true → step = 0 → t.accounts = s.accounts) ∧
          (s.clock.valid = true → step ≠ 0 → step.natAbs ≤ 300 → (∀ e, iv.nominalEnd = some e → day * 86400 + sec < e.total) →
            t.accounts.logs = s.accounts.logs ∧
            t.accounts.interval = some { iv with yard := { iv.yard with clockAdjusted := true } }) ∧
          (∀ e, s.clock.valid = true → step ≠ 0 → step.natAbs ≤ 300 → iv.nominalEnd = some e → e.total ≤ day * 86400 + sec → ∃ r jv,
            t.accounts.logs.log.getLast? = some r ∧ t.accounts.interval = some jv ∧ r.sequence = s.accounts.logs.lastSeq + 1 ∧
            s.Recorded b iv adjusted r ∧ s.accounts.logs.DayKept t.accounts.logs r ∧ s.Opened t b next r adjusted jv ∧
            r.identity = iv.identity ∧ r.closeTime = some ⟨day, sec⟩ ∧ r.yard.clockAdjusted = true ∧ jv.yard.clockAdjusted = true ∧
            jv.openTime = some ⟨day, sec⟩ ∧ jv.identity = (next.yard.place ⟨day, sec⟩).identity ∧
            jv.nominalEnd = (next.yard.place ⟨day, sec⟩).nominalEnd) ∧
          (s.clock.valid = true → 300 < step.natAbs → ∃ r jv,
            t.accounts.logs.log.getLast? = some r ∧ t.accounts.interval = some jv ∧ r.sequence = s.accounts.logs.lastSeq + 1 ∧
            s.Recorded b iv stepped r ∧ s.accounts.logs.DayKept t.accounts.logs r ∧ s.Opened t b next r stepped jv ∧
            r.identity = iv.identity ∧ r.closeTime = some ⟨s.clock.day, s.clock.sec⟩ ∧ r.yard.clockStep = true ∧
            jv.yard.clockStep = true ∧ jv.openTime = some ⟨day, sec⟩ ∧ jv.identity = (next.yard.place ⟨day, sec⟩).identity ∧
            jv.nominalEnd = (next.yard.place ⟨day, sec⟩).nominalEnd)))

/-- R61, R62, R64, R65, R102, R183: a VALVE directive. A direction byte that names no direction is refused with OUT_OF_RANGE. A demand
that a valve at rest takes starts an operation and queues its SELECT; one that the valve meets already is satisfied at once; an OPEN
demand without permission, and a valve of the transition in flight, are refused. With an operation in flight a demand of its direction
joins it, its origin becoming DESK where that ranks above; one of the other direction reverses it, with a failure notice where the
programme had joined it, and is refused where the origin in flight is TRIP. MODEL'S CHOICE: the response is made before the Programme Unit
takes the notice (log 44), and under LOOP_LOST the exchange tag stays (log 61). -/
def Obligations.ValveDirective : Prop :=
  ∀ (s : State) (b : Bank) (v : Fin 8) (dir : Dir) (ref : Byte), s.canAnswer → s.live = some b → b.fitted (holderOf v) = true →
    let ps : List Byte := [b8 (v.val + 1), b8 dir.code]
    let want : ValveState := if dir = .toOpen then .opened else .shut
    (∀ x : Byte, 1 < x.toNat → exec (.valve ref [b8 (v.val + 1), x]) s = .next (s.refuses 14 ref 2 [])) ∧
    (∀ t, s.prog.transition = some t → t.hasDemand v = true → exec (.valve ref ps) s = .next (s.refuses 14 ref 7 [])) ∧
    ((∀ t, s.prog.transition = some t → t.hasDemand v = false) →
      (dir = .toOpen → s.perms[v].granted = false → exec (.valve ref ps) s = .next (s.refuses 14 ref 5 [])) ∧
      (dir = .toShut ∨ s.perms[v].granted = true →
        (s.valves[v].state = .noAnswer ∨ s.valves[v].state = .localHand →
          exec (.valve ref ps) s = .next (s.refuses 14 ref 5 [])) ∧
        (s.ProgrammeIdle → s.valves[v].state = want → s.valves[v].demand = none →
          exec (.valve ref ps) s = .next (s.accepts 14 ref [b8 (v.val + 1), b8 want.code, 0, 0, 0])) ∧
        (s.ProgrammeIdle → s.valves[v].state ≠ want → s.valves[v].state ∈ [.unknown, .shut, .opened, .stuck] →
          exec (.valve ref ps) s = .next ((s.begun v s.valves[v] ⟨dir, .desk⟩ false).accepts 14 ref
            [b8 (v.val + 1), (if dir = Dir.toOpen then 2 else 4), 1, b8 dir.code, 1])) ∧
        (∀ old : Demand, s.valves[v].demand = some old → s.valves[v].state = .opening ∨ s.valves[v].state = .shutting →
          (s.ProgrammeIdle → old.dir = dir →
            let o : Origin := if old.origin = .programme then .desk else old.origin
            exec (.valve ref ps) s = .next ({ s with valves := upd s.valves v { s.valves[v] with demand := some ⟨dir, o⟩ } }.accepts 14 ref
              [b8 (v.val + 1), (if s.valves[v].state = ValveState.opening then 2 else 4), 1, b8 dir.code, b8 o.code])) ∧
          (old.dir ≠ dir → old.origin ≠ .trip →
            let u := s.begun v { s.valves[v] with answerTimer := none, travelTimer := none } ⟨dir, .desk⟩ false
            let data : List Byte := [b8 (v.val + 1), (if dir = Dir.toOpen then 2 else 4), 1, b8 dir.code, 1]
            (s.ProgrammeIdle → s.valves[v].joined = false → exec (.valve ref ps) s = .next (u.accepts 14 ref data)) ∧
            (s.valves[v].joined = true →
              let w := State.settled { u with
                loop := { u.loop with lineQuiet := false }, prog := { s.prog with notices := s.prog.notices ++ [⟨v, old.dir, false⟩] } }
              exec (.valve ref ps) s = .next { w with
                loop := { w.loop with responses := w.loop.responses ++ [[[14, ref, 0, 1, 1] ++ data]] }, drawn := w.drawn + 1 })) ∧
          (old.dir ≠ dir → old.origin = .trip → exec (.valve ref ps) s = .next (s.refuses 14 ref 5 [])))))

/-- R61, R62, R78, R80, R81, R89: a holder change whose lowest or highest count meets a stop trips: the permission is WITHDRAWN, the TRIP
source is raised, and the valve is shut by a TRIP demand. SET PERMIT restores a permission when the holder is CERTAIN and beyond its stop
by more than the margin, and is refused otherwise; WITHDRAW PERMIT withdraws one at once with cause DESK, raises the side's TRIP source,
and offers the valve a SHUT demand of TRIP origin, which acts by its state, with the loop UP and under LOOP_LOST. Both refuse a side byte
that names no side with OUT_OF_RANGE (R183). MODEL'S CHOICE (log 61): under LOOP_LOST the exchange tag stays. -/
def Obligations.Permits : Prop :=
  (∀ (s : State) (b : Bank) (h : Fin 4) (lo hi : Nat), s.Trips (s.holderChange b h lo hi) b h lo hi) ∧
  ∀ (s : State) (b : Bank) (h : Fin 4) (side : Side) (ref : Byte), s.canAnswer → s.live = some b → b.fitted h = true →
    let v := valveOf h side
    let e := b.holders[h]
    let r := s.holders[h]
    let sb : Byte := if side = .inlet then 0 else 1
    let ps : List Byte := [b8 (h.val + 1), sb]
    let met : Prop := r.certain = true ∧
      (if side = .outlet then (e.lowStop : Int) + e.rePermit < r.count else (r.count : Int) < (e.highStop : Int) - e.rePermit)
    (∀ x : Byte, 1 < x.toNat →
      exec (.setPermit ref [b8 (h.val + 1), x]) s = .next (s.refuses 15 ref 2 []) ∧
      exec (.withdrawPermit ref [b8 (h.val + 1), x]) s = .next (s.refuses 16 ref 2 [])) ∧
    (s.perms[v].granted = true → exec (.setPermit ref ps) s = .next (s.accepts 15 ref (ps ++ s.perms[v].bytes))) ∧
    (s.perms[v].granted = false → ¬met → exec (.setPermit ref ps) s = .next (s.refuses 15 ref 6 [])) ∧
    (s.perms[v].granted = false → met → s.prog.notices = [] → s.mayTake = false →
      exec (.setPermit ref ps) s = .next ({ s with
        perms := upd s.perms v ⟨true, none, none, none⟩,
        prog := { s.prog with
          roles := upd s.prog.roles h { s.prog.roles[h] with retake := true },
          deferred := if Trigger.reEvaluate ∈ s.prog.deferred then s.prog.deferred else s.prog.deferred ++ [Trigger.reEvaluate] }
        }.accepts 15 ref (ps ++ [0, 0, 0, 0, 0, 0, 0, 0, 0, 0, 0]))) ∧
    (s.perms[v].granted = false → s.ProgrammeIdle →
      exec (.withdrawPermit ref ps) s = .next (s.accepts 16 ref (ps ++ s.perms[v].bytes ++ [b8 s.valves[v].state.code]))) ∧
    (s.perms[v].granted = true → Completes (.withdrawPermit ref ps) s fun t =>
      s.Withdrawn t h side .desk r.count ∧ (∀ w, w ≠ v → t.perms[w] = s.perms[w]) ∧
      t.loop.responses = s.loop.responses ++ [[[16, ref, 0, 1, 1] ++ ps ++ t.perms[v].bytes ++ [b8 t.valves[v].state.code]]] ∧
      s.Keeps t ∧ t.holders = s.holders ∧ t.districts = s.districts ∧ t.accounts = s.accounts ∧ t.nv = s.nv ∧
      (s.ProgrammeIdle → s.valves[v].joined = false → t.prog = s.prog ∧ (∀ w, w ≠ v → t.valves[w] = s.valves[w]) ∧
        ∀ src, src ≠ (if side = .outlet then srcLowTrip h else srcHighTrip h) → s.NotRaised t src)) ∧
    (s.perms[v].granted = true → s.ProgrammeIdle → s.loop.lost = false →
      s.valves[v].state = .shut ∨ s.valves[v].state = .opened →
      Completes (.withdrawPermit ref ps) s fun t =>
        t.perms = upd s.perms v ⟨false, some .desk, some r.count, some s.timebase⟩ ∧
        t.valves = (if s.valves[v].state = .shut then s.valves
          else upd s.valves v (s.valves[v].starting ⟨.toShut, .trip⟩ false)) ∧
        (s.valves[v].state = .opened → .valve v false .toShut (s.valves[v].tag + 1) true ∈ t.loop.commands) ∧
        s.Keeps t ∧ t.holders = s.holders ∧ t.prog = s.prog ∧ t.districts = s.districts ∧ t.accounts = s.accounts ∧ t.nv = s.nv)

/-- R90, R93 to R99, R103, R104: HOLD ROLE holds a holder in its current role and clears its retake mark; RELEASE ROLE ends the hold, sets
the retake mark and enters a RE-EVALUATE trigger. The notices, and then the oldest trigger where it may be, are taken; a SEND or FILL
trigger is built into a changeover, or raises its source for want of a candidate; the outcome notices end the open demands, a failed
one giving way to a further candidate or ending the changeover; the shutting phase begins when none is in flight; and its last notice
ends the transition. MODEL'S CHOICE: no count qualifies an incoming holder for filling where its
changeover margin exceeds its near-full height (log 45); a withheld shut gives a held holder the side's work back too (log 64), and two of one holder both
sides' (log 90); a further candidate that already does the work gives no open demand (log 52); and RELEASE ROLE answers with the programme
as it is once the trigger has been taken, where it may be (log 65). -/
def Obligations.Roles : Prop :=
  (∀ (s : State) (b : Bank), s.live = some b →
    (∀ t ts, s.prog.notices = [] → s.prog.transition = none → s.clock.valid = true → s.loop.lost = false → s.prog.deferred = t :: ts →
      let u := State.buildTrigger { s with prog := { s.prog with deferred := ts } } b t
      u.ProgrammeIdle → s.settled = u) ∧
    (∀ x xs, s.prog.notices = x :: xs →
      let u := State.takeNotice { s with prog := { s.prog with notices := xs } } b x
      u.ProgrammeIdle → s.settled = u) ∧
    (∀ sd, (∀ h, ¬s.Outgoing b sd h) → s.buildTrigger b sd.trigger = s) ∧
    (∀ sd o, s.FirstOutgoing b sd o →
      ((∀ c r, c ∈ b.orderOf sd → c ≠ o → ¬s.Incoming b sd c r) → s.buildTrigger b sd.trigger = s.raise sd.source) ∧
      (∀ c r, s.FirstIncoming b sd (some o) (b.orderOf sd) c r → s.loop.lost = false →
        let tr (opens : List OpenEntry) : Transition :=
          ⟨sd.trigger, false, some o, some c, false,
            [⟨o, s.prog.roles[o].role, s.prog.roles[o].role.map fun x => x.lose sd⟩, ⟨c, some r, some (r.gain sd)⟩], opens,
            if s.valves[valveOf o sd].state = .shut then [] else [⟨valveOf o sd, .waiting⟩]⟩
        let opens : List OpenEntry := [⟨valveOf c sd, .inFlight⟩]
        let u := s.buildTrigger b sd.trigger
        (r.asksOpen sd = false → s.valves[valveOf c sd].state ≠ .opened →
          u.prog.transition = some (tr opens) ∧ s.OpensBegin u opens ∧ u.prog.roles = s.prog.roles) ∧
        (r.asksOpen sd = true ∨ s.valves[valveOf c sd].state = .opened → s.ShutsBegin u b (tr [])))) ∧
    (∀ v dir reached, (∀ t, s.prog.transition = some t →
        (dir = .toOpen → ⟨v, .inFlight⟩ ∉ t.opens) ∧ (dir = .toShut → ⟨v, .inFlight⟩ ∉ t.shuts)) →
      s.takeNotice b ⟨v, dir, reached⟩ = s) ∧
    (∀ t v reached, s.prog.transition = some t → ⟨v, .inFlight⟩ ∈ t.opens → t.shutting = false →
      let n : OpenState := if reached then .reached else .failed
      let t1 : Transition := { t with opens := t.opens.map fun o => if o = ⟨v, .inFlight⟩ then ⟨v, n⟩ else o }
      let u := s.takeNotice b ⟨v, .toOpen, reached⟩
      (reached = true ∨ t.trigger.side = none →
        ((∃ o ∈ t1.opens, o.state = .inFlight) → u = { s with prog := { s.prog with transition := some t1 } }) ∧
        ((∀ o ∈ t1.opens, o.state ≠ .inFlight) → (∀ w, t1.Waits w → b.fitted (holderOf w) = true) → s.ShutsBegin u b t1)) ∧
      (∀ sd before after, reached = false → t.trigger.side = some sd →
        b.orderOf sd = before ++ holderOf v :: after → holderOf v ∉ before →
        let t2 : Transition := { t1 with
          entries := t1.entries.map fun e => if e.holder = holderOf v then { e with target := e.prior } else e }
        (t.triedFurther = true ∨ (∀ c r, c ∈ after → some c ≠ t.outgoing → ¬s.Incoming b sd c r) →
          s.Raised u sd.source ∧ s.Ends u b t2 ∧ u.valves = s.valves ∧ u.prog.roles = s.prog.roles) ∧
        (∀ c r, t.triedFurther = false → s.FirstIncoming b sd t.outgoing after c r → s.loop.lost = false →
          let t3 (opens : List OpenEntry) : Transition := { t2 with
            incoming := some c, triedFurther := true, entries := t2.entries ++ [⟨c, some r, some (r.gain sd)⟩],
            opens := t2.opens ++ opens }
          let opens : List OpenEntry := [⟨valveOf c sd, .inFlight⟩]
          (r.asksOpen sd = false → s.valves[valveOf c sd].state ≠ .opened →
            u.prog.transition = some (t3 opens) ∧ s.OpensBegin u opens ∧ u.prog.roles = s.prog.roles) ∧
          (r.asksOpen sd = true ∨ s.valves[valveOf c sd].state = .opened → (∀ o ∈ t2.opens, o.state ≠ .inFlight) →
            (∀ w, (t3 []).Waits w → b.fitted (holderOf w) = true) → s.ShutsBegin u b (t3 []))))) ∧
    (∀ t v reached, s.prog.transition = some t → ⟨v, .inFlight⟩ ∈ t.shuts →
      let n : ShutState := if reached then .reached else .failed
      let t1 : Transition := { t with shuts := t.shuts.map fun x => if x = ⟨v, .inFlight⟩ then ⟨v, n⟩ else x }
      let u := s.takeNotice b ⟨v, .toShut, reached⟩
      (t.shutting = false ∨ (∃ x ∈ t1.shuts, x.state = .waiting ∨ x.state = .inFlight) →
        u = { s with prog := { s.prog with transition := some t1 } }) ∧
      (t.shutting = true → (∀ x ∈ t1.shuts, x.state ≠ .waiting ∧ x.state ≠ .inFlight) →
        s.Ends u b t1 ∧ u.valves = s.valves ∧ ∀ h : Fin 4, u.prog.roles[h].role = s.prog.roles[h].role))) ∧
  ∀ (s : State) (b : Bank) (h : Fin 4) (ref : Byte), s.canAnswer → s.live = some b → b.fitted h = true →
    let r := s.prog.roles[h]
    let ps : List Byte := [b8 (h.val + 1)]
    let held : State := { s with prog := { s.prog with roles := upd s.prog.roles h { r with held := true, retake := false } } }
    let freed : State := { s with prog := { s.prog with
      roles := upd s.prog.roles h { r with held := false, retake := true },
      deferred := if Trigger.reEvaluate ∈ s.prog.deferred then s.prog.deferred else s.prog.deferred ++ [Trigger.reEvaluate] } }
    (r.role = none → exec (.holdRole ref ps) s = .next (s.refuses 17 ref 6 [])) ∧
    (∀ t x, r.role ≠ none → s.prog.transition = some t → x ∈ t.entries → x.holder = h →
      exec (.holdRole ref ps) s = .next (s.refuses 17 ref 7 [])) ∧
    (r.role ≠ none → (∀ t, s.prog.transition = some t → ∀ x ∈ t.entries, x.holder ≠ h) →
      (r.held = false → exec (.holdRole ref ps) s = .next (held.accepts 17 ref held.programmeData)) ∧
      (r.held = true → exec (.holdRole ref ps) s = .next (s.accepts 17 ref s.programmeData))) ∧
    (r.held = false → exec (.releaseRole ref ps) s = .next (s.accepts 18 ref s.programmeData)) ∧
    (r.held = true → s.prog.notices = [] → s.mayTake = false →
      exec (.releaseRole ref ps) s = .next (freed.accepts 18 ref freed.programmeData)) ∧
    (r.held = true →
      let w := State.settled { freed with loop := { s.loop with lineQuiet := false } }
      exec (.releaseRole ref ps) s = .next { w with
        loop := { w.loop with responses := w.loop.responses ++ [[[18, ref, 0, 1, 1] ++ w.programmeData]] }, drawn := w.drawn + 1 } ∧
      w.loop.responses = s.loop.responses ∧ s.Keeps w ∧ w.holders = s.holders ∧ w.districts = s.districts ∧ w.accounts = s.accounts ∧
      w.nv = s.nv ∧ w.perms = s.perms)

/-- R13, R19, R78: PRESET LIFT sets a fitted holder's count, makes it CERTAIN and saves both; its reference sample, note and last datum are
kept; where the count or the certainty changes the stops are compared with the counts before and after; a count above the maximum
travel is refused. MODEL'S CHOICE (log 61): a trip under LOOP_LOST leaves the exchange tag as it was. -/
def Obligations.PresetLift : Prop :=
  ∀ (s : State) (b : Bank) (h : Fin 4) (ref : Byte) (n : Nat), s.canAnswer → s.live = some b → b.fitted h = true → n < 65536 →
    let r := s.holders[h]
    let ps : List Byte := b8 (h.val + 1) :: bytesOf 2 n
    let before : List Byte := b8 (h.val + 1) :: putN 2 r.count ++ [if r.certain then 0 else 1]
    (b.holders[h].travel < n → exec (.presetLift ref ps) s = .next (s.refuses 19 ref 2 [])) ∧
    (n ≤ b.holders[h].travel → Completes (.presetLift ref ps) s fun t =>
      t.holders = upd s.holders h { HolderRec.placeAt b h r n with certain := true, savedCertain := true } ∧
      t.nv.saves = upd s.nv.saves h (some ⟨n, true⟩) ∧ t.nv.savesBefore = upd s.nv.savesBefore h s.nv.saves[h] ∧
      t.nv.logs = s.nv.logs ∧ t.accounts.logs = s.accounts.logs ∧
      t.loop.responses = s.loop.responses ++ [[[19, ref, 0, 1, 1] ++ before]] ∧ s.Keeps t ∧ t.districts = s.districts ∧
      (n ≠ r.count ∨ r.certain = false → s.Trips t b h (min r.count n) (max r.count n)) ∧
      (n = r.count → r.certain = true →
        t.perms = s.perms ∧ t.valves = s.valves ∧ t.prog = s.prog ∧ t.attn = s.attn ∧ t.accounts = s.accounts))

/-- R116: TRIM sets a district's trim, clamped to the trim maximum, and nothing else of the district. -/
def Obligations.Trim : Prop :=
  ∀ (s : State) (b : Bank) (d : Fin 6) (ref : Byte) (n : Nat), s.canAnswer → s.live = some b → n < 65536 →
    let e := b.districts[d]
    let r := s.districts[d]
    let ps : List Byte := b8 (d.val + 1) :: bytesOf 2 n
    (e.used = false → exec (.trim ref ps) s = .next (s.refuses 20 ref 2 [])) ∧
    (e.used = true → exec (.trim ref ps) s =
      .next ({ s with districts := upd s.districts d { r with trim := min n e.trimMax } }.accepts 20 ref
        (b8 (d.val + 1) :: putN 2 r.trim ++ putN 2 (min n e.trimMax) ++ [b8 (r.confirmed e.confirm).code])))

/-- R179: CLEAR ATTENTION, and its two orders with an occurrence of the same source. -/
def Obligations.ClearAttention : Prop :=
  ∀ (s : State) (ref : Byte) (seen : Byte), s.canAnswer → s.attn.Ok →
    (∀ n : Byte, 73 < n.toNat → exec (.clearAttention ref [n, seen]) s = .next (s.refuses 21 ref 2 [])) ∧
    (∀ src : Fin 74,
      let cleared (k : Nat) : List AttnItem :=
        (s.attn.items.filter fun e => e.source ≠ src ∨ seen.toNat < k).map fun e =>
          if e.source = src then { e with count := k - seen.toNat } else e
      (src ∉ s.attn.items.map AttnItem.source →
        exec (.clearAttention ref [b8 src.val, seen]) s = .next (s.accepts 21 ref [b8 src.val, 0, 0])) ∧
      (∀ e ∈ s.attn.items, e.source = src →
        exec (.clearAttention ref [b8 src.val, seen]) s =
          .next ({ s with attn := { s.attn with items := cleared e.count } }.accepts 21 ref
            [b8 src.val, b8 e.count, b8 (e.count - seen.toNat)]) ∧
        (seen = 0 → cleared e.count = s.attn.items) ∧
        (seen = 255 → (cleared e.count).all (fun x => x.source ≠ src) = true) ∧
        (seen.toNat = e.count → e.count < 255 → (attnMap s.tables.live src).1 = true → ∀ cls now,
          (((s.attn.occur src cls now).clear src seen.toNat).countOf src = 1 ∧
            ((s.attn.occur src cls now).clear src seen.toNat).items.map AttnItem.source = s.attn.items.map AttnItem.source) ∧
          ((s.attn.clear src seen.toNat).occur src cls now).countOf src = 1 ∧
            ((s.attn.clear src seen.toNat).occur src cls now).items.Pairwise
              (fun x y => x.source = src → x.cls.code < y.cls.code))))

/-- R21, R25, R46, R60, R77, R79, R85, R136, R142, R154, R157, R174, R180: RESTART closes the open interval with RESTART set, takes every
holder's count back from its save as UNCERTAIN, sets the channels, points, valves, permissions and roles to their initial values and
enters a SLOT trigger, empties the command queue, and keeps the clock, the logs and the store state. The attention list and a LOOP LOST
occurrence held back are kept; only the trips on the restored counts, and the Programme Unit, raise a source (R180). With no bank
COMMITTED it drops the loads and keeps the live bank; with one COMMITTED the close swaps it in under the next generation, and the blocks
start on it. -/
def Obligations.Restart : Prop :=
  ∀ (s : State) (b : Bank) (iv : OpenInterval) (ref : Byte), s.canAnswer → s.live = some b → s.accounts.interval = some iv →
    let next : Bank := if s.tables.committed then s.tables.pending else b
    let data : List Byte := bytesOf 2 s.tables.generation ++ [if s.tables.committed then 1 else 0, if s.clock.valid then 0 else 1] ++
      bytesOf 2 s.clock.day ++ bytesOf 3 s.clock.sec ++ bytesOf 4 (s.accounts.logs.lastSeq + 1)
    Completes (.restart ref []) s fun t =>
      t.live = some next ∧ t.tables.pending = next ∧ t.tables.committed = false ∧
      (s.tables.committed = false → t.tables.generation = s.tables.generation ∧ t.tables.store = s.tables.store) ∧
      (s.tables.committed = true → s.Reclassed t next ∧ t.tables.store = .writing ∧
        t.tables.generation = if 65535 ≤ s.tables.generation then 1 else s.tables.generation + 1) ∧
      t.clock = s.clock ∧ t.timebase = s.timebase ∧ t.own = s.own ∧ t.power = .on ∧
      t.accounts.logs.lastSeq = s.accounts.logs.lastSeq + 1 ∧
      (∃ r jv, t.accounts.logs.log.getLast? = some r ∧ r.yard.restart = true ∧ r.identity = iv.identity ∧
        s.Recorded b iv { YardFlags.none with restart := true } r ∧ s.accounts.logs.DayKept t.accounts.logs r ∧
        t.accounts.interval = some jv ∧ jv.generation = t.tables.generation ∧ jv.yard.gap = false ∧
        jv.identity = (next.yard.placeClock s.clock).identity ∧ jv.nominalEnd = (next.yard.placeClock s.clock).nominalEnd ∧
        (∀ m : Fin 12, jv.channels[m].volumeIn = r.channels[m].volumeOut ∧ jv.channels[m].energyIn = r.channels[m].energyOut) ∧
        ∀ h : Fin 4, jv.stockOpen[h] = r.holders[h].stockClose) ∧
      t.accounts.cursor = none ∧
      (∀ h : Fin 4, next.fitted h = true →
        t.holders[h].count =
          min (if b.fitted h then s.holders[h].count else (s.nv.saves[h].map HolderSave.count).getD 0) next.holders[h].travel ∧
        t.holders[h].savedCertain =
          (if b.fitted h then s.holders[h].certain else (s.nv.saves[h].map HolderSave.certain).getD false) ∧
        t.holders[h].certain = false ∧ t.holders[h].ref = none ∧ t.holders[h].lastDatum = none ∧ t.holders[h].liftFault = false) ∧
      (∀ v : Fin 8, next.fitted (holderOf v) = false ∨ t.BetweenStops next (holderOf v) → t.perms[v] = ⟨true, none, none, none⟩) ∧
      (∀ h : Fin 4, next.fitted h = true →
        (t.holders[h].count ≤ next.holders[h].lowStop →
          t.perms[valveOf h .outlet] = ⟨false, some .lowStop, some t.holders[h].count, some s.timebase⟩) ∧
        (next.holders[h].highStop ≤ t.holders[h].count →
          t.perms[valveOf h .inlet] = ⟨false, some .highStop, some t.holders[h].count, some s.timebase⟩)) ∧
      (∀ h : Fin 4, t.prog.roles[h].held = false ∧ t.prog.roles[h].retake = false ∧ t.prog.roles[h].lowMark = false ∧
        t.prog.roles[h].highMark = false) ∧
      (s.clock.valid = false ∨ s.loop.lost = true →
        (∀ h : Fin 4, t.prog.roles[h].role = none) ∧ t.prog.transition = none ∧ t.prog.deferred = [.slot] ∧
        ∀ v : Fin 8, next.fitted (holderOf v) = false ∨ t.BetweenStops next (holderOf v) → t.valves[v] = ValveRec.initial) ∧
      t.attn.deferred = s.attn.deferred ∧
      (s.tables.committed = false →
        (∀ e ∈ s.attn.items, ∃ e' ∈ t.attn.items, e'.source = e.source ∧ e'.cls = e.cls ∧ e'.serial = e.serial ∧
          e'.first = e.first ∧ min 255 e.count ≤ e'.count) ∧
        (∀ (h : Fin 4) (sd : Side),
          let src := if sd = .outlet then srcLowTrip h else srcHighTrip h
          let meets : Prop := next.fitted h = true ∧ next.MeetsStop h sd t.holders[h].count
          (meets → s.Raised t src) ∧ (¬meets → s.NotRaised t src)) ∧
        ∀ src, (∀ h, src ≠ srcLowTrip h ∧ src ≠ srcHighTrip h) →
          (∀ sd : Side, src ≠ sd.source) ∨ s.clock.valid = false ∨ s.loop.lost = true → s.NotRaised t src) ∧
      (∀ c ∈ t.loop.commands, ∃ v dir trip, c = .valve v false dir 1 trip ∧ next.fitted (holderOf v) = true) ∧
      (s.loop.lost = true → t.loop.commands = []) ∧
      (s.clock.valid = false → s.loop.lost = false → ∀ c, c ∈ t.loop.commands ↔ ∃ (h : Fin 4) (sd : Side),
        next.fitted h = true ∧ next.MeetsStop h sd t.holders[h].count ∧ c = .valve (valveOf h sd) false .toShut 1 true) ∧
      (∀ m : Fin 12, t.channels[m] = ChannelRec.initial) ∧ (∀ p : Fin 24, t.points[p] = PointRec.initial) ∧
      t.barometer = ⟨.absent, none, .good, none, none⟩ ∧ t.calorimeter = ⟨.absent, none, .good, none, none⟩ ∧
      (∀ d : Fin 6, t.districts[d].lastSent = none ∧ t.districts[d].trim = 0 ∧
        (next.districts[d].used = true → t.districts[d].reviewTimer = some (s.timebase + 60000))) ∧
      t.loop.lost = s.loop.lost ∧ t.loop.window = s.loop.window ∧ t.loop.cycle = s.loop.cycle ∧
      (∃ x, t.loop.responses = s.loop.responses ++ [[[22, ref, 0, 1, 1] ++ x]] ∧
        (s.tables.generation < 2 ^ 16 → s.clock.day < 2 ^ 16 → s.clock.sec < 2 ^ 24 → s.accounts.logs.lastSeq + 1 < 2 ^ 32 → x = data))
end

