-- ==== Sys2Proof/Laws/State.lean ====
section
/-! SUPPORT. For each update of one record of the state, one lemma per field: what the update leaves there. -/

namespace Sys2Proof.Machine

@[simp] theorem State.setPending_pending (s : State) (q : List Instr) : (s.setPending q).pending = q := rfl
@[simp] theorem State.setPending_power (s : State) (q : List Instr) : (s.setPending q).power = s.power := rfl
@[simp] theorem State.setPending_own (s : State) (q : List Instr) : (s.setPending q).own = s.own := rfl
@[simp] theorem State.setPending_timebase (s : State) (q : List Instr) : (s.setPending q).timebase = s.timebase := rfl
@[simp] theorem State.setPending_drawn (s : State) (q : List Instr) : (s.setPending q).drawn = s.drawn := rfl
@[simp] theorem State.setPending_clock (s : State) (q : List Instr) : (s.setPending q).clock = s.clock := rfl
@[simp] theorem State.setPending_accounts (s : State) (q : List Instr) : (s.setPending q).accounts = s.accounts := rfl
@[simp] theorem State.setPending_tables (s : State) (q : List Instr) : (s.setPending q).tables = s.tables := rfl
@[simp] theorem State.setPending_holders (s : State) (q : List Instr) : (s.setPending q).holders = s.holders := rfl
@[simp] theorem State.setPending_channels (s : State) (q : List Instr) : (s.setPending q).channels = s.channels := rfl
@[simp] theorem State.setPending_points (s : State) (q : List Instr) : (s.setPending q).points = s.points := rfl
@[simp] theorem State.setPending_barometer (s : State) (q : List Instr) : (s.setPending q).barometer = s.barometer := rfl
@[simp] theorem State.setPending_calorimeter (s : State) (q : List Instr) : (s.setPending q).calorimeter = s.calorimeter := rfl
@[simp] theorem State.setPending_valves (s : State) (q : List Instr) : (s.setPending q).valves = s.valves := rfl
@[simp] theorem State.setPending_perms (s : State) (q : List Instr) : (s.setPending q).perms = s.perms := rfl
@[simp] theorem State.setPending_prog (s : State) (q : List Instr) : (s.setPending q).prog = s.prog := rfl
@[simp] theorem State.setPending_districts (s : State) (q : List Instr) : (s.setPending q).districts = s.districts := rfl
@[simp] theorem State.setPending_loop (s : State) (q : List Instr) : (s.setPending q).loop = s.loop := rfl
@[simp] theorem State.setPending_attn (s : State) (q : List Instr) : (s.setPending q).attn = s.attn := rfl
@[simp] theorem State.setPending_nv (s : State) (q : List Instr) : (s.setPending q).nv = s.nv := rfl

@[simp] theorem State.setPower_pending (s : State) (p : Power) : (s.setPower p).pending = s.pending := rfl
@[simp] theorem State.setPower_power (s : State) (p : Power) : (s.setPower p).power = p := rfl
@[simp] theorem State.setPower_own (s : State) (p : Power) : (s.setPower p).own = s.own := rfl
@[simp] theorem State.setPower_timebase (s : State) (p : Power) : (s.setPower p).timebase = s.timebase := rfl
@[simp] theorem State.setPower_drawn (s : State) (p : Power) : (s.setPower p).drawn = s.drawn := rfl
@[simp] theorem State.setPower_clock (s : State) (p : Power) : (s.setPower p).clock = s.clock := rfl
@[simp] theorem State.setPower_accounts (s : State) (p : Power) : (s.setPower p).accounts = s.accounts := rfl
@[simp] theorem State.setPower_tables (s : State) (p : Power) : (s.setPower p).tables = s.tables := rfl
@[simp] theorem State.setPower_holders (s : State) (p : Power) : (s.setPower p).holders = s.holders := rfl
@[simp] theorem State.setPower_channels (s : State) (p : Power) : (s.setPower p).channels = s.channels := rfl
@[simp] theorem State.setPower_points (s : State) (p : Power) : (s.setPower p).points = s.points := rfl
@[simp] theorem State.setPower_barometer (s : State) (p : Power) : (s.setPower p).barometer = s.barometer := rfl
@[simp] theorem State.setPower_calorimeter (s : State) (p : Power) : (s.setPower p).calorimeter = s.calorimeter := rfl
@[simp] theorem State.setPower_valves (s : State) (p : Power) : (s.setPower p).valves = s.valves := rfl
@[simp] theorem State.setPower_perms (s : State) (p : Power) : (s.setPower p).perms = s.perms := rfl
@[simp] theorem State.setPower_prog (s : State) (p : Power) : (s.setPower p).prog = s.prog := rfl
@[simp] theorem State.setPower_districts (s : State) (p : Power) : (s.setPower p).districts = s.districts := rfl
@[simp] theorem State.setPower_loop (s : State) (p : Power) : (s.setPower p).loop = s.loop := rfl
@[simp] theorem State.setPower_attn (s : State) (p : Power) : (s.setPower p).attn = s.attn := rfl
@[simp] theorem State.setPower_nv (s : State) (p : Power) : (s.setPower p).nv = s.nv := rfl

@[simp] theorem State.setClock_pending (s : State) (c : Clock) : (s.setClock c).pending = s.pending := rfl
@[simp] theorem State.setClock_power (s : State) (c : Clock) : (s.setClock c).power = s.power := rfl
@[simp] theorem State.setClock_own (s : State) (c : Clock) : (s.setClock c).own = s.own := rfl
@[simp] theorem State.setClock_timebase (s : State) (c : Clock) : (s.setClock c).timebase = s.timebase := rfl
@[simp] theorem State.setClock_drawn (s : State) (c : Clock) : (s.setClock c).drawn = s.drawn := rfl
@[simp] theorem State.setClock_clock (s : State) (c : Clock) : (s.setClock c).clock = c := rfl
@[simp] theorem State.setClock_accounts (s : State) (c : Clock) : (s.setClock c).accounts = s.accounts := rfl
@[simp] theorem State.setClock_tables (s : State) (c : Clock) : (s.setClock c).tables = s.tables := rfl
@[simp] theorem State.setClock_holders (s : State) (c : Clock) : (s.setClock c).holders = s.holders := rfl
@[simp] theorem State.setClock_channels (s : State) (c : Clock) : (s.setClock c).channels = s.channels := rfl
@[simp] theorem State.setClock_points (s : State) (c : Clock) : (s.setClock c).points = s.points := rfl
@[simp] theorem State.setClock_barometer (s : State) (c : Clock) : (s.setClock c).barometer = s.barometer := rfl
@[simp] theorem State.setClock_calorimeter (s : State) (c : Clock) : (s.setClock c).calorimeter = s.calorimeter := rfl
@[simp] theorem State.setClock_valves (s : State) (c : Clock) : (s.setClock c).valves = s.valves := rfl
@[simp] theorem State.setClock_perms (s : State) (c : Clock) : (s.setClock c).perms = s.perms := rfl
@[simp] theorem State.setClock_prog (s : State) (c : Clock) : (s.setClock c).prog = s.prog := rfl
@[simp] theorem State.setClock_districts (s : State) (c : Clock) : (s.setClock c).districts = s.districts := rfl
@[simp] theorem State.setClock_loop (s : State) (c : Clock) : (s.setClock c).loop = s.loop := rfl
@[simp] theorem State.setClock_attn (s : State) (c : Clock) : (s.setClock c).attn = s.attn := rfl
@[simp] theorem State.setClock_nv (s : State) (c : Clock) : (s.setClock c).nv = s.nv := rfl

@[simp] theorem State.setAccounts_pending (s : State) (a : Accounts) : (s.setAccounts a).pending = s.pending := rfl
@[simp] theorem State.setAccounts_power (s : State) (a : Accounts) : (s.setAccounts a).power = s.power := rfl
@[simp] theorem State.setAccounts_own (s : State) (a : Accounts) : (s.setAccounts a).own = s.own := rfl
@[simp] theorem State.setAccounts_timebase (s : State) (a : Accounts) : (s.setAccounts a).timebase = s.timebase := rfl
@[simp] theorem State.setAccounts_drawn (s : State) (a : Accounts) : (s.setAccounts a).drawn = s.drawn := rfl
@[simp] theorem State.setAccounts_clock (s : State) (a : Accounts) : (s.setAccounts a).clock = s.clock := rfl
@[simp] theorem State.setAccounts_accounts (s : State) (a : Accounts) : (s.setAccounts a).accounts = a := rfl
@[simp] theorem State.setAccounts_tables (s : State) (a : Accounts) : (s.setAccounts a).tables = s.tables := rfl
@[simp] theorem State.setAccounts_holders (s : State) (a : Accounts) : (s.setAccounts a).holders = s.holders := rfl
@[simp] theorem State.setAccounts_channels (s : State) (a : Accounts) : (s.setAccounts a).channels = s.channels := rfl
@[simp] theorem State.setAccounts_points (s : State) (a : Accounts) : (s.setAccounts a).points = s.points := rfl
@[simp] theorem State.setAccounts_barometer (s : State) (a : Accounts) : (s.setAccounts a).barometer = s.barometer := rfl
@[simp] theorem State.setAccounts_calorimeter (s : State) (a : Accounts) : (s.setAccounts a).calorimeter = s.calorimeter := rfl
@[simp] theorem State.setAccounts_valves (s : State) (a : Accounts) : (s.setAccounts a).valves = s.valves := rfl
@[simp] theorem State.setAccounts_perms (s : State) (a : Accounts) : (s.setAccounts a).perms = s.perms := rfl
@[simp] theorem State.setAccounts_prog (s : State) (a : Accounts) : (s.setAccounts a).prog = s.prog := rfl
@[simp] theorem State.setAccounts_districts (s : State) (a : Accounts) : (s.setAccounts a).districts = s.districts := rfl
@[simp] theorem State.setAccounts_loop (s : State) (a : Accounts) : (s.setAccounts a).loop = s.loop := rfl
@[simp] theorem State.setAccounts_attn (s : State) (a : Accounts) : (s.setAccounts a).attn = s.attn := rfl
@[simp] theorem State.setAccounts_nv (s : State) (a : Accounts) : (s.setAccounts a).nv = s.nv := rfl

@[simp] theorem State.setTables_pending (s : State) (t : TableStore) : (s.setTables t).pending = s.pending := rfl
@[simp] theorem State.setTables_power (s : State) (t : TableStore) : (s.setTables t).power = s.power := rfl
@[simp] theorem State.setTables_own (s : State) (t : TableStore) : (s.setTables t).own = s.own := rfl
@[simp] theorem State.setTables_timebase (s : State) (t : TableStore) : (s.setTables t).timebase = s.timebase := rfl
@[simp] theorem State.setTables_drawn (s : State) (t : TableStore) : (s.setTables t).drawn = s.drawn := rfl
@[simp] theorem State.setTables_clock (s : State) (t : TableStore) : (s.setTables t).clock = s.clock := rfl
@[simp] theorem State.setTables_accounts (s : State) (t : TableStore) : (s.setTables t).accounts = s.accounts := rfl
@[simp] theorem State.setTables_tables (s : State) (t : TableStore) : (s.setTables t).tables = t := rfl
@[simp] theorem State.setTables_holders (s : State) (t : TableStore) : (s.setTables t).holders = s.holders := rfl
@[simp] theorem State.setTables_channels (s : State) (t : TableStore) : (s.setTables t).channels = s.channels := rfl
@[simp] theorem State.setTables_points (s : State) (t : TableStore) : (s.setTables t).points = s.points := rfl
@[simp] theorem State.setTables_barometer (s : State) (t : TableStore) : (s.setTables t).barometer = s.barometer := rfl
@[simp] theorem State.setTables_calorimeter (s : State) (t : TableStore) : (s.setTables t).calorimeter = s.calorimeter := rfl
@[simp] theorem State.setTables_valves (s : State) (t : TableStore) : (s.setTables t).valves = s.valves := rfl
@[simp] theorem State.setTables_perms (s : State) (t : TableStore) : (s.setTables t).perms = s.perms := rfl
@[simp] theorem State.setTables_prog (s : State) (t : TableStore) : (s.setTables t).prog = s.prog := rfl
@[simp] theorem State.setTables_districts (s : State) (t : TableStore) : (s.setTables t).districts = s.districts := rfl
@[simp] theorem State.setTables_loop (s : State) (t : TableStore) : (s.setTables t).loop = s.loop := rfl
@[simp] theorem State.setTables_attn (s : State) (t : TableStore) : (s.setTables t).attn = s.attn := rfl
@[simp] theorem State.setTables_nv (s : State) (t : TableStore) : (s.setTables t).nv = s.nv := rfl

@[simp] theorem State.setHolder_pending (s : State) (h : Fin 4) (r : HolderRec) : (s.setHolder h r).pending = s.pending := rfl
@[simp] theorem State.setHolder_power (s : State) (h : Fin 4) (r : HolderRec) : (s.setHolder h r).power = s.power := rfl
@[simp] theorem State.setHolder_own (s : State) (h : Fin 4) (r : HolderRec) : (s.setHolder h r).own = s.own := rfl
@[simp] theorem State.setHolder_timebase (s : State) (h : Fin 4) (r : HolderRec) : (s.setHolder h r).timebase = s.timebase := rfl
@[simp] theorem State.setHolder_drawn (s : State) (h : Fin 4) (r : HolderRec) : (s.setHolder h r).drawn = s.drawn := rfl
@[simp] theorem State.setHolder_clock (s : State) (h : Fin 4) (r : HolderRec) : (s.setHolder h r).clock = s.clock := rfl
@[simp] theorem State.setHolder_accounts (s : State) (h : Fin 4) (r : HolderRec) : (s.setHolder h r).accounts = s.accounts := rfl
@[simp] theorem State.setHolder_tables (s : State) (h : Fin 4) (r : HolderRec) : (s.setHolder h r).tables = s.tables := rfl
@[simp] theorem State.setHolder_holders (s : State) (h : Fin 4) (r : HolderRec) : (s.setHolder h r).holders = upd s.holders h r := rfl
@[simp] theorem State.setHolder_channels (s : State) (h : Fin 4) (r : HolderRec) : (s.setHolder h r).channels = s.channels := rfl
@[simp] theorem State.setHolder_points (s : State) (h : Fin 4) (r : HolderRec) : (s.setHolder h r).points = s.points := rfl
@[simp] theorem State.setHolder_barometer (s : State) (h : Fin 4) (r : HolderRec) : (s.setHolder h r).barometer = s.barometer := rfl
@[simp] theorem State.setHolder_calorimeter (s : State) (h : Fin 4) (r : HolderRec) : (s.setHolder h r).calorimeter = s.calorimeter := rfl
@[simp] theorem State.setHolder_valves (s : State) (h : Fin 4) (r : HolderRec) : (s.setHolder h r).valves = s.valves := rfl
@[simp] theorem State.setHolder_perms (s : State) (h : Fin 4) (r : HolderRec) : (s.setHolder h r).perms = s.perms := rfl
@[simp] theorem State.setHolder_prog (s : State) (h : Fin 4) (r : HolderRec) : (s.setHolder h r).prog = s.prog := rfl
@[simp] theorem State.setHolder_districts (s : State) (h : Fin 4) (r : HolderRec) : (s.setHolder h r).districts = s.districts := rfl
@[simp] theorem State.setHolder_loop (s : State) (h : Fin 4) (r : HolderRec) : (s.setHolder h r).loop = s.loop := rfl
@[simp] theorem State.setHolder_attn (s : State) (h : Fin 4) (r : HolderRec) : (s.setHolder h r).attn = s.attn := rfl
@[simp] theorem State.setHolder_nv (s : State) (h : Fin 4) (r : HolderRec) : (s.setHolder h r).nv = s.nv := rfl

@[simp] theorem State.setChannel_pending (s : State) (m : Fin 12) (r : ChannelRec) : (s.setChannel m r).pending = s.pending := rfl
@[simp] theorem State.setChannel_power (s : State) (m : Fin 12) (r : ChannelRec) : (s.setChannel m r).power = s.power := rfl
@[simp] theorem State.setChannel_own (s : State) (m : Fin 12) (r : ChannelRec) : (s.setChannel m r).own = s.own := rfl
@[simp] theorem State.setChannel_timebase (s : State) (m : Fin 12) (r : ChannelRec) : (s.setChannel m r).timebase = s.timebase := rfl
@[simp] theorem State.setChannel_drawn (s : State) (m : Fin 12) (r : ChannelRec) : (s.setChannel m r).drawn = s.drawn := rfl
@[simp] theorem State.setChannel_clock (s : State) (m : Fin 12) (r : ChannelRec) : (s.setChannel m r).clock = s.clock := rfl
@[simp] theorem State.setChannel_accounts (s : State) (m : Fin 12) (r : ChannelRec) : (s.setChannel m r).accounts = s.accounts := rfl
@[simp] theorem State.setChannel_tables (s : State) (m : Fin 12) (r : ChannelRec) : (s.setChannel m r).tables = s.tables := rfl
@[simp] theorem State.setChannel_holders (s : State) (m : Fin 12) (r : ChannelRec) : (s.setChannel m r).holders = s.holders := rfl
@[simp] theorem State.setChannel_channels (s : State) (m : Fin 12) (r : ChannelRec) : (s.setChannel m r).channels = upd s.channels m r := rfl
@[simp] theorem State.setChannel_points (s : State) (m : Fin 12) (r : ChannelRec) : (s.setChannel m r).points = s.points := rfl
@[simp] theorem State.setChannel_barometer (s : State) (m : Fin 12) (r : ChannelRec) : (s.setChannel m r).barometer = s.barometer := rfl
@[simp] theorem State.setChannel_calorimeter (s : State) (m : Fin 12) (r : ChannelRec) : (s.setChannel m r).calorimeter = s.calorimeter := rfl
@[simp] theorem State.setChannel_valves (s : State) (m : Fin 12) (r : ChannelRec) : (s.setChannel m r).valves = s.valves := rfl
@[simp] theorem State.setChannel_perms (s : State) (m : Fin 12) (r : ChannelRec) : (s.setChannel m r).perms = s.perms := rfl
@[simp] theorem State.setChannel_prog (s : State) (m : Fin 12) (r : ChannelRec) : (s.setChannel m r).prog = s.prog := rfl
@[simp] theorem State.setChannel_districts (s : State) (m : Fin 12) (r : ChannelRec) : (s.setChannel m r).districts = s.districts := rfl
@[simp] theorem State.setChannel_loop (s : State) (m : Fin 12) (r : ChannelRec) : (s.setChannel m r).loop = s.loop := rfl
@[simp] theorem State.setChannel_attn (s : State) (m : Fin 12) (r : ChannelRec) : (s.setChannel m r).attn = s.attn := rfl
@[simp] theorem State.setChannel_nv (s : State) (m : Fin 12) (r : ChannelRec) : (s.setChannel m r).nv = s.nv := rfl

@[simp] theorem State.setPoint_pending (s : State) (p : Fin 24) (r : PointRec) : (s.setPoint p r).pending = s.pending := rfl
@[simp] theorem State.setPoint_power (s : State) (p : Fin 24) (r : PointRec) : (s.setPoint p r).power = s.power := rfl
@[simp] theorem State.setPoint_own (s : State) (p : Fin 24) (r : PointRec) : (s.setPoint p r).own = s.own := rfl
@[simp] theorem State.setPoint_timebase (s : State) (p : Fin 24) (r : PointRec) : (s.setPoint p r).timebase = s.timebase := rfl
@[simp] theorem State.setPoint_drawn (s : State) (p : Fin 24) (r : PointRec) : (s.setPoint p r).drawn = s.drawn := rfl
@[simp] theorem State.setPoint_clock (s : State) (p : Fin 24) (r : PointRec) : (s.setPoint p r).clock = s.clock := rfl
@[simp] theorem State.setPoint_accounts (s : State) (p : Fin 24) (r : PointRec) : (s.setPoint p r).accounts = s.accounts := rfl
@[simp] theorem State.setPoint_tables (s : State) (p : Fin 24) (r : PointRec) : (s.setPoint p r).tables = s.tables := rfl
@[simp] theorem State.setPoint_holders (s : State) (p : Fin 24) (r : PointRec) : (s.setPoint p r).holders = s.holders := rfl
@[simp] theorem State.setPoint_channels (s : State) (p : Fin 24) (r : PointRec) : (s.setPoint p r).channels = s.channels := rfl
@[simp] theorem State.setPoint_points (s : State) (p : Fin 24) (r : PointRec) : (s.setPoint p r).points = upd s.points p r := rfl
@[simp] theorem State.setPoint_barometer (s : State) (p : Fin 24) (r : PointRec) : (s.setPoint p r).barometer = s.barometer := rfl
@[simp] theorem State.setPoint_calorimeter (s : State) (p : Fin 24) (r : PointRec) : (s.setPoint p r).calorimeter = s.calorimeter := rfl
@[simp] theorem State.setPoint_valves (s : State) (p : Fin 24) (r : PointRec) : (s.setPoint p r).valves = s.valves := rfl
@[simp] theorem State.setPoint_perms (s : State) (p : Fin 24) (r : PointRec) : (s.setPoint p r).perms = s.perms := rfl
@[simp] theorem State.setPoint_prog (s : State) (p : Fin 24) (r : PointRec) : (s.setPoint p r).prog = s.prog := rfl
@[simp] theorem State.setPoint_districts (s : State) (p : Fin 24) (r : PointRec) : (s.setPoint p r).districts = s.districts := rfl
@[simp] theorem State.setPoint_loop (s : State) (p : Fin 24) (r : PointRec) : (s.setPoint p r).loop = s.loop := rfl
@[simp] theorem State.setPoint_attn (s : State) (p : Fin 24) (r : PointRec) : (s.setPoint p r).attn = s.attn := rfl
@[simp] theorem State.setPoint_nv (s : State) (p : Fin 24) (r : PointRec) : (s.setPoint p r).nv = s.nv := rfl

@[simp] theorem State.setBarometer_pending (s : State) (r : PointRec) : (s.setBarometer r).pending = s.pending := rfl
@[simp] theorem State.setBarometer_power (s : State) (r : PointRec) : (s.setBarometer r).power = s.power := rfl
@[simp] theorem State.setBarometer_own (s : State) (r : PointRec) : (s.setBarometer r).own = s.own := rfl
@[simp] theorem State.setBarometer_timebase (s : State) (r : PointRec) : (s.setBarometer r).timebase = s.timebase := rfl
@[simp] theorem State.setBarometer_drawn (s : State) (r : PointRec) : (s.setBarometer r).drawn = s.drawn := rfl
@[simp] theorem State.setBarometer_clock (s : State) (r : PointRec) : (s.setBarometer r).clock = s.clock := rfl
@[simp] theorem State.setBarometer_accounts (s : State) (r : PointRec) : (s.setBarometer r).accounts = s.accounts := rfl
@[simp] theorem State.setBarometer_tables (s : State) (r : PointRec) : (s.setBarometer r).tables = s.tables := rfl
@[simp] theorem State.setBarometer_holders (s : State) (r : PointRec) : (s.setBarometer r).holders = s.holders := rfl
@[simp] theorem State.setBarometer_channels (s : State) (r : PointRec) : (s.setBarometer r).channels = s.channels := rfl
@[simp] theorem State.setBarometer_points (s : State) (r : PointRec) : (s.setBarometer r).points = s.points := rfl
@[simp] theorem State.setBarometer_barometer (s : State) (r : PointRec) : (s.setBarometer r).barometer = r := rfl
@[simp] theorem State.setBarometer_calorimeter (s : State) (r : PointRec) : (s.setBarometer r).calorimeter = s.calorimeter := rfl
@[simp] theorem State.setBarometer_valves (s : State) (r : PointRec) : (s.setBarometer r).valves = s.valves := rfl
@[simp] theorem State.setBarometer_perms (s : State) (r : PointRec) : (s.setBarometer r).perms = s.perms := rfl
@[simp] theorem State.setBarometer_prog (s : State) (r : PointRec) : (s.setBarometer r).prog = s.prog := rfl
@[simp] theorem State.setBarometer_districts (s : State) (r : PointRec) : (s.setBarometer r).districts = s.districts := rfl
@[simp] theorem State.setBarometer_loop (s : State) (r : PointRec) : (s.setBarometer r).loop = s.loop := rfl
@[simp] theorem State.setBarometer_attn (s : State) (r : PointRec) : (s.setBarometer r).attn = s.attn := rfl
@[simp] theorem State.setBarometer_nv (s : State) (r : PointRec) : (s.setBarometer r).nv = s.nv := rfl

@[simp] theorem State.setCalorimeter_pending (s : State) (r : PointRec) : (s.setCalorimeter r).pending = s.pending := rfl
@[simp] theorem State.setCalorimeter_power (s : State) (r : PointRec) : (s.setCalorimeter r).power = s.power := rfl
@[simp] theorem State.setCalorimeter_own (s : State) (r : PointRec) : (s.setCalorimeter r).own = s.own := rfl
@[simp] theorem State.setCalorimeter_timebase (s : State) (r : PointRec) : (s.setCalorimeter r).timebase = s.timebase := rfl
@[simp] theorem State.setCalorimeter_drawn (s : State) (r : PointRec) : (s.setCalorimeter r).drawn = s.drawn := rfl
@[simp] theorem State.setCalorimeter_clock (s : State) (r : PointRec) : (s.setCalorimeter r).clock = s.clock := rfl
@[simp] theorem State.setCalorimeter_accounts (s : State) (r : PointRec) : (s.setCalorimeter r).accounts = s.accounts := rfl
@[simp] theorem State.setCalorimeter_tables (s : State) (r : PointRec) : (s.setCalorimeter r).tables = s.tables := rfl
@[simp] theorem State.setCalorimeter_holders (s : State) (r : PointRec) : (s.setCalorimeter r).holders = s.holders := rfl
@[simp] theorem State.setCalorimeter_channels (s : State) (r : PointRec) : (s.setCalorimeter r).channels = s.channels := rfl
@[simp] theorem State.setCalorimeter_points (s : State) (r : PointRec) : (s.setCalorimeter r).points = s.points := rfl
@[simp] theorem State.setCalorimeter_barometer (s : State) (r : PointRec) : (s.setCalorimeter r).barometer = s.barometer := rfl
@[simp] theorem State.setCalorimeter_calorimeter (s : State) (r : PointRec) : (s.setCalorimeter r).calorimeter = r := rfl
@[simp] theorem State.setCalorimeter_valves (s : State) (r : PointRec) : (s.setCalorimeter r).valves = s.valves := rfl
@[simp] theorem State.setCalorimeter_perms (s : State) (r : PointRec) : (s.setCalorimeter r).perms = s.perms := rfl
@[simp] theorem State.setCalorimeter_prog (s : State) (r : PointRec) : (s.setCalorimeter r).prog = s.prog := rfl
@[simp] theorem State.setCalorimeter_districts (s : State) (r : PointRec) : (s.setCalorimeter r).districts = s.districts := rfl
@[simp] theorem State.setCalorimeter_loop (s : State) (r : PointRec) : (s.setCalorimeter r).loop = s.loop := rfl
@[simp] theorem State.setCalorimeter_attn (s : State) (r : PointRec) : (s.setCalorimeter r).attn = s.attn := rfl
@[simp] theorem State.setCalorimeter_nv (s : State) (r : PointRec) : (s.setCalorimeter r).nv = s.nv := rfl

@[simp] theorem State.setValve_pending (s : State) (v : Fin 8) (r : ValveRec) : (s.setValve v r).pending = s.pending := rfl
@[simp] theorem State.setValve_power (s : State) (v : Fin 8) (r : ValveRec) : (s.setValve v r).power = s.power := rfl
@[simp] theorem State.setValve_own (s : State) (v : Fin 8) (r : ValveRec) : (s.setValve v r).own = s.own := rfl
@[simp] theorem State.setValve_timebase (s : State) (v : Fin 8) (r : ValveRec) : (s.setValve v r).timebase = s.timebase := rfl
@[simp] theorem State.setValve_drawn (s : State) (v : Fin 8) (r : ValveRec) : (s.setValve v r).drawn = s.drawn := rfl
@[simp] theorem State.setValve_clock (s : State) (v : Fin 8) (r : ValveRec) : (s.setValve v r).clock = s.clock := rfl
@[simp] theorem State.setValve_accounts (s : State) (v : Fin 8) (r : ValveRec) : (s.setValve v r).accounts = s.accounts := rfl
@[simp] theorem State.setValve_tables (s : State) (v : Fin 8) (r : ValveRec) : (s.setValve v r).tables = s.tables := rfl
@[simp] theorem State.setValve_holders (s : State) (v : Fin 8) (r : ValveRec) : (s.setValve v r).holders = s.holders := rfl
@[simp] theorem State.setValve_channels (s : State) (v : Fin 8) (r : ValveRec) : (s.setValve v r).channels = s.channels := rfl
@[simp] theorem State.setValve_points (s : State) (v : Fin 8) (r : ValveRec) : (s.setValve v r).points = s.points := rfl
@[simp] theorem State.setValve_barometer (s : State) (v : Fin 8) (r : ValveRec) : (s.setValve v r).barometer = s.barometer := rfl
@[simp] theorem State.setValve_calorimeter (s : State) (v : Fin 8) (r : ValveRec) : (s.setValve v r).calorimeter = s.calorimeter := rfl
@[simp] theorem State.setValve_valves (s : State) (v : Fin 8) (r : ValveRec) : (s.setValve v r).valves = upd s.valves v r := rfl
@[simp] theorem State.setValve_perms (s : State) (v : Fin 8) (r : ValveRec) : (s.setValve v r).perms = s.perms := rfl
@[simp] theorem State.setValve_prog (s : State) (v : Fin 8) (r : ValveRec) : (s.setValve v r).prog = s.prog := rfl
@[simp] theorem State.setValve_districts (s : State) (v : Fin 8) (r : ValveRec) : (s.setValve v r).districts = s.districts := rfl
@[simp] theorem State.setValve_loop (s : State) (v : Fin 8) (r : ValveRec) : (s.setValve v r).loop = s.loop := rfl
@[simp] theorem State.setValve_attn (s : State) (v : Fin 8) (r : ValveRec) : (s.setValve v r).attn = s.attn := rfl
@[simp] theorem State.setValve_nv (s : State) (v : Fin 8) (r : ValveRec) : (s.setValve v r).nv = s.nv := rfl

@[simp] theorem State.setPerm_pending (s : State) (v : Fin 8) (r : PermRec) : (s.setPerm v r).pending = s.pending := rfl
@[simp] theorem State.setPerm_power (s : State) (v : Fin 8) (r : PermRec) : (s.setPerm v r).power = s.power := rfl
@[simp] theorem State.setPerm_own (s : State) (v : Fin 8) (r : PermRec) : (s.setPerm v r).own = s.own := rfl
@[simp] theorem State.setPerm_timebase (s : State) (v : Fin 8) (r : PermRec) : (s.setPerm v r).timebase = s.timebase := rfl
@[simp] theorem State.setPerm_drawn (s : State) (v : Fin 8) (r : PermRec) : (s.setPerm v r).drawn = s.drawn := rfl
@[simp] theorem State.setPerm_clock (s : State) (v : Fin 8) (r : PermRec) : (s.setPerm v r).clock = s.clock := rfl
@[simp] theorem State.setPerm_accounts (s : State) (v : Fin 8) (r : PermRec) : (s.setPerm v r).accounts = s.accounts := rfl
@[simp] theorem State.setPerm_tables (s : State) (v : Fin 8) (r : PermRec) : (s.setPerm v r).tables = s.tables := rfl
@[simp] theorem State.setPerm_holders (s : State) (v : Fin 8) (r : PermRec) : (s.setPerm v r).holders = s.holders := rfl
@[simp] theorem State.setPerm_channels (s : State) (v : Fin 8) (r : PermRec) : (s.setPerm v r).channels = s.channels := rfl
@[simp] theorem State.setPerm_points (s : State) (v : Fin 8) (r : PermRec) : (s.setPerm v r).points = s.points := rfl
@[simp] theorem State.setPerm_barometer (s : State) (v : Fin 8) (r : PermRec) : (s.setPerm v r).barometer = s.barometer := rfl
@[simp] theorem State.setPerm_calorimeter (s : State) (v : Fin 8) (r : PermRec) : (s.setPerm v r).calorimeter = s.calorimeter := rfl
@[simp] theorem State.setPerm_valves (s : State) (v : Fin 8) (r : PermRec) : (s.setPerm v r).valves = s.valves := rfl
@[simp] theorem State.setPerm_perms (s : State) (v : Fin 8) (r : PermRec) : (s.setPerm v r).perms = upd s.perms v r := rfl
@[simp] theorem State.setPerm_prog (s : State) (v : Fin 8) (r : PermRec) : (s.setPerm v r).prog = s.prog := rfl
@[simp] theorem State.setPerm_districts (s : State) (v : Fin 8) (r : PermRec) : (s.setPerm v r).districts = s.districts := rfl
@[simp] theorem State.setPerm_loop (s : State) (v : Fin 8) (r : PermRec) : (s.setPerm v r).loop = s.loop := rfl
@[simp] theorem State.setPerm_attn (s : State) (v : Fin 8) (r : PermRec) : (s.setPerm v r).attn = s.attn := rfl
@[simp] theorem State.setPerm_nv (s : State) (v : Fin 8) (r : PermRec) : (s.setPerm v r).nv = s.nv := rfl

@[simp] theorem State.setProg_pending (s : State) (p : Programme) : (s.setProg p).pending = s.pending := rfl
@[simp] theorem State.setProg_power (s : State) (p : Programme) : (s.setProg p).power = s.power := rfl
@[simp] theorem State.setProg_own (s : State) (p : Programme) : (s.setProg p).own = s.own := rfl
@[simp] theorem State.setProg_timebase (s : State) (p : Programme) : (s.setProg p).timebase = s.timebase := rfl
@[simp] theorem State.setProg_drawn (s : State) (p : Programme) : (s.setProg p).drawn = s.drawn := rfl
@[simp] theorem State.setProg_clock (s : State) (p : Programme) : (s.setProg p).clock = s.clock := rfl
@[simp] theorem State.setProg_accounts (s : State) (p : Programme) : (s.setProg p).accounts = s.accounts := rfl
@[simp] theorem State.setProg_tables (s : State) (p : Programme) : (s.setProg p).tables = s.tables := rfl
@[simp] theorem State.setProg_holders (s : State) (p : Programme) : (s.setProg p).holders = s.holders := rfl
@[simp] theorem State.setProg_channels (s : State) (p : Programme) : (s.setProg p).channels = s.channels := rfl
@[simp] theorem State.setProg_points (s : State) (p : Programme) : (s.setProg p).points = s.points := rfl
@[simp] theorem State.setProg_barometer (s : State) (p : Programme) : (s.setProg p).barometer = s.barometer := rfl
@[simp] theorem State.setProg_calorimeter (s : State) (p : Programme) : (s.setProg p).calorimeter = s.calorimeter := rfl
@[simp] theorem State.setProg_valves (s : State) (p : Programme) : (s.setProg p).valves = s.valves := rfl
@[simp] theorem State.setProg_perms (s : State) (p : Programme) : (s.setProg p).perms = s.perms := rfl
@[simp] theorem State.setProg_prog (s : State) (p : Programme) : (s.setProg p).prog = p := rfl
@[simp] theorem State.setProg_districts (s : State) (p : Programme) : (s.setProg p).districts = s.districts := rfl
@[simp] theorem State.setProg_loop (s : State) (p : Programme) : (s.setProg p).loop = s.loop := rfl
@[simp] theorem State.setProg_attn (s : State) (p : Programme) : (s.setProg p).attn = s.attn := rfl
@[simp] theorem State.setProg_nv (s : State) (p : Programme) : (s.setProg p).nv = s.nv := rfl

@[simp] theorem State.setDistrict_pending (s : State) (d : Fin 6) (r : DistrictRec) : (s.setDistrict d r).pending = s.pending := rfl
@[simp] theorem State.setDistrict_power (s : State) (d : Fin 6) (r : DistrictRec) : (s.setDistrict d r).power = s.power := rfl
@[simp] theorem State.setDistrict_own (s : State) (d : Fin 6) (r : DistrictRec) : (s.setDistrict d r).own = s.own := rfl
@[simp] theorem State.setDistrict_timebase (s : State) (d : Fin 6) (r : DistrictRec) : (s.setDistrict d r).timebase = s.timebase := rfl
@[simp] theorem State.setDistrict_drawn (s : State) (d : Fin 6) (r : DistrictRec) : (s.setDistrict d r).drawn = s.drawn := rfl
@[simp] theorem State.setDistrict_clock (s : State) (d : Fin 6) (r : DistrictRec) : (s.setDistrict d r).clock = s.clock := rfl
@[simp] theorem State.setDistrict_accounts (s : State) (d : Fin 6) (r : DistrictRec) : (s.setDistrict d r).accounts = s.accounts := rfl
@[simp] theorem State.setDistrict_tables (s : State) (d : Fin 6) (r : DistrictRec) : (s.setDistrict d r).tables = s.tables := rfl
@[simp] theorem State.setDistrict_holders (s : State) (d : Fin 6) (r : DistrictRec) : (s.setDistrict d r).holders = s.holders := rfl
@[simp] theorem State.setDistrict_channels (s : State) (d : Fin 6) (r : DistrictRec) : (s.setDistrict d r).channels = s.channels := rfl
@[simp] theorem State.setDistrict_points (s : State) (d : Fin 6) (r : DistrictRec) : (s.setDistrict d r).points = s.points := rfl
@[simp] theorem State.setDistrict_barometer (s : State) (d : Fin 6) (r : DistrictRec) : (s.setDistrict d r).barometer = s.barometer := rfl
@[simp] theorem State.setDistrict_calorimeter (s : State) (d : Fin 6) (r : DistrictRec) : (s.setDistrict d r).calorimeter = s.calorimeter := rfl
@[simp] theorem State.setDistrict_valves (s : State) (d : Fin 6) (r : DistrictRec) : (s.setDistrict d r).valves = s.valves := rfl
@[simp] theorem State.setDistrict_perms (s : State) (d : Fin 6) (r : DistrictRec) : (s.setDistrict d r).perms = s.perms := rfl
@[simp] theorem State.setDistrict_prog (s : State) (d : Fin 6) (r : DistrictRec) : (s.setDistrict d r).prog = s.prog := rfl
@[simp] theorem State.setDistrict_districts (s : State) (d : Fin 6) (r : DistrictRec) : (s.setDistrict d r).districts = upd s.districts d r := rfl
@[simp] theorem State.setDistrict_loop (s : State) (d : Fin 6) (r : DistrictRec) : (s.setDistrict d r).loop = s.loop := rfl
@[simp] theorem State.setDistrict_attn (s : State) (d : Fin 6) (r : DistrictRec) : (s.setDistrict d r).attn = s.attn := rfl
@[simp] theorem State.setDistrict_nv (s : State) (d : Fin 6) (r : DistrictRec) : (s.setDistrict d r).nv = s.nv := rfl

@[simp] theorem State.setLoop_pending (s : State) (l : LoopPort) : (s.setLoop l).pending = s.pending := rfl
@[simp] theorem State.setLoop_power (s : State) (l : LoopPort) : (s.setLoop l).power = s.power := rfl
@[simp] theorem State.setLoop_own (s : State) (l : LoopPort) : (s.setLoop l).own = s.own := rfl
@[simp] theorem State.setLoop_timebase (s : State) (l : LoopPort) : (s.setLoop l).timebase = s.timebase := rfl
@[simp] theorem State.setLoop_drawn (s : State) (l : LoopPort) : (s.setLoop l).drawn = s.drawn := rfl
@[simp] theorem State.setLoop_clock (s : State) (l : LoopPort) : (s.setLoop l).clock = s.clock := rfl
@[simp] theorem State.setLoop_accounts (s : State) (l : LoopPort) : (s.setLoop l).accounts = s.accounts := rfl
@[simp] theorem State.setLoop_tables (s : State) (l : LoopPort) : (s.setLoop l).tables = s.tables := rfl
@[simp] theorem State.setLoop_holders (s : State) (l : LoopPort) : (s.setLoop l).holders = s.holders := rfl
@[simp] theorem State.setLoop_channels (s : State) (l : LoopPort) : (s.setLoop l).channels = s.channels := rfl
@[simp] theorem State.setLoop_points (s : State) (l : LoopPort) : (s.setLoop l).points = s.points := rfl
@[simp] theorem State.setLoop_barometer (s : State) (l : LoopPort) : (s.setLoop l).barometer = s.barometer := rfl
@[simp] theorem State.setLoop_calorimeter (s : State) (l : LoopPort) : (s.setLoop l).calorimeter = s.calorimeter := rfl
@[simp] theorem State.setLoop_valves (s : State) (l : LoopPort) : (s.setLoop l).valves = s.valves := rfl
@[simp] theorem State.setLoop_perms (s : State) (l : LoopPort) : (s.setLoop l).perms = s.perms := rfl
@[simp] theorem State.setLoop_prog (s : State) (l : LoopPort) : (s.setLoop l).prog = s.prog := rfl
@[simp] theorem State.setLoop_districts (s : State) (l : LoopPort) : (s.setLoop l).districts = s.districts := rfl
@[simp] theorem State.setLoop_loop (s : State) (l : LoopPort) : (s.setLoop l).loop = l := rfl
@[simp] theorem State.setLoop_attn (s : State) (l : LoopPort) : (s.setLoop l).attn = s.attn := rfl
@[simp] theorem State.setLoop_nv (s : State) (l : LoopPort) : (s.setLoop l).nv = s.nv := rfl

@[simp] theorem State.setAttn_pending (s : State) (a : Attention) : (s.setAttn a).pending = s.pending := rfl
@[simp] theorem State.setAttn_power (s : State) (a : Attention) : (s.setAttn a).power = s.power := rfl
@[simp] theorem State.setAttn_own (s : State) (a : Attention) : (s.setAttn a).own = s.own := rfl
@[simp] theorem State.setAttn_timebase (s : State) (a : Attention) : (s.setAttn a).timebase = s.timebase := rfl
@[simp] theorem State.setAttn_drawn (s : State) (a : Attention) : (s.setAttn a).drawn = s.drawn := rfl
@[simp] theorem State.setAttn_clock (s : State) (a : Attention) : (s.setAttn a).clock = s.clock := rfl
@[simp] theorem State.setAttn_accounts (s : State) (a : Attention) : (s.setAttn a).accounts = s.accounts := rfl
@[simp] theorem State.setAttn_tables (s : State) (a : Attention) : (s.setAttn a).tables = s.tables := rfl
@[simp] theorem State.setAttn_holders (s : State) (a : Attention) : (s.setAttn a).holders = s.holders := rfl
@[simp] theorem State.setAttn_channels (s : State) (a : Attention) : (s.setAttn a).channels = s.channels := rfl
@[simp] theorem State.setAttn_points (s : State) (a : Attention) : (s.setAttn a).points = s.points := rfl
@[simp] theorem State.setAttn_barometer (s : State) (a : Attention) : (s.setAttn a).barometer = s.barometer := rfl
@[simp] theorem State.setAttn_calorimeter (s : State) (a : Attention) : (s.setAttn a).calorimeter = s.calorimeter := rfl
@[simp] theorem State.setAttn_valves (s : State) (a : Attention) : (s.setAttn a).valves = s.valves := rfl
@[simp] theorem State.setAttn_perms (s : State) (a : Attention) : (s.setAttn a).perms = s.perms := rfl
@[simp] theorem State.setAttn_prog (s : State) (a : Attention) : (s.setAttn a).prog = s.prog := rfl
@[simp] theorem State.setAttn_districts (s : State) (a : Attention) : (s.setAttn a).districts = s.districts := rfl
@[simp] theorem State.setAttn_loop (s : State) (a : Attention) : (s.setAttn a).loop = s.loop := rfl
@[simp] theorem State.setAttn_attn (s : State) (a : Attention) : (s.setAttn a).attn = a := rfl
@[simp] theorem State.setAttn_nv (s : State) (a : Attention) : (s.setAttn a).nv = s.nv := rfl

@[simp] theorem State.setNv_pending (s : State) (n : Nonvolatile) : (s.setNv n).pending = s.pending := rfl
@[simp] theorem State.setNv_power (s : State) (n : Nonvolatile) : (s.setNv n).power = s.power := rfl
@[simp] theorem State.setNv_own (s : State) (n : Nonvolatile) : (s.setNv n).own = s.own := rfl
@[simp] theorem State.setNv_timebase (s : State) (n : Nonvolatile) : (s.setNv n).timebase = s.timebase := rfl
@[simp] theorem State.setNv_drawn (s : State) (n : Nonvolatile) : (s.setNv n).drawn = s.drawn := rfl
@[simp] theorem State.setNv_clock (s : State) (n : Nonvolatile) : (s.setNv n).clock = s.clock := rfl
@[simp] theorem State.setNv_accounts (s : State) (n : Nonvolatile) : (s.setNv n).accounts = s.accounts := rfl
@[simp] theorem State.setNv_tables (s : State) (n : Nonvolatile) : (s.setNv n).tables = s.tables := rfl
@[simp] theorem State.setNv_holders (s : State) (n : Nonvolatile) : (s.setNv n).holders = s.holders := rfl
@[simp] theorem State.setNv_channels (s : State) (n : Nonvolatile) : (s.setNv n).channels = s.channels := rfl
@[simp] theorem State.setNv_points (s : State) (n : Nonvolatile) : (s.setNv n).points = s.points := rfl
@[simp] theorem State.setNv_barometer (s : State) (n : Nonvolatile) : (s.setNv n).barometer = s.barometer := rfl
@[simp] theorem State.setNv_calorimeter (s : State) (n : Nonvolatile) : (s.setNv n).calorimeter = s.calorimeter := rfl
@[simp] theorem State.setNv_valves (s : State) (n : Nonvolatile) : (s.setNv n).valves = s.valves := rfl
@[simp] theorem State.setNv_perms (s : State) (n : Nonvolatile) : (s.setNv n).perms = s.perms := rfl
@[simp] theorem State.setNv_prog (s : State) (n : Nonvolatile) : (s.setNv n).prog = s.prog := rfl
@[simp] theorem State.setNv_districts (s : State) (n : Nonvolatile) : (s.setNv n).districts = s.districts := rfl
@[simp] theorem State.setNv_loop (s : State) (n : Nonvolatile) : (s.setNv n).loop = s.loop := rfl
@[simp] theorem State.setNv_attn (s : State) (n : Nonvolatile) : (s.setNv n).attn = s.attn := rfl
@[simp] theorem State.setNv_nv (s : State) (n : Nonvolatile) : (s.setNv n).nv = n := rfl

@[simp] theorem State.passMs_pending (s : State) (n : Nat) : (s.passMs n).pending = s.pending := rfl
@[simp] theorem State.passMs_power (s : State) (n : Nat) : (s.passMs n).power = s.power := rfl
@[simp] theorem State.passMs_own (s : State) (n : Nat) : (s.passMs n).own = s.own := rfl
@[simp] theorem State.passMs_timebase (s : State) (n : Nat) : (s.passMs n).timebase = s.timebase + n := rfl
@[simp] theorem State.passMs_drawn (s : State) (n : Nat) : (s.passMs n).drawn = s.drawn := rfl
@[simp] theorem State.passMs_clock (s : State) (n : Nat) : (s.passMs n).clock = s.clock.advance n := rfl
@[simp] theorem State.passMs_accounts (s : State) (n : Nat) : (s.passMs n).accounts = s.accounts := rfl
@[simp] theorem State.passMs_tables (s : State) (n : Nat) : (s.passMs n).tables = s.tables := rfl
@[simp] theorem State.passMs_holders (s : State) (n : Nat) : (s.passMs n).holders = s.holders := rfl
@[simp] theorem State.passMs_channels (s : State) (n : Nat) : (s.passMs n).channels = s.channels := rfl
@[simp] theorem State.passMs_points (s : State) (n : Nat) : (s.passMs n).points = s.points := rfl
@[simp] theorem State.passMs_barometer (s : State) (n : Nat) : (s.passMs n).barometer = s.barometer := rfl
@[simp] theorem State.passMs_calorimeter (s : State) (n : Nat) : (s.passMs n).calorimeter = s.calorimeter := rfl
@[simp] theorem State.passMs_valves (s : State) (n : Nat) : (s.passMs n).valves = s.valves := rfl
@[simp] theorem State.passMs_perms (s : State) (n : Nat) : (s.passMs n).perms = s.perms := rfl
@[simp] theorem State.passMs_prog (s : State) (n : Nat) : (s.passMs n).prog = s.prog := rfl
@[simp] theorem State.passMs_districts (s : State) (n : Nat) : (s.passMs n).districts = s.districts := rfl
@[simp] theorem State.passMs_loop (s : State) (n : Nat) : (s.passMs n).loop = s.loop := rfl
@[simp] theorem State.passMs_attn (s : State) (n : Nat) : (s.passMs n).attn = s.attn := rfl
@[simp] theorem State.passMs_nv (s : State) (n : Nat) : (s.passMs n).nv = s.nv := rfl

/-! Entries of a fixed table after one was put. -/

@[simp] theorem upd_self {α : Type} {n : Nat} (v : Vector α n) (i : Fin n) (x : α) : (upd v i x)[i.val] = x := by
  simp [upd]

theorem upd_other {α : Type} {n : Nat} (v : Vector α n) (i j : Fin n) (x : α) (h : i ≠ j) : (upd v i x)[j.val] = v[j.val] := by
  have : i.val ≠ j.val := fun e => h (Fin.ext e)
  simp [upd, this]

theorem upd_get {α : Type} {n : Nat} (v : Vector α n) (i j : Fin n) (x : α) :
    (upd v i x)[j.val] = if i = j then x else v[j.val] := by
  by_cases h : i = j
  · subst h; simp
  · simp [h, upd_other v i j x h]

end Sys2Proof.Machine
end

