-- ==== Sys2Proof/Laws/Frame.lean ====
section
/-! SUPPORT. What the operations of the Valve Controller and the Programme Unit can change: the valve records, the permissions, the
programme, the command queue with the frame on the line, and the attention list. One lemma per operation. -/

namespace Sys2Proof.Machine

/-- A loop port that differs from another at most in its command queue and in the marks of the command on the line. -/
structure OnlyCommands (l k : LoopPort) : Prop where
  lost : k.lost = l.lost
  lossExpiry : k.lossExpiry = l.lossExpiry
  cycle : k.cycle = l.cycle
  window : k.window = l.window
  rearm : k.rearm = l.rearm
  buffer : k.buffer = l.buffer
  responses : k.responses = l.responses
  checkErrors : k.checkErrors = l.checkErrors
  checkMark : k.checkMark = l.checkMark
  lineQuiet : k.lineQuiet = l.lineQuiet
  tailForwarded : k.tailForwarded = l.tailForwarded

theorem OnlyCommands.refl (l : LoopPort) : OnlyCommands l l := by constructor <;> rfl

theorem OnlyCommands.trans {a b c : LoopPort} (h : OnlyCommands a b) (k : OnlyCommands b c) : OnlyCommands a c :=
  ⟨k.1.trans h.1, k.2.trans h.2, k.3.trans h.3, k.4.trans h.4, k.5.trans h.5, k.6.trans h.6, k.7.trans h.7, k.8.trans h.8,
    k.9.trans h.9, k.10.trans h.10, k.11.trans h.11⟩

theorem LoopPort.withdraw_only (l : LoopPort) (p : Command → Bool) : OnlyCommands l (l.withdraw p) := by constructor <;> rfl
theorem LoopPort.placeValve_only (l : LoopPort) (v : Fin 8) (o : Bool) (d : Dir) (t : Byte) (r : Bool) :
    OnlyCommands l (l.placeValve v o d t r) := by constructor <;> rfl
theorem LoopPort.promote_only (l : LoopPort) (v : Fin 8) : OnlyCommands l (l.promote v) := by constructor <;> rfl
theorem LoopPort.placeSet_only (l : LoopPort) (d : Fin 6) (x : Nat) : OnlyCommands l (l.placeSet d x).1 := by
  unfold LoopPort.placeSet; split <;> constructor <;> rfl

/-- A state that differs from another at most in what the Valve Controller and the Programme Unit keep. -/
structure OnlyValves (s t : State) : Prop where
  pending : t.pending = s.pending
  power : t.power = s.power
  own : t.own = s.own
  timebase : t.timebase = s.timebase
  drawn : t.drawn = s.drawn
  clock : t.clock = s.clock
  accounts : t.accounts = s.accounts
  tables : t.tables = s.tables
  holders : t.holders = s.holders
  channels : t.channels = s.channels
  points : t.points = s.points
  barometer : t.barometer = s.barometer
  calorimeter : t.calorimeter = s.calorimeter
  districts : t.districts = s.districts
  nv : t.nv = s.nv
  loop : OnlyCommands s.loop t.loop
  deferred : t.attn.deferred = s.attn.deferred

theorem OnlyValves.refl (s : State) : OnlyValves s s := by
  constructor <;> first | rfl | exact OnlyCommands.refl _

theorem OnlyValves.trans {a b c : State} (h : OnlyValves a b) (k : OnlyValves b c) : OnlyValves a c :=
  ⟨k.1.trans h.1, k.2.trans h.2, k.3.trans h.3, k.4.trans h.4, k.5.trans h.5, k.6.trans h.6, k.7.trans h.7, k.8.trans h.8,
    k.9.trans h.9, k.10.trans h.10, k.11.trans h.11, k.12.trans h.12, k.13.trans h.13, k.14.trans h.14, k.15.trans h.15,
    h.16.trans k.16, k.17.trans h.17⟩

theorem OnlyValves.ite {c : Prop} [Decidable c] {s t u : State} (h : OnlyValves s t) (k : OnlyValves s u) :
    OnlyValves s (if c then t else u) := by
  split
  · exact h
  · exact k

theorem OnlyValves.live {s t : State} (h : OnlyValves s t) : t.live = s.live := by simp [State.live, h.tables]

theorem State.setValve_only (s : State) (v : Fin 8) (r : ValveRec) : OnlyValves s (s.setValve v r) := by
  constructor <;> first | rfl | exact OnlyCommands.refl _
theorem State.setPerm_only (s : State) (v : Fin 8) (r : PermRec) : OnlyValves s (s.setPerm v r) := by
  constructor <;> first | rfl | exact OnlyCommands.refl _
theorem State.setProg_only (s : State) (p : Programme) : OnlyValves s (s.setProg p) := by
  constructor <;> first | rfl | exact OnlyCommands.refl _
theorem State.setLoop_only (s : State) (l : LoopPort) (h : OnlyCommands s.loop l) : OnlyValves s (s.setLoop l) := by
  constructor <;> first | rfl | exact h
theorem State.setTransition_only (s : State) (t : Option Transition) : OnlyValves s (s.setTransition t) := s.setProg_only _
theorem State.mapRole_only (s : State) (h : Fin 4) (f : RoleRec → RoleRec) : OnlyValves s (s.mapRole h f) := s.setProg_only _

theorem Attention.occur_deferred (a : Attention) (x : Fin 74) (c : AttnClass) (t : Occurrence) : (a.occur x c t).deferred = a.deferred := by
  unfold Attention.occur; split <;> rfl
theorem State.raise_only (s : State) (x : Fin 74) : OnlyValves s (s.raise x) := by
  unfold State.raise State.raiseAt
  split
  · constructor <;> first | rfl | exact OnlyCommands.refl _ | exact Attention.occur_deferred _ _ _ _
  · exact .refl s
theorem State.enterTrigger_only (s : State) (t : Trigger) : OnlyValves s (s.enterTrigger t) := by
  unfold State.enterTrigger; split
  · exact .refl s
  · exact s.setProg_only _

/-- Repetition over places keeps a relation that each turn keeps. -/
theorem forEach_keeps {n : Nat} (R : State → State → Prop) (refl : ∀ s, R s s) (trans : ∀ {a b c}, R a b → R b c → R a c)
    (f : Fin n → State → State) (h : ∀ i s, R s (f i s)) (s : State) : R s (forEach f s) := by
  unfold forEach
  generalize List.finRange n = l
  induction l generalizing s with
  | nil => exact refl s
  | cons i is ih => exact trans (h i s) (ih (f i s))

theorem forEach_only {n : Nat} (f : Fin n → State → State) (h : ∀ i s, OnlyValves s (f i s)) (s : State) :
    OnlyValves s (forEach f s) := forEach_keeps OnlyValves OnlyValves.refl OnlyValves.trans f h s

/-! ## The Valve Controller -/

theorem State.notify_only (s : State) (v : Fin 8) (d : Dir) (r : Bool) : OnlyValves s (s.notify v d r) := s.setProg_only _
theorem State.notifyJoined_only (s : State) (v : Fin 8) (r : ValveRec) (x : Bool) : OnlyValves s (s.notifyJoined v r x) := by
  unfold State.notifyJoined; split
  · exact s.notify_only ..
  · exact .refl s
theorem State.beginExchange_only (s : State) (v : Fin 8) (d : Dir) (t : Bool) : OnlyValves s (s.beginExchange v d t) := by
  unfold State.beginExchange; dsimp only; split
  · exact s.setValve_only ..
  · exact (s.setValve_only ..).trans (State.setLoop_only _ _ (LoopPort.placeValve_only ..))
theorem State.startOperation_only (s : State) (v : Fin 8) (d : Demand) (j : Bool) : OnlyValves s (s.startOperation v d j) :=
  (s.setValve_only ..).trans (State.beginExchange_only ..)
theorem State.refuseDemand_only (s : State) (v : Fin 8) (d : Demand) : OnlyValves s (s.refuseDemand v d) := by
  unfold State.refuseDemand; split
  · exact s.notify_only ..
  · exact .refl s
theorem State.satisfyDemand_only (s : State) (v : Fin 8) (d : Demand) : OnlyValves s (s.satisfyDemand v d) := by
  unfold State.satisfyDemand; split
  · exact s.notify_only ..
  · exact .refl s
theorem State.offerAtRest_only (s : State) (v : Fin 8) (d : Demand) : OnlyValves s (s.offerAtRest v d).1 := by
  unfold State.offerAtRest; split
  · exact s.startOperation_only ..
  · exact s.satisfyDemand_only ..
  · exact s.setValve_only ..
  · exact s.refuseDemand_only ..
theorem State.joinOperation_only (s : State) (v : Fin 8) (a b : Demand) : OnlyValves s (s.joinOperation v a b) := by
  unfold State.joinOperation; dsimp only; split
  · exact (s.setValve_only ..).trans (State.setLoop_only _ _ (LoopPort.promote_only ..))
  · exact s.setValve_only ..
theorem State.reverseOperation_only (s : State) (v : Fin 8) (d : Demand) : OnlyValves s (s.reverseOperation v d) :=
  ((s.notifyJoined_only ..).trans (State.setValve_only ..)).trans (State.beginExchange_only ..)
theorem State.offer_only (s : State) (v : Fin 8) (d : Demand) : OnlyValves s (s.offer v d).1 := by
  unfold State.offer; split
  · exact s.refuseDemand_only ..
  · split
    · unfold State.offerInFlight; split
      · exact s.joinOperation_only ..
      · split
        · exact s.reverseOperation_only ..
        · exact s.refuseDemand_only ..
    · exact s.offerAtRest_only ..
theorem State.offered_only (s : State) (v : Fin 8) (d : Demand) : OnlyValves s (s.offered v d) := s.offer_only v d
theorem State.endMatch_only (s : State) (v : Fin 8) (d : Dir) : OnlyValves s (s.endMatch v d) :=
  ((s.setValve_only ..).trans (State.setLoop_only _ _ (LoopPort.withdraw_only ..))).trans (State.notifyJoined_only ..)
theorem State.endStuck_only (s : State) (v : Fin 8) (c : FailCause) : OnlyValves s (s.endStuck v c) :=
  (((s.setValve_only ..).trans (State.setLoop_only _ _ (LoopPort.withdraw_only ..))).trans (State.raise_only ..)).trans
    (State.notifyJoined_only ..)
theorem State.enterLocal_only (s : State) (v : Fin 8) : OnlyValves s (s.enterLocal v) := by
  unfold State.enterLocal
  exact .ite ((s.setValve_only v _).trans (State.setLoop_only _ _ (LoopPort.withdraw_only ..)))
    (((s.setValve_only v _).trans (State.setLoop_only _ _ (LoopPort.withdraw_only ..))).trans (State.notifyJoined_only ..))
theorem State.missedAnswer_only (s : State) (v : Fin 8) (c : FailCause) : OnlyValves s (s.missedAnswer v c) := by
  unfold State.missedAnswer; dsimp only; split
  · exact .refl s
  · split
    · exact (s.setValve_only ..).trans (State.beginExchange_only ..)
    · exact ((s.setValve_only ..).trans (State.raise_only ..)).trans (State.notifyJoined_only ..)
theorem State.takeKept_only (s : State) (v : Fin 8) : OnlyValves s (s.takeKept v) := by
  unfold State.takeKept; dsimp only; split
  · exact .refl s
  · split
    · exact s.startOperation_only ..
    · exact (s.setValve_only ..).trans (State.notifyJoined_only ..)
    · exact .refl s
theorem State.shutIfWithdrawn_only (s : State) (v : Fin 8) : OnlyValves s (s.shutIfWithdrawn v) := by
  unfold State.shutIfWithdrawn; split
  · exact s.offered_only ..
  · exact .refl s
theorem State.followPosition_only (s : State) (v : Fin 8) (p : Position) : OnlyValves s (s.followPosition v p) := by
  cases p
  · exact s.setValve_only ..
  · exact s.setValve_only ..
  · exact s.setValve_only ..
  · exact (s.setValve_only ..).trans (State.raise_only ..)
  · exact s.enterLocal_only v
theorem State.followAndTake_only (s : State) (v : Fin 8) (p : Position) : OnlyValves s (s.followAndTake v p) :=
  ((s.followPosition_only v p).trans (State.takeKept_only ..)).trans (State.shutIfWithdrawn_only ..)
theorem State.positionReport_only (s : State) (v : Fin 8) (p : Position) : OnlyValves s (s.positionReport v p) := by
  have h := s.setValve_only v { s.valves[v] with reported := some ⟨p, s.timebase⟩ }
  unfold State.positionReport; dsimp only
  split
  iterate 2
    split
    · exact h
    · split
      · exact h.trans (State.endMatch_only ..)
      · split
        · exact h.trans (State.endStuck_only ..)
        · exact h.trans (State.enterLocal_only ..)
        · exact h
  iterate 3 exact h.trans (State.followAndTake_only ..)
  · split
    · exact h.trans (State.enterLocal_only ..)
    · exact h
  · split
    · exact h
    · exact h.trans (State.followAndTake_only ..)
  · exact h.trans (State.followAndTake_only ..)
theorem State.actSelected_only (s : State) (v : Fin 8) (p : Position) : OnlyValves s (s.actSelected v p) := by
  unfold State.actSelected; dsimp only
  have h := s.setValve_only v { s.valves[v] with answerTimer := none, reported := some ⟨p, s.timebase⟩ }
  split
  · exact h
  · split
    · exact h.trans (State.endMatch_only ..)
    · exact (h.trans (State.setValve_only ..)).trans (State.setLoop_only _ _ (LoopPort.placeValve_only ..))
theorem State.actRefused_only (s : State) (v : Fin 8) (x : RefuseReason) : OnlyValves s (s.actRefused v x) := by
  unfold State.actRefused; dsimp only
  have h := s.setValve_only v { s.valves[v] with answerTimer := none }
  cases x
  · exact (h.trans (State.setValve_only ..)).trans (State.enterLocal_only ..)
  · exact (h.trans (State.setValve_only ..)).trans (State.endStuck_only ..)
  · exact h.trans (State.missedAnswer_only ..)
theorem State.valveAnswer_only (s : State) (b : Bank) (v : Fin 8) (t : Byte) (a : Answer) : OnlyValves s (s.valveAnswer b v t a) := by
  have h : OnlyValves s (s.recordAnswer v a t (s.answerActed v a t)) := s.setValve_only ..
  unfold State.valveAnswer; dsimp only
  split
  · cases a
    · exact h.trans (State.actSelected_only ..)
    · exact h.trans (State.setValve_only ..)
    · exact h.trans (State.actRefused_only ..)
  · exact h
theorem State.commandSent_only (s : State) (c : Command) : OnlyValves s (s.commandSent c) := by
  unfold State.commandSent; split
  · exact .refl s
  · split
    · exact s.setValve_only ..
    · exact .refl s
theorem State.setUnknown_only (s : State) (v : Fin 8) : OnlyValves s (s.setUnknown v) := by
  unfold State.setUnknown; dsimp only; split
  · exact s.setValve_only ..
  · exact (s.setValve_only ..).trans (State.startOperation_only ..)
theorem State.valvesRecover_only (s : State) (b : Bank) : OnlyValves s (s.valvesRecover b) :=
  forEach_only _ (fun v s => .ite (s.setUnknown_only v) (.refl s)) s
theorem State.withdraw_only (s : State) (h : Fin 4) (sd : Side) (c : PermCause) (n : Nat) : OnlyValves s (s.withdraw h sd c n) := by
  unfold State.withdraw; dsimp only; split
  · exact ((s.setPerm_only ..).trans (State.offered_only ..)).trans (State.raise_only ..)
  · exact .refl s
theorem State.evaluateTrips_only (s : State) (e : HolderEntry) (h : Fin 4) (lo hi : Nat) : OnlyValves s (s.evaluateTrips e h lo hi) := by
  unfold State.evaluateTrips; dsimp only
  have h1 : OnlyValves s (if lo ≤ e.lowStop then s.withdraw h .outlet .lowStop lo else s) := by
    split
    · exact s.withdraw_only ..
    · exact .refl s
  split
  · exact h1.trans (State.withdraw_only ..)
  · exact h1

/-! ## The Programme Unit -/

theorem State.endTransition_only (s : State) (t : Transition) : OnlyValves s (s.endTransition t) := by
  unfold State.endTransition; dsimp only
  split
  · split
    · exact (s.setTransition_only _).trans (State.enterTrigger_only ..)
    · exact s.setTransition_only _
  · exact (s.setTransition_only _).trans (forEach_only _ (fun h s => s.mapRole_only ..) _)
theorem State.takeShut_only (s : State) (b : Bank) (v : Fin 8) : OnlyValves s (s.takeShut b v) := by
  unfold State.takeShut; split
  · exact .refl s
  · split
    · split
      · exact ((s.setTransition_only _).trans (State.raise_only ..)).trans (State.mapRole_only ..)
      · exact (s.setTransition_only _).trans (State.offered_only ..)
    · exact .refl s
theorem State.settleShutting_only (s : State) : OnlyValves s s.settleShutting := by
  unfold State.settleShutting; split
  · split
    · exact s.endTransition_only _
    · exact .refl s
  · exact .refl s
theorem State.setRoles_only (entries : List TargetEntry) (p : Fin 4 → Bool) (s : State) :
    OnlyValves s (entries.foldl (fun s e => if p e.holder then s else s.mapRole e.holder fun r => { r with role := e.target }) s) := by
  induction entries generalizing s with
  | nil => exact .refl s
  | cons e es ih =>
    exact OnlyValves.trans (.ite (.refl s) (s.mapRole_only ..)) (ih _)
theorem State.finishOpening_only (s : State) (b : Bank) (t : Transition) : OnlyValves s (s.finishOpening b t) := by
  unfold State.finishOpening; dsimp only
  refine OnlyValves.trans ?_ (State.settleShutting_only _)
  refine OnlyValves.trans ?_ (forEach_only _ (fun v s => s.takeShut_only b v) _)
  refine OnlyValves.trans ?_ (State.setTransition_only ..)
  split
  · exact (State.setRoles_only t.entries (t.failedHolder ·) s).trans (State.mapRole_only ..)
  · exact State.setRoles_only t.entries (t.failedHolder ·) s
theorem State.settleOpening_only (s : State) (b : Bank) : OnlyValves s (s.settleOpening b) := by
  unfold State.settleOpening; split
  · split
    · exact s.finishOpening_only ..
    · exact .refl s
  · exact .refl s
theorem State.offerOpen_only (s : State) (v : Fin 8) : OnlyValves s (s.offerOpen v) := s.offered_only ..
theorem State.abandon_only (s : State) (t : Transition) (sd : Side) : OnlyValves s (s.abandon t sd) :=
  (s.raise_only _).trans (State.endTransition_only ..)
theorem State.failedIncoming_only (s : State) (b : Bank) (t : Transition) (sd : Side) (h : Fin 4) :
    OnlyValves s (s.failedIncoming b t sd h) := by
  unfold State.failedIncoming; dsimp only
  split
  · exact s.abandon_only ..
  · split
    · exact s.abandon_only ..
    · split
      · exact (s.setTransition_only _).trans (State.offerOpen_only ..)
      · exact (s.setTransition_only _).trans (State.settleOpening_only ..)
theorem State.openEnded_only (s : State) (b : Bank) (t : Transition) (h : Fin 4) (r : Bool) : OnlyValves s (s.openEnded b t h r) := by
  unfold State.openEnded; split
  · exact s.failedIncoming_only ..
  · exact (s.setTransition_only _).trans (State.settleOpening_only ..)
theorem State.takeNotice_only (s : State) (b : Bank) (n : Notice) : OnlyValves s (s.takeNotice b n) := by
  unfold State.takeNotice; split
  · exact .refl s
  · split
    · split
      · exact s.openEnded_only ..
      · exact .refl s
    · split
      · exact (s.setTransition_only _).trans (State.settleShutting_only _)
      · exact .refl s
theorem State.offers_only (os : List OpenEntry) (s : State) : OnlyValves s (os.foldl (fun s o => s.offerOpen o.valve) s) := by
  induction os generalizing s with
  | nil => exact .refl s
  | cons o os ih => exact (s.offerOpen_only _).trans (ih _)
theorem State.clearRetakes_only (s : State) (b : Bank) : OnlyValves s (s.clearRetakes b) :=
  forEach_only _ (fun _ s => .ite (s.mapRole_only ..) (.refl s)) s
theorem State.buildSlot_only (s : State) (b : Bank) (t : Trigger) : OnlyValves s (s.buildSlot b t) := by
  unfold State.buildSlot; split
  · exact .refl s
  · exact (((s.clearRetakes_only b).trans (State.setTransition_only ..)).trans (State.offers_only ..)).trans (State.settleOpening_only ..)
theorem State.buildChangeover_only (s : State) (b : Bank) (sd : Side) : OnlyValves s (s.buildChangeover b sd) := by
  unfold State.buildChangeover; split
  · exact .refl s
  · split
    · exact s.raise_only _
    · dsimp only
      refine OnlyValves.trans ?_ (State.settleOpening_only ..)
      split
      · exact (s.setTransition_only _).trans (State.offerOpen_only ..)
      · exact s.setTransition_only _
theorem State.buildTrigger_only (s : State) (b : Bank) (t : Trigger) : OnlyValves s (s.buildTrigger b t) := by
  unfold State.buildTrigger; split
  · exact s.buildChangeover_only ..
  · exact s.buildSlot_only ..

/-- The settling of notices and triggers changes nothing but what the two blocks keep. -/
theorem State.settle_only (n : Nat) (s : State) : OnlyValves s (s.settle n) := by
  induction n generalizing s with
  | zero => exact .refl s
  | succ n ih =>
    unfold State.settle
    split
    · exact .refl s
    · split
      · exact ((s.setProg_only _).trans (State.takeNotice_only ..)).trans (ih _)
      · split
        · exact ((s.setProg_only _).trans (State.buildTrigger_only ..)).trans (ih _)
        · exact .refl s
theorem State.settled_only (s : State) : OnlyValves s s.settled := s.settle_only _
theorem State.markSide_only (s : State) (e : HolderEntry) (h : Fin 4) (sd : Side) (lo hi : Nat) : OnlyValves s (s.markSide e h sd lo hi) := by
  have h1 (c : Bool) : OnlyValves s (if c then (s.mapRole h fun p => p.setMark sd true).enterTrigger sd.trigger else s) :=
    .ite ((s.mapRole_only ..).trans (State.enterTrigger_only ..)) (.refl s)
  exact OnlyValves.ite ((h1 _).trans (State.mapRole_only ..)) (h1 _)
theorem State.giveUp_only (s : State) (b : Bank) (h : Fin 4) : OnlyValves s (s.giveUp b h) := by
  unfold State.giveUp; split
  · exact .refl s
  · split
    · exact s.openEnded_only ..
    · exact .refl s

end Sys2Proof.Machine
end

