-- ==== Sys2Proof/Laws/Events.lean ====
section
/-! SUPPORT. What the shared operations of the line, the directives and the holder change can do: one lemma for each, so that a proof
about a command cites them instead of unfolding them. -/

namespace Sys2Proof.Machine

/-! ## Numbers in characters -/

@[simp] theorem b8_toNat (c : Byte) : b8 c.toNat = c := by simp [b8]
theorem natOf_b8 (n : Nat) (h : n < 256) : natOf [b8 n] = n := by simp [natOf, b8]; omega
theorem natOf_bytesOf_two (n : Nat) (h : n < 65536) : natOf (bytesOf 2 n) = n := by simp [natOf, bytesOf]; omega
theorem placeOf_succ (n : Nat) (i : Fin n) : placeOf n (i.val + 1) = some i := by
  unfold placeOf; rw [dif_pos (by omega)]; rfl

/-! ## An operation that starts, and a passing frame -/

/-- R61, R65, R75: all that starting an operation does, with the loop UP or LOST. -/
theorem State.startOperation_eq_begun (s : State) (v : Fin 8) (d : Demand) (joined : Bool) :
    s.startOperation v d joined = s.begun v s.valves[v] d joined := by
  obtain ⟨dir, o⟩ := d
  unfold State.startOperation State.beginExchange State.begun
  cases h : s.loop.lost <;> cases dir <;> simp [State.setValve, State.setLoop, ValveRec.starting, Dir.moving, upd, h]

/-- THROUGH_FRAME_SENT does nothing where no passing frame is being sent. -/
theorem State.throughSent_none (s : State) (arriving : Bool) (h : ∀ f, s.loop.tx ≠ .through f) : s.throughSent arriving = s := by
  unfold State.throughSent
  split
  · exact absurd ‹_› (h _)
  · rfl

/-! ## The programme at rest -/

/-- With no notice to take and no trigger that may be taken, settling changes nothing. -/
theorem State.settled_idle (s : State) (h : s.ProgrammeIdle) : s.settled = s := by
  obtain ⟨h1, h2⟩ := h
  unfold State.settled Config.settleBound State.settle
  cases s.live with
  | none => rfl
  | some b => rcases h2 with h2 | h2 <;> simp [h1, h2]

/-! ## The line -/

/-- A loop port that differs from another at most in what a frame received whole can change. -/
structure OnlyLine (l k : LoopPort) : Prop where
  lost : k.lost = l.lost
  lossExpiry : k.lossExpiry = l.lossExpiry
  cycle : k.cycle = l.cycle
  checkErrors : k.checkErrors = l.checkErrors
  checkMark : k.checkMark = l.checkMark
  tailForwarded : k.tailForwarded = l.tailForwarded

theorem LoopPort.enter_only (l : LoopPort) (f : LineFrame) : OnlyLine l (l.enter f) := by
  unfold LoopPort.enter LoopPort.startThrough LoopPort.giveBack LoopPort.endWindow
  constructor <;> repeat' (first | rfl | split)

@[simp] theorem State.forward_live (s : State) (f : LineFrame) : (s.forward f).live = s.live := rfl
@[simp] theorem State.forward_timebase (s : State) (f : LineFrame) : (s.forward f).timebase = s.timebase := rfl
@[simp] theorem State.forward_lost (s : State) (f : LineFrame) : (s.forward f).loop.lost = s.loop.lost := (s.loop.enter_only f).lost

/-- A report of a station that resolves to a role is forwarded and given to that role. -/
theorem State.receiveReport_role (s : State) (b : Bank) (dest src : Byte) (body : List Byte) (st : Station) (hl : s.live = some b)
    (hr : b.resolve src.toNat = some st) :
    s.receiveReport dest src body = (s.passed dest src kindReport body).routeTo b st body := by
  have h : (s.forward (.valid ⟨dest, src, kindReport, body⟩)).live = some b := hl
  unfold State.receiveReport State.routeReport
  simp only [h, hr]; rfl

/-- A report that resolves to no role is forwarded and nothing else. -/
theorem State.receiveReport_none (s : State) (dest src : Byte) (body : List Byte) (h : ∀ b, s.live = some b → b.resolve src.toNat = none) :
    s.receiveReport dest src body = s.passed dest src kindReport body := by
  unfold State.receiveReport State.routeReport
  simp only [State.forward_live]
  cases hl : s.live with
  | none => rfl
  | some b => simp only [h b hl]; rfl

/-- Table 35 lists no other code. -/
theorem Position.ofCode_eq_none (n : Nat) (h : 4 < n) : Position.ofCode n = none := by
  unfold Position.ofCode; split <;> first | rfl | omega

/-- Table 35 lists no other code. -/
theorem Quality.ofCode_eq_none (n : Nat) (h : 3 < n) : Quality.ofCode n = none := by
  unfold Quality.ofCode; split <;> first | rfl | omega

/-- Table 35 lists no other code. -/
theorem RefuseReason.ofCode_eq_none (n : Nat) (h : n = 0 ∨ 3 < n) : RefuseReason.ofCode n = none := by
  unfold RefuseReason.ofCode; split <;> first | rfl | omega

/-- R182: a body that does not fit a role changes nothing there. -/
theorem State.routeTo_unrouted (s : State) (b : Bank) (st : Station) (body : List Byte) (h : ¬st.Routed body) : s.routeTo b st body = s := by
  have point : (¬∃ x y q : Byte, body = [x, y, q] ∧ q.toNat ≤ 3) → pointBody body = none := fun h => by
    unfold pointBody
    split
    · rw [Quality.ofCode_eq_none _ (Classical.byContradiction fun hq => h ⟨_, _, _, rfl, by omega⟩)]; rfl
    · rfl
  unfold State.routeTo
  cases st <;> simp only [Station.Routed] at h ⊢
  case lift =>
    have : liftBody body = none := by
      unfold liftBody
      split
      · exact if_neg fun hl => h ⟨_, _, rfl, by simp only [List.length_cons]; omega⟩
      · rfl
    rw [this]
  case meter =>
    have : meterBody body = none := by
      unfold meterBody
      split
      · exact absurd rfl h
      · rfl
    rw [this]
  case valve =>
    have : positionBody body = none := by
      unfold positionBody
      split
      · exact Position.ofCode_eq_none _ (Classical.byContradiction fun hq => h ⟨_, rfl, by omega⟩)
      · rfl
    rw [this]
  case governor =>
    have : governorBody body = none := by
      unfold governorBody
      split
      · exact if_neg fun hq => h ⟨_, _, _, rfl, hq⟩
      · rfl
    rw [this]
  all_goals rw [point h]

/-- R182: an answer that does not fit Table 35 is none. -/
theorem answerBody_unrouted (body : List Byte) (h : ¬AnswerRouted body) : answerBody body = none := by
  unfold answerBody
  split
  · rename_i tag a x
    have code (n : Nat) (c : Byte) (hc : c.toNat = n) (e : a.toNat = n) : a = c := BitVec.eq_of_toNat_eq (e.trans hc.symm)
    split
    · rw [Position.ofCode_eq_none _ (Classical.byContradiction fun hq => h ⟨_, _, _, rfl, .inl ⟨code 1 1 rfl ‹_›, by omega⟩⟩)]; rfl
    · exact if_neg fun hx => h ⟨_, _, _, rfl, .inr (.inl ⟨code 2 2 rfl ‹_›, hx⟩)⟩
    · rw [RefuseReason.ofCode_eq_none _ (Classical.byContradiction fun hq => h ⟨_, _, _, rfl, .inr (.inr ⟨code 3 3 rfl ‹_›, by omega, by omega⟩)⟩)]; rfl
    · rfl
  · rfl

/-- R161: an answer to another address is forwarded and nothing else. -/
theorem State.receiveAnswer_other (s : State) (dest src : Byte) (body : List Byte) (h : dest.toNat ≠ s.own) :
    s.receiveAnswer dest src body = s.passed dest src kindAnswer body := if_neg h

/-- R161, R163, Table 27: a frame that is only forwarded. -/
theorem State.receive_onlyForwards (s : State) (f : Frame) (h : s.OnlyForwards f) : s.receive f = s.forward (.valid f) := by
  obtain ⟨dest, src, kind, body⟩ := f
  have code (c : Byte) (e : kind.toNat = c.toNat) : kind = c := BitVec.eq_of_toNat_eq e
  unfold State.OnlyForwards at h
  unfold State.receive
  split
  · simp_all
  · simp_all
  · rename_i hk
    simp only [hk] at h
    obtain rfl : kind = kindReport := code _ hk
    unfold State.receiveReport State.routeReport
    simp only [State.forward_live]
    cases hl : s.live with
    | none => rfl
    | some b =>
      cases hr : b.resolve src.toNat with
      | none => simp only [hr]
      | some st => simp only [hr]; exact State.routeTo_unrouted _ _ _ _ (h b st hl hr)
  · rename_i hk
    simp only [hk] at h
    obtain rfl : kind = kindAnswer := code _ hk
    by_cases hd : dest.toNat = s.own
    · unfold State.receiveAnswer State.routeAnswer
      simp only [State.forward_live, hd, if_true]
      cases hl : s.live with
      | none => rfl
      | some b =>
        dsimp only
        split
        · rename_i hr hb
          exact absurd hb (by rw [answerBody_unrouted _ (h hd b _ hl hr)]; exact nofun)
        · rfl
    · exact s.receiveAnswer_other dest src body hd
  · rename_i hk
    simp only [hk] at h
    obtain rfl : kind = kindDirective := code _ hk
    unfold State.receiveDirective
    by_cases hd : dest = 255
    · subst hd
      simp only [if_true] at h
      rw [if_neg (by simp)]
      split
      · refine if_neg fun hx => ?_
        obtain ⟨-, h0, rfl⟩ := hx
        exact h h0 _ _ ‹_›
      · rfl
    · rw [if_neg hd] at h
      rw [if_neg (fun hx => h hx.1)]
      split
      · exact if_neg fun hx => hd hx.1
      · rfl
  · rfl

/-- R161: a broadcast SET CLOCK of the desk is forwarded and taken, whatever the own address. -/
theorem State.receiveDirective_setClock (s : State) (ref : Byte) (ps : List Byte) :
    s.receiveDirective 255 0 (13 :: ref :: ps) = (s.passed 255 0 kindDirective (13 :: ref :: ps)).takeSetClock ref ps := by
  unfold State.receiveDirective; rw [if_neg (by simp)]; rfl

/-- A frame of a body of at most 200 characters is taken as what it is. -/
theorem State.whole_short (s : State) (f : Frame) (act : State → State) (h : f.body.length ≤ 200) : s.whole f act = act s := if_pos h

/-- Characters that make one frame, and leave none over, are that frame. -/
theorem State.hear_one (s : State) (cs : List Byte) (f : LineFrame) (h : heard cs = ([f], [])) : s.hear cs = s.take f := by
  simp [State.hear, h]

/-- Characters of a frame that has not ended are a bad frame once a gap follows them. -/
theorem State.hearGap_unfinished (s : State) (cs : List Byte) (hn : cs ≠ []) (h : heard cs = ([], cs)) : s.hearGap cs = s.badFrame cs := by
  simp [State.hearGap, State.hear, h, hn]

/-! ## The window -/

/-- A command that the order finds is the first in it. -/
theorem LoopPort.nextCommand_first (l : LoopPort) (c : Command) (h : l.nextCommand = some c) : l.FirstInOrder c := by
  unfold LoopPort.nextCommand at h
  cases ht : l.commands.find? Command.isTrip with
  | some x => rw [ht] at h; exact .inl (ht.trans h)
  | none =>
    cases hv : l.commands.find? Command.isAnyValve with
    | some x => rw [ht, hv] at h; exact .inr (.inl ⟨ht, hv.trans h⟩)
    | none =>
      rw [ht, hv] at h
      obtain ⟨before, d, after, hs, hd, hb⟩ := List.findSome?_eq_some_iff.mp (show _ = some c from h)
      refine .inr (.inr ⟨hv, d, hd, fun e he => hb e ?_⟩)
      have hp : (List.finRange 6).Pairwise (· < ·) := by decide
      have hm : e ∈ List.finRange 6 := List.mem_finRange e
      rw [hs] at hp hm
      rcases List.mem_append.mp hm with hm | hm
      · exact hm
      · rcases List.mem_cons.mp hm with rfl | hm
        · exact absurd he (Nat.lt_irrefl _)
        · exact absurd ((List.pairwise_cons.mp (List.pairwise_append.mp hp).2.1).1 e hm) (Nat.lt_asymm he)

/-- The order finds a command of the queue. -/
theorem LoopPort.nextCommand_mem (l : LoopPort) (c : Command) (h : l.nextCommand = some c) : c ∈ l.commands := by
  rcases l.nextCommand_first c h with h | ⟨-, h⟩ | ⟨-, d, h, -⟩ <;> exact List.mem_of_find?_eq_some h

/-- Where the order finds none, the queue is empty. -/
theorem LoopPort.nextCommand_none (l : LoopPort) (h : l.nextCommand = none) : l.commands = [] := by
  simp only [LoopPort.nextCommand, Option.or_eq_none_iff, List.findSome?_eq_none_iff, List.find?_eq_none] at h
  refine List.eq_nil_iff_forall_not_mem.mpr fun c hc => ?_
  cases c with
  | valve v o d t x => exact h.2.1 _ hc rfl
  | set d n => exact h.2.2 d (List.mem_finRange d) _ hc (by simp [Command.isSet])

/-- Telling an owner that its command was sent does not touch the Loop Port. -/
theorem State.commandSent_setLoop (s : State) (l : LoopPort) (c : Command) : (s.setLoop l).commandSent c = (s.commandSent c).setLoop l := by
  cases c with
  | set d n => rfl
  | valve v o d t x =>
    by_cases h : t = s.valves[v].tag ∧ s.valves[v].phase ≠ .idle
    · have k : t = (s.setLoop l).valves[v].tag ∧ (s.setLoop l).valves[v].phase ≠ .idle := h
      unfold State.commandSent; dsimp only; rw [if_pos h, if_pos k]; rfl
    · have k : ¬(t = (s.setLoop l).valves[v].tag ∧ (s.setLoop l).valves[v].phase ≠ .idle) := h
      unfold State.commandSent; dsimp only; rw [if_neg h, if_neg k]

/-- The next frame of a window is what R165 and R164 make it, whatever stands in the queues. -/
theorem State.beginNext_begins : ∀ (n : Nat) (s : State), s.loop.commands.length < n → s.Begins (State.beginNext n s)
  | 0, _, h => absurd h (Nat.not_lt_zero _)
  | n + 1, s, h => by
    unfold State.beginNext
    cases hc : s.loop.nextCommand with
    | some c =>
      have hf := s.loop.nextCommand_first c hc
      cases ha : s.commandAddress c with
      | some a =>
        obtain ⟨b, hb, hx⟩ := Option.bind_eq_some_iff.mp ha
        dsimp only
        rw [ha]
        exact .command s b c a hb hf hx
      | none =>
        refine .unsent s _ c hf (fun b hb => (Option.bind_eq_none_iff.mp ha) b hb) ?_
        have hl := List.length_erase_of_mem (s.loop.nextCommand_mem c hc)
        have hp := List.length_pos_of_mem (s.loop.nextCommand_mem c hc)
        dsimp only
        rw [ha, s.commandSent_setLoop]
        exact State.beginNext_begins n _ (by show (s.loop.commands.erase c).length < n; omega)
    | none =>
      have hn := s.loop.nextCommand_none hc
      dsimp only
      cases hb : s.beginResponse with
      | none =>
        refine .status s hn fun r rest rs h => ?_
        unfold State.beginResponse at hb
        rw [h] at hb
        cases rest <;> cases hb
      | some t =>
        unfold State.beginResponse at hb
        split at hb
        · next r rs hr => cases hb; exact .response s r [] rs hn hr
        · next r rest rs hne hr =>
          cases hb
          cases rest with
          | nil => exact (hne rfl).elim
          | cons x rest => exact .response s r (x :: rest) rs hn hr
        · cases hb

/-- The window's next frame begins. -/
theorem State.nextOwn_begins (s : State) : s.Begins s.nextOwn := State.beginNext_begins _ s (Nat.lt_succ_self _)

/-! ## Directives -/

/-- A directive that finds room and has the right length is acted on, and its response is placed. -/
theorem State.directive_acts (s : State) (code ref : Byte) (act : State → Act) (h : s.loop.responses.length < Config.responsePlaces) :
    s.directive code ref true act = (act s).1.respond code ref (act s).2 := by
  unfold State.directive; rw [if_neg (Nat.not_le.mpr h)]; rfl

/-- One of a wrong length is refused with OUT_OF_RANGE and changes nothing else. -/
theorem State.directive_length (s : State) (code ref : Byte) (act : State → Act) (h : s.loop.responses.length < Config.responsePlaces) :
    s.directive code ref false act = s.respond code ref (.refused .outOfRange []) := by
  unfold State.directive; rw [if_neg (Nat.not_le.mpr h)]; rfl

/-- One that finds the response queue full raises DIRECTIVE OVERRUN and does nothing else. -/
theorem State.directive_overrun (s : State) (code ref : Byte) (ok : Bool) (act : State → Act)
    (h : Config.responsePlaces ≤ s.loop.responses.length) : s.directive code ref ok act = s.raise srcOverrun := by
  unfold State.directive; rw [if_pos h]

/-- A refusal answered to a directive just received, absorbed or forwarded: the line has not been quiet since. -/
theorem State.respond_refuse (s : State) (code ref : Byte) (r : Reason) (data : List Byte) (h : s.loop.lineQuiet = false) :
    s.respond code ref (.refused r data) = s.refuses code ref (b8 r.code) data := by
  simp [State.respond, State.refuses, State.replied, Reply.frames, responseBody, b8, ← h]

/-- A refusal answered to an absorbed directive. -/
theorem State.absorb_refuse (s : State) (code ref : Byte) (r : Reason) (data : List Byte) :
    s.absorb.respond code ref (.refused r data) = s.refuses code ref (b8 r.code) data := s.absorb.respond_refuse code ref r data rfl

/-- An answer in one frame to an absorbed directive that changes nothing. -/
theorem State.absorb_answer (s : State) (code ref : Byte) (data : List Byte) :
    s.absorb.respond code ref (one data) = s.accepts code ref data := by
  simp [State.respond, State.absorb, State.accepts, State.replied, Reply.frames, responseBody, State.setLoop, one, b8]

/-! ## Holder changes -/

/-- A state that differs from another at most in what the Valve Controller and the Programme Unit keep, and in the yard flags of the
open interval. -/
def OnlyEvents (s t : State) : Prop := ∃ f, OnlyValves (s.yardFlag f) t

theorem YardFlags.union_none (f : YardFlags) : f.union YardFlags.none = f := by cases f; simp [YardFlags.union, YardFlags.none]
theorem YardFlags.union_assoc (f g k : YardFlags) : (f.union g).union k = f.union (g.union k) := by
  simp [YardFlags.union, Bool.or_assoc]

theorem State.yardFlag_none (s : State) : s.yardFlag YardFlags.none = s := by
  unfold State.yardFlag State.mapInterval State.setAccounts
  simp [YardFlags.union_none]

theorem OnlyEvents.of_valves {s t : State} (h : OnlyValves s t) : OnlyEvents s t := ⟨YardFlags.none, by rwa [State.yardFlag_none]⟩
theorem OnlyEvents.refl (s : State) : OnlyEvents s s := .of_valves (.refl s)

theorem OnlyValves.yardFlag {s t : State} (h : OnlyValves s t) (f : YardFlags) : OnlyValves (s.yardFlag f) (t.yardFlag f) := by
  refine ⟨h.1, h.2, h.3, h.4, h.5, h.6, ?_, h.8, h.9, h.10, h.11, h.12, h.13, h.14, h.15, h.16, h.17⟩
  simp [State.yardFlag, State.mapInterval, h.accounts]

theorem State.yardFlag_twice (s : State) (f g : YardFlags) : (s.yardFlag f).yardFlag g = s.yardFlag (f.union g) := by
  unfold State.yardFlag State.mapInterval State.setAccounts
  cases s.accounts.interval <;> simp [YardFlags.union_assoc]

theorem OnlyEvents.trans {a b c : State} (h : OnlyEvents a b) (k : OnlyEvents b c) : OnlyEvents a c := by
  obtain ⟨f, h⟩ := h
  obtain ⟨g, k⟩ := k
  exact ⟨f.union g, by rw [← State.yardFlag_twice]; exact (h.yardFlag g).trans k⟩

/-- Everything a holder change can do. -/
theorem State.holderChange_only (s : State) (b : Bank) (h : Fin 4) (lo hi : Nat) : OnlyEvents s (s.holderChange b h lo hi) := by
  have k : OnlyValves s ((((((s.evaluateTrips b.holders[h] h lo hi).settled).markSide b.holders[h] h .outlet lo hi).markSide
      b.holders[h] h .inlet lo hi).giveUp b h).settled) :=
    ((((((s.evaluateTrips_only ..).trans (State.settled_only _)).trans (State.markSide_only ..)).trans (State.markSide_only ..)).trans
      (State.giveUp_only ..)).trans (State.settled_only _))
  unfold State.holderChange
  dsimp only
  split
  · exact .of_valves k
  · exact ⟨_, k.yardFlag _⟩

theorem State.restoredChanges_only (s : State) (b : Bank) : OnlyEvents s (s.restoredChanges b) := by
  unfold State.restoredChanges
  apply forEach_keeps OnlyEvents OnlyEvents.refl OnlyEvents.trans
  intro h s; split
  · exact s.holderChange_only ..
  · exact .refl s

/-- Everything that a swap issues to other blocks can do. -/
theorem State.swapEvents_only (s : State) (before : Vector HolderRec 4) (old new : Bank) : OnlyEvents s (s.swapEvents before old new) := by
  unfold State.swapEvents
  refine OnlyEvents.trans (OnlyEvents.trans (b := forEach (State.changeAfterSwap before old new) s) ?_ ?_) (.of_valves (State.settled_only _))
  · apply forEach_keeps OnlyEvents OnlyEvents.refl OnlyEvents.trans
    intro h s; unfold State.changeAfterSwap; dsimp only; repeat' split
    all_goals first | exact s.holderChange_only .. | exact .refl s
  · apply forEach_keeps OnlyEvents OnlyEvents.refl OnlyEvents.trans
    intro h s; unfold State.tripsAfterSwap; dsimp only; split
    · exact .of_valves ((s.evaluateTrips_only ..).trans (State.settled_only _))
    · exact .refl s

/-! ## Time -/

@[simp] theorem State.passTo_reached (s : State) (t : Nat) (h : t ≤ s.timebase) : (s.passTo t).timebase = s.timebase := by
  simp [State.passTo, State.passMs]; omega
@[simp] theorem Clock.advance_valid (c : Clock) (n : Nat) : (c.advance n).valid = c.valid := by
  unfold Clock.advance; repeat' (first | rfl | split)
@[simp] theorem Clock.advance_slot (c : Clock) (n : Nat) : (c.advance n).slot = c.slot := by
  unfold Clock.advance; repeat' (first | rfl | split)

/-! ## The logs -/

/-- A log that a record enters never holds more than its size. -/
theorem enterLog_length {α : Type} (n : Nat) (log : List α) (x : α) : (enterLog n log x).length ≤ n := by
  simp [enterLog]; omega

end Sys2Proof.Machine
end

