-- ==== Sys2Proof/Tests/Slice0.lean ====
section
/-! SUPPORT. The model's own tests: the well-formedness checks, the worked cases of the manual, and for every statement with hypotheses
a state and operands that meet them. The expected values are the manual's. -/

namespace Sys2Proof.Tests

open Sys2Proof Sys2Proof.Machine

/- Each kernel evaluation waits for those before it; one at a time keeps the number of waiting threads small. -/
set_option Elab.async false

/-! ## Well-formed terms -/

theorem test_wf_ok :
    (Instr.scanHead 255 0 7 true).wf = true ∧ (Instr.characterGap [165, 1]).wf = true ∧
      (Instr.badFrameReceived [165, 1, 2, 3, 201]).wf = true ∧ (Instr.badFrameReceived [165, 1, 2, 3, 0, 0, 0]).wf = true := by
  decide +kernel
theorem test_wf_source : (Instr.scanHead 255 251 7 true).wf = false := by decide
theorem test_wf_body : (Instr.scanTail 255 0 (List.replicate 201 0)).wf = false := by decide +kernel
theorem test_wf_cuts : (Instr.powerLoss false [1, 1]).wf = false := by decide
theorem test_wf_bad_lead : (Instr.badFrameReceived [164, 1]).wf = false := by decide
theorem test_wf_bad_is_valid : (Instr.badFrameReceived (Frame.chars ⟨255, 0, 1, [7]⟩)).wf = false := by decide +kernel
theorem test_wf_bad_goes_on : (Instr.badFrameReceived [165, 1, 2, 3, 201, 7]).wf = false := by decide +kernel
theorem test_wf_gap_lead : (Instr.characterGap [1, 165]).wf = false ∧ (Instr.characterGap []).wf = false := by decide +kernel
theorem test_wf_gap_ended : (Instr.characterGap [165, 1, 2, 3, 201]).wf = false := by decide +kernel
theorem test_wf_forwarded : (Instr.frameForwarded 255 0 2 []).wf = false := by decide
theorem test_wf_samples : (Instr.liftReport 1 10 0 0 (List.replicate 198 0)).wf = false := by decide +kernel
theorem test_wf_quality : (Instr.pointReport 1 40 0 4).wf = false := by decide
theorem test_wf_position : (Instr.valvePositionReport 1 20 5).wf = false := by decide
theorem test_wf_reason : (Instr.answerRefused 1 20 0 0).wf = false := by decide
theorem test_wf_status : (Instr.governorReport 1 50 0 2).wf = false := by decide
theorem test_wf_unknown : (Instr.directiveUnknown [22, 0]).wf = false := by decide
theorem test_wf_params : (Instr.loadSegment 0 (List.replicate 199 0)).wf = false := by decide +kernel
theorem test_wf_discarded : (Instr.directiveDiscarded 0 [8, 1, 1]).wf = false := by decide

/-! ## A yard -/

/-- Holder H2 of section 1.10. -/
def entryH2 : HolderEntry :=
  { fitted := 1, kind := 0, travel := 6000, lifts := 3, cups := #v[2200, 4700, 0], incs := #v[180, 170, 0], base := 450, nBreaks := 3,
    nDatums := 2, datums := #v[1000, 4720, 0, 0], slipTol := 12, cupTol := 25, lowStop := 300, nearEmpty := 900, nearFull := 5400,
    highStop := 5800, rePermit := 100, changeover := 500, inletTime := 60, outletTime := 90, tempPoint := 5, presPoint := 6 }

/-- A bank with H1 and H2, meters M3 to M5, eight points, and the district D2 of section 6.7. The correction entries are those of the
worked cases of sections 3.5 and 3.7. -/
def bank : Bank :=
  { Bank.blank with
    stationMap := Bank.blank.stationMap.set 0 ⟨10, 2, 0, 1⟩ |>.set 1 ⟨20, 4, 3, 1⟩ |>.set 2 ⟨30, 3, 1, 3⟩ |>.set 3 ⟨40, 8, 2, 1⟩
      |>.set 4 ⟨50, 1, 4, 2⟩ |>.set 5 ⟨60, 1, 5, 1⟩ |>.set 6 ⟨61, 1, 6, 1⟩,
    holders := Bank.blank.holders.set 0 { entryH2 with presPoint := 7 } |>.set 1 entryH2,
    geometry := Bank.blank.geometry.set 1 ⟨3000, 1500⟩ |>.set 2 ⟨6000, 3300⟩ |>.set 17 ⟨3000, 1500⟩ |>.set 18 ⟨6000, 3300⟩,
    meters := Bank.blank.meters.set 2 ⟨2, 1000, 4, 60, 100, 1, 2, 0⟩ |>.set 3 ⟨1, 1000, 8, 60, 100, 1, 2, 0⟩
      |>.set 4 ⟨2, 1000, 4, 60, 100, 1, 2, 0⟩,
    correction := (Vector.replicate 221 10000).set 61 10338 |>.set 62 10425 |>.set 74 10213 |>.set 75 10298 |>.set 220 9430,
    slots := Vector.replicate 48 #v[2, 1, 0, 0], orders := #v[⟨2, #v[1, 2, 0, 0]⟩, ⟨2, #v[2, 1, 0, 0]⟩],
    districts := Bank.blank.districts.set 1 ⟨1, 400, 1200, 200, 400, 10, 40, 250, 450, 3, 150, 50, 5, 3, 4, 5⟩,
    schedules := Vector.replicate 288 600, yard := ⟨30, 6, 60, 600, 4800⟩, attention := Vector.replicate 74 ⟨1, 1⟩ }

/-- The open interval of section 7.9 before its close, M4 standing in for M7. -/
def interval : OpenInterval :=
  { identity := some ⟨1204, 23⟩, nominalStart := some ⟨1204, 63000⟩, nominalEnd := some ⟨1204, 64800⟩, openTime := some ⟨1204, 63000⟩, generation := 37,
    channels := (Vector.replicate 12 (newShare 0 false ⟨0, 0⟩)).set 2
        ⟨2, 5, 5000, 51533500, 257725000000, 4500, 80000000, ChannelFlags.none⟩
      |>.set 3 ⟨1, 7, 7000, 71750000, 344400000000, 0, 0, ChannelFlags.none⟩,
    stockOpen := #v[480, 2610, 0, 0], stockUncertainOpen := false, stockHeldOpen := false,
    yard := { YardFlags.none with cvDeclared := true } }

/-- A record of H2 at a count. -/
def recordH2 (count : Nat) (certain : Bool) : HolderRec :=
  HolderRec.placeAt bank 1 { HolderRec.restored none 0 with certain := certain, ref := some ⟨false, true⟩ } count

/-- A point that is FRESH. -/
def fresh (v : Int) : PointRec := ⟨.fresh, some v, .good, some 900, some ⟨v, .good, 900, true⟩⟩

/-- The yard in RUNNING mode at 17:45 of day 1,204. -/
def demo : State :=
  { State.poweredOn 1 Nonvolatile.initial
      { TableStore.initial with
        live := some bank, generation := 37, pending := bank, marks := Vector.replicate 12 true, store := .valid, storeGen := 37,
        copy := some bank } [] 0 with
    timebase := 1000, clock := ⟨true, 1204, 63900, 0, true, some ⟨36, 1204⟩⟩,
    accounts := ⟨some interval, ⟨[], [], none, 10441⟩, none⟩,
    holders := #v[recordH2 2000 true, recordH2 4690 true, HolderRec.restored none 0, HolderRec.restored none 0],
    channels := (Vector.replicate 12 ChannelRec.initial).set 2
      { ChannelRec.initial with state := .measuring, reference := some 65530, window := some ⟨61000, 500, 0⟩, stallStart := some 500 },
    points := (Vector.replicate 24 PointRec.initial).set 4 (fresh 523) |>.set 5 (fresh 600) |>.set 2 (fresh 1150)
      |>.set 3 (fresh 310),
    barometer := fresh 29875, calorimeter := fresh 5000,
    valves := (Vector.replicate 8 { ValveRec.initial with state := .shut }),
    prog := { Programme.initial with roles := Vector.replicate 4 { RoleRec.initial with role := some .standby } },
    districts := (Vector.replicate 6 DistrictRec.initial).set 1
      { DistrictRec.initial with lastSent := some 940, trim := 20, refresh := 3, sendDue := false, reviewTimer := some 61000 } }

/-- The yard with the loop port changed. -/
def onLoop (f : LoopPort → LoopPort) : State := { demo with loop := f demo.loop }
/-- The yard with valve V3, the inlet of H2, changed. -/
def withV3 (f : ValveRec → ValveRec) : State := demo.setValve 2 (f demo.valves[2])
/-- V3 being opened by the desk, its SELECT sent. -/
def opening : ValveRec :=
  { ValveRec.initial with state := .opening, demand := some ⟨.toOpen, .desk⟩, phase := .selectSent, tag := 9, answerTimer := some 6000 }
/-- A part that has never held a bank, its pending bank loaded. -/
def loaded : State :=
  { State.reset with tables := { State.reset.tables with pending := bank, marks := Vector.replicate 12 true } }
/-- The yard with H1 sending at its near-empty level, its mark set and its outlet OPEN: a changeover to H2 is due. -/
def changing : State :=
  ((demo.setHolder 0 (recordH2 900 true)).mapRole 0 fun _ => ⟨some .send, false, false, true, false⟩).setValve 1
    { ValveRec.initial with state := .opened }
/-- That changeover in flight: V4, the outlet of H2, is being opened, and V2 waits to be shut. -/
def inChange : Transition :=
  ⟨.send, false, some 0, some 1, false, [⟨0, some .send, some .standby⟩, ⟨1, some .standby, some .send⟩], [⟨3, .inFlight⟩], [⟨1, .waiting⟩]⟩
/-- A frame of some other sender. -/
def someFrame : LineFrame := .valid ⟨3, 4, 8, []⟩

theorem test_bank_sound : bank.broken 1 = none := by decide +kernel
theorem test_bank_own_address : (bank.broken 11).isSome = true := by decide +kernel

/-! ## Worked cases of the manual -/

/-- Section 1.10: the first report, six samples and datum 2 at sample 5. -/
theorem test_lift_report :
    (liftRun entryH2 1 (recordH2 4690 true) ⟨false, true⟩
      ⟨2, 5, [⟨true, true⟩, ⟨true, false⟩, ⟨false, false⟩, ⟨false, true⟩, ⟨true, true⟩, ⟨true, false⟩]⟩ 1000) =
      ⟨4721, true, ⟨true, false⟩, 4690, 4721, true, none, some ⟨2, -25, 1000⟩, some 4720, [srcSlip 1]⟩ := by decide +kernel
/-- A datum at its own count makes an UNCERTAIN holder CERTAIN, and a SKIP after it UNCERTAIN again: a change all the same (log 57). -/
theorem test_datum_then_skip :
    let u := liftRun entryH2 1 (recordH2 4720 false) ⟨false, true⟩ ⟨2, 1, [⟨false, true⟩, ⟨true, false⟩]⟩ 1000
    (u.count, u.certain, u.lo, u.hi, u.changed) = (4720, false, 4720, 4720, true) := by decide +kernel
/-- R10, R17: a datum height above lift 3's cup height starts the cup check again, though six samples back take the count below it again. -/
theorem test_datum_restarts_cup_check :
    let b : Bank := { bank with holders := bank.holders.set 1 { entryH2 with datums := #v[1000, 4705, 0, 0] } }
    let r : HolderRec := { recordH2 4690 true with outRun := 2 }
    let back : List Track := [⟨false, true⟩, ⟨false, false⟩, ⟨true, false⟩, ⟨true, true⟩, ⟨false, true⟩, ⟨false, false⟩, ⟨true, false⟩]
    let t := (liftRun b.holders[1] 1 r ⟨false, true⟩ ⟨2, 1, back⟩ 1000).record b 1 r
    (t.count, t.cupped, t.outRun) = (4699, r.cupped, 0) := by decide +kernel
/-- Section 1.10: what follows from counts 4,690 and 4,721. -/
theorem test_lift_count :
    ((recordH2 4690 true).expected, (recordH2 4690 true).geoVolume, (recordH2 4721 true).cupped, (recordH2 4721 true).expected) =
      (630, 2514, [2, 3], 800) := by decide +kernel
/-- Section 1.10: the third outside reading sets LIFT FAULT. -/
theorem test_cup_check : ({ recordH2 4721 true with outRun := 2 }.cupCheck 25 640).2 = (true, false) := by decide +kernel
/-- Section 3.5: the factor of the worked case, and the far corner. -/
theorem test_factor : bank.factorOf 523 29875 600 = (10303, false) ∧ bank.factorOf 1180 30950 1000 = (9430, true) := by decide +kernel
/-- Section 3.7: the stock of H2 at count 4,725 with its gauge FRESH. -/
theorem test_stock : (demo.setHolder 1 (recordH2 4725 true)).holderStock bank 1 = (2612, InputFlags.none) := by decide +kernel
/-- Section 3.7: the same stock with the gauge HELD. -/
theorem test_stock_held :
    ((demo.setHolder 1 (recordH2 4725 true)).setPoint 5 { fresh 600 with state := .held }).holderStock bank 1 =
      (2625, { InputFlags.none with held := true }) := by decide +kernel
/-- Section 2.4: the rate from the fine elapsed time. -/
theorem test_rate :
    ({ ChannelRec.initial with window := some ⟨61000, 200000, 0⟩ }.actWindow bank.meters[2] 6 ⟨0, 9864, 214520⟩).rate = 1500000 := by
  decide +kernel
/-- Section 6.7: the review of district D2. -/
theorem test_review :
    let g := (demo.setChannel 4 { ChannelRec.initial with state := .measuring, rate := 150400 }).stages bank 1 37
    (g.s, g.boost, g.trim, g.target4, g.target5, g.limited, g.result) = (600, 400, 20, 1020, 1000, true, 990) := by decide +kernel
/-- Section 7.3: two identities of gas day 1,204. -/
theorem test_identity :
    ((⟨30, 6, 60, 600, 4800⟩ : YardEntry).place ⟨1204, 63300⟩, ((⟨30, 6, 60, 600, 4800⟩ : YardEntry).place ⟨1205, 7800⟩).identity) =
      (⟨some ⟨1204, 23⟩, some ⟨1204, 63000⟩, some ⟨1204, 64800⟩⟩, some ⟨1204, 40⟩) := by decide
/-- Section 7.9: the division of M3's accumulators. -/
theorem test_close :
    (interval.channels[2].closed.corrected, interval.channels[2].closed.volumeOut, interval.channels[2].closed.energy,
      interval.channels[2].closed.energyOut) = (5153, 3500, 2577, 25000000) := by decide +kernel
/-- A command on the line whose operation gains a TRIP origin comes back as a trip-origin command (log 94). -/
theorem test_promoted_on_line :
    let l : LoopPort := { demo.loop with tx := .own (.command (.valve 2 true .toShut 9 false) ⟨22, 1, 4, [2, 9, 0]⟩ false), buffer := List.replicate 8 someFrame }
    ((l.promote 2).enter someFrame).commands = [.valve 2 true .toShut 9 true] := by decide +kernel
/-- Section 11.1: the check over the nine characters "123456789". -/
theorem test_check : checkOf [0x31, 0x32, 0x33, 0x34, 0x35, 0x36, 0x37, 0x38, 0x39] = 0x29B1 := by decide +kernel
/-- R156, R180: a first power-on gives the reset state. -/
theorem test_power_on : State.reset.powerOn 1 true = State.reset := by decide +kernel
/-- No word spells a command. -/
theorem test_no_word : decodeTableWord 16 0 = none := rfl

/-! ## Witnesses: for each statement, states and operands that meet its hypotheses, clause by clause -/

theorem wit_IdleStep : demo.pending = [] ∧ demo.power = .on ∧ (demo.setPower .unpowered).power ≠ .on := by decide +kernel

theorem demo_banks : demo.BanksOk := by
  refine ⟨fun b h => ?_, fun h => ?_⟩
  · obtain rfl : bank = b := by simpa [demo, State.poweredOn] using h
    exact test_bank_sound
  · simp [demo, State.poweredOn, TableStore.initial] at h

theorem demo_permits : demo.PermitOk := by
  intro v
  refine ⟨?_, ?_, ?_, ?_⟩ <;> revert v <;>
    simp [demo, State.poweredOn, ValveRec.initial, PermRec.initial, State.live]

/-- The invariants hold of the yard, and a step from it answers a next state: for ClockKept, LogsKept, BoundsKept, QueueKept,
AttentionKept, BanksKept, IntervalKept, PermitsKept and RunsKept. -/
theorem wit_invariants :
    demo.clock.Ok ∧ demo.LogsOk ∧ demo.loop.LineOk ∧ demo.prog.Ok ∧ demo.loop.QueueOk ∧ demo.attn.Ok ∧ demo.BanksOk ∧
      demo.IntervalOk ∧ demo.PermitOk ∧ demo.RunsOk ∧ ∃ t, step demo = .next t := by
  refine ⟨⟨by decide, by decide, by decide⟩, ?_, ⟨by decide, by decide⟩, List.nodup_nil, ?_, ⟨by decide, by decide, by decide⟩, demo_banks,
    ?_, demo_permits, ?_, _, rfl⟩
  · refine ⟨⟨?_, ?_, ?_⟩, ⟨?_, ?_, ?_⟩, ?_, ?_, ?_⟩ <;> simp [demo, State.poweredOn, Nonvolatile.initial, Logs.empty]
  · unfold LoopPort.QueueOk; decide +kernel
  · unfold State.IntervalOk; decide +kernel
  · refine ⟨by unfold HolderRec.RunsOk; decide +kernel, by unfold DistrictRec.Ok; decide +kernel, fun d => ⟨fun b _ _ => ?_, fun h => ?_⟩⟩
    · have h : ∀ d : Fin 6, demo.districts[d].lowRun = 0 ∧ demo.districts[d].highRun = 0 := by decide +kernel
      exact ⟨Nat.le_trans (Nat.le_of_eq (h d).1) (Nat.zero_le _), Nat.le_trans (Nat.le_of_eq (h d).2) (Nat.zero_le _)⟩
    · simp [State.live, demo, State.poweredOn] at h

/-- For AttentionKept. Entries of two classes, in order; the entry created last stands before that of the other class. -/
theorem wit_AttentionInOrder :
    let a := ((Attention.initial.occur 3 .routine ⟨0, 0, true⟩).occur 4 .prompt ⟨0, 1, true⟩).occur 5 .prompt ⟨0, 2, true⟩
    a.InOrder ∧ a.Ok ∧ a.items.map AttnItem.serial = [1, 2, 0] := by
  unfold Attention.InOrder Attention.Ok; decide +kernel

/-- The nine characters' check, a frame with noise before it and characters after it, one of length 201, and one of a wrong check. -/
theorem wit_FrameCheck :
    heard (7 :: Frame.chars ⟨255, 0, 1, [7]⟩ ++ [165, 3]) = ([.valid ⟨255, 0, 1, [7]⟩], [165, 3]) ∧
      heard [165, 1, 2, 3, 201, 9] = ([.bad [165, 1, 2, 3, 201]], []) ∧
      [0, 0] ≠ halfBytes (checkOf [1, 2, 3, 0]) ∧ heard [165, 1, 2, 3, 0, 0, 0] = ([.bad [165, 1, 2, 3, 0, 0, 0]], []) := by
  decide +kernel

theorem wit_OneCharacterChanged :
    validChars (Frame.chars ⟨1, 0, 6, [8, 1, 1]⟩) = true ∧ (Frame.chars ⟨1, 0, 6, [8, 1, 1]⟩).length = 10 := by decide +kernel

/-- Also for DiscardAndReadTable and ReadRecords, with `wit_ReadTable`. -/
theorem wit_canAnswer : demo.canAnswer ∧ loaded.canAnswer ∧ (onLoop fun l => { l with responses := List.replicate 7 [] }).canAnswer := by
  unfold State.canAnswer; decide +kernel

/-- The last entry of the schedules, table 10, and the whole of the yard settings, table 11. -/
theorem wit_LoadSegment :
    demo.canAnswer ∧ demo.tables.committed = false ∧ (287 + 1 ≤ entryCount 10 ∧ 1 * entrySize 10 = 2) ∧
      (0 + 1 ≤ entryCount 11 ∧ 1 * entrySize 11 = 8) ∧ 24 * entrySize 10 ≤ 194 := by
  unfold State.canAnswer; decide +kernel

/-- For LoadSegment. A bank COMMITTED with an entry of its length, a segment that runs one entry past its table, and a body one byte short. -/
theorem wit_LoadRefused :
    let s := demo.setTables { demo.tables with committed := true }
    s.canAnswer ∧ s.tables.committed = true ∧ (List.replicate 2 (0 : Byte)).length = 1 * entrySize 10 ∧
      entryCount 10 < 287 + 2 ∧ 2 * entrySize 10 ≤ 194 ∧ (List.replicate 1 (0 : Byte)).length ≠ 1 * entrySize 10 := by
  unfold State.canAnswer; decide +kernel

/-- The clauses of CorrectionFactor: a cell's corner, the far corner, and a table whose entries lie in range. -/
theorem wit_CorrectionFactor :
    (650 - 300) - 50 * ((650 - 300) / 50) = 0 ∧ (29250 - 28000) - 250 * ((29250 - 28000) / 250) = 0 ∧
      (bank.factorOf 650 29250 0) = (bank.factor 7 5, false) ∧ (bank.factorOf 1100 31000 0) = (bank.factor 16 12, false) ∧
      (bank.factorOf 299 27999 0).2 = true ∧ (bank.correction.toList.all fun x => decide (7000 ≤ x) && decide (x ≤ 13000)) = true := by
  decide +kernel

theorem wit_ClockAdvance :
    demo.clock.Ok ∧ demo.clock.advancing = true ∧ demo.clock.totalMs + 1 < (65535 * 86400 + 86399) * 1000 ∧
      (⟨true, 65535, 86398, 999, true, none⟩ : Clock).Ok ∧
      (65535 * 86400 + 86399) * 1000 ≤ (⟨true, 65535, 86398, 999, true, none⟩ : Clock).totalMs + 1 := by
  unfold Clock.Ok; decide +kernel

/-- The last second before hour G of day 0 and that hour; the last day; and the clock INVALID. -/
theorem wit_IntervalHoldsTime :
    Clock.initial.valid = false ∧ demo.clock.valid = true ∧ (bank.yard.place ⟨65535, 86399⟩).nominalEnd = none ∧
      (bank.yard.place ⟨65535, 86399⟩).nominalStart = some ⟨65535, 84600⟩ ∧
      (bank.yard.length = 30 ∧ bank.yard.gasHour ≤ 23) ∧ (21599 < bank.yard.gasHour * 3600 ∧ bank.yard.gasHour * 3600 ≤ 21600) := by
  decide +kernel

/-- The last sent setpoint below, at and above the target, with and without the headroom clamp, and absent. -/
theorem wit_ReviewResult :
    bank.districts[1].minSet ≤ bank.districts[1].maxSet ∧
      (let g (l : Option Nat) (p : Int) := ((demo.setDistrict 1 { demo.districts[1] with lastSent := l }).setPoint 2 (fresh p)).stages bank 1 37
       (g (some 619) 1150).target6 = 620 ∧ (g (some 619) 1150).limited = false ∧ (g (some 650) 700).target6 = 550 ∧
         (g (some 650) 700).limited = true ∧ (g none 1150).target6 = 620 ∧ (g (some 1300) 1150).result = 1200) := by decide +kernel

theorem wit_VolumeFollowsCount :
    (bank.breakpoints 1).Pairwise (fun p q => p.1 < q.1 ∧ p.2 ≤ q.2) ∧ bank.breakpoints 1 = [(0, 0), (3000, 1500), (6000, 3300)] ∧
      volumeAt (bank.breakpoints 1) 2999 = 1499 ∧ volumeAt (bank.breakpoints 1) 5999 = 3299 := by decide +kernel

/-- The through-buffer at 7 and at 8 frames, with the transmitter in each condition; and bodies of 200 and 201 characters. -/
theorem wit_FrameForwarded :
    let full := List.replicate 8 someFrame
    demo.power = .on ∧
      (onLoop fun l => { l with tx := .through someFrame, buffer := List.replicate 7 someFrame }).loop.buffer.length < 8 ∧
      8 ≤ (onLoop fun l => { l with tx := .own (.command (.set 1 600) ⟨50, 1, 4, [3, 2, 88]⟩ false), buffer := full }).loop.buffer.length ∧
      8 ≤ (onLoop fun l => { l with tx := .own (.response ⟨0, 1, 7, []⟩ true), responses := [[]], buffer := full }).loop.buffer.length ∧
      full = someFrame :: List.replicate 7 someFrame ∧ demo.loop.tx = .idle ∧ demo.loop.buffer = [] ∧
      (List.replicate 200 (0 : Byte)).length ≤ 200 ∧ 200 < (List.replicate 201 (0 : Byte)).length := by decide +kernel

/-- For FrameForwarded. A frame of each kind that is only forwarded: a COMMAND and an unknown kind; a SCAN HEAD without a cycle number; a
DIRECTIVE to another address, a broadcast one of another code, of another source and of one byte; an ANSWER to another address. -/
theorem wit_OnlyForwards :
    demo.OnlyForwards ⟨3, 0, 4, []⟩ ∧ demo.OnlyForwards ⟨3, 0, 9, [1]⟩ ∧ demo.OnlyForwards ⟨255, 0, 1, []⟩ ∧
      demo.OnlyForwards ⟨2, 0, 6, [13, 0, 1]⟩ ∧ demo.OnlyForwards ⟨255, 0, 6, [22, 0]⟩ ∧ demo.OnlyForwards ⟨255, 3, 6, [13, 0]⟩ ∧
      demo.OnlyForwards ⟨255, 0, 6, [13]⟩ ∧ demo.OnlyForwards ⟨2, 22, 5, [9, 1, 1]⟩ := by
  simp [State.OnlyForwards, demo, State.poweredOn]

/-- For FrameForwarded. An ANSWER of a meter's station, and one of a valve's with an unlisted reason; REPORTs that are too long or too short
for their role, or hold an unlisted position; and any of them in UNCONFIGURED mode. -/
theorem wit_Unrouted :
    bank.resolve 30 = some (.meter 2) ∧ bank.resolve 22 = some (.valve 2) ∧ bank.resolve 11 = some (.lift 1) ∧
      ¬AnswerRouted [9, 3, 4] ∧ ¬AnswerRouted [9, 2, 1] ∧ ¬AnswerRouted [9, 1] ∧ ¬(Station.meter 2).Routed [0, 1, 2] ∧
      ¬(Station.valve 2).Routed [5] ∧ ¬(Station.lift 1).Routed [2, 0, 0, 1] ∧
      State.reset.OnlyForwards ⟨1, 22, 5, [9, 1, 1]⟩ ∧ State.reset.OnlyForwards ⟨1, 30, 3, [0, 1, 2, 3]⟩ := by
  refine ⟨by decide +kernel, by decide +kernel, by decide +kernel, ?_⟩
  simp [AnswerRouted, Station.Routed, State.OnlyForwards, State.live, State.reset, State.poweredOn, TableStore.initial]

theorem wit_UnroutedReports : bank.resolve 62 = none ∧ demo.power = .on ∧ State.reset.live = none := by
  refine ⟨by decide +kernel, rfl, rfl⟩

/-- The SCAN TAIL sent, with nothing, one frame and one more SCAN TAIL behind it; and a window that opened meanwhile. -/
theorem wit_ThroughFrameSent :
    let tail : LineFrame := .valid ⟨255, 0, 2, []⟩
    let s (q : List LineFrame) (w : Window) := onLoop fun l => { l with tx := .through tail, window := w, lineQuiet := true, buffer := q }
    (s [] .armed).power = .on ∧ (s [] .armed).loop.tx = .through tail ∧ (s [] .armed).loop.window ≠ .sending ∧
      (s [] .armed).loop.buffer = [] ∧ (s [someFrame] .armed).loop.buffer = [someFrame] ∧ (s [] .sending).loop.window = .sending ∧
      (tail.isTail && !(s [someFrame] .armed).loop.buffer.any LineFrame.isTail) = true ∧
      (tail.isTail && !(s [tail] .armed).loop.buffer.any LineFrame.isTail) = false := by decide +kernel

theorem wit_CheckErrors :
    let s (n : Nat) (m : Bool) := onLoop fun l => { l with checkErrors := n, checkMark := m }
    heard [165, 1, 2, 3, 201] = ([.bad [165, 1, 2, 3, 201]], []) ∧ heard [165, 1] = ([], [165, 1]) ∧
      (Instr.frameForwarded 3 4 8 []).wf = true ∧ (s 7 false).power = .on ∧ 8 ≤ min 255 ((s 7 false).loop.checkErrors + 1) ∧ min 255 ((s 6 false).loop.checkErrors + 1) < 8 ∧
      (s 255 true).loop.checkMark = true := by decide +kernel

/-- Also for ScanTail and, with the loop LOST, for LossExpiry. -/
theorem wit_ScanHead : demo.power = .on ∧ demo.loop.lost = false := by decide

/-- One holder's valve with a demand and the others without, an unfitted holder's among them. -/
theorem wit_LoopRecovery :
    let s := (withV3 fun _ => opening).setLoop { demo.loop with lost := true }
    s.power = .on ∧ s.loop.lost = true ∧ s.live = some bank ∧ s.prog.notices = [] ∧ s.prog.deferred = [] ∧
      s.valves[2].demand = some ⟨.toOpen, .desk⟩ ∧ s.valves[3].demand = none ∧ bank.fitted (holderOf 3) = true ∧
      bank.fitted (holderOf 4) = false ∧ (attnMap (some bank) srcLoopLost).1 = true ∧ s.attn.deferred = none ∧
      (s.setAttn { s.attn with deferred := some ⟨1204, 63890, true⟩ }).attn.deferred = some ⟨1204, 63890, true⟩ := by
  refine ⟨rfl, rfl, rfl, rfl, rfl, rfl, rfl, by decide +kernel, by decide +kernel, by decide +kernel, rfl, rfl⟩

/-- For LoopRecovery. A trigger that waits, and that leaves the programme idle when it is built at once and when it is built on valves set
UNKNOWN; and a part without a live bank. -/
theorem wit_RecoveryTakes :
    let s : State := { changing.setLoop { changing.loop with lost := true } with prog := { changing.prog with deferred := [.send] } }
    let up : State := { s with loop := { s.loop with lost := false }, prog := { s.prog with deferred := [] } }
    s.loop.lost = true ∧ s.prog.notices = [] ∧ s.prog.transition = none ∧ s.clock.valid = true ∧ s.prog.deferred = [.send] ∧
      (up.buildTrigger bank .send).ProgrammeIdle ∧ (up.buildTrigger bank .send).prog.transition ≠ none ∧
      ((up.valvesRecover bank).buildTrigger bank .send).ProgrammeIdle ∧ State.reset.live = none := by
  refine ⟨rfl, rfl, rfl, rfl, rfl, ⟨by decide +kernel, .inl (by decide +kernel)⟩, by decide +kernel,
    ⟨by decide +kernel, .inl (by decide +kernel)⟩, rfl⟩

/-- A trip command behind another valve command and a SET, a SET alone, a command without a station, a response, and nothing but the
STATUS frame; and a frame that passes still being sent. -/
theorem wit_WindowOpens :
    let s (q : List Command) := onLoop fun l => { l with window := .armed, tailForwarded := true, commands := q }
    let trip : Command := .valve 3 false .toShut 4 true
    let q : List Command := [.set 1 600, .valve 0 false .toOpen 1 false, trip]
    (s q).power = .on ∧ (s q).live = some bank ∧ (s q).loop.window = .armed ∧ (s q).loop.tailForwarded = true ∧ (s q).loop.buffer = [] ∧
      (s q).loop.tx = .idle ∧ q.find? Command.isTrip = some trip ∧ bank.addressOf trip.station = some 23 ∧
      bank.addressOf (Command.set 1 600).station = some 50 ∧ [Command.set 1 600].find? Command.isAnyValve = none ∧
      [Command.set 1 600].find? (·.isSet 1) = some (.set 1 600) ∧ [Command.set 1 600].find? (·.isSet 0) = none ∧
      bank.addressOf (Command.set 0 600).station = none ∧ (Tx.through someFrame : Tx) ≠ .idle := by
  refine ⟨rfl, rfl, rfl, rfl, rfl, rfl, ?_⟩; decide +kernel

/-- For WindowOpens. A STATUS frame with one entry. -/
theorem wit_StatusBody :
    let s := demo.setAttn (Attention.initial.occur 3 .prompt ⟨1204, 63890, true⟩)
    s.tables.generation < 2 ^ 16 ∧ s.clock.day < 2 ^ 16 ∧ s.clock.sec < 2 ^ 24 ∧
      s.attn.items[0]? = some ⟨3, .prompt, 1, ⟨1204, 63890, true⟩, 0⟩ ∧ s.statusBody.length = 20 := by decide +kernel

theorem wit_OwnFrameSent :
    let s (n : Nat) (o : OwnFrame) := (withV3 fun _ => opening).setLoop
      { demo.loop with window := .sending, tx := .own o, buffer := List.replicate n someFrame }
    let cmd (tag : Byte) : OwnFrame := .command (.valve 2 false .toOpen tag false) ⟨22, 1, 4, [1, tag, 1]⟩ false
    let set : OwnFrame := .command (.set 1 600) ⟨50, 1, 4, [3, 2, 88]⟩ false
    (s 6 (cmd 9)).power = .on ∧ (s 6 (cmd 9)).valves[2].tag = 9 ∧ (8 : Byte) ≠ (s 6 (cmd 8)).valves[2].tag ∧
      (s 6 (cmd 9)).valves[2].phase ≠ .idle ∧ demo.valves[2].phase = .idle ∧ 6 ≤ (s 6 (cmd 9)).loop.buffer.length ∧
      (s 5 (.response ⟨0, 1, 7, []⟩ false)).loop.buffer.length < 6 ∧ (s 5 set).loop.tx = .own set ∧
      (s 0 (.status ⟨0, 1, 8, []⟩)).loop.buffer = [] := by
  decide +kernel

/-- A SKIP, a step at each limit, a step that counts, and no reference. -/
theorem wit_LiftSample :
    demo.power = .on ∧ demo.live = some bank ∧ bank.resolve 11 = some (.lift 1) ∧ bank.fitted 1 = true ∧
      demo.holders[1].ref = some ⟨false, true⟩ ∧ trackStep ⟨false, true⟩ (trackOf 2) = none ∧
      trackStep ⟨false, true⟩ (trackOf 3) = some 1 ∧ trackStep ⟨false, true⟩ (trackOf 0) = some (-1) ∧
      bank.holders[1].travel ≤ (recordH2 6000 true).count ∧ (recordH2 0 true).count = 0 ∧ (HolderRec.restored none 0).ref = none ∧
      demo.holders[1].certain = true ∧ (recordH2 0 false).certain = false := by
  refine ⟨rfl, rfl, ?_⟩; decide +kernel

/-- The counts held over the samples of a list, doubts among them, lie in a range where those of its prefixes do. -/
theorem reckon_bounds (r : Track) (n0 lo hi : Nat) (xs : List Byte)
    (all : ∀ j : Fin (xs.length + 1), lo ≤ (reckon 6000 r n0 ((xs.take j).map trackOf)).1 ∧ (reckon 6000 r n0 ((xs.take j).map trackOf)).1 ≤ hi)
    (k : Nat) : lo ≤ (reckon 6000 r n0 ((xs.take k).map trackOf)).1 ∧ (reckon 6000 r n0 ((xs.take k).map trackOf)).1 ≤ hi := by
  have e : xs.take k = xs.take (min k xs.length) := by simp [List.take_eq_take_iff]
  rw [e]
  exact all ⟨min k xs.length, by omega⟩

/-- For LiftSample. A SKIP between two steps that count, two steps refused at the maximum travel and one at 0, bits above the tracks set;
the lowest and the highest count held; and reports of 0, 17 and 197 samples. -/
theorem wit_LiftDoubts :
    reckon 6000 ⟨false, true⟩ 4690 ([3, 252, 1].map trackOf) = (4692, [] ++ [.skip]) ∧
      reckon 6000 ⟨false, true⟩ 6000 ([3, 2, 3].map trackOf) = (5999, [.highLimit] ++ [.highLimit]) ∧
      reckon 6000 ⟨false, true⟩ 0 ([0, 1].map trackOf) = (1, [] ++ [.lowLimit]) ∧
      Spans (fun c => ∃ k, (reckon 6000 ⟨false, true⟩ 4690 (([3, 252, 1].take k).map trackOf)).1 = c) 4690 4692 ∧
      Spans (fun c => ∃ k, (reckon 6000 ⟨false, true⟩ 4690 (([2].take k).map trackOf)).1 = c) 4690 4690 ∧
      bank.holders[1].travel = 6000 ∧ 16 < (List.replicate 17 (0 : Byte)).length ∧ (List.replicate 197 (0 : Byte)).length ≤ 197 := by
  refine ⟨by decide +kernel, by decide +kernel, by decide +kernel, ⟨⟨0, rfl⟩, ⟨3, by decide +kernel⟩, fun n ⟨k, h⟩ => ?_⟩,
    ⟨⟨0, rfl⟩, ⟨0, rfl⟩, fun n ⟨k, h⟩ => ?_⟩, by decide +kernel⟩
  · exact h ▸ reckon_bounds _ _ _ _ [3, 252, 1] (by decide +kernel) k
  · exact h ▸ reckon_bounds _ _ _ _ [2] (by decide +kernel) k

/-- The six samples of section 1.10, the last step up to the maximum travel, and a step that reaches the high stop. -/
theorem wit_LiftCount :
    walk bank.holders[1].travel ⟨false, true⟩ demo.holders[1].count ([3, 2, 0, 1, 3, 2].map trackOf) = some 4696 ∧
      walk bank.holders[1].travel ⟨false, true⟩ 5999 ([3].map trackOf) = some 6000 ∧
      walk bank.holders[1].travel ⟨false, true⟩ 4690 ([1].map trackOf) = some 4690 ∧
      walk bank.holders[1].travel ⟨false, true⟩ 5799 ([3].map trackOf) = some bank.holders[1].highStop := by decide +kernel

/-- The counts held over the samples of a list lie in a range where those of its prefixes do. -/
theorem walk_bounds (r : Track) (n0 lo hi : Nat) (xs : List Byte)
    (all : ∀ j : Fin (xs.length + 1), (walk 6000 r n0 ((xs.take j).map trackOf)).all (fun n => decide (lo ≤ n ∧ n ≤ hi)) = true)
    (k n : Nat) (h : walk 6000 r n0 ((xs.take k).map trackOf) = some n) : lo ≤ n ∧ n ≤ hi := by
  have e : xs.take k = xs.take (min k xs.length) := by simp [List.take_eq_take_iff]
  have a := all ⟨min k xs.length, by omega⟩
  rw [e] at h
  simpa only [h, Option.all_some, decide_eq_true_eq] using a

/-- For LiftCount. The lowest and the highest count held over the six samples of section 1.10, the datum apart. -/
theorem wit_LiftSpan :
    Spans (fun c => ∃ k, walk bank.holders[1].travel ⟨false, true⟩ 4690 (([3, 2, 0, 1, 3, 2].take k).map trackOf) = some c) 4690 4696 :=
  ⟨⟨0, rfl⟩, ⟨6, by decide +kernel⟩, fun n ⟨k, h⟩ => walk_bounds _ _ _ _ [3, 2, 0, 1, 3, 2] (by decide +kernel) k n h⟩

/-- For LiftDatum. Section 1.10 whole: datum 2 at sample 5 of 6, and the lowest and the highest count held. -/
theorem wit_DatumWithin :
    let xs : List Byte := [3, 2, 0, 1, 3, 2]
    let upTo (k : Nat) := reckon bank.holders[1].travel ⟨false, true⟩ 4690 ((xs.take k).map trackOf)
    let after (k : Nat) := reckon bank.holders[1].travel ⟨true, true⟩ 4720 (((xs.drop 5).take k).map trackOf)
    demo.holders[1].certain = true ∧ bank.holders[1].datumHeight (2 : Byte).toNat = some 4720 ∧ upTo 5 = (4695, []) ∧
      (xs.map trackOf)[4]? = some ⟨true, true⟩ ∧ after xs.length = (4721, []) ∧
      Spans (fun c => (∃ k, k ≤ 5 ∧ (upTo k).1 = c) ∨ ∃ k, (after k).1 = c) 4690 4721 := by
  refine ⟨by decide +kernel, by decide +kernel, by decide +kernel, by decide +kernel, by decide +kernel, .inl ⟨0, by decide, rfl⟩,
    .inr ⟨1, by decide +kernel⟩, ?_⟩
  rintro n (⟨k, _, h⟩ | ⟨k, h⟩)
  · exact h ▸ reckon_bounds ⟨false, true⟩ 4690 4690 4721 [3, 2, 0, 1, 3, 2] (by decide +kernel) k
  · exact h ▸ reckon_bounds ⟨true, true⟩ 4720 4690 4721 [2] (by decide +kernel) k

/-- For LiftDatum. A SKIP before the datum and one after it, in one report, and the last of them; and a passage set aside after a SKIP. -/
theorem wit_DatumDoubts :
    let xs : List Byte := [2, 0, 3, 2]
    reckon bank.holders[1].travel ⟨false, true⟩ 4690 ((xs.take 2).map trackOf) = (4691, [.skip]) ∧
      (xs.map trackOf)[1]? = some ⟨false, false⟩ ∧
      reckon bank.holders[1].travel ⟨false, false⟩ 4720 (((xs.drop 2).take 4).map trackOf) = (4721, [.skip]) ∧
      reckon bank.holders[1].travel ⟨false, true⟩ 4690 (xs.map trackOf) = (4692, [.skip, .skip]) ∧
      bank.holders[1].datumHeight (3 : Byte).toNat = none := by decide +kernel

/-- The slip of section 1.10 above the tolerance, one at the tolerance, a number of no mark, and an index past the samples; and samples that
do not move. For a passage set aside with samples that do, see wit_LiftSpan. -/
theorem wit_LiftDatum :
    ((recordH2 4705 true).cupped = bank.holders[1].cuppedAt 4720 ∧ bank.holders[1].cuppedAt 4720 = bank.holders[1].cuppedAt 4721 ∧
      (recordH2 4690 true).cupped ≠ bank.holders[1].cuppedAt 4720) ∧
    (∀ x ∈ [(1 : Byte), 1], trackOf x = ⟨false, true⟩) ∧
    bank.holders[1].slipTol < ((4695 : Int) - 4720).natAbs ∧ ((4732 : Int) - 4720).natAbs ≤ bank.holders[1].slipTol ∧
      bank.holders[1].datumHeight (3 : Byte).toNat = none ∧ [3, 2, 0, 1, 3].length < (6 : Byte).toNat ∧
      bank.holders[1].datumHeight (2 : Byte).toNat = some 4720 ∧ (5 : Byte).toNat = [3, 2, 0, 1, 3].length ∧
      reckon bank.holders[1].travel ⟨false, true⟩ demo.holders[1].count ([3, 2, 0, 1, 3].map trackOf) = (4695, []) := by decide +kernel

/-- An increment across the register's wrap, at the plausibility bound, and past it. -/
theorem wit_MeterIncrement :
    demo.power = .on ∧ demo.live = some bank ∧ bank.resolve 30 = some (.meter 2) ∧ bank.meters[2].inUse = true ∧
      demo.channels[2].reference = some 65530 ∧ demo.channels[2].waiver = false ∧ demo.accounts.interval = some interval ∧
      ((0 : Half).toNat + 65536 - 65530) % 65536 = 6 ∧ ((94 : Half).toNat + 65536 - 65530) % 65536 = bank.meters[2].maxPulses ∧
      bank.meters[2].maxPulses < ((95 : Half).toNat + 65536 - 65530) % 65536 ∧
      interval.channels[2].volume + 100 * 1000 * (demo.meterFactor bank 1 2).1 < 2 ^ 64 ∧
      interval.channels[2].energy + 100 * 1000 * (demo.meterFactor bank 1 2).1 * demo.cvInForce bank < 2 ^ 64 ∧
      interval.channels[2].volume + 65535 * 1000 * (demo.meterFactor bank 1 2).1 < 2 ^ 64 ∧
      interval.channels[2].energy + 65535 * 1000 * (demo.meterFactor bank 1 2).1 * demo.cvInForce bank < 2 ^ 64 ∧
      (demo.channels[2].toStalled 0).state = .stalled ∧ (demo.channels[2].recover 0).waiver = true ∧
      (demo.channels[2].recover 0).window = none ∧ ({ ChannelRec.initial with reference := some 5 } : ChannelRec).state = .waiting := by
  refine ⟨rfl, rfl, ?_⟩; decide +kernel

/-- A channel WAITING, and one MEASURING and STALLED after a swap that took its reference, with the window EMPTY and OPEN. -/
theorem wit_MeterReference :
    let taken (c : ChannelRec) := c.swapTo bank.meters[2] bank.meters[2] true
    bank.resolve 31 = some (.meter 3) ∧ bank.meters[3].inUse = true ∧ demo.channels[3].reference = none ∧
      demo.channels[3].state = .waiting ∧ demo.loop.lost = false ∧ (onLoop fun l => { l with lost := true }).loop.lost = true ∧
      (taken demo.channels[2]).reference = none ∧ (taken demo.channels[2]).state = .measuring ∧ (taken demo.channels[2]).window ≠ none ∧
      (taken (demo.channels[2].recover 0)).window = none ∧ (taken (demo.channels[2].toStalled 0)).state = .stalled := by decide +kernel

/-- Values at the ends of the range, a FAULT, a holder's pressure point and an end-of-main point. -/
theorem wit_PointReport :
    bank.resolve 45 = some (.point 5) ∧ bank.holders[1].presPoint = 5 + 1 ∧ bank.resolve 43 = some (.point 3) ∧
      bank.districts[1].endPoint = 3 + 1 ∧ bank.districts[1].used = true ∧ Quality.ofCode 0 = some .good ∧
      Quality.ofCode 3 = some .fault ∧ (65136 : Half).toInt = -400 ∧ (3000 : Half).toInt = 3000 ∧ (3001 : Half).toInt = 3001 := by
  decide +kernel

/-- For PointReport. A third reading outside, with the mark CLEAR, and a third one inside, with it SET, of one holder alone; and one in
its first run. -/
theorem wit_LiftFault :
    let out : HolderRec := { recordH2 4690 true with outRun := 2 }
    let back : HolderRec := { recordH2 4690 true with inRun := 2, liftFault := true }
    out.expected = 630 ∧ bank.holders[1].cupTol = 25 ∧ 25 < ((656 : Int) - 630).natAbs ∧ ¬25 < ((655 : Int) - 630).natAbs ∧
      out.liftFault = false ∧ 2 ≤ out.outRun ∧ back.liftFault = true ∧ 2 ≤ back.inRun ∧ (recordH2 4690 true).outRun < 2 ∧
      bank.holders[0].presPoint ≠ bank.holders[1].presPoint := by decide +kernel

/-- For PointReport. H1 and H2 at one point, both in their third reading outside; H1 at its low stop, H2 at its high stop, and H1 between. -/
theorem wit_TwoLiftFaults :
    let b : Bank := { bank with holders := bank.holders.set 0 entryH2 }
    let low : HolderRec := { HolderRec.placeAt b 0 demo.holders[0] 300 with outRun := 2 }
    let high : HolderRec := { HolderRec.placeAt b 1 demo.holders[1] 5800 with outRun := 2 }
    b.resolve 45 = some (.point 5) ∧ b.fitted 0 = true ∧ b.fitted 1 = true ∧ b.holders[0].presPoint = 5 + 1 ∧
      b.holders[1].presPoint = 5 + 1 ∧ 25 < ((1100 : Int) - low.expected).natAbs ∧ 25 < ((1100 : Int) - high.expected).natAbs ∧
      low.count ≤ b.holders[0].lowStop ∧ b.holders[1].highStop ≤ high.count ∧ demo.perms[valveOf 0 .outlet].granted = true ∧
      demo.valves[valveOf 0 .outlet].state = .shut ∧ ¬demo.holders[0].count ≤ b.holders[0].lowStop := by decide +kernel

theorem wit_GasAndGovernorReports :
    bank.resolve 61 = some .barometer ∧ bank.resolve 60 = some .calorimeter ∧ bank.resolve 50 = some (.governor 1) ∧
      (32000 : Half).toInt = 32000 ∧ (1 : Byte).toNat ≤ 1 ∧ bank.districts[1].used = true := by decide +kernel

theorem wit_ProgrammeIdle : demo.ProgrammeIdle := ⟨rfl, .inl rfl⟩

theorem wit_ValvePosition :
    bank.resolve 22 = some (.valve 2) ∧ (withV3 fun _ => opening).valves[2].demand = some ⟨.toOpen, .desk⟩ ∧
      (withV3 fun _ => opening).valves[2].joined = false ∧ demo.valves[2].state = .shut ∧ demo.valves[2].demand = none ∧
      demo.perms[2].granted = true ∧ (withV3 fun r => { r with state := .stuck }).valves[2].state = .stuck ∧
      Position.ofCode 1 = some .opened ∧ (withV3 fun _ => { opening with joined := true }).valves[2].joined = true ∧
      (withV3 fun _ => opening).valves[2].state = .opening ∧ Position.mid ∉ [.opened, .fault, .localHand] ∧
      Position.ofCode 2 = some .mid ∧ Position.ofCode 3 = some .fault ∧ Position.ofCode 4 = some .localHand ∧
      (demo.setPerm 2 ⟨false, some .desk, some 4690, some 0⟩).perms[2].granted = false := by decide +kernel

/-- For ValvePosition. A TRIP demand kept in LOCAL by a valve in flight, and kept in NO_ANSWER, with and without its joined mark. -/
theorem wit_KeptDemand :
    let shutting (j : Bool) := withV3 fun _ => { opening with state := .shutting, demand := some ⟨.toShut, .trip⟩, joined := j, reissue := 1 }
    let inLocal (j : Bool) := (shutting j).enterLocal 2
    let silent := (shutting false).missedAnswer 2 .noAnswer
    (shutting true).valves[2].state = .shutting ∧ (inLocal true).valves[2].state = .localHand ∧
      (inLocal true).valves[2].demand = some ⟨.toShut, .trip⟩ ∧ (inLocal true).valves[2].joined = true ∧
      (inLocal false).valves[2].joined = false ∧ silent.valves[2].state = .noAnswer ∧
      silent.valves[2].demand = some ⟨.toShut, .trip⟩ := by decide +kernel

/-- For AnswerSelected and AnswerDoneRefused: an answer to the own address and to another among them. -/
theorem wit_Answers :
    let s := withV3 fun _ => opening
    let o := withV3 fun _ => { opening with phase := .operateSent }
    (1 : Byte).toNat = s.own ∧ (2 : Byte).toNat ≠ s.own ∧ s.valves[2].phase = .selectSent ∧ s.valves[2].tag = 9 ∧ (8 : Byte) ≠ 9 ∧
      s.loop.lost = false ∧ o.valves[2].phase = .operateSent ∧ o.valves[2].answerTimer ≠ none ∧ o.valves[2].state.inFlight = true ∧
      o.valves[2].joined = false ∧ o.valves[2].demand = some ⟨.toOpen, .desk⟩ ∧ o.valves[2].reissue = 0 ∧
      (withV3 fun _ => { opening with reissue := 1 }).valves[2].reissue ≠ 0 ∧ RefuseReason.ofCode 1 = some .localHand ∧ RefuseReason.ofCode 2 = some .fault ∧ RefuseReason.ofCode 3 = some .notSelected ∧
      o.ProgrammeIdle := by
  refine ⟨?_, ?_, ?_, ?_, ?_, ?_, ?_, ?_, ?_, ?_, ?_, ?_, ?_, ?_, ?_, ?_, ⟨rfl, .inl rfl⟩⟩ <;> decide +kernel

/-- For AnswerSelected, AnswerDoneRefused and ValveTimers: an operation that the programme has joined, of each origin, its SELECT answered
with the demanded position, and its second missed answer. -/
theorem wit_JoinedAnswers :
    let s (o : Origin) := withV3 fun _ => { opening with demand := some ⟨.toOpen, o⟩, joined := true, reissue := 1, travelTimer := some 9000 }
    let trip := withV3 fun _ => { opening with state := .shutting, demand := some ⟨.toShut, .trip⟩, joined := true }
    Position.ofCode (1 : Byte).toNat = some .opened ∧ (s .programme).valves[2].joined = true ∧ (s .desk).valves[2].phase = .selectSent ∧
      (s .desk).valves[2].reissue ≠ 0 ∧ (s .desk).valves[2].answerTimer = some 6000 ∧ (s .desk).valves[2].travelTimer = some 9000 ∧
      (s .desk).valves[2].state.inFlight = true ∧ trip.valves[2].demand = some ⟨.toShut, .trip⟩ ∧ trip.valves[2].state.inFlight = true ∧
      Origin.desk ≠ .trip ∧ (2 : Byte) ≠ (s .desk).valves[2].tag ∧ (s .desk).loop.lost = false := by decide +kernel

theorem wit_ValveTimers :
    let s (n : Nat) := withV3 fun _ => { opening with reissue := n }
    (s 0).power = .on ∧ (s 0).live ≠ none ∧ (s 0).valves[2].answerTimer = some 6000 ∧ (s 0).valves[2].reissue = 0 ∧
      (s 1).valves[2].reissue ≠ 0 ∧ demo.valves[2].answerTimer = none ∧
      (withV3 fun r => { r with travelTimer := some 2000 }).valves[2].travelTimer = some 2000 := by
  refine ⟨rfl, by simp [withV3, State.live, State.setValve, demo, State.poweredOn], ?_⟩; decide +kernel

theorem wit_StallAndStale :
    bank.meters[2].inUse = true ∧ demo.channels[2].state = .measuring ∧ demo.channels[2].stallStart = some 500 ∧
      demo.channels[3].state ≠ .measuring ∧ demo.points[5].state = .fresh ∧ demo.points[5].usable = some 900 ∧
      demo.barometer.state = .fresh ∧ demo.barometer.usable = some 900 ∧ demo.calorimeter.usable = some 900 ∧
      demo.calorimeter.state = .fresh := by decide +kernel

/-- Reviews that send at the deadband and do not just within it, at the tenth review, and with no setpoint known. -/
theorem wit_Review :
    let g (l : Option Nat) := (demo.setDistrict 1 { demo.districts[1] with lastSent := l }).stages bank 1 36
    demo.districts[1].reviewTimer = some 61000 ∧ demo.clock.valid = true ∧ demo.clock.slot = some ⟨36, 1204⟩ ∧
      ((g (some 615)).result : Int) - 615 = 5 ∧ ((g (some 616)).result : Int) - 616 = 4 ∧ bank.districts[1].deadband = 5 ∧
      min 10 (9 + 1) = 10 := by decide +kernel

/-- For Review. A review that sends with no SET of the district unsent, and with one; and one without a setpoint known. -/
theorem wit_SetOutcome :
    demo.districts[1].lastSent = some 940 ∧ bank.districts[1].deadband ≤ (((demo.stages bank 1 36).result : Int) - 940).natAbs ∧
      demo.loop.unsentSet 1 = none ∧ (onLoop fun l => { l with commands := [.set 1 600] }).loop.unsentSet 1 ≠ none ∧
      ({ demo.districts[1] with lastSent := none } : DistrictRec).lastSent = none := by decide +kernel

/-- For Review. A schedule value past the maximum, an end of main confirmed LOW at the trim maximum, and a headroom below the minimum. -/
theorem wit_Stages :
    let high : Bank := { bank with schedules := Vector.replicate 288 1201 }
    let low := demo.setDistrict 1 { demo.districts[1] with lowRun := 3, trim := 30 }
    let short := (demo.setPoint 2 { fresh 1150 with state := .held }).setValve (valveOf 1 .outlet) { ValveRec.initial with state := .opened }
    bank.districts[1].confirm = 3 ∧ (demo.stages high 1 36).clamped = true ∧ (demo.stages high 1 36).s = 1200 ∧
      (low.stages bank 1 36).confirmed = .low ∧ (low.stages bank 1 36).fresh = true ∧
      (low.stages bank 1 36).trim = bank.districts[1].trimMax ∧ (short.stages bank 1 36).source = some .holders ∧
      ((demo.setPoint 2 (fresh 549)).stages bank 1 36).headroom = some 399 ∧
      ((demo.setPoint 2 (fresh 549)).stages bank 1 36).limited = true ∧
      ((demo.setPoint 2 (fresh 549)).stages bank 1 36).target6 = 400 ∧ bank.districts[1].minSet = 400 := by decide +kernel

/-- With them, a SLOT trigger with two valves to open, and a RE-EVALUATE trigger with none. -/
theorem wit_ClockAndStoreEvents :
    (demo.live = some bank ∧ demo.clock.slot = some ⟨36, 1204⟩ ∧ demo.loop.lost = false ∧
      (demo.buildTrigger bank .slot).prog.transition.map Transition.opens = some [⟨1, .inFlight⟩, ⟨2, .inFlight⟩] ∧
      (demo.buildTrigger bank .reEvaluate).prog.transition = none) ∧
    let s := onLoop fun l => { l with lost := true }
    s.clock.Ok ∧ s.clock.valid = true ∧ s.clock.advancing = true ∧ s.clock.slotDue = false ∧
      s.clock.nextBoundary ≤ 65535 * 86400 + 86399 ∧ s.prog.notices = [] ∧ s.loop.lost = true ∧ State.reset.clock.valid = false ∧
      (demo.setTables { demo.tables with store := .writing }).running = true := by
  unfold Clock.Ok; refine ⟨⟨rfl, ?_⟩, ?_⟩ <;> decide +kernel

/-- For ClockAndStoreEvents. A boundary that time has reached, with the loop UP and with it lost; and a clock that can reach none. -/
theorem wit_SlotDue :
    let due (lost : Bool) : State := { onLoop (fun l => { l with lost := lost }) with clock := { demo.clock with sec := 64800 } }
    let last : Clock := ⟨true, 65535, 86000, 0, true, some ⟨48, 65535⟩⟩
    (due true).clock.slotDue = true ∧ (due false).clock.slotDue = true ∧ (due true).prog.notices = [] ∧ (due true).loop.lost = true ∧
      (due false).mayTake = true ∧ last.slotDue = false ∧ 65535 * 86400 + 86399 < last.nextBoundary := by decide +kernel

/-- For NominalEnd. A bank COMMITTED, the same with other stops, with nothing in flight; the loop lost; and the clock before the end,
advancing and standing still. -/
theorem wit_NominalEndSwap :
    let s := demo.setTables { demo.tables with committed := true, pending := { bank with holders := bank.holders.set 1 { entryH2 with lowStop := 400 } } }
    s.tables.committed = true ∧ s.live = some bank ∧ s.prog.transition = none ∧ s.prog.notices = [] ∧ s.prog.deferred = [] ∧
      bank.slots = s.tables.pending.slots ∧ bank.sendOrder = s.tables.pending.sendOrder ∧ bank.fillOrder = s.tables.pending.fillOrder ∧
      (s.setLoop { s.loop with lost := true }).loop.lost = true ∧
      s.clock.totalSec < (⟨1204, 64800⟩ : WallTime).total ∧ (⟨1204, 64800⟩ : WallTime).total ≤ 65535 * 86400 + 86399 ∧
      s.clock.advancing = true ∧ (s.setClock { s.clock with advancing := false }).clock.advancing = false := by
  refine ⟨rfl, rfl, ?_⟩; decide +kernel

/-- For NominalEnd, Commit and SetClock. A bank whose low stop for H2 is the count that H2 has, one that limits it, one in which H1 joins;
and one with the stops as they were. -/
theorem wit_StopsAtSwap :
    let s (b : Bank) := demo.setTables { demo.tables with committed := true, pending := b }
    let low : Bank := { bank with holders := bank.holders.set 1 { entryH2 with lowStop := 4690 } }
    let short : Bank := { bank with holders := bank.holders.set 1 { entryH2 with travel := 4600 } }
    let without : Bank := { bank with holders := bank.holders.set 0 HolderEntry.blank }
    low.MeetsStop 1 .outlet (s low).holders[1].count ∧ ¬low.MeetsStop 1 .inlet (s low).holders[1].count ∧
      (s low).perms[valveOf 1 .outlet].granted = true ∧ (s low).valves[valveOf 1 .outlet].state = .shut ∧ low.fitted 1 = true ∧
      bank.holders[1].lowStop ≠ low.holders[1].lowStop ∧ short.holders[1].travel < demo.holders[1].count ∧
      without.fitted 0 = false ∧ bank.fitted 0 = true ∧ bank.MeetsStop 0 .outlet 0 := by
  unfold Bank.MeetsStop; decide +kernel

/-- The clock at the nominal end itself. -/
theorem wit_NominalEnd :
    let s := demo.setClock ⟨true, 1204, 64800, 0, true, some ⟨37, 1204⟩⟩
    s.power = .on ∧ s.live = some bank ∧ s.tables.committed = false ∧ s.clock.valid = true ∧ s.accounts.interval = some interval ∧
      interval.nominalEnd = some ⟨1204, 64800⟩ ∧ (⟨1204, 64800⟩ : WallTime).total ≤ s.clock.totalSec := by
  refine ⟨rfl, rfl, ?_⟩; decide +kernel

/-- Straps at the ends of the range, a copy that restores, and one whose check value fails. -/
theorem wit_PowerOn :
    (250 : Byte).toNat ≤ 250 ∧ 250 < (251 : Byte).toNat ∧ (0 : Byte).toNat = 0 ∧
      demo.tables.restorable 1 true = some bank ∧ demo.tables.restorable 1 false = none := by
  refine ⟨by decide, by decide, rfl, ?_, rfl⟩
  simp [TableStore.restorable, demo, State.poweredOn, test_bank_sound]

/-- For PowerOn. CLOCK INVALID enabled and not enabled by the restored map; and for Commit, a part in UNCONFIGURED mode with its valves
UNKNOWN. -/
theorem wit_FirstInterval :
    (attnMap (some bank) srcClockInvalid) = (true, .prompt) ∧
      (attnMap (some { bank with attention := bank.attention.set srcClockInvalid ⟨0, 2⟩ }) srcClockInvalid) = (false, .routine) ∧
      loaded.clock.valid = false ∧ bank.fitted 1 = true ∧ loaded.PermitOk := by
  refine ⟨rfl, rfl, rfl, by decide +kernel, fun v => ?_⟩
  refine ⟨?_, ?_, ?_, ?_⟩ <;> revert v <;>
    simp [loaded, State.reset, State.poweredOn, ValveRec.initial, PermRec.initial, State.live]

/-- For DirectivesTurnedAway. H3 and V5, which are not fitted, a number below and one above, and D1, which is not in use. -/
theorem wit_NothingNamed :
    (∀ n ∈ [0, 3, 5], ∀ h : Fin 4, bank.fitted h = true → n ≠ h.val + 1) ∧
      (∀ n ∈ [0, 5, 9], ∀ v : Fin 8, bank.fitted (holderOf v) = true → n ≠ v.val + 1) ∧
      (∀ n ∈ [0, 1, 7], ∀ d : Fin 6, bank.districts[d].used = true → n ≠ d.val + 1) := by decide +kernel

theorem wit_DirectivesTurnedAway :
    directiveOf (.trim 7 [1, 0, 10]) = some (20, 7, [1, 0, 10]) ∧ paramCount 20 = some 3 ∧ [1, 0].length ≠ 3 ∧
      8 ≤ (onLoop fun l => { l with responses := List.replicate 8 [] }).loop.responses.length ∧ State.reset.live = none ∧
      (23 : Byte).toNat = 23 ∧ (1 : Byte) ≠ 0 ∧ [(5 : Byte)].length < 2 := by
  refine ⟨rfl, rfl, ?_, ?_, rfl, ?_⟩ <;> decide +kernel

/-- For DirectivesTurnedAway. A broadcast SET CLOCK that finds room, that finds 8 responses, and that breaks off the seventh and the eighth; of
no parameters and of the greatest body; and in UNCONFIGURED mode. -/
theorem wit_BroadcastTurnedAway :
    let p (s : State) (ps : List Byte) := s.passed 255 0 kindDirective (13 :: 7 :: ps)
    let full (n : Nat) := onLoop fun l => { l with
      buffer := List.replicate 8 someFrame, responses := List.replicate n [[0]], tx := .own (.response ⟨0, 1, 7, [1]⟩ false) }
    demo.power = .on ∧ (p demo []).loop.responses.length < 8 ∧ (p (full 6) []).loop.responses.length = 7 ∧
      8 ≤ (p (full 7) []).loop.responses.length ∧ 8 ≤ (p (onLoop fun l => { l with responses := List.replicate 8 [] }) []).loop.responses.length ∧
      (List.replicate 198 (0 : Byte)).length ≤ 198 ∧ (p State.reset [0, 1, 0, 0, 0]).loop.responses.length < 8 ∧
      State.reset.power = .on ∧ State.reset.live.isNone = true := by decide +kernel

/-- COMMIT in each mode, with a broken bank, with a table not loaded, and COMMITTED. -/
theorem wit_Commit :
    demo.canAnswer ∧ demo.tables.committed = false ∧ demo.tables.pending.broken demo.own = none ∧ demo.clock.valid = true ∧
      (demo.setClock Clock.initial).clock.valid = false ∧ demo.prog.transition = none ∧ demo.prog.notices = [] ∧ demo.accounts.interval = some interval ∧
      (demo.setTables { demo.tables with pending := { bank with correction := bank.correction.set 0 6999 } }).commitBreak =
        some ⟨6, 0, 45, .prose 1⟩ ∧
      (demo.setTables { demo.tables with pending := { bank with orders := #v[⟨5, #v[1, 2, 0, 0]⟩, ⟨2, #v[2, 1, 0, 0]⟩] } }).commitBreak =
        some ⟨8, 0, 84, .listed 2⟩ ∧
      loaded.live = none ∧ (∀ u : Fin 12, loaded.tables.marks[u] = true) ∧ loaded.tables.pending.broken loaded.own = none ∧
      State.reset.tables.marks[0] = false := by
  unfold State.canAnswer
  refine ⟨by decide, rfl, test_bank_sound, rfl, rfl, rfl, rfl, rfl, ?_, ?_, rfl, ?_, test_bank_sound, rfl⟩ <;> decide +kernel

/-- Entries that fit a response and entries that do not, within the table; entries past its end; and a part without a live bank. -/
theorem wit_ReadTable :
    24 * entrySize 12 ≤ 185 ∧ 50 + 24 ≤ entryCount 12 ∧ 4 * entrySize 3 > 185 ∧ 0 + 4 ≤ entryCount 3 ∧ entryCount 12 < 51 + 24 ∧
      State.reset.live = none ∧ State.reset.canAnswer ∧ 1 < (2 : Byte).toNat := by
  unfold State.canAnswer; refine ⟨by decide, by decide, by decide, by decide, by decide, rfl, ?_, by decide⟩; decide +kernel

/-- An account log of one record, read by its number, after the cursor, and past its ends. -/
theorem wit_ReadAccounts :
    let r := demo.closeRecord bank interval YardFlags.none none
    let d := DayRecord.begun 1204 r
    let l : Logs := ⟨[r], [d], some d, 10442⟩
    l.log.find? (fun x => x.sequence == 10442) = some r ∧ l.log.find? (fun x => x.sequence == 10443) = none ∧
      l.log.find? (fun x => x.sequence == 10441) = none ∧ 10440 < l.lastSeq ∧ l.lastSeq ≤ 10442 ∧ (∀ x ∈ l.daily, x.gasDay ≠ 1203) ∧
      (∀ o, some { d with gasDay := 1205 } = some o → o.gasDay ≠ 1204) ∧ l.log.head? = some r ∧ l.log.getLast? = some r ∧ d.gasDay = 1204 ∧
      l.daily.reverse.find? (fun x => x.gasDay == 1204) = some d := by decide +kernel

/-- For ReadAccounts. A record, the open interval and a day record whose quantities fit. -/
theorem wit_Fits :
    let h : HolderStock := ⟨480, 600, true, InputFlags.none⟩
    let r : IntervalRecord := ⟨10442, some ⟨1204, 23⟩, some ⟨1204, 63000⟩, some ⟨1204, 64800⟩, 37,
      Vector.replicate 12 ⟨2, 5, 5000, 5153, 2577, 4500, 80000000, 3500, 25000000, ChannelFlags.none⟩, #v[h, h, h, h], 1920, 2400, 0, 61836,
      -109836, YardFlags.none⟩
    r.Fits ∧ interval.Fits ∧ (DayRecord.begun 1204 r).Fits ∧ (⟨1204, 64800⟩ : WallTime).total - demo.clock.totalSec < 2 ^ 24 := by
  refine ⟨⟨by decide, ?_, ⟨?_, ?_⟩, by decide, by decide +kernel, by decide +kernel⟩,
    ⟨by decide +kernel, ?_, ⟨?_, ?_⟩, by decide +kernel⟩, ⟨by decide +kernel, by decide +kernel, by decide +kernel⟩, by decide +kernel⟩ <;>
    (intro x hx; cases hx; simp [WallTime.Fits])

/-- For ReadRecords. Quantities within their widths, an absent last datum, a channel in use with a share of the open interval. -/
theorem wit_ReadRecords :
    demo.canAnswer ∧ demo.live = some bank ∧ demo.tables.generation < 65536 ∧ demo.holders[1].count < 65536 ∧
      demo.holders[1].expected < 65536 ∧ demo.holders[1].geoVolume < 2 ^ 24 ∧ (HolderRec.restored none 0).lastDatum = none ∧
      bank.meters[2].inUse = true ∧ bank.meters[0].inUse = false ∧ demo.accounts.interval = some interval ∧
      interval.channels[2].volume < 2 ^ 64 ∧ interval.channels[2].energy < 2 ^ 64 ∧ bank.districts[1].inletPoint = 2 + 1 ∧
      demo.points[2].value.getD 0 ≤ 32767 ∧ demo.cvInForce bank < 65536 := by
  unfold State.canAnswer; refine ⟨by decide, rfl, ?_⟩; decide +kernel

/-- The last second of a day, hour G of day 0, and steps of 0, 300 and 301 seconds; a step that reaches the nominal end; and a
through-buffer that is full, with a response on the line among 7 and among 8. -/
theorem wit_SetClock :
    (let full (n : Nat) := onLoop fun l => { l with
        buffer := List.replicate 8 someFrame, responses := List.replicate n [[0]], tx := .own (.response ⟨0, 1, 7, [1]⟩ false) }
     8 ≤ (full 6).loop.buffer.length ∧ ([[1]] :: (full 6).loop.responses).length < 8 ∧ 8 ≤ ([[1]] :: (full 7).loop.responses).length ∧
       (⟨1204, 64800⟩ : WallTime).total ≤ 1204 * 86400 + 64800 ∧ 64800 - 64500 = 300) ∧
    demo.canAnswer ∧ demo.live = some bank ∧ demo.loop.buffer.length < 8 ∧ bank.yard.gasHour * 3600 = 21600 ∧
      demo.clock.valid = true ∧ demo.clock.day = 1204 ∧ demo.clock.sec + 300 = 64200 ∧ demo.accounts.interval = some interval ∧
      1204 * 86400 + 64200 < (⟨1204, 64800⟩ : WallTime).total := by
  unfold State.canAnswer; refine ⟨by decide, by decide, rfl, ?_⟩; decide +kernel

/-- For SetClock. A step of 301 s, and one that reaches the nominal end, with a bank COMMITTED; and one of 300 s that does not. -/
theorem wit_SetClockCloses :
    let s := demo.setTables { demo.tables with committed := true }
    s.tables.committed = true ∧ s.clock.valid = true ∧ s.accounts.interval = some interval ∧
      300 < (((1204 : Nat) : Int) - s.clock.day) * 86400 + (((64201 : Nat) : Int) - s.clock.sec) ∧
      (((1204 : Nat) : Int) - s.clock.day) * 86400 + (((64200 : Nat) : Int) - s.clock.sec) = 300 ∧
      interval.nominalEnd = some ⟨1204, 64800⟩ ∧ (⟨1204, 64800⟩ : WallTime).total ≤ 1204 * 86400 + 64800 ∧
      1204 * 86400 + 64200 < (⟨1204, 64800⟩ : WallTime).total := by decide +kernel

/-- For SetClock. The loop lost, with a bank COMMITTED and nothing in flight; and a SLOT trigger that waits already. -/
theorem wit_SetClockSlot :
    let s := (onLoop fun l => { l with lost := true }).setTables { demo.tables with committed := true }
    s.prog.notices = [] ∧ s.loop.lost = true ∧ s.prog.transition = none ∧ s.tables.committed = true ∧ s.accounts.interval = some interval ∧
      Trigger.slot ∉ s.prog.deferred ∧ demo.tables.committed = false ∧ demo.mayTake = true ∧
      ({ changing with prog := { changing.prog with transition := some inChange } } : State).prog.transition.isSome = true := by
  decide +kernel

/-- The transition that demands the valve; and operations in flight of each origin, joined by the programme or not. -/
theorem wit_ValveDirective :
    (let s (o : Origin) (j : Bool) := withV3 fun _ => { opening with demand := some ⟨.toOpen, o⟩, joined := j }
     (s .programme true).valves[2].demand = some ⟨.toOpen, .programme⟩ ∧ (s .programme true).valves[2].joined = true ∧
      (s .desk false).valves[2].joined = false ∧ (s .desk false).valves[2].state = .opening ∧ Dir.toShut ≠ .toOpen ∧
      (withV3 fun _ => { opening with state := .shutting, demand := some ⟨.toShut, .trip⟩ }).valves[2].demand = some ⟨.toShut, .trip⟩) ∧
    let tr : Transition := ⟨.slot, false, none, none, false, [⟨1, none, some .fill⟩], [⟨2, .inFlight⟩], []⟩
    bank.fitted (holderOf 2) = true ∧ tr.hasDemand 2 = true ∧ demo.prog.transition = none ∧ demo.perms[2].granted = true ∧
      demo.valves[2].state = .shut ∧ demo.loop.lost = false ∧
      (demo.setPerm 2 ⟨false, some .desk, some 4690, some 0⟩).perms[2].granted = false ∧
      (withV3 fun r => { r with state := .stuck }).valves[2].state ∈ [ValveState.unknown, .shut, .opened, .stuck] := by decide +kernel

/-- The condition of SET PERMIT just met and just not met, on each side; and both permissions GRANTED, with counts at the stops. -/
theorem wit_Permits :
    let e := bank.holders[1]
    (e.lowStop : Int) + e.rePermit < (401 : Nat) ∧ ¬((e.lowStop : Int) + e.rePermit < (400 : Nat)) ∧
      ((5699 : Nat) : Int) < (e.highStop : Int) - e.rePermit ∧ ¬(((5700 : Nat) : Int) < (e.highStop : Int) - e.rePermit) ∧
      demo.perms[valveOf 1 .outlet].granted = true ∧ 300 ≤ e.lowStop ∧ e.highStop ≤ 5800 ∧ e.lowStop < 301 ∧
      (onLoop fun l => { l with lost := true }).mayTake = false ∧ demo.perms[valveOf 1 .inlet].granted = true := by decide +kernel

/-- For Permits. A valve for each way in which a withdrawal acts on it, with the loop UP and lost. -/
theorem wit_Withdrawn :
    let lost := (withV3 fun r => { r with state := .opened }).setLoop { demo.loop with lost := true }
    demo.perms[valveOf 1 .inlet].granted = true ∧ valveOf 1 .inlet = 2 ∧ lost.loop.lost = true ∧ lost.valves[2].state = .opened ∧
      (withV3 fun _ => opening).valves[2].demand.map Demand.dir = some .toOpen ∧ (withV3 fun _ => opening).valves[2].joined = false ∧
      (withV3 fun r => { r with state := .noAnswer }).valves[2].state = .noAnswer ∧ demo.loop.lost = false := by decide +kernel

theorem wit_Roles :
    demo.prog.roles[1].role ≠ none ∧ demo.prog.transition = none ∧ demo.prog.roles[1].held = false ∧
      (demo.mapRole 1 RoleRec.hold).prog.roles[1].held = true ∧ State.reset.prog.roles[1].role = none := by decide +kernel

/-- For Roles. A transition in flight without an entry of H2; and a hold released where its trigger may be taken. -/
theorem wit_HeldApart :
    let t : Transition := { inChange with entries := [⟨0, some .send, some .standby⟩] }
    (∀ x ∈ t.entries, x.holder ≠ 1) ∧ (demo.mapRole 1 RoleRec.hold).mayTake = true ∧
      (demo.mapRole 1 RoleRec.hold).prog.roles[1].role ≠ none := by decide +kernel

/-- For Roles. The changeover that is due: its outgoing and its incoming holder, the incoming valve SHUT or OPEN already, no incoming holder, and a
further candidate after one that failed. -/
theorem wit_Changeover :
    changing.FirstOutgoing bank .outlet 0 ∧ changing.FirstIncoming bank .outlet (some 0) (bank.orderOf .outlet) 1 .standby ∧
      Role.asksOpen .standby .outlet = false ∧ changing.valves[3].state ≠ .opened ∧
      (changing.setValve 3 { ValveRec.initial with state := .opened }).valves[3].state = .opened ∧
      (∀ h, ¬demo.Outgoing bank .outlet h) ∧ (∀ r, ¬(changing.setHolder 1 (recordH2 1399 true)).Incoming bank .outlet 1 r) ∧
      demo.FirstIncoming bank .inlet none [0] 0 .standby := by
  refine ⟨⟨by unfold State.Outgoing; decide +kernel, [], [1, 0, 1, 2, 3], rfl, by simp⟩, ⟨by decide, ?_, [0], [], rfl, by simp⟩, by decide,
    by decide +kernel, by decide +kernel, by unfold State.Outgoing; decide +kernel, fun r => ?_, by decide, ?_, [], [], rfl, by simp⟩
  · unfold State.Incoming; decide +kernel
  · cases r <;> unfold State.Incoming <;> decide +kernel
  · unfold State.Incoming; decide +kernel

/-- For Roles. A trigger and a notice that may be taken, each leaving the programme idle; and the entries of a changeover in flight, with nothing else
in flight, with another valve still opening, and in the shutting phase with and without another shut. -/
theorem wit_Notices :
    let s (t : Option Transition) : State := { changing with prog := { changing.prog with transition := t } }
    let shuts (l : List ShutEntry) : Transition := { inChange with shutting := true, opens := [⟨3, .reached⟩], shuts := l }
    (s none).mayTake = true ∧ (changing.buildTrigger bank .send).ProgrammeIdle ∧
      ((s (some inChange)).takeNotice bank ⟨3, .toOpen, true⟩).ProgrammeIdle ∧ ⟨3, .inFlight⟩ ∈ inChange.opens ∧
      inChange.trigger.side = some .outlet ∧ bank.orderOf .outlet = [0] ++ holderOf 3 :: [] ∧ holderOf 3 ∉ [(0 : Fin 4)] ∧
      bank.orderOf .inlet = [] ++ holderOf 2 :: [0] ∧ (∀ w : Fin 8, inChange.Waits w → bank.fitted (holderOf w) = true) ∧
      (shuts [⟨1, .inFlight⟩, ⟨5, .waiting⟩]).shutting = true ∧ ⟨1, .inFlight⟩ ∈ (shuts [⟨1, .inFlight⟩]).shuts := by
  refine ⟨by decide +kernel, ⟨by decide +kernel, .inl (by decide +kernel)⟩, ⟨by decide +kernel, .inl (by decide +kernel)⟩, by decide, rfl,
    by decide +kernel, by decide, by decide +kernel, ?_, rfl, by decide⟩
  unfold Transition.Waits; decide +kernel

theorem wit_PresetLift : bank.holders[1].lowStop = 300 ∧ bank.holders[1].travel = 6000 ∧ demo.holders[1].count = 4690 ∧ demo.holders[1].certain = true := by
  decide +kernel

theorem wit_Trim : bank.districts[1].used = true ∧ bank.districts[0].used = false ∧ bank.districts[1].trimMax = 40 := by decide +kernel

/-- An entry cleared by less than, by exactly, and by more than its count. -/
theorem wit_ClearAttention :
    let a := (Attention.initial.occur 3 .prompt ⟨0, 0, true⟩).occur 3 .prompt ⟨0, 1, true⟩
    (demo.setAttn a).attn.Ok ∧ (a.items.map AttnItem.count) = [2] ∧ 73 < (74 : Byte).toNat ∧ (4 : Fin 74) ∉ a.items.map AttnItem.source ∧
      (attnMap demo.tables.live 3).1 = true := by
  unfold Attention.Ok; decide +kernel

/-- For Restart. Counts at the low stop and above it; and the clock INVALID and the loop lost in turn. -/
theorem wit_RestartTrips :
    bank.fitted 1 = true ∧ bank.MeetsStop 1 .outlet 300 ∧ ¬bank.MeetsStop 1 .outlet 301 ∧ (recordH2 300 true).count = 300 ∧
      demo.loop.lost = false ∧ (demo.setClock Clock.initial).clock.valid = false ∧ (onLoop fun l => { l with lost := true }).loop.lost = true ∧
      (∀ h, srcClockInvalid ≠ srcLowTrip h ∧ srcClockInvalid ≠ srcHighTrip h) ∧ ∀ sd : Side, srcClockInvalid ≠ sd.source := by
  refine ⟨by decide +kernel, by unfold Bank.MeetsStop; decide +kernel, by unfold Bank.MeetsStop; decide +kernel, by decide +kernel, rfl, rfl,
    rfl, by decide +kernel, fun sd => by cases sd <;> decide⟩

theorem wit_Restart :
    demo.canAnswer ∧ demo.tables.committed = false ∧ demo.accounts.interval = some interval ∧ demo.BetweenStops bank 1 ∧
      bank.fitted (holderOf 7) = false ∧ demo.live = some bank ∧
      (demo.setTables { demo.tables with committed := true }).tables.committed = true ∧ demo.accounts.logs.lastSeq + 1 < 2 ^ 32 := by
  unfold State.canAnswer State.BetweenStops; decide +kernel

end Sys2Proof.Tests
end

/-! The Correction Engine (R52 to R54): its clamps, the cell of the correction table, and the interpolation across the cell. -/

namespace Sys2Proof.Machine

/-! ## The clamps (R52) -/

theorem clampTo_fst {lo hi : Nat} (h : lo ≤ hi) (x : Int) : (clampTo lo hi x).1 = (max (lo : Int) (min hi x)).toNat := by
  unfold clampTo
  split
  · simp only; omega
  · split <;> simp only <;> omega

theorem clampTo_flag_iff (lo hi : Nat) (x : Int) : (clampTo lo hi x).2 = true ↔ x ≠ ((clampTo lo hi x).1 : Int) := by
  unfold clampTo
  split
  · exact iff_of_true rfl (by simp only; omega)
  · split
    · exact iff_of_true rfl (by simp only; omega)
    · exact iff_of_false Bool.false_ne_true (by simp only; omega)

theorem clampTo_fst_mem {lo hi : Nat} (h : lo ≤ hi) (x : Int) : lo ≤ (clampTo lo hi x).1 ∧ (clampTo lo hi x).1 ≤ hi := by
  rw [clampTo_fst h]
  omega

/-! ## The cell (R53) -/

section Cell
variable {base step last x : Nat}

theorem cellOf_of_lt (hlo : base ≤ x) (hx : x < base + step * last) :
    cellOf base step last x = ((x - base) / step, (x - base) - step * ((x - base) / step)) := by
  have hi : (x - base) / step < last := Nat.div_lt_of_lt_mul (by omega)
  simp only [cellOf, if_neg (Nat.not_le_of_lt hi)]

/-- On the far edge the last cell is taken, with the whole step as its fraction. -/
theorem cellOf_far (hstep : 0 < step) : cellOf base step last (base + step * last) = (last - 1, step) := by
  have hi : (base + step * last - base) / step = last := by rw [Nat.add_sub_cancel_left, Nat.mul_div_cancel_left last hstep]
  simp only [cellOf, hi, if_pos (Nat.le_refl last)]

theorem cellOf_eq_ite (hstep : 0 < step) (hlo : base ≤ x) (hx : x ≤ base + step * last) :
    cellOf base step last x =
      let i := if x = base + step * last then last - 1 else (x - base) / step
      (i, if x = base + step * last then step else (x - base) - step * i) := by
  by_cases hfar : x = base + step * last
  · subst hfar
    simpa only [if_true] using cellOf_far hstep
  · simpa only [if_neg hfar] using cellOf_of_lt hlo (Nat.lt_of_le_of_ne hx hfar)

theorem cellOf_index_lt (hlast : 0 < last) : (cellOf base step last x).1 < last := by
  by_cases h : (x - base) / step ≥ last
  · simp only [cellOf, if_pos h]
    exact Nat.sub_lt hlast Nat.one_pos
  · simp only [cellOf, if_neg h]
    exact Nat.lt_of_not_ge h

theorem cellOf_fraction_lt (hstep : 0 < step) (hlo : base ≤ x) (hx : x < base + step * last) : (cellOf base step last x).2 < step := by
  rw [cellOf_of_lt hlo hx, ← Nat.mod_eq_sub_mul_div]
  exact Nat.mod_lt _ hstep

theorem cellOf_fraction_le (hstep : 0 < step) (hlo : base ≤ x) (hx : x ≤ base + step * last) : (cellOf base step last x).2 ≤ step := by
  rcases Nat.lt_or_eq_of_le hx with hlt | rfl
  · exact Nat.le_of_lt (cellOf_fraction_lt hstep hlo hlt)
  · exact Nat.le_of_eq (congrArg Prod.snd (cellOf_far hstep))

end Cell

/-! ## The interpolation (R54) -/

/-- R54: the value v of a cell at its two fractions, 12,500 times the factor before rounding. -/
def Bank.cellValue (b : Bank) (i j ft fe : Nat) : Nat :=
  (b.factor i j * (250 - fe) + b.factor i (j + 1) * fe) * (50 - ft) +
    (b.factor (i + 1) j * (250 - fe) + b.factor (i + 1) (j + 1) * fe) * ft

/-- The cells are made variables before the definition's pairs are taken apart: the kernel would evaluate `cellOf` otherwise, and recurse too
deep on the literal of `e - 28000`. -/
theorem Bank.interpolate_eq_cellValue : Bank.interpolate = fun b t e =>
    (b.cellValue (cellOf 300 50 16 t).1 (cellOf 28000 250 12 e).1 (cellOf 300 50 16 t).2 (cellOf 28000 250 12 e).2 + 6250) / 12500 := by
  delta Bank.interpolate
  funext b t e
  generalize cellOf 300 50 16 t = row
  generalize cellOf 28000 250 12 e = column
  obtain ⟨i, ft⟩ := row
  obtain ⟨j, fe⟩ := column
  rfl

theorem Bank.interpolate_of_cells (b : Bank) {t e i j ft fe : Nat} (ht : cellOf 300 50 16 t = (i, ft))
    (he : cellOf 28000 250 12 e = (j, fe)) : b.interpolate t e = (b.cellValue i j ft fe + 6250) / 12500 := by
  simp only [Bank.interpolate_eq_cellValue, ht, he]

theorem Bank.cellValue_near (b : Bank) (i j : Nat) : b.cellValue i j 0 0 = b.factor i j * 12500 := by
  simp only [Bank.cellValue, Nat.sub_zero, Nat.mul_zero, Nat.add_zero, Nat.mul_assoc]

theorem Bank.cellValue_far (b : Bank) (i j : Nat) : b.cellValue i j 50 250 = b.factor (i + 1) (j + 1) * 12500 := by
  simp only [Bank.cellValue, Nat.sub_self, Nat.mul_zero, Nat.zero_add, Nat.mul_assoc]

/-- A mean with weights n - k and k lies between the bounds of its two values. -/
theorem weighted_mem_range {lo hi p q n k : Nat} (hk : k ≤ n) (hp : lo ≤ p ∧ p ≤ hi) (hq : lo ≤ q ∧ q ≤ hi) :
    lo * n ≤ p * (n - k) + q * k ∧ p * (n - k) + q * k ≤ hi * n := by
  have split (c : Nat) : c * n = c * (n - k) + c * k := by rw [← Nat.mul_add, Nat.sub_add_cancel hk]
  rw [split lo, split hi]
  exact ⟨Nat.add_le_add (Nat.mul_le_mul_right _ hp.1) (Nat.mul_le_mul_right _ hq.1),
    Nat.add_le_add (Nat.mul_le_mul_right _ hp.2) (Nat.mul_le_mul_right _ hq.2)⟩

/-- R54: the value is a weighted mean of the four entries of the cell. -/
theorem Bank.cellValue_mem_range {b : Bank} {lo hi i j ft fe : Nat} (hft : ft ≤ 50) (hfe : fe ≤ 250) (hi16 : i + 1 ≤ 16) (hj12 : j + 1 ≤ 12)
    (h : ∀ k l, k ≤ 16 → l ≤ 12 → lo ≤ b.factor k l ∧ b.factor k l ≤ hi) :
    lo * 12500 ≤ b.cellValue i j ft fe ∧ b.cellValue i j ft fe ≤ hi * 12500 := by
  have row (k : Nat) (hk : k ≤ 16) := weighted_mem_range hfe (h k j hk (by omega)) (h k (j + 1) hk hj12)
  have cell := weighted_mem_range hft (row i (by omega)) (row (i + 1) hi16)
  simpa only [Bank.cellValue, Nat.mul_assoc] using cell

/-- R54: the rounding gives back a factor that comes out exactly. -/
theorem round_factor (c : Nat) : (c * 12500 + 6250) / 12500 = c := by omega

/-! ## The whole engine -/

theorem Bank.factorOf_factor (b : Bank) (t baro : Int) (gauge : Nat) :
    (b.factorOf t baro gauge).1 = b.interpolate (clampTo 300 1100 t).1 (clampTo 28000 31000 (effectivePressure baro gauge)).1 := rfl

theorem Bank.factorOf_clamped_iff (b : Bank) (t baro : Int) (gauge : Nat) :
    (b.factorOf t baro gauge).2 = true ↔
      effectivePressure baro gauge ≠ ((clampTo 28000 31000 (effectivePressure baro gauge)).1 : Int) ∨ t ≠ ((clampTo 300 1100 t).1 : Int) := by
  rw [← clampTo_flag_iff, ← clampTo_flag_iff, ← Bool.or_eq_true]
  rfl

/-- Settles O16: the clamps and the cell give the indices and fractions of R53, and the rest is the value of that cell. -/
theorem correctionFactor : Obligations.CorrectionFactor := by
  unfold Obligations.CorrectionFactor
  intro b t baro gauge e0 e tc i ft j fe f x y v
  have he : (clampTo 28000 31000 (effectivePressure baro gauge)).1 = e := clampTo_fst (by omega) _
  have htc : (clampTo 300 1100 t).1 = tc := clampTo_fst (by omega) _
  obtain ⟨heLo, heHi⟩ : 28000 ≤ e ∧ e ≤ 31000 := he ▸ clampTo_fst_mem (by omega) _
  obtain ⟨htLo, htHi⟩ : 300 ≤ tc ∧ tc ≤ 1100 := htc ▸ clampTo_fst_mem (by omega) _
  have hrow : cellOf 300 50 16 tc = (i, ft) := cellOf_eq_ite (by omega) htLo htHi
  have hcol : cellOf 28000 250 12 e = (j, fe) := cellOf_eq_ite (by omega) heLo heHi
  have hi : i < 16 := by simpa only [hrow] using cellOf_index_lt (base := 300) (step := 50) (x := tc) (by omega : 0 < 16)
  have hj : j < 12 := by simpa only [hcol] using cellOf_index_lt (base := 28000) (step := 250) (x := e) (by omega : 0 < 12)
  have hft : ft ≤ 50 := by simpa only [hrow] using cellOf_fraction_le (step := 50) (last := 16) (by omega) htLo htHi
  have hfe : fe ≤ 250 := by simpa only [hcol] using cellOf_fraction_le (step := 250) (last := 12) (by omega) heLo heHi
  have hF : (b.factorOf t baro gauge).1 = (v + 6250) / 12500 := by
    rw [Bank.factorOf_factor, he, htc]
    exact b.interpolate_of_cells hrow hcol
  refine ⟨fun hg hb => ?inputBounds, hi, hj, fun h => ?rowFraction, fun h => ?columnFraction, hF, ?clamped, fun hfe0 hft0 => ?corner,
    fun hT hE => ?farCorner, fun hRange => ?range⟩
  case inputBounds => omega
  case rowFraction =>
    have := cellOf_fraction_lt (step := 50) (last := 16) (by omega) htLo h
    rw [hrow] at this
    exact Nat.le_of_lt_succ this
  case columnFraction =>
    have := cellOf_fraction_lt (step := 250) (last := 12) (by omega) heLo h
    rw [hcol] at this
    exact Nat.le_of_lt_succ this
  case clamped =>
    rw [Bank.factorOf_clamped_iff, he, htc]
    rfl
  case corner =>
    have hv : v = f i j * 12500 := by
      change b.cellValue i j ft fe = _
      rw [hfe0, hft0]
      exact b.cellValue_near i j
    exact ⟨hv, by rw [hF, hv, round_factor]⟩
  case farCorner =>
    rw [Bank.factorOf_factor, he, htc, hT, hE, b.interpolate_of_cells (cellOf_far (by omega)) (cellOf_far (by omega)), b.cellValue_far, round_factor]
  case range =>
    obtain ⟨hvLo, hvHi⟩ : 7000 * 12500 ≤ v ∧ v ≤ 13000 * 12500 := Bank.cellValue_mem_range hft hfe hi hj hRange
    rw [hF]
    omega

end Sys2Proof.Machine

/-! The result of a review (R117 to R119): the target of stage 6 lies within the bounds, the slew leads from the last sent setpoint
towards it, and the hold brings the value back between the bounds. -/

namespace Sys2Proof.Machine

/-! ## The target of stage 6 (R117, R118) -/

theorem limitTo_fst_le (headroom : Option Int) (target : Int) : (limitTo headroom target).1 ≤ target := by
  unfold limitTo
  split
  · split
    · exact Int.le_of_lt ‹_›
    · exact Int.le_refl _
  · exact Int.le_refl _

theorem State.stages_target5_le_maxSet (s : State) (b : Bank) (d : Fin 6) (slot : Nat) :
    (s.stages b d slot).target5 ≤ (b.districts[d].maxSet : Int) :=
  Int.le_trans (limitTo_fst_le _ _) (Int.min_le_left _ _)

theorem State.stages_target6 (s : State) (b : Bank) (d : Fin 6) (slot : Nat) :
    (s.stages b d slot).target6 = max (s.stages b d slot).target5 (b.districts[d].minSet : Int) := rfl

theorem State.stages_target6_mem (s : State) {b : Bank} {d : Fin 6} (slot : Nat) (hb : b.districts[d].minSet ≤ b.districts[d].maxSet) :
    (b.districts[d].minSet : Int) ≤ (s.stages b d slot).target6 ∧ (s.stages b d slot).target6 ≤ b.districts[d].maxSet := by
  rw [s.stages_target6]
  exact ⟨Int.le_max_right _ _, Int.max_le.2 ⟨s.stages_target5_le_maxSet b d slot, Int.ofNat_le.2 hb⟩⟩

/-! ## The slew of stage 7 (R119) -/

section Slew

variable (e : DistrictEntry) (headroom : Bool) {l : Nat} {target : Int}

theorem DistrictEntry.slewed_none : e.slewed none headroom target = target := rfl

theorem DistrictEntry.slewed_of_lt (h : (l : Int) < target) : e.slewed (some l) headroom target = min target (l + e.slew) :=
  if_pos h

theorem DistrictEntry.slewed_of_gt (h : target < (l : Int)) :
    e.slewed (some l) headroom target = if headroom then target else max target (l - e.slew) :=
  (if_neg (Int.not_lt.2 (Int.le_of_lt h))).trans (if_pos h)

theorem DistrictEntry.slewed_of_eq (h : target = (l : Int)) : e.slewed (some l) headroom target = l := by
  simp [slewed, h]

/-- A slewed value passes neither the last sent setpoint nor the target. -/
theorem DistrictEntry.slewed_between (l : Nat) (target : Int) :
    min (l : Int) target ≤ e.slewed (some l) headroom target ∧ e.slewed (some l) headroom target ≤ max (l : Int) target := by
  rcases Int.lt_trichotomy l target with h | h | h
  · rw [e.slewed_of_lt headroom h]; omega
  · rw [e.slewed_of_eq headroom h.symm]; omega
  · rw [e.slewed_of_gt headroom h]
    split <;> omega

/-- With the target within the bounds, only a last sent setpoint outside them leads outside them. -/
theorem DistrictEntry.lastSent_outside_of_slewed_outside {last : Option Nat} (hlo : (e.minSet : Int) ≤ target) (hhi : target ≤ e.maxSet)
    (h : e.slewed last headroom target < e.minSet ∨ (e.maxSet : Int) < e.slewed last headroom target) :
    ∃ l : Nat, last = some l ∧ ((l : Int) < e.minSet ∨ (e.maxSet : Int) < l) := by
  cases last with
  | none => rw [e.slewed_none] at h; omega
  | some l =>
    have := e.slewed_between headroom l target
    exact ⟨l, rfl, by omega⟩

end Slew

/-! ## The hold within the bounds (R119) -/

section Hold

variable {e : DistrictEntry} (hb : e.minSet ≤ e.maxSet) (x : Int)

include hb

theorem DistrictEntry.held_eq_ite : (e.held x : Int) = if x < e.minSet then (e.minSet : Int) else if e.maxSet < x then (e.maxSet : Int) else x := by
  unfold held
  split
  · omega
  · split <;> omega

theorem DistrictEntry.held_mem : (e.minSet : Int) ≤ e.held x ∧ (e.held x : Int) ≤ e.maxSet := by
  unfold held
  omega

/-- The hold takes a value no further from a target within the bounds. -/
theorem DistrictEntry.held_sub_natAbs_le {target : Int} (hlo : (e.minSet : Int) ≤ target) (hhi : target ≤ e.maxSet) :
    ((e.held x : Int) - target).natAbs ≤ (x - target).natAbs := by
  rw [held_eq_ite hb]
  split
  · omega
  · split <;> omega

end Hold

theorem State.stages_result (s : State) (b : Bank) (d : Fin 6) (slot : Nat) :
    (s.stages b d slot).result =
      b.districts[d].held (b.districts[d].slewed s.districts[d].lastSent (s.stages b d slot).limited (s.stages b d slot).target6) := rfl

/-- Settles O19: the slewed value is the bound value, and the hold of it is the result. -/
theorem reviewResult : Obligations.ReviewResult := by
  intro s b d slot hb g lo hi slew
  let e := b.districts[d]
  obtain ⟨hlo, hhi⟩ : lo ≤ g.target6 ∧ g.target6 ≤ hi := s.stages_target6_mem slot hb
  have hres : g.result = e.held (e.slewed s.districts[d].lastSent g.limited g.target6) := s.stages_result b d slot
  refine ⟨e.slewed s.districts[d].lastSent g.limited g.target6, fun hnone => ?noLast, fun l hl => ?fromLast, ?hold,
    e.lastSent_outside_of_slewed_outside g.limited hlo hhi, ?closer, ?within⟩
  case noLast => rw [hnone, e.slewed_none]
  case fromLast =>
    rw [hl]
    exact ⟨e.slewed_of_lt g.limited, fun h hlim => (e.slewed_of_gt g.limited h).trans (if_pos hlim),
      fun h hlim => (e.slewed_of_gt g.limited h).trans (if_neg (by simp [hlim])), e.slewed_of_eq g.limited⟩
  case hold => rw [hres]; exact DistrictEntry.held_eq_ite hb _
  case closer => rw [hres]; exact DistrictEntry.held_sub_natAbs_le hb _ hlo hhi
  case within => rw [hres]; exact DistrictEntry.held_mem hb _

end Sys2Proof.Machine

/-! The check errors of a scan cycle (R162): no operation of the part but the counting of a bad frame, a SCAN HEAD and power-on touches
the count of bad frames and its mark. One lemma for each operation says so, in the order of the model's files; most rest on what the
Valve Controller, the Programme Unit and the line can change at all (`OnlyValves`, `OnlyEvents`, `OnlyLine`). -/

namespace Sys2Proof.Machine

/-! ## The count and the mark -/

/-- R162: the count of bad frames and its mark. -/
def LoopPort.checks (l : LoopPort) : Nat × Bool := (l.checkErrors, l.checkMark)

theorem LoopPort.checks_eq_iff (l k : LoopPort) : k.checks = l.checks ↔ k.checkErrors = l.checkErrors ∧ k.checkMark = l.checkMark :=
  Iff.of_eq (Prod.mk.injEq ..)

theorem OnlyCommands.checks {l k : LoopPort} (h : OnlyCommands l k) : k.checks = l.checks :=
  (l.checks_eq_iff k).2 ⟨h.checkErrors, h.checkMark⟩
theorem OnlyLine.checks {l k : LoopPort} (h : OnlyLine l k) : k.checks = l.checks := (l.checks_eq_iff k).2 ⟨h.checkErrors, h.checkMark⟩
theorem OnlyValves.checks {s t : State} (h : OnlyValves s t) : t.loop.checks = s.loop.checks := h.loop.checks
theorem OnlyEvents.checks {s t : State} (h : OnlyEvents s t) : t.loop.checks = s.loop.checks := by
  obtain ⟨f, h⟩ := h
  exact h.checks

theorem forEach_checks {n : Nat} {f : Fin n → State → State} (h : ∀ i s, (f i s).loop.checks = s.loop.checks) (s : State) :
    (forEach f s).loop.checks = s.loop.checks :=
  forEach_keeps (fun s t => t.loop.checks = s.loop.checks) (fun _ => rfl) (fun h k => k.trans h) f h s

/-! ## Operations whose frame is known -/

@[simp] theorem LoopPort.withdraw_checks (l : LoopPort) (p : Command → Bool) : (l.withdraw p).checks = l.checks := rfl
@[simp] theorem LoopPort.placeSet_checks (l : LoopPort) (d : Fin 6) (x : Nat) : (l.placeSet d x).1.checks = l.checks :=
  (l.placeSet_only d x).checks
@[simp] theorem LoopPort.enter_checks (l : LoopPort) (f : LineFrame) : (l.enter f).checks = l.checks := (l.enter_only f).checks

@[simp] theorem State.enterTrigger_checks (s : State) (t : Trigger) : (s.enterTrigger t).loop.checks = s.loop.checks :=
  (s.enterTrigger_only t).checks
@[simp] theorem State.setTransition_checks (s : State) (t : Option Transition) : (s.setTransition t).loop.checks = s.loop.checks := rfl
@[simp] theorem State.mapRole_checks (s : State) (h : Fin 4) (f : RoleRec → RoleRec) : (s.mapRole h f).loop.checks = s.loop.checks := rfl
@[simp] theorem State.notifyJoined_checks (s : State) (v : Fin 8) (r : ValveRec) (x : Bool) :
    (s.notifyJoined v r x).loop.checks = s.loop.checks := (s.notifyJoined_only v r x).checks
@[simp] theorem State.offer_checks (s : State) (v : Fin 8) (d : Demand) : (s.offer v d).1.loop.checks = s.loop.checks :=
  (s.offer_only v d).checks
@[simp] theorem State.positionReport_checks (s : State) (v : Fin 8) (p : Position) : (s.positionReport v p).loop.checks = s.loop.checks :=
  (s.positionReport_only v p).checks
@[simp] theorem State.valveAnswer_checks (s : State) (b : Bank) (v : Fin 8) (t : Byte) (a : Answer) :
    (s.valveAnswer b v t a).loop.checks = s.loop.checks := (s.valveAnswer_only b v t a).checks
@[simp] theorem State.missedAnswer_checks (s : State) (v : Fin 8) (c : FailCause) : (s.missedAnswer v c).loop.checks = s.loop.checks :=
  (s.missedAnswer_only v c).checks
@[simp] theorem State.endStuck_checks (s : State) (v : Fin 8) (c : FailCause) : (s.endStuck v c).loop.checks = s.loop.checks :=
  (s.endStuck_only v c).checks
@[simp] theorem State.setUnknown_checks (s : State) (v : Fin 8) : (s.setUnknown v).loop.checks = s.loop.checks :=
  (s.setUnknown_only v).checks
@[simp] theorem State.valvesRecover_checks (s : State) (b : Bank) : (s.valvesRecover b).loop.checks = s.loop.checks :=
  (s.valvesRecover_only b).checks
@[simp] theorem State.withdraw_checks (s : State) (h : Fin 4) (sd : Side) (c : PermCause) (n : Nat) :
    (s.withdraw h sd c n).loop.checks = s.loop.checks := (s.withdraw_only h sd c n).checks
@[simp] theorem State.settled_checks (s : State) : s.settled.loop.checks = s.loop.checks := s.settled_only.checks
@[simp] theorem State.holderChange_checks (s : State) (b : Bank) (h : Fin 4) (lo hi : Nat) :
    (s.holderChange b h lo hi).loop.checks = s.loop.checks := (s.holderChange_only b h lo hi).checks
@[simp] theorem State.restoredChanges_checks (s : State) (b : Bank) : (s.restoredChanges b).loop.checks = s.loop.checks :=
  (s.restoredChanges_only b).checks
@[simp] theorem State.swapEvents_checks (s : State) (before : Vector HolderRec 4) (old new : Bank) :
    (s.swapEvents before old new).loop.checks = s.loop.checks := (s.swapEvents_only before old new).checks

/-! ## Operations that leave the whole Loop Port -/

@[simp] theorem State.raiseAt_loop (s : State) (x : Fin 74) (t : Occurrence) : (s.raiseAt x t).loop = s.loop := by
  unfold State.raiseAt; split <;> rfl
@[simp] theorem State.raise_loop (s : State) (x : Fin 74) : (s.raise x).loop = s.loop := s.raiseAt_loop x s.now
@[simp] theorem State.raiseAll_loop (s : State) (xs : List (Fin 74)) : (s.raiseAll xs).loop = s.loop := by
  induction xs generalizing s with
  | nil => rfl
  | cons x xs ih => exact (ih (s.raise x)).trans (s.raise_loop x)
@[simp] theorem State.yardFlag_loop (s : State) (f : YardFlags) : (s.yardFlag f).loop = s.loop := rfl
@[simp] theorem State.channelFlag_loop (s : State) (m : Fin 12) (f : ChannelFlags) : (s.channelFlag m f).loop = s.loop := rfl
@[simp] theorem State.saveHolder_loop (s : State) (h : Fin 4) : (s.saveHolder h).loop = s.loop := rfl
@[simp] theorem State.hand_loop (s : State) (b : Bank) (m : Fin 12) (n : Nat) : (s.hand b m n).loop = s.loop := rfl
@[simp] theorem State.passTo_loop (s : State) (t : Nat) : (s.passTo t).loop = s.loop := by
  rw [State.passTo, State.passMs_loop]
@[simp] theorem State.passToSec_loop (s : State) (t : Nat) : (s.passToSec t).loop = s.loop := by
  rw [State.passToSec, State.passMs_loop]
@[simp] theorem State.openInterval_loop (s : State) (o : Opening) : (s.openInterval o).loop = s.loop := by
  unfold State.openInterval; split <;> rfl

/-! ## Reports -/

@[simp] theorem State.takeLift_checks (s : State) (b : Bank) (h : Fin 4) (x : LiftBody) : (s.takeLift b h x).loop.checks = s.loop.checks := by
  unfold State.takeLift
  dsimp only
  repeat' split
  all_goals simp

@[simp] theorem State.takeMeter_checks (s : State) (b : Bank) (m : Fin 12) (r p : Nat) :
    (s.takeMeter b m r p).loop.checks = s.loop.checks := by
  unfold State.takeMeter
  dsimp only
  repeat' split
  all_goals simp

theorem State.cupReading_checks (s : State) (b : Bank) (h : Fin 4) (v : Int) (q : Quality) :
    (s.cupReading b h v q).loop.checks = s.loop.checks := by
  unfold State.cupReading
  dsimp only
  repeat' split
  all_goals simp

@[simp] theorem State.cupReadings_checks (s : State) (b : Bank) (p : Fin 24) (v : Int) (q : Quality) :
    (s.cupReadings b p v q).loop.checks = s.loop.checks :=
  forEach_checks (fun h s => by split <;> simp [State.cupReading_checks]) s

@[simp] theorem State.endOfMain_checks (s : State) (b : Bank) (p : Fin 24) (v : Int) :
    (s.endOfMain b p v).loop.checks = s.loop.checks :=
  forEach_checks (fun d s => by split <;> simp) s

@[simp] theorem State.pointReport_checks (s : State) (b : Bank) (p : Fin 24) (v : Int) (q : Quality) :
    (s.pointReport b p v q).loop.checks = s.loop.checks := by
  unfold State.pointReport; split <;> simp

@[simp] theorem State.governorReport_checks (s : State) (b : Bank) (d : Fin 6) (x : Nat) (hand : Bool) :
    (s.governorReport b d x hand).loop.checks = s.loop.checks := by
  unfold State.governorReport; split <;> simp

/-! ## The line -/

@[simp] theorem State.forward_checks (s : State) (f : LineFrame) : (s.forward f).loop.checks = s.loop.checks := s.loop.enter_checks f
@[simp] theorem State.absorb_checks (s : State) : s.absorb.loop.checks = s.loop.checks := rfl

@[simp] theorem State.routeTo_checks (s : State) (b : Bank) (st : Station) (body : List Byte) :
    (s.routeTo b st body).loop.checks = s.loop.checks := by
  unfold State.routeTo
  cases st <;> dsimp only <;> split <;> simp [State.calorimeterReport, State.barometerReport]

@[simp] theorem State.receiveReport_checks (s : State) (dest src : Byte) (body : List Byte) :
    (s.receiveReport dest src body).loop.checks = s.loop.checks := by
  unfold State.receiveReport State.routeReport
  repeat' split
  all_goals simp

@[simp] theorem State.receiveAnswer_checks (s : State) (dest src : Byte) (body : List Byte) :
    (s.receiveAnswer dest src body).loop.checks = s.loop.checks := by
  unfold State.receiveAnswer State.routeAnswer
  dsimp only
  repeat' split
  all_goals simp

@[simp] theorem State.receiveTail_checks (s : State) (dest src : Byte) (body : List Byte) :
    (s.receiveTail dest src body).loop.checks = s.loop.checks := by
  refine Eq.trans ?_ (s.forward_checks (.valid ⟨dest, src, kindScanTail, body⟩))
  unfold State.receiveTail LoopPort.tail
  dsimp only [State.setLoop_loop]
  split <;> rfl

@[simp] theorem State.enterDeferred_loop (s : State) : s.enterDeferred.loop = s.loop := by
  unfold State.enterDeferred; split <;> simp

@[simp] theorem State.blocksRecover_checks (s : State) (b : Bank) (programmeFirst : Bool) :
    (s.blocksRecover b programmeFirst).loop.checks = s.loop.checks := by
  have others : ((s.metersRecover b).governorsRecover b).loop = s.loop := rfl
  unfold State.blocksRecover; split <;> simp [others]

@[simp] theorem State.recover_checks (s : State) (programmeFirst : Bool) : (s.recover programmeFirst).loop.checks = s.loop.checks := by
  have up : (s.setLoop { s.loop with lost := false }).enterDeferred.loop.checks = s.loop.checks := by rw [State.enterDeferred_loop]; rfl
  unfold State.recover
  dsimp only
  split
  · rw [State.blocksRecover_checks, up]
  · exact up

/-! ## The insertion window -/

theorem State.Begins.checks {s t : State} (h : s.Begins t) : t.loop.checks = s.loop.checks := by
  induction h with
  | command => rfl
  | unsent _ _ _ _ _ _ ih => exact ih
  | response => rfl
  | status => rfl

@[simp] theorem State.nextOwn_checks (s : State) : s.nextOwn.loop.checks = s.loop.checks := s.nextOwn_begins.checks

theorem LoopPort.startThrough_checks (l : LoopPort) : l.startThrough.checks = l.checks := by
  unfold LoopPort.startThrough; split <;> rfl
theorem LoopPort.endWindow_checks (l : LoopPort) : l.endWindow.checks = l.checks := by
  unfold LoopPort.endWindow; split <;> rfl

@[simp] theorem State.tryOpen_checks (s : State) : s.tryOpen.loop.checks = s.loop.checks := by
  unfold State.tryOpen
  dsimp only
  repeat' split
  · rw [State.nextOwn_checks]; rfl
  · rfl
  · rfl

@[simp] theorem State.lineWentQuiet_checks (s : State) : s.lineWentQuiet.loop.checks = s.loop.checks := by
  unfold State.lineWentQuiet; rw [State.tryOpen_checks]; rfl

@[simp] theorem State.throughSent_checks (s : State) (arriving : Bool) : (s.throughSent arriving).loop.checks = s.loop.checks := by
  have passed (f : LineFrame) : (s.loop.passedOn f arriving).checks = s.loop.checks := rfl
  unfold State.throughSent
  dsimp only
  repeat' split
  · simp [passed]
  · simp [passed, LoopPort.startThrough_checks]
  · rfl

theorem State.tellOwner_checks (s : State) (o : OwnFrame) : (s.tellOwner o).loop.checks = s.loop.checks := by
  unfold State.tellOwner
  split
  · exact (s.commandSent_only _).checks
  · rfl

@[simp] theorem State.ownSent_checks (s : State) : s.ownSent.loop.checks = s.loop.checks := by
  have freed (o : OwnFrame) : LoopPort.checks { (s.tellOwner o).loop with tx := .idle } = s.loop.checks := s.tellOwner_checks o
  unfold State.ownSent
  dsimp only
  repeat' split
  all_goals simp [LoopPort.startThrough_checks, LoopPort.endWindow_checks, freed]

/-! ## The swap, the close and the taking of a bank -/

@[simp] theorem State.swapTables_loop (s : State) : s.swapTables.loop = s.loop := by
  unfold State.swapTables; simp

theorem State.liftSwap_checks (s : State) (old new : Bank) (h : Fin 4) : (s.liftSwap old new h).loop.checks = s.loop.checks := by
  unfold State.liftSwap
  dsimp only
  repeat' split
  all_goals simp

theorem State.meterSwap_checks (s : State) (old new : Bank) (m : Fin 12) : (s.meterSwap old new m).loop.checks = s.loop.checks := by
  unfold State.meterSwap State.enterStalled
  dsimp only
  repeat' split
  all_goals simp

@[simp] theorem State.pointsSwap_loop (s : State) (b : Bank) : (s.pointsSwap b).loop = s.loop := by
  unfold State.pointsSwap
  dsimp only
  split <;> simp

theorem State.valveSwap_checks (s : State) (old new : Bank) (v : Fin 8) : (s.valveSwap old new v).loop.checks = s.loop.checks := by
  unfold State.valveSwap
  repeat' split
  all_goals simp

theorem State.roleSwap_checks (s : State) (old new : Bank) (h : Fin 4) : (s.roleSwap old new h).loop.checks = s.loop.checks := by
  unfold State.roleSwap; split <;> simp

theorem State.retakeAll_checks (s : State) (b : Bank) : (s.retakeAll b).loop.checks = s.loop.checks :=
  forEach_checks (fun h s => by split <;> simp) s

@[simp] theorem State.programmeSwap_checks (s : State) (old new : Bank) : (s.programmeSwap old new).loop.checks = s.loop.checks := by
  have roles := forEach_checks (fun h s => s.roleSwap_checks old new h) s
  unfold State.programmeSwap
  dsimp only
  repeat' split
  all_goals simp [State.retakeAll_checks, roles]

theorem State.districtSwap_checks (s : State) (old new : Bank) (d : Fin 6) : (s.districtSwap old new d).loop.checks = s.loop.checks := by
  unfold State.districtSwap
  dsimp only
  repeat' split
  all_goals simp

@[simp] theorem State.takeOver_checks (s : State) (old new : Bank) : (s.takeOver old new).loop.checks = s.loop.checks := by
  have lifts (s : State) := forEach_checks (fun h s => s.liftSwap_checks old new h) s
  have meters (s : State) := forEach_checks (fun m s => s.meterSwap_checks old new m) s
  have valves (s : State) := forEach_checks (fun v s => s.valveSwap_checks old new v) s
  have districts (s : State) := forEach_checks (fun d s => s.districtSwap_checks old new d) s
  unfold State.takeOver
  simp [lifts, meters, valves, districts]

@[simp] theorem State.recordClose_checks (s : State) (b : Bank) (r : IntervalRecord) : (s.recordClose b r).loop.checks = s.loop.checks :=
  forEach_checks (fun h s => by split <;> simp) (s.writeLogs _)

@[simp] theorem State.closeInterval_checks (s : State) (b : Bank) (extra next : YardFlags) (closeTime : Option WallTime) :
    (s.closeInterval b extra next closeTime).loop.checks = s.loop.checks := by
  unfold State.closeInterval State.swapAndOpen
  dsimp only
  repeat' split
  all_goals simp

@[simp] theorem State.takeLive_checks (s : State) (b : Bank) (first : Bool) : (s.takeLive b first).loop.checks = s.loop.checks := by
  have holders (s : State) : (s.bringHolders b).loop.checks = s.loop.checks := forEach_checks (fun h s => by split <;> simp) s
  have grants (s : State) : (s.grantAll b).loop.checks = s.loop.checks := forEach_checks (fun h s => by split <;> simp) s
  have reviews (s : State) : (s.startReviews b).loop = s.loop := rfl
  unfold State.takeLive
  dsimp only
  split <;> simp [holders, grants, reviews]

@[simp] theorem State.restarted_checks (s : State) (b : Bank) : (s.restarted b).loop.checks = s.loop.checks := by
  have fresh (s : State) : s.reinitialised.loop.checks = s.loop.checks := rfl
  unfold State.restarted
  dsimp only
  split <;> simp [fresh]

/-! ## Timers and the clock -/

theorem State.lossExpired_checks (s : State) : s.lossExpired.loop.checks = s.loop.checks := by
  unfold State.lossExpired
  split <;> rfl

theorem State.stallExpired_checks (s : State) (m : Fin 12) : (s.stallExpired m).loop.checks = s.loop.checks := by
  unfold State.stallExpired State.enterStalled
  repeat' split
  all_goals simp

theorem State.staleExpired_checks (s : State) (r : Fin 25) : (s.staleExpired r).loop.checks = s.loop.checks := by
  unfold State.staleExpired State.goStale
  repeat' split
  all_goals simp

theorem State.cvStaleExpired_checks (s : State) : s.cvStaleExpired.loop.checks = s.loop.checks := by
  unfold State.cvStaleExpired State.goCvStale
  repeat' split
  all_goals simp

theorem State.answerExpired_checks (s : State) (v : Fin 8) : (s.answerExpired v).loop.checks = s.loop.checks := by
  unfold State.answerExpired; split <;> simp

theorem State.travelExpired_checks (s : State) (v : Fin 8) : (s.travelExpired v).loop.checks = s.loop.checks := by
  unfold State.travelExpired; split <;> simp

@[simp] theorem State.sendStage_checks (s : State) (d : Fin 6) (e : DistrictEntry) (g : Stages) :
    (s.sendStage d e g).loop.checks = s.loop.checks := by
  unfold State.sendStage
  dsimp only
  split <;> simp

@[simp] theorem State.review_checks (s : State) (b : Bank) (d : Fin 6) (sl : DaySlot) : (s.review b d sl).loop.checks = s.loop.checks := by
  have clamped (s : State) (x : Bool) : (s.raiseClamped d sl x).loop = s.loop := by unfold State.raiseClamped; split <;> simp
  have endLow (s : State) (x : Bool) : (s.raiseEndLow d x).loop = s.loop := by unfold State.raiseEndLow; split <;> simp
  have short (s : State) (x : Bool) : (s.raiseShort d x).loop = s.loop := by unfold State.raiseShort; split <;> simp
  unfold State.review
  simp [clamped, endLow, short]

theorem State.reviewDone_checks (s : State) (d : Fin 6) : (s.reviewDone d).loop.checks = s.loop.checks := by
  unfold State.reviewDone State.reviewExpired
  dsimp only
  repeat' split
  all_goals simp

theorem State.giveSlot_checks (s : State) : s.giveSlot.loop.checks = s.loop.checks := by
  unfold State.giveSlot
  rw [State.settled_checks, State.enterTrigger_checks, State.setClock_loop]

theorem State.slotBoundary_checks (s : State) : s.slotBoundary.loop.checks = s.loop.checks := by
  unfold State.slotBoundary
  repeat' split
  · exact s.giveSlot_checks
  · rw [State.giveSlot_checks, State.passToSec_loop]
  · rfl

theorem State.nominalEndReached_checks (s : State) : s.nominalEndReached.loop.checks = s.loop.checks := by
  have close (s : State) : s.closeNow.loop.checks = s.loop.checks := by unfold State.closeNow; split <;> simp
  unfold State.nominalEndReached
  repeat' split
  all_goals simp [close]

theorem State.clockStops_checks (s : State) : s.clockStops.loop.checks = s.loop.checks := by
  unfold State.clockStops
  dsimp only
  split
  · rw [State.setClock_loop, State.passToSec_loop]
  · rfl

theorem State.storeWritten_checks (s : State) (agrees : Bool) : (s.storeWritten agrees).loop.checks = s.loop.checks := by
  unfold State.storeWritten
  dsimp only
  repeat' split
  all_goals simp

/-! ## Directives -/

@[simp] theorem State.refuse_checks (s : State) (r : Reason) : (s.refuse r).1.loop.checks = s.loop.checks := rfl

theorem State.withBank_checks {s : State} {f : Bank → Act} (h : ∀ b, (f b).1.loop.checks = s.loop.checks) :
    (s.withBank f).1.loop.checks = s.loop.checks := by
  unfold State.withBank
  split
  · exact h _
  · rfl

@[simp] theorem State.actLoadSegment_checks (s : State) (ps : List Byte) : (s.actLoadSegment ps).1.loop.checks = s.loop.checks := by
  unfold State.actLoadSegment
  dsimp only
  repeat' split
  all_goals simp

@[simp] theorem State.commitPassed_checks (s : State) : s.commitPassed.loop.checks = s.loop.checks := by
  unfold State.commitPassed
  dsimp only
  repeat' split
  all_goals simp

@[simp] theorem State.actCommit_checks (s : State) : s.actCommit.1.loop.checks = s.loop.checks := by
  unfold State.actCommit
  repeat' split
  all_goals simp

@[simp] theorem State.actDiscard_checks (s : State) : s.actDiscard.1.loop.checks = s.loop.checks := rfl

@[simp] theorem State.actReadTable_checks (s : State) (ps : List Byte) : (s.actReadTable ps).1.loop.checks = s.loop.checks := by
  have bank (k t first n : Nat) (b : Bank) : (s.readBank k t first n b).1.loop.checks = s.loop.checks := by
    unfold State.readBank; split <;> rfl
  unfold State.actReadTable
  dsimp only
  split
  · exact State.withBank_checks fun b => bank ..
  · exact bank ..
  · rfl

@[simp] theorem State.actReadInterval_checks (s : State) (q : Nat) : (s.actReadInterval q).1.loop.checks = s.loop.checks := by
  unfold State.actReadInterval
  repeat' split
  all_goals rfl

@[simp] theorem State.actReadNext_checks (s : State) : s.actReadNext.1.loop.checks = s.loop.checks := by
  unfold State.actReadNext
  dsimp only
  repeat' split
  all_goals rfl

@[simp] theorem State.actReadDay_checks (s : State) (g : Nat) : (s.actReadDay g).1.loop.checks = s.loop.checks := by
  unfold State.actReadDay
  dsimp only
  repeat' split
  all_goals rfl

@[simp] theorem State.actReadHolder_checks (s : State) (n : Nat) : (s.actReadHolder n).1.loop.checks = s.loop.checks :=
  State.withBank_checks fun b => by split <;> rfl
@[simp] theorem State.actReadValve_checks (s : State) (n : Nat) : (s.actReadValve n).1.loop.checks = s.loop.checks :=
  State.withBank_checks fun b => by split <;> rfl
@[simp] theorem State.actReadMeter_checks (s : State) (n : Nat) : (s.actReadMeter n).1.loop.checks = s.loop.checks :=
  State.withBank_checks fun b => by split <;> rfl
@[simp] theorem State.actReadDistrict_checks (s : State) (n : Nat) : (s.actReadDistrict n).1.loop.checks = s.loop.checks :=
  State.withBank_checks fun b => by split <;> rfl
@[simp] theorem State.actReadPoint_checks (s : State) (n : Nat) : (s.actReadPoint n).1.loop.checks = s.loop.checks :=
  State.withBank_checks fun b => by split <;> rfl

@[simp] theorem State.identify_loop (s : State) (b : Bank) (t : WallTime) : (s.identify b t).loop = s.loop := rfl

theorem State.clockTo_checks (s : State) (t : WallTime) : (s.clockTo t).loop.checks = s.loop.checks := by
  unfold State.clockTo; simp

theorem State.applyStep_checks (s : State) (b : Bank) (before : Clock) (t : WallTime) :
    (s.applyStep b before t).loop.checks = s.loop.checks := by
  unfold State.applyStep State.adjustTo
  dsimp only
  repeat' split
  all_goals simp

@[simp] theorem State.actSetClock_checks (s : State) (t : WallTime) : (s.actSetClock t).1.loop.checks = s.loop.checks :=
  State.withBank_checks fun b => by
    split
    · rfl
    · exact (State.applyStep_checks ..).trans (s.clockTo_checks t)

theorem State.deskDemand_checks (s : State) (v : Fin 8) (d : Dir) : (s.deskDemand v d).1.loop.checks = s.loop.checks := by
  have offered := s.offer_checks v ⟨d, .desk⟩
  unfold State.deskDemand
  split
  · rfl
  next s1 _ _ h =>
    rw [h] at offered
    exact s1.settled_checks.trans offered

@[simp] theorem State.actValve_checks (s : State) (n dir : Nat) : (s.actValve n dir).1.loop.checks = s.loop.checks :=
  State.withBank_checks fun b => by
    repeat' split
    · rfl
    · exact s.deskDemand_checks ..
    · rfl

@[simp] theorem State.actSetPermit_checks (s : State) (n side : Nat) : (s.actSetPermit n side).1.loop.checks = s.loop.checks :=
  State.withBank_checks fun b => by
    unfold State.permit
    repeat' split
    all_goals simp

@[simp] theorem State.actWithdrawPermit_checks (s : State) (n side : Nat) :
    (s.actWithdrawPermit n side).1.loop.checks = s.loop.checks :=
  State.withBank_checks fun b => by split <;> simp

@[simp] theorem State.actHoldRole_checks (s : State) (n : Nat) : (s.actHoldRole n).1.loop.checks = s.loop.checks :=
  State.withBank_checks fun b => by
    repeat' split
    all_goals simp

@[simp] theorem State.actReleaseRole_checks (s : State) (n : Nat) : (s.actReleaseRole n).1.loop.checks = s.loop.checks :=
  State.withBank_checks fun b => by
    unfold State.release
    repeat' split
    all_goals simp

@[simp] theorem State.preset_checks (s : State) (b : Bank) (h : Fin 4) (count : Nat) : (s.preset b h count).loop.checks = s.loop.checks := by
  unfold State.preset
  dsimp only
  split <;> simp

@[simp] theorem State.actPresetLift_checks (s : State) (n count : Nat) : (s.actPresetLift n count).1.loop.checks = s.loop.checks :=
  State.withBank_checks fun b => by
    repeat' split
    all_goals simp

@[simp] theorem State.actTrim_checks (s : State) (n trim : Nat) : (s.actTrim n trim).1.loop.checks = s.loop.checks :=
  State.withBank_checks fun b => by split <;> rfl

@[simp] theorem State.actClearAttention_checks (s : State) (n seen : Nat) :
    (s.actClearAttention n seen).1.loop.checks = s.loop.checks := by
  unfold State.actClearAttention; split <;> rfl

@[simp] theorem State.actRestart_checks (s : State) : s.actRestart.1.loop.checks = s.loop.checks :=
  State.withBank_checks fun b => s.restarted_checks b

/-- R168, R172: a directive acts on the count only through its act; the placing of its response, and an overrun, leave it. -/
theorem State.directive_checks {s : State} {code ref : Byte} {ok : Bool} {act : State → Act}
    (h : (act s).1.loop.checks = s.loop.checks) : (s.directive code ref ok act).loop.checks = s.loop.checks := by
  unfold State.directive
  repeat' split
  · simp
  · exact h
  · rfl

theorem State.takeByCode_checks (s : State) (code ref : Byte) (ps : List Byte) :
    (s.takeByCode code ref ps).loop.checks = s.loop.checks := by
  unfold State.takeByCode
  split <;> exact State.directive_checks (by simp)

theorem State.takeDirective_checks (s : State) (body : List Byte) : (s.takeDirective body).loop.checks = s.loop.checks := by
  unfold State.takeDirective
  split
  · exact s.takeByCode_checks ..
  · exact State.directive_checks rfl

theorem State.receiveDirective_checks (s : State) (dest src : Byte) (body : List Byte) :
    (s.receiveDirective dest src body).loop.checks = s.loop.checks := by
  have setClock (s : State) (ref : Byte) (ps : List Byte) : (s.takeSetClock ref ps).loop.checks = s.loop.checks :=
    s.takeByCode_checks 13 ref ps
  unfold State.receiveDirective
  dsimp only
  repeat' split
  all_goals simp [State.takeDirective_checks, setClock]

/-! ## Frames by their kind -/

/-- A forwarded frame of any kind, being no SCAN HEAD (R160). -/
theorem State.receive_checks (s : State) (f : Frame) (h : forwardedOk f.kind f.body = true) : (s.receive f).loop.checks = s.loop.checks := by
  obtain ⟨dest, src, kind, body⟩ := f
  unfold State.receive
  split
  next cycle hk hb =>
    obtain rfl : kind = kindScanHead := BitVec.eq_of_toNat_eq hk
    obtain rfl : body = [cycle] := hb
    exact absurd h Bool.false_ne_true
  · exact s.receiveTail_checks ..
  · exact s.receiveReport_checks ..
  · exact s.receiveAnswer_checks ..
  · exact s.receiveDirective_checks ..
  · exact s.forward_checks _

/-- R162: a SCAN HEAD, whether the loop recovers by it or not. -/
theorem State.receiveHead_checks (s : State) (dest src cycle : Byte) (programmeFirst : Bool) :
    (s.receiveHead dest src cycle programmeFirst).loop.checks = (0, false) := by
  unfold State.receiveHead
  dsimp only
  split
  · rw [State.recover_checks]; rfl
  · rfl

/-! ## Commands -/

/-- R162: an outcome leaves the count and its mark as they are in the state `s`. -/
def State.KeepsChecks (s : State) (o : Host.Outcome State Fault Refusal) : Prop := ∀ t, o = .next t → t.loop.checks = s.loop.checks

theorem State.KeepsChecks.next {s t : State} (h : t.loop.checks = s.loop.checks) : s.KeepsChecks (.next t) := by
  rintro _ ⟨rfl⟩
  exact h

theorem State.KeepsChecks.whenOn {s : State} {f : State → State} (h : (f s).loop.checks = s.loop.checks) :
    s.KeepsChecks (.next (s.whenOn f)) := by
  refine .next ?_
  unfold State.whenOn
  split
  · exact h
  · rfl

/-- The same for a frame whose body is within the greatest length, which is taken as what it is (R158). -/
theorem State.KeepsChecks.whole {s : State} {f : State → Frame} {act : State → State} (hf : (f s).body.length ≤ Config.maxBody)
    (h : (act s).loop.checks = s.loop.checks) : s.KeepsChecks (.next (s.whenOn fun s => s.whole (f s) act)) :=
  .whenOn (by rw [State.whole_short _ _ _ hf]; exact h)

/-- A directive of the desk to the part, whatever it asks. -/
theorem execDirectiveUnknown_keepsChecks (s : State) {body : List Byte} (h : bodyOk body = true) :
    s.KeepsChecks (execDirectiveUnknown body s) :=
  .whole (of_decide_eq_true h) (s.absorb.takeDirective_checks body)

/-- A row of Table 31 is DIRECTIVE UNKNOWN with the body that begins with its code (R172, R183). -/
theorem execDirective_keepsChecks (s : State) (code ref : Byte) {ps : List Byte} (h : paramsOk ps = true) :
    s.KeepsChecks (execDirectiveUnknown (code :: ref :: ps) s) := execDirectiveUnknown_keepsChecks s h

/-- R162: no command that can reach the part changes the count or its mark, a bad frame, a SCAN HEAD and power-on apart. -/
theorem exec_keepsChecks (s : State) (i : Instr) (hwf : i.wf = true) (hbad : ∀ cs, i ≠ .badFrameReceived cs ∧ i ≠ .characterGap cs)
    (hhead : ∀ d x c f, i ≠ .scanHead d x c f) (hon : ∀ x c, i ≠ .powerOn x c) : s.KeepsChecks (exec i s) := by
  cases i with
  | powerOn x c => exact absurd rfl (hon x c)
  | scanHead d x c f => exact absurd rfl (hhead d x c f)
  | badFrameReceived cs => exact absurd rfl (hbad cs).1
  | characterGap cs => exact absurd rfl (hbad cs).2
  | powerLoss | resetPinHeld => exact .next rfl
  | scanTail dest src body =>
    obtain ⟨-, hbody⟩ := Bool.and_eq_true_iff.1 hwf
    exact .whole (of_decide_eq_true hbody) (s.receiveTail_checks dest src body)
  | frameForwarded dest src kind body =>
    obtain ⟨h, hkind⟩ := Bool.and_eq_true_iff.1 hwf
    obtain ⟨-, hbody⟩ := Bool.and_eq_true_iff.1 h
    exact .whole (of_decide_eq_true hbody) (s.receive_checks ⟨dest, src, kind, body⟩ hkind)
  | throughFrameSent arriving => exact .whenOn (s.throughSent_checks arriving)
  | liftReport dest src datum index samples =>
    obtain ⟨-, hbody⟩ := Bool.and_eq_true_iff.1 hwf
    exact .whole (of_decide_eq_true hbody) (s.receiveReport_checks ..)
  | meterReport | pointReport | barometerReport | calorimeterReport | valvePositionReport | governorReport =>
    exact .whenOn (s.receiveReport_checks ..)
  | answerSelected | answerDone | answerRefused => exact .whenOn (s.receiveAnswer_checks ..)
  | quietGapElapsed => exact .whenOn s.lineWentQuiet_checks
  | ownFrameSent => exact .whenOn s.ownSent_checks
  | lossTimerExpiry => exact .whenOn s.lossExpired_checks
  | stallTimerExpiry m => exact .whenOn (s.stallExpired_checks m)
  | staleTimerExpiry r => exact .whenOn (s.staleExpired_checks r)
  | cvStaleTimerExpiry => exact .whenOn s.cvStaleExpired_checks
  | answerTimerExpiry v => exact .whenOn (s.answerExpired_checks v)
  | travelTimerExpiry v => exact .whenOn (s.travelExpired_checks v)
  | reviewTimerExpiry d => exact .whenOn (s.reviewDone_checks d)
  | slotBoundary => exact .whenOn s.slotBoundary_checks
  | nominalEndReached => exact .whenOn s.nominalEndReached_checks
  | storeWriteComplete agrees => exact .whenOn (s.storeWritten_checks agrees)
  | clockStopsAdvancing => exact .whenOn s.clockStops_checks
  | directiveUnknown body =>
    obtain ⟨hbody, -⟩ := Bool.and_eq_true_iff.1 hwf
    exact execDirectiveUnknown_keepsChecks s hbody
  | loadSegment ref => exact execDirective_keepsChecks s 1 ref hwf
  | commit ref => exact execDirective_keepsChecks s 2 ref hwf
  | discard ref => exact execDirective_keepsChecks s 3 ref hwf
  | readTable ref => exact execDirective_keepsChecks s 4 ref hwf
  | readInterval ref => exact execDirective_keepsChecks s 5 ref hwf
  | readNext ref => exact execDirective_keepsChecks s 6 ref hwf
  | readDay ref => exact execDirective_keepsChecks s 7 ref hwf
  | readHolder ref => exact execDirective_keepsChecks s 8 ref hwf
  | readValve ref => exact execDirective_keepsChecks s 9 ref hwf
  | readMeter ref => exact execDirective_keepsChecks s 10 ref hwf
  | readDistrict ref => exact execDirective_keepsChecks s 11 ref hwf
  | readPoint ref => exact execDirective_keepsChecks s 12 ref hwf
  | setClock broadcast ref ps =>
    cases broadcast with
    | false => exact execDirective_keepsChecks s 13 ref hwf
    | true => exact .whole (of_decide_eq_true hwf) (s.receiveDirective_checks 255 0 (13 :: ref :: ps))
  | valve ref => exact execDirective_keepsChecks s 14 ref hwf
  | setPermit ref => exact execDirective_keepsChecks s 15 ref hwf
  | withdrawPermit ref => exact execDirective_keepsChecks s 16 ref hwf
  | holdRole ref => exact execDirective_keepsChecks s 17 ref hwf
  | releaseRole ref => exact execDirective_keepsChecks s 18 ref hwf
  | presetLift ref => exact execDirective_keepsChecks s 19 ref hwf
  | trim ref => exact execDirective_keepsChecks s 20 ref hwf
  | clearAttention ref => exact execDirective_keepsChecks s 21 ref hwf
  | restart ref => exact execDirective_keepsChecks s 22 ref hwf
  | directiveDiscarded src body =>
    obtain ⟨h, -⟩ := Bool.and_eq_true_iff.1 hwf
    obtain ⟨-, hbody⟩ := Bool.and_eq_true_iff.1 h
    refine .whole (of_decide_eq_true hbody) ?_
    split
    · exact s.absorb.takeDirective_checks body
    · exact s.absorb_checks

/-! ## An occurrence of a source (R176) -/

/-- An occurrence leaves the entries of the other sources. -/
theorem Attention.mem_occur_of_ne (a : Attention) {src : Fin 74} (cls : AttnClass) (o : Occurrence) {e : AttnItem} (h : e.source ≠ src) :
    e ∈ (a.occur src cls o).items ↔ e ∈ a.items := by
  have new : e ≠ ⟨src, cls, 1, o, a.serials⟩ := fun he => h (congrArg AttnItem.source he)
  unfold Attention.occur
  split
  · simp only [List.mem_map]
    constructor
    · rintro ⟨x, hx, rfl⟩
      split at h
      · exact absurd ‹_› h
      · rwa [if_neg ‹_›]
    · exact fun he => ⟨e, he, if_neg h⟩
  · simp only [insertItem, List.mem_append, List.mem_cons, List.mem_filter, decide_eq_true_eq, new, false_or]
    rw [← and_or_left]
    exact and_iff_left (Nat.lt_or_ge cls.code e.cls.code).symm

theorem Attention.occur_gained (a : Attention) (src : Fin 74) (cls : AttnClass) (o : Occurrence) :
    a.Gained (a.occur src cls o) src o := by
  unfold Attention.occur
  constructor
  · intro hnew
    have : a.items.any (fun e => e.source = src) = false := by
      simpa [List.any_eq_false] using hnew
    rw [if_neg (by simp [this])]
    exact ⟨⟨src, cls, 1, o, a.serials⟩, by simp [insertItem], rfl, rfl, rfl⟩
  · intro e he hsrc
    rw [if_pos (List.any_eq_true.2 ⟨e, he, decide_eq_true hsrc⟩)]
    exact ⟨e.again, List.mem_map.2 ⟨e, he, if_pos hsrc⟩, hsrc, rfl, rfl⟩

theorem State.raise_notRaised (s : State) {src x : Fin 74} (h : x ≠ src) : s.NotRaised (s.raise src) x := by
  rintro e rfl
  unfold State.raise State.raiseAt
  split
  · exact s.attn.mem_occur_of_ne _ _ h
  · exact Iff.rfl

theorem State.raise_eq_setAttn (s : State) (x : Fin 74) : ∃ a, s.raise x = s.setAttn a := by
  unfold State.raise State.raiseAt
  split
  · exact ⟨_, rfl⟩
  · exact ⟨s.attn, rfl⟩

theorem State.raise_raised (s : State) (src : Fin 74) : s.Raised (s.raise src) src := by
  unfold State.raise State.raiseAt
  constructor <;> intro h
  · rw [if_pos h]; exact s.attn.occur_gained _ _ _
  · rw [if_neg (by simp [h])]; exact fun _ _ => Iff.rfl

/-! ## A bad frame -/

theorem State.forward_checkErrors (s : State) (f : LineFrame) : (s.forward f).loop.checkErrors = s.loop.checkErrors :=
  congrArg Prod.fst (s.forward_checks f)
theorem State.forward_checkMark (s : State) (f : LineFrame) : (s.forward f).loop.checkMark = s.loop.checkMark :=
  congrArg Prod.snd (s.forward_checks f)

theorem State.forward_setLoop (s : State) (f : LineFrame) (l : LoopPort) : (s.forward f).setLoop l = s.setLoop l := rfl

/-- The eighth bad frame of a cycle, and every later one that finds the mark clear, raises CHECK ERRORS. -/
theorem State.badFrame_raises (s : State) (cs : List Byte) (h : 8 ≤ min 255 (s.loop.checkErrors + 1)) (hm : s.loop.checkMark = false) :
    s.badFrame cs = (s.setLoop { (s.forward (.bad cs)).loop with
      checkErrors := min 255 (s.loop.checkErrors + 1), checkMark := true }).raise srcCheckErrors := by
  unfold State.badFrame State.countBad
  dsimp only
  rw [s.forward_checkErrors, s.forward_checkMark, if_pos ⟨h, hm⟩]
  rfl

/-- Any other bad frame is only counted. -/
theorem State.badFrame_counts (s : State) (cs : List Byte) (h : min 255 (s.loop.checkErrors + 1) < 8 ∨ s.loop.checkMark = true) :
    s.badFrame cs = s.setLoop { (s.forward (.bad cs)).loop with checkErrors := min 255 (s.loop.checkErrors + 1) } := by
  unfold State.badFrame State.countBad
  dsimp only
  rw [s.forward_checkErrors, s.forward_checkMark, if_neg fun ⟨h8, hm⟩ => h.elim (Nat.not_lt.2 h8) (by simp [hm]), s.forward_setLoop]

/-- R158: characters of one bad frame, and characters of a frame that a gap breaks, are taken as a bad frame. -/
theorem exec_badFrame {s : State} {i : Instr} {cs : List Byte} (hon : s.power = .on)
    (h : (i = .badFrameReceived cs ∧ heard cs = ([.bad cs], [])) ∨ (i = .characterGap cs ∧ cs ≠ [] ∧ heard cs = ([], cs))) :
    exec i s = .next (s.badFrame cs) := by
  obtain ⟨rfl, hcs⟩ | ⟨rfl, hne, hcs⟩ := h
  · exact congrArg _ ((if_pos hon).trans (s.hear_one cs _ hcs))
  · exact congrArg _ ((if_pos hon).trans (s.hearGap_unfinished cs hne hcs))

theorem State.setLoop_setAttn_restore (s : State) (l : LoopPort) (a : Attention) :
    { (s.setLoop l).setAttn a with loop := s.loop, attn := s.attn } = s := rfl

/-- R162: all that a bad frame does to the count, the mark and the attention list. -/
theorem State.badFrame_counted (s : State) (cs : List Byte) :
    let n := min 255 (s.loop.checkErrors + 1)
    let t := s.badFrame cs
    t.loop.checkErrors = n ∧ t.loop.checkMark = (s.loop.checkMark || decide (8 ≤ n)) ∧
      (8 ≤ n → s.loop.checkMark = false → s.Raised t srcCheckErrors ∧ ∀ src, src ≠ srcCheckErrors → s.NotRaised t src) ∧
      (n < 8 ∨ s.loop.checkMark = true → t.attn = s.attn) ∧ { t with loop := s.loop, attn := s.attn } = s := by
  intro n t
  by_cases h : 8 ≤ n ∧ s.loop.checkMark = false
  · obtain ⟨h8, hclear⟩ := h
    let l : LoopPort := { (s.forward (.bad cs)).loop with checkErrors := n, checkMark := true }
    have ht : t = (s.setLoop l).raise srcCheckErrors := s.badFrame_raises cs h8 hclear
    have hloop : t.loop = l := by rw [ht, State.raise_loop, State.setLoop_loop]
    obtain ⟨a, ha⟩ := (s.setLoop l).raise_eq_setAttn srcCheckErrors
    refine ⟨by rw [hloop], by rw [hloop, decide_eq_true h8, Bool.or_true], fun _ _ => ⟨?_, fun src hsrc => ?_⟩, fun h => ?_, ?_⟩
    · rw [ht]; exact (s.setLoop l).raise_raised srcCheckErrors
    · rw [ht]; exact (s.setLoop l).raise_notRaised hsrc
    · exact absurd h (by simp [hclear, h8])
    · rw [ht, ha]; exact s.setLoop_setAttn_restore l a
  · have hquiet : n < 8 ∨ s.loop.checkMark = true := by
      rwa [Decidable.not_and_iff_not_or_not, Nat.not_le, Bool.not_eq_false] at h
    have hmark : s.loop.checkMark = (s.loop.checkMark || decide (8 ≤ n)) := by
      rcases hquiet with hlt | hset
      · simp [Nat.not_le.2 hlt]
      · simp [hset]
    have ht : t = s.setLoop _ := s.badFrame_counts cs hquiet
    rw [ht]
    exact ⟨rfl, (s.forward_checkMark _).trans hmark, fun h8 hclear => absurd ⟨h8, hclear⟩ h, fun _ => rfl,
      s.setLoop_setAttn_restore _ s.attn⟩

/-- Settles O24: a bad frame is counted after it is forwarded, a SCAN HEAD starts the count afresh before the loop recovers, and every other
command keeps the count through each operation it is made of. -/
theorem checkErrors : Obligations.CheckErrors := by
  unfold Obligations.CheckErrors
  refine ⟨fun s i cs hon h => ⟨_, exec_badFrame hon h, s.badFrame_counted cs⟩, fun s dest src cycle first hon => ?head,
    fun s t i hexec hwf hbad hhead hpower => ?others⟩
  case head =>
    refine ⟨s.receiveHead dest src cycle first, congrArg _ (if_pos hon), ?_⟩
    exact Prod.mk.inj (s.receiveHead_checks dest src cycle first)
  case others => exact (LoopPort.checks_eq_iff _ _).1 (exec_keepsChecks s i hwf hbad hhead hpower t hexec)

end Sys2Proof.Machine

/-! The Attention Unit under CLEAR ATTENTION (R179): what a clear by the count seen leaves of the list, its two orders with an occurrence
of the same source (R176), and the directive's response. -/

namespace Sys2Proof.Machine

/-! ## Lists: two facts that core Lean, on which the package builds, does not have -/

theorem eq_of_nodup_map {α β : Type} {f : α → β} {l : List α} (h : (l.map f).Nodup) {x y : α} (hx : x ∈ l) (hy : y ∈ l)
    (hxy : f x = f y) : x = y := by
  induction l with
  | nil => exact absurd hx List.not_mem_nil
  | cons a l ih =>
    obtain ⟨hnew, hrest⟩ := List.nodup_cons.1 (List.map_cons ▸ h)
    rcases List.mem_cons.1 hx with rfl | hxl <;> rcases List.mem_cons.1 hy with rfl | hyl
    · rfl
    · exact absurd (List.mem_map.2 ⟨y, hyl, hxy.symm⟩) hnew
    · exact absurd (List.mem_map.2 ⟨x, hxl, hxy⟩) hnew
    · exact ih hrest hxl hyl

theorem filterMap_congr_mem {α β : Type} {f g : α → Option β} {l : List α} (h : ∀ x ∈ l, f x = g x) :
    l.filterMap f = l.filterMap g := by
  induction l with
  | nil => rfl
  | cons a l ih =>
    rw [List.filterMap_cons, List.filterMap_cons, h a List.mem_cons_self, ih fun x hx => h x (List.mem_cons_of_mem a hx)]

/-! ## The count of a source -/

/-- A list with one entry for each source has one count for a source that has an entry. -/
theorem Attention.Ok.count_eq {a : Attention} (ha : a.Ok) {e x : AttnItem} (he : e ∈ a.items) (hx : x ∈ a.items)
    (h : x.source = e.source) : x.count = e.count :=
  congrArg AttnItem.count (eq_of_nodup_map ha.1 hx he h)

theorem Attention.countOf_eq {a : Attention} {src : Fin 74} {k : Nat} (hk : ∀ e ∈ a.items, e.source = src → e.count = k)
    (hsrc : src ∈ a.items.map AttnItem.source) : a.countOf src = k := by
  obtain ⟨x, hx, hxs⟩ := List.mem_map.1 hsrc
  have hfound : (a.items.find? fun e => e.source = src).isSome := List.find?_isSome.2 ⟨x, hx, decide_eq_true hxs⟩
  obtain ⟨e, he⟩ := Option.isSome_iff_exists.1 hfound
  have hes : e.source = src := of_decide_eq_true (List.find?_some he :)
  rw [Attention.countOf, he]
  exact hk e (List.mem_of_find?_eq_some he) hes

theorem Attention.countOf_eq_zero {a : Attention} {src : Fin 74} (h : src ∉ a.items.map AttnItem.source) : a.countOf src = 0 := by
  have hnone : (a.items.find? fun e => e.source = src) = none :=
    List.find?_eq_none.2 fun e he hes => h (List.mem_map.2 ⟨e, he, of_decide_eq_true hes⟩)
  rw [Attention.countOf, hnone]
  rfl

/-! ## A clear (R179) -/

theorem Attention.mem_clear (a : Attention) (src : Fin 74) (seen : Nat) (y : AttnItem) :
    y ∈ (a.clear src seen).items ↔ (y ∈ a.items ∧ y.source ≠ src) ∨
      ∃ x ∈ a.items, x.source = src ∧ seen < x.count ∧ y = { x with count := x.count - seen } := by
  unfold Attention.clear
  simp only [List.mem_filterMap]
  constructor
  · rintro ⟨x, hx, hy⟩
    split at hy
    next hsrc =>
      split at hy
      · cases hy
      next hlt => exact .inr ⟨x, hx, hsrc, Nat.lt_of_not_le hlt, (Option.some.inj hy).symm⟩
    next hsrc => cases hy; exact .inl ⟨hx, hsrc⟩
  · rintro (⟨hy, hsrc⟩ | ⟨x, hx, hsrc, hlt, rfl⟩)
    · exact ⟨y, hy, if_neg hsrc⟩
    · exact ⟨x, hx, by rw [if_pos hsrc, if_neg (Nat.not_le.2 hlt)]⟩

/-- A count seen that reaches the entry's count removes the entry. -/
theorem Attention.notMem_clear {a : Attention} {src : Fin 74} {seen : Nat} (h : ∀ e ∈ a.items, e.source = src → e.count ≤ seen) :
    src ∉ (a.clear src seen).items.map AttnItem.source := by
  rw [List.mem_map]
  rintro ⟨y, hy, hys⟩
  rcases (a.mem_clear src seen y).1 hy with ⟨-, hne⟩ | ⟨x, hx, hxs, hlt, -⟩
  · exact hne hys
  · exact absurd (h x hx hxs) (Nat.not_le.2 hlt)

/-- A smaller one leaves the source an entry. -/
theorem Attention.mem_clear_of_lt {a : Attention} {seen : Nat} {e : AttnItem} (he : e ∈ a.items) (h : seen < e.count) :
    e.source ∈ (a.clear e.source seen).items.map AttnItem.source :=
  List.mem_map.2 ⟨_, (a.mem_clear ..).2 (.inr ⟨e, he, rfl, h, rfl⟩), rfl⟩

theorem Attention.clear_of_notMem {a : Attention} {src : Fin 74} (seen : Nat) (h : src ∉ a.items.map AttnItem.source) :
    a.clear src seen = a := by
  have hsame : ∀ e ∈ a.items, e.source ≠ src := fun e he hes => h (List.mem_map.2 ⟨e, he, hes⟩)
  unfold Attention.clear
  rw [filterMap_congr_mem fun e he => if_neg (hsame e he), List.filterMap_some]

theorem Attention.clear_zero {a : Attention} (ha : a.Ok) (src : Fin 74) : a.clear src 0 = a := by
  obtain ⟨-, -, hcount⟩ := ha
  have hsame : ∀ e ∈ a.items,
      (if e.source = src then (if e.count ≤ 0 then none else some { e with count := e.count - 0 }) else some e) = some e := by
    intro e he
    have hpos := (hcount e he).1
    rw [if_neg (by omega : ¬e.count ≤ 0)]
    exact ite_self _
  unfold Attention.clear
  rw [filterMap_congr_mem hsame, List.filterMap_some]

/-- The list after a clear of a source whose count is `k`. -/
theorem Attention.clear_items {a : Attention} {src : Fin 74} {k : Nat} (seen : Nat) (hk : ∀ e ∈ a.items, e.source = src → e.count = k) :
    (a.clear src seen).items = (a.items.filter fun e => e.source ≠ src ∨ seen < k).map fun e =>
      if e.source = src then { e with count := k - seen } else e := by
  unfold Attention.clear
  rw [← List.filterMap_eq_map, List.filterMap_filter]
  refine filterMap_congr_mem fun e he => ?_
  by_cases hsrc : e.source = src
  · have hcount := hk e he hsrc
    by_cases hle : k ≤ seen
    · simp [hsrc, hcount, hle]
    · simp [hsrc, hcount, hle, Nat.lt_of_not_le hle]
  · simp [hsrc]

/-- The count left to a source is its count less the count seen, and none where that reaches it. -/
theorem Attention.countOf_clear {a : Attention} (ha : a.Ok) (seen : Nat) {e : AttnItem} (he : e ∈ a.items) :
    (a.clear e.source seen).countOf e.source = e.count - seen := by
  have hk : ∀ x ∈ a.items, x.source = e.source → x.count = e.count := fun x hx => ha.count_eq he hx
  rcases Nat.lt_or_ge seen e.count with hlt | hle
  · refine Attention.countOf_eq (fun y hy hys => ?_) (Attention.mem_clear_of_lt he hlt)
    rcases (a.mem_clear ..).1 hy with ⟨-, hne⟩ | ⟨x, hx, hxs, -, rfl⟩
    · exact absurd hys hne
    · exact congrArg (· - seen) (hk x hx hxs)
  · have hgone := Attention.notMem_clear fun x hx hxs => Nat.le_trans (Nat.le_of_eq (hk x hx hxs)) hle
    rw [Attention.countOf_eq_zero hgone, Nat.sub_eq_zero_of_le hle]

/-! ## An occurrence beside a clear (R176, R179) -/

theorem Attention.occur_items_of_mem {a : Attention} {src : Fin 74} (cls : AttnClass) (o : Occurrence)
    (h : src ∈ a.items.map AttnItem.source) :
    (a.occur src cls o).items = a.items.map fun e => if e.source = src then e.again else e := by
  obtain ⟨e, he, hes⟩ := List.mem_map.1 h
  unfold Attention.occur
  rw [if_pos (List.any_eq_true.2 ⟨e, he, decide_eq_true hes⟩)]

theorem Attention.occur_items_of_notMem {a : Attention} {src : Fin 74} (cls : AttnClass) (o : Occurrence)
    (h : src ∉ a.items.map AttnItem.source) :
    (a.occur src cls o).items = insertItem ⟨src, cls, 1, o, a.serials⟩ a.items := by
  unfold Attention.occur
  rw [if_neg]
  intro hany
  obtain ⟨e, he, hes⟩ := List.any_eq_true.1 hany
  exact h (List.mem_map.2 ⟨e, he, of_decide_eq_true hes⟩)

/-- An occurrence that comes before the clear by the count seen until then is what the clear leaves of the entry. -/
theorem Attention.occur_clear_items {a : Attention} {src : Fin 74} {seen : Nat} (cls : AttnClass) (o : Occurrence)
    (hsrc : src ∈ a.items.map AttnItem.source) (hseen : ∀ e ∈ a.items, e.source = src → e.count = seen) (hlt : seen < 255) :
    ((a.occur src cls o).clear src seen).items = a.items.map fun e => if e.source = src then { e with count := 1 } else e := by
  unfold Attention.clear
  rw [Attention.occur_items_of_mem cls o hsrc, List.filterMap_map, ← List.filterMap_eq_map]
  refine filterMap_congr_mem fun e he => ?_
  by_cases hes : e.source = src
  · have hagain : e.again.count = seen + 1 := by
      rw [← hseen e he hes] at hlt ⊢
      exact Nat.min_eq_right hlt
    have hsource : e.again.source = src := hes
    simp only [Function.comp_apply, if_pos hes, if_pos hsource, hagain, if_neg (Nat.not_succ_le_self seen), Nat.add_sub_cancel_left]
    rfl
  · simp [hes]

/-- The entry keeps its place. -/
theorem Attention.sources_occur_clear {a : Attention} {src : Fin 74} {seen : Nat} (cls : AttnClass) (o : Occurrence)
    (hsrc : src ∈ a.items.map AttnItem.source) (hseen : ∀ e ∈ a.items, e.source = src → e.count = seen) (hlt : seen < 255) :
    ((a.occur src cls o).clear src seen).items.map AttnItem.source = a.items.map AttnItem.source := by
  rw [Attention.occur_clear_items cls o hsrc hseen hlt, List.map_map]
  refine List.map_congr_left fun e _ => ?_
  rw [Function.comp_apply]
  split <;> rfl

theorem Attention.countOf_occur_clear {a : Attention} {src : Fin 74} {seen : Nat} (cls : AttnClass) (o : Occurrence)
    (hsrc : src ∈ a.items.map AttnItem.source) (hseen : ∀ e ∈ a.items, e.source = src → e.count = seen) (hlt : seen < 255) :
    ((a.occur src cls o).clear src seen).countOf src = 1 := by
  refine Attention.countOf_eq (fun y hy hys => ?_) (by rwa [Attention.sources_occur_clear cls o hsrc hseen hlt])
  rw [Attention.occur_clear_items cls o hsrc hseen hlt] at hy
  obtain ⟨e, -, rfl⟩ := List.mem_map.1 hy
  split at hys
  next hes => rw [if_pos hes]
  next hes => exact absurd hys hes

theorem mem_insertItem (e x : AttnItem) (items : List AttnItem) : x ∈ insertItem e items ↔ x = e ∨ x ∈ items := by
  simp only [insertItem, List.mem_append, List.mem_cons, List.mem_filter, decide_eq_true_eq]
  constructor
  · rintro (⟨hx, -⟩ | rfl | ⟨hx, -⟩)
    · exact .inr hx
    · exact .inl rfl
    · exact .inr hx
  · rintro (rfl | hx)
    · exact .inr (.inl rfl)
    · exact (Nat.lt_or_ge e.cls.code x.cls.code).elim (fun h => .inr (.inr ⟨hx, h⟩)) fun h => .inl ⟨hx, h⟩

/-- A new entry stands before entries of the classes after its own only. -/
theorem insertItem_last_of_class {e : AttnItem} {items : List AttnItem} (h : ∀ x ∈ items, x.source ≠ e.source) :
    (insertItem e items).Pairwise fun x y => x.source = e.source → x.cls.code < y.cls.code := by
  have old (p : AttnItem → Bool) {x : AttnItem} (hx : x ∈ items.filter p) : x.source ≠ e.source := h x (List.mem_filter.1 hx).1
  unfold insertItem
  refine List.pairwise_append.2 ⟨?before, List.pairwise_cons.2 ⟨?new, ?after⟩, fun x hx _ _ hxs => absurd hxs (old _ hx)⟩
  case before => exact List.pairwise_of_forall_mem_list fun x hx _ _ hxs => absurd hxs (old _ hx)
  case new => exact fun y hy _ => of_decide_eq_true (List.mem_filter.1 hy).2
  case after => exact List.pairwise_of_forall_mem_list fun x hx _ _ hxs => absurd hxs (old _ hx)

/-- An occurrence of a source without an entry makes a new one, with count 1. -/
theorem Attention.countOf_occur_of_notMem {a : Attention} {src : Fin 74} (cls : AttnClass) (o : Occurrence)
    (h : src ∉ a.items.map AttnItem.source) : (a.occur src cls o).countOf src = 1 := by
  have hitems := Attention.occur_items_of_notMem cls o h
  refine Attention.countOf_eq (fun e he hes => ?_) ?_
  · rw [hitems, mem_insertItem] at he
    rcases he with rfl | he
    · rfl
    · exact absurd (List.mem_map.2 ⟨e, he, hes⟩) h
  · rw [hitems]
    exact List.mem_map.2 ⟨_, (mem_insertItem ..).2 (.inl rfl), rfl⟩

/-- The new entry is the last of its class. -/
theorem Attention.occur_last_of_class {a : Attention} {src : Fin 74} (cls : AttnClass) (o : Occurrence)
    (h : src ∉ a.items.map AttnItem.source) :
    (a.occur src cls o).items.Pairwise fun x y => x.source = src → x.cls.code < y.cls.code := by
  rw [Attention.occur_items_of_notMem cls o h]
  exact insertItem_last_of_class (e := ⟨src, cls, 1, o, a.serials⟩) fun x hx hxs => h (List.mem_map.2 ⟨x, hx, hxs⟩)

/-! ## The directive -/

theorem toNat_b8 {n : Nat} (h : n < 256) : (b8 n).toNat = n := Nat.mod_eq_of_lt h

/-- A CLEAR ATTENTION of the right length is acted on once its frame is absorbed. -/
theorem exec_clearAttention {s : State} (h : s.canAnswer) (ref n seen : Byte) :
    exec (.clearAttention ref [n, seen]) s =
      let act := s.absorb.actClearAttention n.toNat seen.toNat
      .next (act.1.respond 21 ref act.2) := by
  obtain ⟨hon, hroom⟩ := h
  have hn : param [1, 1] [n, seen] 0 = n.toNat := by simp [param, fieldsOf, fld, natOf]
  have hseen : param [1, 1] [n, seen] 1 = seen.toNat := by simp [param, fieldsOf, fld, natOf]
  have htake : s.absorb.takeClearAttention ref [n, seen] =
      let act := s.absorb.actClearAttention n.toNat seen.toNat
      act.1.respond 21 ref act.2 := by
    rw [← hn, ← hseen]
    exact s.absorb.directive_acts 21 ref _ hroom
  have hwhole := s.whole_short ⟨b8 s.own, 0, kindDirective, [21, ref, n, seen]⟩ (fun s => s.absorb.takeClearAttention ref [n, seen])
    (Nat.le_of_ble_eq_true rfl)
  exact congrArg _ ((if_pos hon).trans (hwhole.trans htake))

theorem exec_clearAttention_unlisted {s : State} (h : s.canAnswer) (ref : Byte) {n : Byte} (seen : Byte) (hn : 73 < n.toNat) :
    exec (.clearAttention ref [n, seen]) s = .next (s.refuses 21 ref 2 []) := by
  rw [exec_clearAttention h]
  unfold State.actClearAttention
  rw [dif_neg (by omega)]
  exact congrArg _ (s.absorb_refuse 21 ref .outOfRange [])

/-- A source of Table 32 is cleared, and the response carries its count before and after. -/
theorem exec_clearAttention_listed {s : State} (h : s.canAnswer) (ref : Byte) (src : Fin 74) (seen : Byte) :
    let after := s.attn.clear src seen.toNat
    exec (.clearAttention ref [b8 src.val, seen]) s =
      .next ((s.setAttn after).accepts 21 ref [b8 src.val, b8 (s.attn.countOf src), b8 (after.countOf src)]) := by
  rw [exec_clearAttention h, toNat_b8 (by omega)]
  unfold State.actClearAttention
  rw [dif_pos src.isLt]
  dsimp only
  exact congrArg _ (State.absorb_answer (s.setAttn (s.attn.clear src seen.toNat)) 21 ref _)

/-- Settles O59: the directive answers with the clear's counts, the list after it is the one written out, and each order of the clear and
an occurrence leaves the source a count of 1. -/
theorem clearAttention : Obligations.ClearAttention := by
  unfold Obligations.ClearAttention
  intro s ref seen hcan hok
  refine ⟨fun n hn => exec_clearAttention_unlisted hcan ref seen hn, fun src => ?_⟩
  intro cleared
  refine ⟨fun hnone => ?absent, ?present⟩
  case absent =>
    rw [exec_clearAttention_listed hcan, Attention.clear_of_notMem _ hnone, Attention.countOf_eq_zero hnone]
    rfl
  case present =>
    rintro e he rfl
    have hmem : e.source ∈ s.attn.items.map AttnItem.source := List.mem_map.2 ⟨e, he, rfl⟩
    have hk : ∀ x ∈ s.attn.items, x.source = e.source → x.count = e.count := fun x hx => hok.count_eq he hx
    have hitems : (s.attn.clear e.source seen.toNat).items = cleared e.count := Attention.clear_items seen.toNat hk
    refine ⟨?response, fun h0 => ?zero, fun h255 => ?all, fun hseen hlt _ cls now => ?orders⟩
    case response =>
      rw [exec_clearAttention_listed hcan, Attention.countOf_clear hok _ he, Attention.countOf_eq hk hmem, ← hitems]
      rfl
    case zero =>
      subst h0
      exact hitems.symm.trans (congrArg Attention.items (Attention.clear_zero hok _))
    case all =>
      subst h255
      obtain ⟨-, -, hcount⟩ := hok
      have hgone := Attention.notMem_clear fun x hx (_ : x.source = e.source) => (hcount x hx).2
      rw [← hitems]
      exact List.all_eq_true.2 fun x hx => decide_eq_true fun hxs => hgone (List.mem_map.2 ⟨x, hx, hxs⟩)
    case orders =>
      rw [hseen]
      have hgone := Attention.notMem_clear fun x hx hxs => Nat.le_of_eq (hk x hx hxs)
      exact ⟨⟨Attention.countOf_occur_clear cls now hmem hk hlt, Attention.sources_occur_clear cls now hmem hk hlt⟩,
        Attention.countOf_occur_of_notMem cls now hgone, Attention.occur_last_of_class cls now hgone⟩

end Sys2Proof.Machine


/-! The parts of a state that every step keeps within bounds, operation by operation: the clock (R125), the logs (R136, R141), the
through-buffer and the command queue (R160, R167), and the attention list (R175, R176, R179). -/

namespace Sys2Proof.Machine

/-! ## The clock (R125) -/

theorem Clock.advance_of_stopped {c : Clock} (n : Nat) (h : c.advancing = false) : c.advance n = c := by
  simp [Clock.advance, h]

theorem Clock.advance_short {c : Clock} {n : Nat} (ha : c.advancing = true) (h : c.totalMs + n < lastMs) :
    c.advance n = { c with
      day := (c.totalMs + n) / 1000 / 86400, sec := (c.totalMs + n) / 1000 % 86400, ms := (c.totalMs + n) % 1000 } := by
  rw [Clock.advance, if_pos ha, if_pos h]

theorem Clock.advance_far {c : Clock} {n : Nat} (ha : c.advancing = true) (h : lastMs ≤ c.totalMs + n) :
    c.advance n = { c with day := Config.lastDay, sec := Config.lastSecond, ms := 0 } := by
  rw [Clock.advance, if_pos ha, if_neg (Nat.not_lt.2 h)]

theorem Clock.advance_ok {c : Clock} (n : Nat) (h : c.Ok) : (c.advance n).Ok := by
  cases ha : c.advancing with
  | false => rwa [Clock.advance_of_stopped n ha]
  | true =>
    rcases Nat.lt_or_ge (c.totalMs + n) lastMs with hlt | hge
    · rw [Clock.advance_short ha hlt]
      generalize c.totalMs + n = total at hlt ⊢
      have hday : total / 1000 < 65536 * 86400 := Nat.div_lt_of_lt_mul (Nat.lt_of_lt_of_le hlt (by decide))
      exact ⟨Nat.le_of_lt_succ (Nat.div_lt_of_lt_mul (Nat.mul_comm .. ▸ hday)), Nat.le_of_lt_succ (Nat.mod_lt _ (by decide)),
        Nat.mod_lt _ (by decide)⟩
    · rw [Clock.advance_far ha hge]
      exact ⟨Nat.le_refl _, Nat.le_refl _, Nat.zero_lt_succ _⟩

/-- Settles O17: the three cases of the advance, each with the total it reaches. -/
theorem clockAdvance : Obligations.ClockAdvance := by
  unfold Obligations.ClockAdvance
  intro c n hok
  refine ⟨Clock.advance_ok n hok, c.advance_valid n, c.advance_slot n, Clock.advance_of_stopped n, fun ha hlt => ?short,
    fun ha hge => ?far⟩
  case short =>
    rw [Clock.advance_short ha hlt]
    simp only [Clock.totalMs]
    omega
  case far =>
    rw [Clock.advance_far ha hge]
    exact ⟨rfl, rfl, rfl⟩

theorem Clock.setTo_ok (c : Clock) {t : WallTime} (hd : t.day ≤ Config.lastDay) (hs : t.sec ≤ Config.lastSecond) : (c.setTo t).Ok :=
  ⟨hd, hs, Nat.zero_lt_succ _⟩

/-! ## The logs (R136, R141) -/

theorem enterLog_eq {α : Type} (n : Nat) (log : List α) (x : α) (h : log.length ≤ n) :
    enterLog n log x = if log.length < n then log ++ [x] else (log ++ [x]).drop 1 := by
  unfold enterLog
  split
  · rw [show log.length + 1 - n = 0 by omega, List.drop_zero]
  · rw [show log.length + 1 - n = 1 by omega]

theorem Logs.addDay_log (l : Logs) (r : IntervalRecord) : (l.addDay r).log = l.log := by
  unfold Logs.addDay
  repeat' split
  all_goals rfl

theorem Logs.addDay_lastSeq (l : Logs) (r : IntervalRecord) : (l.addDay r).lastSeq = l.lastSeq := by
  unfold Logs.addDay
  repeat' split
  all_goals rfl

theorem Logs.addDay_daily_length {l : Logs} (r : IntervalRecord) (h : l.daily.length ≤ Config.dailySize) :
    (l.addDay r).daily.length ≤ Config.dailySize := by
  unfold Logs.addDay
  repeat' split
  · exact h
  · exact h
  · exact h
  · exact enterLog_length _ _ _

/-- The sequence numbers of a log, the newest being `last`, rise by one. -/
theorem enterLog_sequences {log : List IntervalRecord} {last n : Nat} {r : IntervalRecord} (hn : 0 < n)
    (h : ∀ i, (hi : i < log.length) → log[i].sequence + (log.length - 1 - i) = last) (hr : r.sequence = last + 1) (i : Nat)
    (hi : i < (enterLog n log r).length) : (enterLog n log r)[i].sequence + ((enterLog n log r).length - 1 - i) = last + 1 := by
  have grown (j : Nat) (hj : j < (log ++ [r]).length) : (log ++ [r])[j].sequence + (log.length - j) = last + 1 := by
    rw [List.length_append, List.length_singleton] at hj
    rw [List.getElem_append]
    split
    · next hlt => have := h j hlt; omega
    · have hjl : j = log.length := by omega
      subst hjl
      simp [hr]
  simp only [enterLog, List.length_drop, List.length_append, List.length_singleton, List.getElem_drop] at hi ⊢
  have := grown (log.length + 1 - n + i) (by simp; omega)
  omega

theorem Logs.enter_ok {l : Logs} {r : IntervalRecord} (h : l.Ok) (hr : r.sequence = l.lastSeq + 1) : (l.enter r).Ok := by
  obtain ⟨-, hdaily, hseq⟩ := h
  unfold Logs.enter Logs.Ok
  rw [Logs.addDay_log, Logs.addDay_lastSeq]
  exact ⟨enterLog_length _ _ _, Logs.addDay_daily_length r hdaily,
    fun i hi => (enterLog_sequences (by decide) hseq hr i hi).trans hr.symm⟩

/-! ## The command queue (R65, R120, R167) -/

/-- The commands of the queue and of the line that meet a test. -/
def LoopPort.held (l : LoopPort) (p : Command → Bool) : Nat := l.count p + (l.tx.holds p).toNat

theorem LoopPort.queueOk_iff (l : LoopPort) :
    l.QueueOk ↔ (∀ v, l.held (·.isValve v) ≤ 1) ∧ ∀ d, l.held (·.isSet d) ≤ 1 := Iff.rfl

/-- A port that holds no more commands of any kind keeps the bound. -/
theorem LoopPort.QueueOk.mono {l k : LoopPort} (h : l.QueueOk) (hle : ∀ p, k.held p ≤ l.held p) : k.QueueOk :=
  ⟨fun v => Nat.le_trans (hle _) (h.1 v), fun d => Nat.le_trans (hle _) (h.2 d)⟩

theorem LoopPort.QueueOk.congr {l k : LoopPort} (h : l.QueueOk) (hc : k.commands = l.commands) (ht : k.tx = l.tx) : k.QueueOk :=
  h.mono fun p => by simp [LoopPort.held, LoopPort.count, hc, ht]

theorem Tx.holds_voidIf (t : Tx) (q p : Command → Bool) : (t.voidIf q).holds p = (t.holds p && !(t.holds q)) := by
  match t with
  | .idle | .through _ | .own (.response ..) | .own (.status _) => rfl
  | .own (.command c f v) => cases v <;> cases h : q c <;> simp [Tx.voidIf, Tx.holds, h]

theorem Tx.holds_voidIf_le (t : Tx) (q p : Command → Bool) : ((t.voidIf q).holds p).toNat ≤ (t.holds p).toNat := by
  rw [Tx.holds_voidIf]
  cases t.holds p <;> cases t.holds q <;> decide

theorem Tx.holds_voidIf_self (t : Tx) (q : Command → Bool) : (t.voidIf q).holds q = false := by
  rw [Tx.holds_voidIf]
  cases t.holds q <;> rfl

theorem LoopPort.withdraw_held (l : LoopPort) (q p : Command → Bool) : (l.withdraw q).held p ≤ l.held p := by
  refine Nat.add_le_add ?_ (Tx.holds_voidIf_le ..)
  exact ((List.filter_sublist (p := fun c => !q c)).filter p).length_le

theorem LoopPort.withdraw_queueOk {l : LoopPort} (q : Command → Bool) (h : l.QueueOk) : (l.withdraw q).QueueOk :=
  h.mono (l.withdraw_held q)

theorem Command.isSet_false_of_isValve {c : Command} {v : Fin 8} (d : Fin 6) (h : c.isValve v = true) : c.isSet d = false := by
  cases c with
  | valve => rfl
  | set => exact absurd h Bool.false_ne_true

/-- A command placed in the place of every unsent one of its kind. -/
theorem LoopPort.replaced_held_self {l k : LoopPort} {c : Command} {q : Command → Bool}
    (hc : k.commands = l.commands.filter (fun c => !q c) ++ [c]) (ht : k.tx = l.tx.voidIf q) : k.held q ≤ 1 := by
  have hnone : (l.commands.filter fun c => !q c).filter q = [] := by simp [List.filter_filter]
  rw [LoopPort.held, LoopPort.count, ht, Tx.holds_voidIf_self, hc, List.filter_append, hnone]
  exact List.length_filter_le _ _

theorem LoopPort.replaced_held_other {l k : LoopPort} {c : Command} {q p : Command → Bool}
    (hc : k.commands = l.commands.filter (fun c => !q c) ++ [c]) (ht : k.tx = l.tx.voidIf q) (hp : p c = false) :
    k.held p ≤ l.held p := by
  have := l.withdraw_held q p
  simpa [LoopPort.held, LoopPort.count, LoopPort.withdraw, hc, ht, hp] using this

theorem LoopPort.placeValve_queueOk {l : LoopPort} (v : Fin 8) (o : Bool) (d : Dir) (t : Byte) (r : Bool) (h : l.QueueOk) :
    (l.placeValve v o d t r).QueueOk := by
  refine ⟨fun w => ?_, fun e => ?_⟩
  · by_cases hw : v = w
    · subst hw
      exact LoopPort.replaced_held_self rfl rfl
    · exact Nat.le_trans (LoopPort.replaced_held_other rfl rfl (decide_eq_false hw)) (h.1 w)
  · exact Nat.le_trans (LoopPort.replaced_held_other rfl rfl rfl) (h.2 e)

/-- What R62 makes of a command of a valve: a trip-origin command. -/
def Command.promoted (v : Fin 8) : Command → Command
  | .valve w o d t x => .valve w o d t (w = v || x)
  | .set d x => .set d x

theorem Command.promoted_isValve (v w : Fin 8) (c : Command) : (c.promoted v).isValve w = c.isValve w := by
  cases c <;> rfl

theorem Command.promoted_isSet (v : Fin 8) (d : Fin 6) (c : Command) : (c.promoted v).isSet d = c.isSet d := by
  cases c <;> rfl

theorem Command.valve_promoted (v w : Fin 8) (o : Bool) (d : Dir) (t : Byte) (x : Bool) :
    (if w = v then .valve w o d t true else .valve w o d t x) = (Command.valve w o d t x).promoted v := by
  by_cases h : w = v <;> simp [Command.promoted, h]

/-- The frame on the line after R62's promotion. -/
def Tx.promoted (v : Fin 8) : Tx → Tx
  | .own (.command c f x) => .own (.command (c.promoted v) f x)
  | t => t

theorem LoopPort.promote_commands (l : LoopPort) (v : Fin 8) : (l.promote v).commands = l.commands.map (Command.promoted v) :=
  List.map_congr_left fun c _ => by
    cases c with
    | valve w o d t x => exact Command.valve_promoted v w o d t x
    | set => rfl

theorem LoopPort.promote_tx (l : LoopPort) (v : Fin 8) : (l.promote v).tx = l.tx.promoted v := by
  unfold LoopPort.promote
  dsimp only
  match l.tx with
  | .idle | .through _ | .own (.response ..) | .own (.status _) | .own (.command (.set ..) ..) => rfl
  | .own (.command (.valve w o d t x) f y) => exact congrArg (fun c => Tx.own (.command c f y)) (Command.valve_promoted v w o d t x)

theorem LoopPort.promote_held {l : LoopPort} (v : Fin 8) {p : Command → Bool} (hp : ∀ c, p (c.promoted v) = p c) :
    (l.promote v).held p = l.held p := by
  rw [LoopPort.held, LoopPort.held, LoopPort.count, LoopPort.count, LoopPort.promote_commands, LoopPort.promote_tx, List.filter_map,
    List.length_map, show p ∘ Command.promoted v = p from funext hp]
  match l.tx with
  | .idle | .through _ | .own (.response ..) | .own (.status _) => rfl
  | .own (.command c f x) => simp [Tx.promoted, Tx.holds, hp]

theorem LoopPort.promote_queueOk {l : LoopPort} (v : Fin 8) (h : l.QueueOk) : (l.promote v).QueueOk :=
  ⟨fun w => Nat.le_trans (Nat.le_of_eq (promote_held (p := (·.isValve w)) v (Command.promoted_isValve v w))) (h.1 w),
    fun d => Nat.le_trans (Nat.le_of_eq (promote_held (p := (·.isSet d)) v (Command.promoted_isSet v d))) (h.2 d)⟩

/-- Replacing a district's SET by another keeps what each command is a command of. -/
theorem Command.replaceSet_test {p : Command → Bool} (hp : ∀ d x y, p (.set d x) = p (.set d y)) (d : Fin 6) (x : Nat) (c : Command) :
    p (if c.isSet d then .set d x else c) = p c := by
  split
  · next h =>
    cases c with
    | valve => exact absurd h Bool.false_ne_true
    | set e y => obtain rfl : e = d := of_decide_eq_true h; exact hp e x y
  · rfl

theorem LoopPort.placeSet_held_le {l : LoopPort} (d : Fin 6) (x : Nat) {p : Command → Bool} (hp : ∀ d x y, p (.set d x) = p (.set d y))
    (hd : p (.set d x) = false ∨ l.commands.any (·.isSet d) = true) : (l.placeSet d x).1.held p ≤ l.held p := by
  unfold LoopPort.placeSet
  split
  · refine Nat.add_le_add (Nat.le_of_eq ?_) (Tx.holds_voidIf_le ..)
    simp only [LoopPort.count, List.filter_map, List.length_map]
    congr 2
    exact funext fun c => Command.replaceSet_test hp d x c
  · next hnone =>
    have hpd := hd.resolve_right hnone
    refine Nat.add_le_add (Nat.le_of_eq ?_) (Tx.holds_voidIf_le ..)
    simp [LoopPort.count, hpd]

theorem LoopPort.placeSet_held_self {l : LoopPort} (d : Fin 6) (x : Nat) (h : l.held (·.isSet d) ≤ 1) :
    (l.placeSet d x).1.held (·.isSet d) ≤ 1 := by
  cases hany : l.commands.any (·.isSet d) with
  | true => exact Nat.le_trans (LoopPort.placeSet_held_le d x (fun _ _ _ => rfl) (.inr hany)) h
  | false =>
    have hnone : l.commands.filter (·.isSet d) = [] :=
      List.filter_eq_nil_iff.2 fun c hc hcd => Bool.false_ne_true (hany.symm.trans (List.any_eq_true.2 ⟨c, hc, hcd⟩))
    unfold LoopPort.placeSet
    rw [hany]
    simp only [Bool.false_eq_true, if_false, LoopPort.held, LoopPort.count, List.filter_append, hnone, Tx.holds_voidIf_self]
    exact List.length_filter_le _ _

theorem LoopPort.placeSet_queueOk {l : LoopPort} (d : Fin 6) (x : Nat) (h : l.QueueOk) : (l.placeSet d x).1.QueueOk := by
  refine ⟨fun v => Nat.le_trans (LoopPort.placeSet_held_le d x (fun _ _ _ => rfl) (.inl rfl)) (h.1 v), fun e => ?_⟩
  by_cases hde : d = e
  · subst hde
    exact LoopPort.placeSet_held_self d x (h.2 d)
  · exact Nat.le_trans (LoopPort.placeSet_held_le d x (fun _ _ _ => rfl) (.inl (decide_eq_false hde))) (h.2 e)

/-- A command that leaves the queue for the line is still held once. -/
theorem LoopPort.sent_queueOk {l : LoopPort} {c : Command} (f : Frame) (hc : c ∈ l.commands) (h : l.QueueOk) :
    ({ l with commands := l.commands.erase c, tx := .own (.command c f false) } : LoopPort).QueueOk := by
  refine h.mono fun p => ?_
  have hperm := (List.perm_cons_erase hc).filter p
  have hlen := hperm.length_eq
  simp only [LoopPort.held, LoopPort.count, Tx.holds, Bool.not_false, Bool.true_and]
  rw [hlen, List.filter_cons]
  cases p c <;> simp

theorem LoopPort.taken_queueOk {l : LoopPort} (c : Command) (h : l.QueueOk) : (l.takeCommand c).QueueOk := by
  refine h.mono fun p => Nat.add_le_add_right ?_ _
  exact (List.erase_sublist.filter p).length_le

/-- A transmitter that holds no command leaves only those of the queue. -/
theorem LoopPort.QueueOk.tx {l : LoopPort} (h : l.QueueOk) {k : LoopPort} (hc : k.commands = l.commands)
    (ht : ∀ p, k.tx.holds p = false) : k.QueueOk :=
  h.mono fun p => by simp [LoopPort.held, LoopPort.count, hc, ht]

end Sys2Proof.Machine


/-! The through-buffer (R160, R166) and the attention list (R175, R176, R179), operation by operation. -/

namespace Sys2Proof.Machine

/-! ## The through-buffer (R160, R166) -/

theorem LoopPort.startThrough_commands (l : LoopPort) : l.startThrough.commands = l.commands := by
  unfold LoopPort.startThrough; split <;> rfl

theorem LoopPort.endWindow_commands (l : LoopPort) : l.endWindow.commands = l.commands := by
  unfold LoopPort.endWindow; split <;> rfl

theorem LoopPort.endWindow_tx (l : LoopPort) : l.endWindow.tx = l.tx := by
  unfold LoopPort.endWindow; split <;> rfl

theorem LoopPort.endWindow_buffer (l : LoopPort) : l.endWindow.buffer = l.buffer := by
  unfold LoopPort.endWindow; split <;> rfl

theorem LoopPort.startThrough_holds (l : LoopPort) (p : Command → Bool) : l.startThrough.tx.holds p = l.tx.holds p := by
  unfold LoopPort.startThrough
  split
  · next h _ => rw [h]; rfl
  · rfl

theorem LoopPort.startThrough_held (l : LoopPort) (p : Command → Bool) : l.startThrough.held p = l.held p := by
  rw [LoopPort.held, LoopPort.held, LoopPort.count, LoopPort.count, LoopPort.startThrough_commands, LoopPort.startThrough_holds]

theorem LoopPort.endWindow_held (l : LoopPort) (p : Command → Bool) : l.endWindow.held p = l.held p := by
  rw [LoopPort.held, LoopPort.held, LoopPort.count, LoopPort.count, LoopPort.endWindow_commands, LoopPort.endWindow_tx]

theorem LoopPort.startThrough_buffer_length (l : LoopPort) : l.startThrough.buffer.length ≤ l.buffer.length := by
  unfold LoopPort.startThrough
  split
  · next h => simp [h]
  · exact Nat.le_refl _

/-- A free transmitter takes a frame out of a buffer that holds one. -/
theorem LoopPort.startThrough_buffer_length_of_idle {l : LoopPort} (h : l.tx = .idle) :
    l.startThrough.buffer.length = l.buffer.length - 1 := by
  unfold LoopPort.startThrough
  rw [h]
  cases hb : l.buffer <;> simp [hb]

theorem LoopPort.giveBack_buffer (l : LoopPort) (o : OwnFrame) : (l.giveBack o).buffer = l.buffer := by
  unfold LoopPort.giveBack
  repeat' split
  all_goals rfl

theorem LoopPort.giveBack_count {l : LoopPort} {o : OwnFrame} (h : l.tx = .own o) (p : Command → Bool) :
    (l.giveBack o).count p = l.held p := by
  rw [LoopPort.held, h]
  unfold LoopPort.giveBack
  split
  · next c f v =>
    cases v with
    | true => rfl
    | false =>
      simp only [LoopPort.count, Tx.holds, Bool.false_eq_true, if_false, Bool.not_false, Bool.true_and, List.filter_cons]
      cases p c <;> rfl
  · split <;> rfl
  · rfl

theorem LoopPort.enter_held_le (l : LoopPort) (f : LineFrame) (p : Command → Bool) : (l.enter f).held p ≤ l.held p := by
  unfold LoopPort.enter
  split
  · exact Nat.le_of_eq (LoopPort.startThrough_held ..)
  · split
    · exact Nat.le_refl _
    · next o ho =>
      refine Nat.le_of_eq ((LoopPort.startThrough_held ..).trans ?_)
      rw [← LoopPort.giveBack_count ho p]
      simp [LoopPort.held, LoopPort.count, Tx.holds, LoopPort.endWindow_commands]
    · exact Nat.le_of_eq (LoopPort.startThrough_held ..)

theorem LoopPort.enter_queueOk {l : LoopPort} (f : LineFrame) (h : l.QueueOk) : (l.enter f).QueueOk := h.mono (l.enter_held_le f)

theorem LoopPort.enter_buffer_length {l : LoopPort} (f : LineFrame) (h : l.buffer.length ≤ Config.bufferSize) :
    (l.enter f).buffer.length ≤ Config.bufferSize := by
  unfold LoopPort.enter
  split
  · next hlt =>
    refine Nat.le_trans (LoopPort.startThrough_buffer_length _) ?_
    simpa [Nat.add_one_le_iff] using hlt
  · split
    · exact h
    · rw [LoopPort.startThrough_buffer_length_of_idle rfl]
      simpa using h
    · next hidle =>
      rw [LoopPort.startThrough_buffer_length_of_idle (l := { l with buffer := l.buffer ++ [f] }) hidle]
      simpa using h

theorem LoopPort.LineOk.mono {l k : LoopPort} (h : l.LineOk) (hb : k.buffer.length ≤ l.buffer.length) (hc : k.checkErrors = l.checkErrors) :
    k.LineOk := ⟨Nat.le_trans hb h.1, hc ▸ h.2⟩

theorem LoopPort.enter_lineOk {l : LoopPort} (f : LineFrame) (h : l.LineOk) : (l.enter f).LineOk :=
  ⟨LoopPort.enter_buffer_length f h.1, (l.enter_only f).checkErrors ▸ h.2⟩

theorem LoopPort.startThrough_lineOk {l : LoopPort} (h : l.LineOk) : l.startThrough.LineOk :=
  h.mono l.startThrough_buffer_length (congrArg Prod.fst l.startThrough_checks)

theorem LoopPort.startThrough_queueOk {l : LoopPort} (h : l.QueueOk) : l.startThrough.QueueOk :=
  h.mono fun p => Nat.le_of_eq (l.startThrough_held p)

theorem LoopPort.endWindow_lineOk {l : LoopPort} (h : l.LineOk) : l.endWindow.LineOk :=
  h.mono (Nat.le_of_eq (congrArg List.length l.endWindow_buffer)) (congrArg Prod.fst l.endWindow_checks)

theorem LoopPort.endWindow_queueOk {l : LoopPort} (h : l.QueueOk) : l.endWindow.QueueOk :=
  h.mono fun p => Nat.le_of_eq (l.endWindow_held p)

theorem OnlyCommands.lineOk {l k : LoopPort} (h : OnlyCommands l k) (hl : l.LineOk) : k.LineOk :=
  hl.mono (Nat.le_of_eq (congrArg List.length h.buffer)) h.checkErrors

/-! ## An occurrence of a source (R176) -/

theorem AttnItem.again_source (e : AttnItem) : e.again.source = e.source := rfl
theorem AttnItem.again_cls (e : AttnItem) : e.again.cls = e.cls := rfl
theorem AttnItem.again_serial (e : AttnItem) : e.again.serial = e.serial := rfl

theorem AttnItem.again_count (e : AttnItem) (h : 1 ≤ e.count) : 1 ≤ e.again.count ∧ e.again.count ≤ 255 := by
  simp only [AttnItem.again]
  omega

/-- What a further occurrence of a source makes of an entry. -/
def AttnItem.againIf (src : Fin 74) (e : AttnItem) : AttnItem := if e.source = src then e.again else e

theorem AttnItem.againIf_eq (src : Fin 74) (e : AttnItem) :
    (e.againIf src).source = e.source ∧ (e.againIf src).cls = e.cls ∧ (e.againIf src).serial = e.serial := by
  unfold AttnItem.againIf
  split <;> exact ⟨rfl, rfl, rfl⟩

theorem AttnItem.againIf_count (src : Fin 74) (e : AttnItem) (h : 1 ≤ e.count ∧ e.count ≤ 255) :
    1 ≤ (e.againIf src).count ∧ (e.againIf src).count ≤ 255 := by
  unfold AttnItem.againIf
  split
  · exact e.again_count h.1
  · exact h

theorem Attention.occur_again {a : Attention} {src : Fin 74} (cls : AttnClass) (o : Occurrence) (h : src ∈ a.items.map AttnItem.source) :
    a.occur src cls o = { a with items := a.items.map (AttnItem.againIf src) } := by
  obtain ⟨e, he, hes⟩ := List.mem_map.1 h
  unfold Attention.occur
  rw [if_pos (List.any_eq_true.2 ⟨e, he, decide_eq_true hes⟩)]
  rfl

theorem Attention.occur_new {a : Attention} {src : Fin 74} (cls : AttnClass) (o : Occurrence) (h : src ∉ a.items.map AttnItem.source) :
    a.occur src cls o = { a with items := insertItem ⟨src, cls, 1, o, a.serials⟩ a.items, serials := a.serials + 1 } := by
  unfold Attention.occur
  rw [if_neg]
  intro hany
  obtain ⟨e, he, hes⟩ := List.any_eq_true.1 hany
  exact h (List.mem_map.2 ⟨e, he, of_decide_eq_true hes⟩)

theorem insertItem_perm (e : AttnItem) (items : List AttnItem) : (insertItem e items).Perm (e :: items) := by
  have hnot : items.filter (fun x => decide (e.cls.code < x.cls.code)) = items.filter fun x => !decide (x.cls.code ≤ e.cls.code) :=
    List.filter_congr fun x _ => by rw [← decide_not]; exact decide_eq_decide.2 Nat.not_le.symm
  unfold insertItem
  rw [hnot]
  exact List.perm_middle.trans ((List.filter_append_perm _ items).cons e)

/-- A new entry keeps a relation along the list that it bears to what stands before and after it. -/
theorem insertItem_pairwise {R : AttnItem → AttnItem → Prop} {e : AttnItem} {items : List AttnItem} (h : items.Pairwise R)
    (hbefore : ∀ x ∈ items, x.cls.code ≤ e.cls.code → R x e) (hafter : ∀ x ∈ items, e.cls.code < x.cls.code → R e x)
    (hacross : ∀ x ∈ items, ∀ y ∈ items, x.cls.code ≤ e.cls.code → e.cls.code < y.cls.code → R x y) :
    (insertItem e items).Pairwise R := by
  unfold insertItem
  refine List.pairwise_append.2 ⟨h.sublist List.filter_sublist, List.pairwise_cons.2 ⟨fun y hy => ?after, h.sublist List.filter_sublist⟩,
    fun x hx y hy => ?across⟩
  case after =>
    obtain ⟨hy, hlt⟩ := List.mem_filter.1 hy
    exact hafter y hy (of_decide_eq_true hlt)
  case across =>
    obtain ⟨hxm, hle⟩ := List.mem_filter.1 hx
    rcases List.mem_cons.1 hy with rfl | hy
    · exact hbefore x hxm (of_decide_eq_true hle)
    · obtain ⟨hy, hlt⟩ := List.mem_filter.1 hy
      exact hacross x hxm y hy (of_decide_eq_true hle) (of_decide_eq_true hlt)

theorem Attention.occur_ok {a : Attention} (src : Fin 74) (cls : AttnClass) (o : Occurrence) (h : a.Ok) : (a.occur src cls o).Ok := by
  obtain ⟨hnodup, hcls, hcount⟩ := h
  by_cases hmem : src ∈ a.items.map AttnItem.source
  · rw [Attention.occur_again cls o hmem]
    refine ⟨?sources, ?classes, ?counts⟩
    case sources =>
      rw [List.map_map]
      rwa [List.map_congr_left (g := AttnItem.source) fun e _ => show (AttnItem.source ∘ AttnItem.againIf src) e = _ from
        (AttnItem.againIf_eq src e).1]
    case classes => exact List.pairwise_map.2 (hcls.imp fun {x y} hxy => by rwa [(x.againIf_eq src).2.1, (y.againIf_eq src).2.1])
    case counts =>
      intro e he
      obtain ⟨x, hx, rfl⟩ := List.mem_map.1 he
      exact x.againIf_count src (hcount x hx)
  · rw [Attention.occur_new cls o hmem]
    refine ⟨?sources, ?classes, ?counts⟩
    case sources => exact ((insertItem_perm _ _).map _).nodup_iff.2 (List.nodup_cons.2 ⟨hmem, hnodup⟩)
    case classes =>
      exact insertItem_pairwise hcls (fun _ _ hle => hle) (fun _ _ hlt => Nat.le_of_lt hlt)
        fun _ _ _ _ hle hlt => Nat.le_of_lt (Nat.lt_of_le_of_lt hle hlt)
    case counts =>
      intro e he
      rcases List.mem_cons.1 ((insertItem_perm _ _).mem_iff.1 he) with rfl | he
      · exact ⟨Nat.le_refl _, Nat.le_add_left ..⟩
      · exact hcount e he

theorem Attention.occur_inOrder {a : Attention} (src : Fin 74) (cls : AttnClass) (o : Occurrence) (h : a.InOrder) :
    (a.occur src cls o).InOrder := by
  obtain ⟨hnodup, horder, hserial⟩ := h
  by_cases hmem : src ∈ a.items.map AttnItem.source
  · rw [Attention.occur_again cls o hmem]
    refine ⟨?serials, ?order, ?bound⟩
    case serials =>
      rw [List.map_map]
      rwa [List.map_congr_left (g := AttnItem.serial) fun e _ => show (AttnItem.serial ∘ AttnItem.againIf src) e = _ from
        (AttnItem.againIf_eq src e).2.2]
    case order =>
      exact List.pairwise_map.2 (horder.imp fun {x y} hxy => by
        rw [(x.againIf_eq src).2.1, (y.againIf_eq src).2.1, (x.againIf_eq src).2.2, (y.againIf_eq src).2.2]
        exact hxy)
    case bound =>
      intro e he
      obtain ⟨x, hx, rfl⟩ := List.mem_map.1 he
      rw [(x.againIf_eq src).2.2]
      exact hserial x hx
  · rw [Attention.occur_new cls o hmem]
    refine ⟨?serials, ?order, ?bound⟩
    case serials =>
      refine ((insertItem_perm _ _).map _).nodup_iff.2 (List.nodup_cons.2 ⟨fun hin => ?_, hnodup⟩)
      obtain ⟨x, hx, hxs⟩ := List.mem_map.1 hin
      exact absurd hxs (Nat.ne_of_lt (hserial x hx))
    case order =>
      have differ {x y : AttnItem} (hlt : x.cls.code < y.cls.code) (hxy : x.cls = y.cls) : x.serial < y.serial :=
        absurd hlt (by rw [hxy]; exact Nat.lt_irrefl _)
      exact insertItem_pairwise horder (fun x hx _ _ => hserial x hx) (fun _ _ hlt => differ hlt)
        fun _ _ _ _ hle hlt => differ (Nat.lt_of_le_of_lt hle hlt)
    case bound =>
      intro e he
      rcases List.mem_cons.1 ((insertItem_perm _ _).mem_iff.1 he) with rfl | he
      · exact Nat.lt_succ_self _
      · exact Nat.lt_succ_of_lt (hserial e he)

/-! ## A clear (R179) -/

/-- What a clear by a count seen leaves of an entry. -/
def AttnItem.cleared (src : Fin 74) (seen : Nat) (e : AttnItem) : Option AttnItem :=
  if e.source = src then (if e.count ≤ seen then none else some { e with count := e.count - seen }) else some e

theorem Attention.clear_eq (a : Attention) (src : Fin 74) (seen : Nat) :
    a.clear src seen = { a with items := a.items.filterMap (AttnItem.cleared src seen) } := rfl

theorem AttnItem.cleared_eq_some {src : Fin 74} {seen : Nat} {e x : AttnItem} (h : e.cleared src seen = some x) :
    x.source = e.source ∧ x.cls = e.cls ∧ x.serial = e.serial ∧ (1 ≤ e.count ∧ e.count ≤ 255 → 1 ≤ x.count ∧ x.count ≤ 255) := by
  unfold AttnItem.cleared at h
  split at h
  · split at h
    · cases h
    · cases h
      exact ⟨rfl, rfl, rfl, by dsimp only; omega⟩
  · cases h
    exact ⟨rfl, rfl, rfl, id⟩

/-- Entries that keep a field under a clear keep its being named once. -/
theorem nodup_map_filterMap {α β : Type} {f : α → Option α} {g : α → β} (hg : ∀ x y, f x = some y → g y = g x) {l : List α}
    (h : (l.map g).Nodup) : ((l.filterMap f).map g).Nodup := by
  rw [List.Nodup, List.pairwise_map] at h ⊢
  rw [List.pairwise_filterMap]
  exact h.imp fun hxy x hx y hy => by rwa [hg _ _ hx, hg _ _ hy]

theorem Attention.clear_ok {a : Attention} (src : Fin 74) (seen : Nat) (h : a.Ok) : (a.clear src seen).Ok := by
  obtain ⟨hnodup, hcls, hcount⟩ := h
  rw [Attention.clear_eq]
  refine ⟨nodup_map_filterMap (fun x y hxy => (AttnItem.cleared_eq_some hxy).1) hnodup,
    List.pairwise_filterMap.2 (hcls.imp fun hxy x hx y hy => ?classes), fun e he => ?counts⟩
  case classes => rwa [(AttnItem.cleared_eq_some hx).2.1, (AttnItem.cleared_eq_some hy).2.1]
  case counts =>
    obtain ⟨x, hx, hxe⟩ := List.mem_filterMap.1 he
    exact (AttnItem.cleared_eq_some hxe).2.2.2 (hcount x hx)

theorem Attention.clear_inOrder {a : Attention} (src : Fin 74) (seen : Nat) (h : a.InOrder) : (a.clear src seen).InOrder := by
  obtain ⟨hnodup, horder, hserial⟩ := h
  rw [Attention.clear_eq]
  refine ⟨nodup_map_filterMap (fun x y hxy => (AttnItem.cleared_eq_some hxy).2.2.1) hnodup,
    List.pairwise_filterMap.2 (horder.imp fun hxy x hx y hy => ?order), fun e he => ?bound⟩
  case order =>
    obtain ⟨-, hxc, hxs, -⟩ := AttnItem.cleared_eq_some hx
    obtain ⟨-, hyc, hys, -⟩ := AttnItem.cleared_eq_some hy
    rw [hxc, hyc, hxs, hys]
    exact hxy
  case bound =>
    obtain ⟨x, hx, hxe⟩ := List.mem_filterMap.1 he
    rw [(AttnItem.cleared_eq_some hxe).2.2.1]
    exact hserial x hx

/-! ## The list classed afresh (R175) -/

theorem insertBySerial_perm (e : AttnItem) (l : List AttnItem) : (insertBySerial e l).Perm (e :: l) := by
  induction l with
  | nil => exact .refl _
  | cons x xs ih =>
    unfold insertBySerial
    split
    · exact .refl _
    · exact (ih.cons x).trans (.swap e x xs)

theorem sortedBySerial_perm (l : List AttnItem) : (l.foldr insertBySerial []).Perm l := by
  induction l with
  | nil => exact .refl _
  | cons x xs ih => exact (insertBySerial_perm x _).trans (ih.cons x)

theorem insertBySerial_sorted {e : AttnItem} {l : List AttnItem} (h : l.Pairwise fun x y => x.serial ≤ y.serial) :
    (insertBySerial e l).Pairwise fun x y => x.serial ≤ y.serial := by
  induction l with
  | nil => exact List.pairwise_singleton _ _
  | cons x xs ih =>
    obtain ⟨hx, hxs⟩ := List.pairwise_cons.1 h
    unfold insertBySerial
    split
    · next hlt =>
      refine List.pairwise_cons.2 ⟨fun y hy => ?_, h⟩
      rcases List.mem_cons.1 hy with rfl | hy
      · exact Nat.le_of_lt hlt
      · exact Nat.le_trans (Nat.le_of_lt hlt) (hx y hy)
    · next hge =>
      refine List.pairwise_cons.2 ⟨fun y hy => ?_, ih hxs⟩
      rcases List.mem_cons.1 ((insertBySerial_perm e xs).mem_iff.1 hy) with rfl | hy
      · exact Nat.le_of_not_lt hge
      · exact hx y hy

theorem sortedBySerial_sorted (l : List AttnItem) : (l.foldr insertBySerial []).Pairwise fun x y => x.serial ≤ y.serial := by
  induction l with
  | nil => exact .nil
  | cons x xs ih => exact insertBySerial_sorted ih

/-- An entry with its class from the map in force. -/
def AttnItem.classed (live : Option Bank) (e : AttnItem) : AttnItem := { e with cls := (attnMap live e.source).2 }

/-- The pending entries in order of creation, classed afresh. -/
def Attention.classedItems (a : Attention) (live : Option Bank) : List AttnItem := (a.items.foldr insertBySerial []).map (·.classed live)

theorem Attention.reclass_items (a : Attention) (live : Option Bank) : (a.reclass live).items =
    (a.classedItems live).filter (fun e => e.cls = .urgent) ++ (a.classedItems live).filter (fun e => e.cls = .prompt) ++
      (a.classedItems live).filter fun e => e.cls = .routine := rfl

theorem Attention.reclass_perm (a : Attention) (live : Option Bank) : (a.reclass live).items.Perm (a.items.map (·.classed live)) := by
  refine .trans ?_ ((sortedBySerial_perm a.items).map _)
  rw [Attention.reclass_items]
  change List.Perm _ (a.classedItems live)
  have hrest : ((a.classedItems live).filter fun e => !decide (e.cls = .urgent)).Perm
      ((a.classedItems live).filter (fun e => e.cls = .prompt) ++ (a.classedItems live).filter fun e => e.cls = .routine) := by
    have := List.filter_append_perm (fun e : AttnItem => decide (e.cls = .prompt))
      ((a.classedItems live).filter fun e => !decide (e.cls = .urgent))
    rw [List.filter_filter, List.filter_filter] at this
    refine this.symm.trans (.of_eq (congr (congrArg _ (List.filter_congr fun e _ => ?_)) (List.filter_congr fun e _ => ?_))) <;>
      cases e.cls <;> rfl
  rw [List.append_assoc]
  exact (hrest.symm.append_left _).trans (List.filter_append_perm _ _)

theorem Attention.reclass_pairwise {R : AttnItem → AttnItem → Prop} (a : Attention) (live : Option Bank)
    (hacross : ∀ x y, x.cls.code < y.cls.code → R x y)
    (hwithin : ∀ c, ((a.classedItems live).filter fun e => e.cls = c).Pairwise R) : (a.reclass live).items.Pairwise R := by
  have cls {c : AttnClass} {x : AttnItem} (hx : x ∈ (a.classedItems live).filter fun e => e.cls = c) : x.cls = c :=
    of_decide_eq_true (List.mem_filter.1 hx).2
  rw [Attention.reclass_items]
  refine List.pairwise_append.2 ⟨List.pairwise_append.2 ⟨hwithin _, hwithin _, fun x hx y hy => ?_⟩, hwithin _, fun x hx y hy => ?_⟩
  · exact hacross x y (by rw [cls hx, cls hy]; decide)
  · rcases List.mem_append.1 hx with hx | hx <;> exact hacross x y (by rw [cls hx, cls hy]; decide)

theorem Attention.reclass_ok {a : Attention} (live : Option Bank) (h : a.Ok) : (a.reclass live).Ok := by
  obtain ⟨hnodup, -, hcount⟩ := h
  refine ⟨((a.reclass_perm live).map _).nodup_iff.2 (by rwa [List.map_map]),
    a.reclass_pairwise live (fun _ _ => Nat.le_of_lt) fun c => ?classes, fun e he => ?counts⟩
  case classes =>
    refine List.pairwise_of_forall_mem_list fun x hx y hy => Nat.le_of_eq ?_
    rw [of_decide_eq_true (List.mem_filter.1 hx).2, of_decide_eq_true (List.mem_filter.1 hy).2]
  case counts =>
    obtain ⟨x, hx, rfl⟩ := List.mem_map.1 ((a.reclass_perm live).mem_iff.1 he)
    exact hcount x hx

theorem Attention.reclass_inOrder {a : Attention} (live : Option Bank) (h : a.InOrder) : (a.reclass live).InOrder := by
  obtain ⟨hnodup, -, hserial⟩ := h
  refine ⟨((a.reclass_perm live).map _).nodup_iff.2 (by rwa [List.map_map]),
    a.reclass_pairwise live (fun x y hlt hxy => absurd hlt (by rw [hxy]; exact Nat.lt_irrefl _)) fun c => ?order, fun e he => ?bound⟩
  case order =>
    have hsorted : (a.classedItems live).Pairwise fun x y => x.serial ≤ y.serial := List.pairwise_map.2 (sortedBySerial_sorted a.items)
    have hdistinct : (a.classedItems live).Pairwise fun x y => x.serial ≠ y.serial :=
      List.pairwise_map.2 (List.pairwise_map.1 (((sortedBySerial_perm a.items).map _).nodup_iff.2 hnodup))
    exact ((hsorted.and hdistinct).imp fun ⟨hle, hne⟩ _ => Nat.lt_of_le_of_ne hle hne).sublist List.filter_sublist
  case bound =>
    obtain ⟨x, hx, rfl⟩ := List.mem_map.1 ((a.reclass_perm live).mem_iff.1 he)
    exact hserial x hx

end Sys2Proof.Machine


/-! The Valve Controller and the Programme Unit keep the command queue, the attention list and the deferred trigger list in order
(R90, R167, R175, R176), whatever they do: one lemma per operation. -/

namespace Sys2Proof.Machine

/-- A state that differs from another at most in what the Valve Controller and the Programme Unit keep, with the queue, the attention list
and the deferred trigger list in order where they were. -/
structure ValveQuiet (s t : State) : Prop where
  only : OnlyValves s t
  queue : s.loop.QueueOk → t.loop.QueueOk
  attn : s.attn.Ok → t.attn.Ok
  order : s.attn.InOrder → t.attn.InOrder
  prog : s.prog.Ok → t.prog.Ok

theorem ValveQuiet.refl (s : State) : ValveQuiet s s := ⟨.refl s, id, id, id, id⟩

theorem ValveQuiet.trans {a b c : State} (h : ValveQuiet a b) (k : ValveQuiet b c) : ValveQuiet a c :=
  ⟨h.only.trans k.only, k.queue ∘ h.queue, k.attn ∘ h.attn, k.order ∘ h.order, k.prog ∘ h.prog⟩

theorem ValveQuiet.ite {c : Prop} [Decidable c] {s t u : State} (h : ValveQuiet s t) (k : ValveQuiet s u) :
    ValveQuiet s (if c then t else u) := by
  split
  · exact h
  · exact k

theorem forEach_valveQuiet {n : Nat} {f : Fin n → State → State} (h : ∀ i s, ValveQuiet s (f i s)) (s : State) :
    ValveQuiet s (forEach f s) := forEach_keeps ValveQuiet ValveQuiet.refl ValveQuiet.trans f h s

/-! ## Updates -/

theorem State.setValve_quiet (s : State) (v : Fin 8) (r : ValveRec) : ValveQuiet s (s.setValve v r) :=
  ⟨s.setValve_only v r, id, id, id, id⟩
theorem State.setPerm_quiet (s : State) (v : Fin 8) (r : PermRec) : ValveQuiet s (s.setPerm v r) :=
  ⟨s.setPerm_only v r, id, id, id, id⟩
theorem State.setProg_quiet (s : State) {p : Programme} (h : s.prog.Ok → p.Ok) : ValveQuiet s (s.setProg p) :=
  ⟨s.setProg_only p, id, id, id, h⟩
theorem State.setTransition_quiet (s : State) (t : Option Transition) : ValveQuiet s (s.setTransition t) := s.setProg_quiet id
theorem State.mapRole_quiet (s : State) (h : Fin 4) (f : RoleRec → RoleRec) : ValveQuiet s (s.mapRole h f) := s.setProg_quiet id
theorem State.withdrawCommands_quiet (s : State) (p : Command → Bool) : ValveQuiet s (s.setLoop (s.loop.withdraw p)) :=
  ⟨s.setLoop_only _ (s.loop.withdraw_only p), LoopPort.withdraw_queueOk p, id, id, id⟩
theorem State.placeValve_quiet (s : State) (v : Fin 8) (o : Bool) (d : Dir) (t : Byte) (r : Bool) :
    ValveQuiet s (s.setLoop (s.loop.placeValve v o d t r)) :=
  ⟨s.setLoop_only _ (s.loop.placeValve_only v o d t r), LoopPort.placeValve_queueOk v o d t r, id, id, id⟩
theorem State.promote_quiet (s : State) (v : Fin 8) : ValveQuiet s (s.setLoop (s.loop.promote v)) :=
  ⟨s.setLoop_only _ (s.loop.promote_only v), LoopPort.promote_queueOk v, id, id, id⟩

theorem State.raiseAt_attn_ok {s : State} (x : Fin 74) (o : Occurrence) (h : s.attn.Ok) : (s.raiseAt x o).attn.Ok := by
  unfold State.raiseAt
  split
  · exact Attention.occur_ok _ _ _ h
  · exact h
theorem State.raiseAt_attn_inOrder {s : State} (x : Fin 74) (o : Occurrence) (h : s.attn.InOrder) : (s.raiseAt x o).attn.InOrder := by
  unfold State.raiseAt
  split
  · exact Attention.occur_inOrder _ _ _ h
  · exact h
theorem State.raiseAt_prog (s : State) (x : Fin 74) (o : Occurrence) : (s.raiseAt x o).prog = s.prog := by
  unfold State.raiseAt; split <;> rfl
theorem State.raise_quiet (s : State) (x : Fin 74) : ValveQuiet s (s.raise x) :=
  ⟨s.raise_only x, fun h => s.raise_loop x ▸ h, State.raiseAt_attn_ok x _, State.raiseAt_attn_inOrder x _,
    fun h => s.raiseAt_prog x s.now ▸ h⟩
theorem State.enterTrigger_quiet (s : State) (t : Trigger) : ValveQuiet s (s.enterTrigger t) := by
  unfold State.enterTrigger
  split
  · exact .refl s
  · next hnew =>
    refine s.setProg_quiet fun h => List.nodup_append.2 ⟨h, List.nodup_cons.2 ⟨List.not_mem_nil, List.nodup_nil⟩, ?_⟩
    rintro a ha b hb rfl
    exact hnew (List.mem_singleton.1 hb ▸ ha)

/-! ## The Valve Controller -/

theorem State.notify_quiet (s : State) (v : Fin 8) (d : Dir) (r : Bool) : ValveQuiet s (s.notify v d r) := s.setProg_quiet id
theorem State.notifyJoined_quiet (s : State) (v : Fin 8) (r : ValveRec) (x : Bool) : ValveQuiet s (s.notifyJoined v r x) := by
  unfold State.notifyJoined
  split
  · exact s.notify_quiet ..
  · exact .refl s
theorem State.beginExchange_quiet (s : State) (v : Fin 8) (d : Dir) (t : Bool) : ValveQuiet s (s.beginExchange v d t) :=
  .ite (s.setValve_quiet ..) ((s.setValve_quiet ..).trans (State.placeValve_quiet ..))
theorem State.startOperation_quiet (s : State) (v : Fin 8) (d : Demand) (j : Bool) : ValveQuiet s (s.startOperation v d j) :=
  (s.setValve_quiet ..).trans (State.beginExchange_quiet ..)
theorem State.refuseDemand_quiet (s : State) (v : Fin 8) (d : Demand) : ValveQuiet s (s.refuseDemand v d) :=
  .ite (s.notify_quiet ..) (.refl s)
theorem State.satisfyDemand_quiet (s : State) (v : Fin 8) (d : Demand) : ValveQuiet s (s.satisfyDemand v d) :=
  .ite (s.notify_quiet ..) (.refl s)
theorem State.offerAtRest_quiet (s : State) (v : Fin 8) (d : Demand) : ValveQuiet s (s.offerAtRest v d).1 := by
  unfold State.offerAtRest
  split
  · exact s.startOperation_quiet ..
  · exact s.satisfyDemand_quiet ..
  · exact s.setValve_quiet ..
  · exact s.refuseDemand_quiet ..
theorem State.joinOperation_quiet (s : State) (v : Fin 8) (a b : Demand) : ValveQuiet s (s.joinOperation v a b) :=
  .ite ((s.setValve_quiet ..).trans (State.promote_quiet ..)) (s.setValve_quiet ..)
theorem State.reverseOperation_quiet (s : State) (v : Fin 8) (d : Demand) : ValveQuiet s (s.reverseOperation v d) :=
  ((s.notifyJoined_quiet ..).trans (State.setValve_quiet ..)).trans (State.beginExchange_quiet ..)
theorem State.offer_quiet (s : State) (v : Fin 8) (d : Demand) : ValveQuiet s (s.offer v d).1 := by
  unfold State.offer
  split
  · exact s.refuseDemand_quiet ..
  · split
    · unfold State.offerInFlight
      repeat' split
      · exact s.joinOperation_quiet ..
      · exact s.reverseOperation_quiet ..
      · exact s.refuseDemand_quiet ..
    · exact s.offerAtRest_quiet ..
theorem State.offered_quiet (s : State) (v : Fin 8) (d : Demand) : ValveQuiet s (s.offered v d) := s.offer_quiet v d
theorem State.endMatch_quiet (s : State) (v : Fin 8) (d : Dir) : ValveQuiet s (s.endMatch v d) :=
  ((s.setValve_quiet ..).trans (State.withdrawCommands_quiet ..)).trans (State.notifyJoined_quiet ..)
theorem State.endStuck_quiet (s : State) (v : Fin 8) (c : FailCause) : ValveQuiet s (s.endStuck v c) :=
  (((s.setValve_quiet ..).trans (State.withdrawCommands_quiet ..)).trans (State.raise_quiet ..)).trans (State.notifyJoined_quiet ..)
theorem State.enterLocal_quiet (s : State) (v : Fin 8) : ValveQuiet s (s.enterLocal v) :=
  .ite ((s.setValve_quiet v _).trans (State.withdrawCommands_quiet _ (·.isValve v)))
    (((s.setValve_quiet v _).trans (State.withdrawCommands_quiet _ (·.isValve v))).trans (State.notifyJoined_quiet ..))
theorem State.missedAnswer_quiet (s : State) (v : Fin 8) (c : FailCause) : ValveQuiet s (s.missedAnswer v c) := by
  unfold State.missedAnswer
  dsimp only
  split
  · exact .refl s
  · exact .ite ((s.setValve_quiet ..).trans (State.beginExchange_quiet ..))
      (((s.setValve_quiet ..).trans (State.raise_quiet ..)).trans (State.notifyJoined_quiet ..))
theorem State.takeKept_quiet (s : State) (v : Fin 8) : ValveQuiet s (s.takeKept v) := by
  unfold State.takeKept
  dsimp only
  split
  · exact .refl s
  · split
    · exact s.startOperation_quiet ..
    · exact (s.setValve_quiet ..).trans (State.notifyJoined_quiet ..)
    · exact .refl s
theorem State.shutIfWithdrawn_quiet (s : State) (v : Fin 8) : ValveQuiet s (s.shutIfWithdrawn v) :=
  .ite (s.offered_quiet ..) (.refl s)
theorem State.followPosition_quiet (s : State) (v : Fin 8) (p : Position) : ValveQuiet s (s.followPosition v p) := by
  cases p with
  | shut | opened | mid => exact s.setValve_quiet ..
  | fault => exact (s.setValve_quiet ..).trans (State.raise_quiet ..)
  | localHand => exact s.enterLocal_quiet v
theorem State.followAndTake_quiet (s : State) (v : Fin 8) (p : Position) : ValveQuiet s (s.followAndTake v p) :=
  ((s.followPosition_quiet v p).trans (State.takeKept_quiet ..)).trans (State.shutIfWithdrawn_quiet ..)
theorem State.positionReport_quiet (s : State) (v : Fin 8) (p : Position) : ValveQuiet s (s.positionReport v p) := by
  have h := s.setValve_quiet v { s.valves[v] with reported := some ⟨p, s.timebase⟩ }
  unfold State.positionReport
  dsimp only
  repeat' split
  all_goals first
    | exact h
    | exact h.trans (State.endMatch_quiet ..)
    | exact h.trans (State.endStuck_quiet ..)
    | exact h.trans (State.enterLocal_quiet ..)
    | exact h.trans (State.followAndTake_quiet ..)
theorem State.actSelected_quiet (s : State) (v : Fin 8) (p : Position) : ValveQuiet s (s.actSelected v p) := by
  have h := s.setValve_quiet v { s.valves[v] with answerTimer := none, reported := some ⟨p, s.timebase⟩ }
  unfold State.actSelected
  dsimp only
  split
  · exact h
  · exact .ite (h.trans (State.endMatch_quiet ..)) ((h.trans (State.setValve_quiet ..)).trans (State.placeValve_quiet ..))
theorem State.actRefused_quiet (s : State) (v : Fin 8) (x : RefuseReason) : ValveQuiet s (s.actRefused v x) := by
  have h := s.setValve_quiet v { s.valves[v] with answerTimer := none }
  cases x with
  | localHand => exact (h.trans (State.setValve_quiet ..)).trans (State.enterLocal_quiet ..)
  | fault => exact (h.trans (State.setValve_quiet ..)).trans (State.endStuck_quiet ..)
  | notSelected => exact h.trans (State.missedAnswer_quiet ..)
theorem State.valveAnswer_quiet (s : State) (b : Bank) (v : Fin 8) (t : Byte) (a : Answer) : ValveQuiet s (s.valveAnswer b v t a) := by
  have h : ValveQuiet s (s.recordAnswer v a t (s.answerActed v a t)) := s.setValve_quiet ..
  refine .ite ?_ h
  cases a with
  | selected p => exact h.trans (State.actSelected_quiet ..)
  | finished => exact h.trans (State.setValve_quiet ..)
  | refused x => exact h.trans (State.actRefused_quiet ..)
theorem State.commandSent_quiet (s : State) (c : Command) : ValveQuiet s (s.commandSent c) := by
  cases c with
  | set => exact .refl s
  | valve => exact .ite (s.setValve_quiet ..) (.refl s)
theorem State.setUnknown_quiet (s : State) (v : Fin 8) : ValveQuiet s (s.setUnknown v) := by
  unfold State.setUnknown
  dsimp only
  split
  · exact s.setValve_quiet ..
  · exact (s.setValve_quiet ..).trans (State.startOperation_quiet ..)
theorem State.valvesRecover_quiet (s : State) (b : Bank) : ValveQuiet s (s.valvesRecover b) :=
  forEach_valveQuiet (fun v s => .ite (s.setUnknown_quiet v) (.refl s)) s
theorem State.withdraw_quiet (s : State) (h : Fin 4) (sd : Side) (c : PermCause) (n : Nat) : ValveQuiet s (s.withdraw h sd c n) :=
  .ite (((s.setPerm_quiet ..).trans (State.offered_quiet ..)).trans (State.raise_quiet ..)) (.refl s)
theorem State.evaluateTrips_quiet (s : State) (e : HolderEntry) (h : Fin 4) (lo hi : Nat) : ValveQuiet s (s.evaluateTrips e h lo hi) := by
  have hlow : ValveQuiet s (if lo ≤ e.lowStop then s.withdraw h .outlet .lowStop lo else s) := .ite (s.withdraw_quiet ..) (.refl s)
  exact .ite (hlow.trans (State.withdraw_quiet ..)) hlow

end Sys2Proof.Machine


/-! Permissions and valves (R60, R62, R71, R78): a valve whose permission is WITHDRAWN is never OPEN or OPENING. The rule needs what a demand
may be in each state of its valve; `ValveRec.Sound` says it of one valve, and every operation of the Valve Controller keeps it. -/

namespace Sys2Proof.Machine

/-! ## The cases of an offer (R61, R62) -/

theorem State.offer_atRest {s : State} {v : Fin 8} {d : Demand} (hp : d.dir = .toOpen → s.perms[v].granted = true)
    (h : s.valves[v].state.inFlight = false) : s.offer v d = s.offerAtRest v d := by
  unfold State.offer
  rw [if_neg (fun ⟨ho, hg⟩ => Bool.false_ne_true (hg.symm.trans (hp ho))), h]

theorem State.offer_inFlight {s : State} {v : Fin 8} {d old : Demand} (hp : d.dir = .toOpen → s.perms[v].granted = true)
    (h : s.valves[v].state.inFlight = true) (hd : s.valves[v].demand = some old) : s.offer v d = s.offerInFlight v old d := by
  unfold State.offer
  rw [if_neg (fun ⟨ho, hg⟩ => Bool.false_ne_true (hg.symm.trans (hp ho))), h, hd]

theorem State.offerAtRest_started {s : State} {v : Fin 8} {d : Demand} (h : table11 s.valves[v].state d = .started) :
    s.offerAtRest v d = (s.startOperation v d (d.origin == .programme), .started) := by
  unfold State.offerAtRest
  rw [h]

theorem State.offerInFlight_reversed {s : State} {v : Fin 8} {d old : Demand} (hdir : old.dir ≠ d.dir)
    (hr : old.origin.rank ≤ d.origin.rank) : s.offerInFlight v old d = (s.reverseOperation v d, .reversed) := by
  unfold State.offerInFlight
  rw [if_neg hdir, if_pos hr]

theorem Origin.rank_le_trip (o : Origin) : o.rank ≤ Origin.trip.rank := by cases o <;> decide

/-! ## One valve -/

/-- A demand of TRIP origin is a SHUT demand. -/
def Demand.Sound (d : Demand) : Prop := d.origin = .trip → d.dir = .toShut

/-- What holds of a valve of a fitted holder or of another, under its permission. -/
structure ValveRec.Sound (r : ValveRec) (granted fitted : Bool) : Prop where
  demand : ∀ d, r.demand = some d → d.Sound ∧ (d.dir = .toOpen → r.state = .opening)
  opening : fitted = true → r.state = .opening → ∃ d, r.demand = some d ∧ d.dir = .toOpen
  shut : granted = false → r.state ≠ .opened ∧ r.state ≠ .opening

/-- The same of every valve; `fit` says which are of fitted holders. -/
def State.Permits (s : State) (fit : Fin 8 → Bool) : Prop := ∀ v : Fin 8, s.valves[v].Sound s.perms[v].granted (fit v)

/-- The same of every valve but one. -/
def State.PermitsBut (s : State) (fit : Fin 8 → Bool) (v : Fin 8) : Prop :=
  ∀ w : Fin 8, v ≠ w → s.valves[w].Sound s.perms[w].granted (fit w)

/-- Which valves are of holders that a bank has fitted. -/
def Bank.fits (b : Bank) (v : Fin 8) : Bool := b.fitted (holderOf v)

theorem ValveRec.Sound.congr {r r' : ValveRec} {g f : Bool} (h : r.Sound g f) (hs : r'.state = r.state) (hd : r'.demand = r.demand) :
    r'.Sound g f := by
  refine ⟨fun d => ?_, fun hf => ?_, fun hg => ?_⟩
  · rw [hs, hd]; exact h.demand d
  · rw [hs, hd]; exact h.opening hf
  · rw [hs]; exact h.shut hg

/-- A valve that neither is OPENING nor has a demand, nor is OPEN without permission. -/
theorem ValveRec.Sound.atRest {r : ValveRec} {g f : Bool} (hd : r.demand = none) (ho : r.state ≠ .opening)
    (hp : g = false → r.state ≠ .opened) : r.Sound g f :=
  ⟨fun _ h => (nomatch hd.symm.trans h), fun _ h => absurd h ho, fun h => ⟨hp h, ho⟩⟩

/-- A demand that a valve keeps at rest is a SHUT demand. -/
theorem ValveRec.Sound.kept {r : ValveRec} {g f : Bool} (h : r.Sound g f) (ho : r.state ≠ .opening) {d : Demand} (hd : r.demand = some d) :
    d.dir = .toShut := by
  cases hdir : d.dir with
  | toShut => rfl
  | toOpen => exact absurd ((h.demand d hd).2 hdir) ho

variable {s t : State} {fit : Fin 8 → Bool} {v : Fin 8}

theorem State.Permits.but (h : s.Permits fit) (v : Fin 8) : s.PermitsBut fit v := fun w _ => h w

theorem State.Permits.congr (h : s.Permits fit) (hv : t.valves = s.valves) (hp : t.perms = s.perms) : t.Permits fit := by
  unfold State.Permits
  rw [hv, hp]
  exact h

theorem State.PermitsBut.congr (h : s.PermitsBut fit v) (hv : t.valves = s.valves) (hp : t.perms = s.perms) : t.PermitsBut fit v := by
  unfold State.PermitsBut
  rw [hv, hp]
  exact h

theorem State.PermitsBut.setValve (h : s.PermitsBut fit v) {r : ValveRec} (hr : r.Sound s.perms[v].granted (fit v)) :
    (s.setValve v r).Permits fit := by
  intro w
  by_cases hw : v = w
  · subst hw
    simpa using hr
  · simpa [upd_other _ _ _ _ hw] using h w hw

theorem State.PermitsBut.setValve_but (h : s.PermitsBut fit v) (r : ValveRec) : (s.setValve v r).PermitsBut fit v := by
  intro w hw
  simpa [upd_other _ _ _ _ hw] using h w hw

theorem State.PermitsBut.setPerm_but (h : s.PermitsBut fit v) (r : PermRec) : (s.setPerm v r).PermitsBut fit v := by
  intro w hw
  simpa [upd_other _ _ _ _ hw] using h w hw

/-- A valve whose state and demand are kept. -/
theorem State.Permits.setValve_same (h : s.Permits fit) {r : ValveRec} (hs : r.state = s.valves[v].state)
    (hd : r.demand = s.valves[v].demand) : (s.setValve v r).Permits fit := (h.but v).setValve ((h v).congr hs hd)

/-! ## Operations -/

@[simp] theorem State.notify_valves (s : State) (v : Fin 8) (d : Dir) (r : Bool) : (s.notify v d r).valves = s.valves := rfl
@[simp] theorem State.notify_perms (s : State) (v : Fin 8) (d : Dir) (r : Bool) : (s.notify v d r).perms = s.perms := rfl
@[simp] theorem State.notifyJoined_valves (s : State) (v : Fin 8) (r : ValveRec) (x : Bool) :
    (s.notifyJoined v r x).valves = s.valves := by unfold State.notifyJoined; split <;> rfl
@[simp] theorem State.notifyJoined_perms (s : State) (v : Fin 8) (r : ValveRec) (x : Bool) :
    (s.notifyJoined v r x).perms = s.perms := by unfold State.notifyJoined; split <;> rfl
@[simp] theorem State.raise_valves (s : State) (x : Fin 74) : (s.raise x).valves = s.valves := by
  unfold State.raise State.raiseAt; split <;> rfl
@[simp] theorem State.raise_perms (s : State) (x : Fin 74) : (s.raise x).perms = s.perms := by
  unfold State.raise State.raiseAt; split <;> rfl

theorem State.Permits.notifyJoined (h : s.Permits fit) (v : Fin 8) (r : ValveRec) (x : Bool) : (s.notifyJoined v r x).Permits fit :=
  h.congr (s.notifyJoined_valves v r x) (s.notifyJoined_perms v r x)
theorem State.Permits.raise (h : s.Permits fit) (x : Fin 74) : (s.raise x).Permits fit := h.congr (s.raise_valves x) (s.raise_perms x)
theorem State.Permits.setLoop (h : s.Permits fit) (l : LoopPort) : (s.setLoop l).Permits fit := h.congr rfl rfl
theorem State.Permits.setProg (h : s.Permits fit) (p : Programme) : (s.setProg p).Permits fit := h.congr rfl rfl

theorem State.Permits.beginExchange (h : s.Permits fit) (v : Fin 8) (d : Dir) (t : Bool) : (s.beginExchange v d t).Permits fit := by
  unfold State.beginExchange
  dsimp only
  split
  · exact h.setValve_same rfl rfl
  · refine State.Permits.setLoop ?_ _
    exact h.setValve_same rfl rfl

/-- A valve that moves in the direction of its demand. -/
theorem ValveRec.Sound.moving {r : ValveRec} {d : Demand} {g f : Bool} (hs : r.state = d.dir.moving) (hd : r.demand = some d) (hd' : d.Sound)
    (hp : d.dir = .toOpen → g = true) : r.Sound g f := by
  obtain ⟨dir, origin⟩ := d
  refine ⟨fun d h => ?_, fun _ h => ⟨_, hd, ?_⟩, fun h => ?_⟩
  · obtain rfl := Option.some.inj (hd.symm.trans h)
    exact ⟨hd', by rintro rfl; exact hs⟩
  · cases dir with
    | toOpen => rfl
    | toShut => exact nomatch hs.symm.trans h
  · rw [hs]
    cases dir with
    | toOpen => exact nomatch h.symm.trans (hp rfl)
    | toShut => exact ⟨nofun, nofun⟩

theorem State.PermitsBut.startOperation (h : s.PermitsBut fit v) {d : Demand} (hd : d.Sound)
    (hp : d.dir = .toOpen → s.perms[v].granted = true) (j : Bool) : (s.startOperation v d j).Permits fit :=
  (h.setValve (.moving rfl rfl hd hp)).beginExchange v _ _

theorem State.Permits.refuseDemand (h : s.Permits fit) (v : Fin 8) (d : Demand) : (s.refuseDemand v d).Permits fit := by
  unfold State.refuseDemand
  split
  · exact h.setProg _
  · exact h
theorem State.Permits.satisfyDemand (h : s.Permits fit) (v : Fin 8) (d : Demand) : (s.satisfyDemand v d).Permits fit := by
  unfold State.satisfyDemand
  split
  · exact h.setProg _
  · exact h

/-- Only a SHUT demand is kept by a valve, and only in NO_ANSWER or LOCAL. -/
theorem table11_kept {st : ValveState} {d : Demand} (h : table11 st d = .kept) :
    d.dir = .toShut ∧ (st = .noAnswer ∨ st = .localHand) := by
  obtain ⟨dir, origin⟩ := d
  cases st <;> cases dir <;> cases origin <;> simp [table11] at h ⊢

theorem State.Permits.offerAtRest (h : s.Permits fit) (v : Fin 8) {d : Demand} (hd : d.Sound)
    (hp : d.dir = .toOpen → s.perms[v].granted = true) : (s.offerAtRest v d).1.Permits fit := by
  unfold State.offerAtRest
  split
  · exact (h.but v).startOperation hd hp _
  · exact h.satisfyDemand v d
  · next hk =>
    obtain ⟨hdir, hst⟩ := table11_kept hk
    refine (h.but v).setValve ⟨fun e he => ?_, fun _ ho => ?_, fun hg => (h v).shut hg⟩
    · obtain rfl := Option.some.inj he
      exact ⟨hd, fun ho => nomatch hdir.symm.trans ho⟩
    · rcases hst with hst | hst <;> exact nomatch hst.symm.trans ho
  · exact h.refuseDemand v d

theorem State.Permits.joinOperation (h : s.Permits fit) {old d : Demand} (ho : s.valves[v].demand = some old) (hd : d.Sound)
    (hdir : old.dir = d.dir) : (s.joinOperation v old d).Permits fit := by
  have joined (r : ValveRec) (hs : r.state = s.valves[v].state) (hr : r.demand = some ⟨old.dir,
      if old.origin.rank < d.origin.rank then d.origin else old.origin⟩) : (s.setValve v r).Permits fit := by
    obtain ⟨hsound, hopen⟩ := (h v).demand old ho
    refine (h.but v).setValve ⟨fun e he => ?_, fun hf hst => ⟨_, hr, ?_⟩, fun hg => hs ▸ (h v).shut hg⟩
    · obtain rfl := Option.some.inj (hr.symm.trans he)
      refine ⟨fun htrip => ?_, fun hto => hs ▸ hopen hto⟩
      dsimp only at htrip
      split at htrip
      · exact hdir.trans (hd htrip)
      · exact hsound htrip
    · obtain ⟨e, he, hedir⟩ := (h v).opening hf (hs ▸ hst)
      obtain rfl := Option.some.inj (ho.symm.trans he)
      exact hedir
  unfold State.joinOperation
  simp only [decide_eq_true_eq]
  split
  · refine State.Permits.setLoop ?_ _
    exact joined _ rfl rfl
  · exact joined _ rfl rfl

theorem State.PermitsBut.reverseOperation (h : s.PermitsBut fit v) {d : Demand} (hd : d.Sound)
    (hp : d.dir = .toOpen → s.perms[v].granted = true) : (s.reverseOperation v d).Permits fit := by
  have told := h.congr (s.notifyJoined_valves v s.valves[v] false) (s.notifyJoined_perms v s.valves[v] false)
  exact (told.setValve (.moving rfl rfl hd (by simpa using hp))).beginExchange v _ _

theorem State.Permits.offer (h : s.Permits fit) (v : Fin 8) {d : Demand} (hd : d.Sound) : (s.offer v d).1.Permits fit := by
  unfold State.offer
  split
  · exact h.refuseDemand v d
  · next hallowed =>
    have hp : d.dir = .toOpen → s.perms[v].granted = true := fun ho => by
      cases hg : s.perms[v].granted with
      | true => rfl
      | false => exact absurd ⟨ho, hg⟩ hallowed
    split
    · next old _ hold =>
      unfold State.offerInFlight
      repeat' split
      · next hdir => exact h.joinOperation hold hd hdir
      · exact (h.but v).reverseOperation hd hp
      · exact h.refuseDemand v d
    · exact h.offerAtRest v hd hp

theorem State.Permits.offered (h : s.Permits fit) (v : Fin 8) {d : Demand} (hd : d.Sound) : (s.offered v d).Permits fit := h.offer v hd

/-- R78: a permission withdrawn, the valve being shut by a TRIP demand: together they keep the rule. -/
theorem State.Permits.shutByTrip (h : s.Permits fit) (hf : fit v = true) (p : PermRec) :
    ((s.setPerm v p).offered v ⟨.toShut, .trip⟩).Permits fit := by
  have hsound : Demand.Sound ⟨.toShut, .trip⟩ := fun _ => rfl
  have hbut := (h.but v).setPerm_but p
  have hv : (s.setPerm v p).valves = s.valves := rfl
  generalize s.setPerm v p = s1 at *
  have hp : Dir.toShut = .toOpen → s1.perms[v].granted = true := nofun
  cases hst : s.valves[v].state with
  | opened =>
    have this : s1.offered v ⟨.toShut, .trip⟩ = s1.startOperation v ⟨.toShut, .trip⟩ false := by
      rw [State.offered, State.offer_atRest hp (by rw [hv, hst]; rfl), State.offerAtRest_started (by rw [hv, hst]; rfl)]
      rfl
    rw [this]
    exact hbut.startOperation hsound nofun _
  | opening =>
    obtain ⟨d, hd, hdir⟩ := (h v).opening hf hst
    have this : s1.offered v ⟨.toShut, .trip⟩ = s1.reverseOperation v ⟨.toShut, .trip⟩ := by
      rw [State.offered, State.offer_inFlight hp (by rw [hv, hst]; rfl) ((congrArg (·[v].demand) hv).trans hd),
        State.offerInFlight_reversed (by rw [hdir]; exact nofun) d.origin.rank_le_trip]
    rw [this]
    exact hbut.reverseOperation hsound nofun
  | unknown | shut | shutting | stuck | noAnswer | localHand =>
    refine State.Permits.offered (fun w => ?_) v hsound
    by_cases hw : v = w
    · subst hw
      rw [hv]
      exact ⟨(h v).demand, (h v).opening, fun _ => by rw [hst]; exact ⟨nofun, nofun⟩⟩
    · exact hbut w hw

theorem State.Permits.withdraw (h : s.Permits fit) {x : Fin 4} {sd : Side} (hf : fit (valveOf x sd) = true) (c : PermCause) (n : Nat) :
    (s.withdraw x sd c n).Permits fit := by
  unfold State.withdraw
  dsimp only
  split
  · exact (h.shutByTrip hf _).raise _
  · exact h

theorem State.Permits.evaluateTrips (h : s.Permits fit) {x : Fin 4} (hf : ∀ sd, fit (valveOf x sd) = true) (e : HolderEntry) (lo hi : Nat) :
    (s.evaluateTrips e x lo hi).Permits fit := by
  unfold State.evaluateTrips
  dsimp only
  have low : (if lo ≤ e.lowStop then s.withdraw x .outlet .lowStop lo else s).Permits fit := by
    split
    · exact h.withdraw (hf _) _ _
    · exact h
  split
  · exact low.withdraw (hf _) _ _
  · exact low

/-! ## Ends of operations -/

theorem State.Permits.endMatch (h : s.Permits fit) {d : Dir} (hd : d = .toOpen → s.perms[v].granted = true) :
    (s.endMatch v d).Permits fit := by
  refine ((State.Permits.setLoop ?_ _).notifyJoined _ _ _)
  refine (h.but v).setValve (.atRest rfl ?_ fun hg => ?_)
  · cases d <;> exact nofun
  · cases d with
    | toOpen => exact absurd ((hd rfl).symm.trans hg) (by decide)
    | toShut => exact nofun

theorem State.Permits.endStuck (h : s.Permits fit) (v : Fin 8) (c : FailCause) : (s.endStuck v c).Permits fit := by
  refine (State.Permits.raise (State.Permits.setLoop ?_ _) _).notifyJoined _ _ _
  exact (h.but v).setValve (.atRest rfl nofun fun _ => nofun)

/-- A valve at rest that keeps at most a demand of TRIP origin. -/
theorem ValveRec.Sound.keepsTrip {r r' : ValveRec} {g f : Bool} (h : r.Sound g f) (hs : r'.state = .localHand ∨ r'.state = .noAnswer)
    (hd : ∀ d, r'.demand = some d → r.demand = some d ∧ d.origin = .trip) : r'.Sound g f := by
  refine ⟨fun d he => ?_, fun _ ho => ?_, fun _ => ?_⟩
  · obtain ⟨hold, htrip⟩ := hd d he
    have hsound := (h.demand d hold).1
    exact ⟨hsound, fun ho => nomatch (hsound htrip).symm.trans ho⟩
  · rcases hs with hs | hs <;> exact nomatch hs.symm.trans ho
  · rcases hs with hs | hs <;> rw [hs] <;> exact ⟨nofun, nofun⟩

/-- Whether a valve's demand is of TRIP origin. -/
def ValveRec.hasTrip (r : ValveRec) : Bool :=
  match r.demand with
  | some d => d.origin == .trip
  | none => false

/-- R72: the record of a valve that enters LOCAL. -/
def ValveRec.toLocal (r : ValveRec) : ValveRec :=
  { r with
    state := .localHand, demand := if r.hasTrip then r.demand else none, joined := r.hasTrip && r.joined, phase := .idle,
    reissue := if r.state.inFlight then 0 else r.reissue, answerTimer := none, travelTimer := none }

theorem State.enterLocal_eq (s : State) (v : Fin 8) : s.enterLocal v =
    let s2 := (s.setValve v s.valves[v].toLocal).setLoop (s.loop.withdraw (·.isValve v))
    if s.valves[v].hasTrip then s2 else s2.notifyJoined v s.valves[v] false := rfl

theorem ValveRec.toLocal_demand {r : ValveRec} {d : Demand} (h : r.toLocal.demand = some d) : r.demand = some d ∧ d.origin = .trip := by
  unfold ValveRec.toLocal at h
  dsimp only at h
  split at h
  · next htrip =>
    rw [ValveRec.hasTrip, h] at htrip
    exact ⟨h, eq_of_beq htrip⟩
  · exact nomatch h

theorem State.Permits.enterLocal (h : s.Permits fit) (v : Fin 8) : (s.enterLocal v).Permits fit := by
  have entered : ((s.setValve v s.valves[v].toLocal).setLoop (s.loop.withdraw (·.isValve v))).Permits fit :=
    ((h.but v).setValve ((h v).keepsTrip (.inl rfl) fun _ => ValveRec.toLocal_demand)).setLoop _
  rw [State.enterLocal_eq]
  dsimp only
  split
  · exact entered
  · exact entered.notifyJoined _ _ _

theorem State.Permits.missedAnswer (h : s.Permits fit) (v : Fin 8) (c : FailCause) : (s.missedAnswer v c).Permits fit := by
  unfold State.missedAnswer
  dsimp only
  split
  · exact h
  · next d hd =>
    split
    · refine State.Permits.beginExchange ?_ _ _ _
      exact h.setValve_same rfl rfl
    · refine (State.Permits.raise ?_ _).notifyJoined _ _ _
      refine (h.but v).setValve ((h v).keepsTrip (.inr rfl) fun e he => ?_)
      dsimp only at he
      split at he
      · next htrip => exact Option.some.inj he ▸ ⟨hd, htrip⟩
      · exact nomatch he

/-! ## Position reports and answers -/

/-- A valve at rest that stands where it was told to, an OPEN one without permission excepted: its demand, if any, is a SHUT demand. -/
structure State.Resting (s : State) (fit : Fin 8 → Bool) (v : Fin 8) : Prop where
  others : s.PermitsBut fit v
  demand : ∀ d, s.valves[v].demand = some d → d.Sound ∧ d.dir = .toShut
  state : s.valves[v].state ≠ .opening

theorem State.Resting.permits (h : s.Resting fit v) (ho : s.perms[v].granted = false → s.valves[v].state ≠ .opened) : s.Permits fit := by
  intro w
  by_cases hw : v = w
  · subst hw
    exact ⟨fun d hd => ⟨(h.demand d hd).1, fun hto => nomatch (h.demand d hd).2.symm.trans hto⟩, fun _ hop => absurd hop h.state,
      fun hg => ⟨ho hg, h.state⟩⟩
  · exact h.others w hw

/-- The valve's record after a position report in rest. -/
theorem State.Permits.followPosition (h : s.Permits fit) (hr : s.valves[v].state ≠ .opening) (p : Position) :
    (s.followPosition v p).Resting fit v := by
  have rest (r : ValveRec) (hd : r.demand = s.valves[v].demand) (hs : r.state ≠ .opening) : (s.setValve v r).Resting fit v := by
    refine ⟨(h.but v).setValve_but r, fun d he => ?_, by simpa using hs⟩
    have he : s.valves[v].demand = some d := hd ▸ (by simpa using he)
    exact ⟨((h v).demand d he).1, (h v).kept hr he⟩
  cases p with
  | shut | opened | mid => exact rest _ rfl nofun
  | fault =>
    obtain ⟨hothers, hdemand, hstate⟩ := rest { s.valves[v] with
      state := .stuck, lastFailure := some ⟨.faultReported, s.valves[v].demand, s.timebase⟩ } rfl nofun
    exact ⟨hothers.congr (State.raise_valves ..) (State.raise_perms ..), by rwa [State.followPosition, State.raise_valves],
      by rwa [State.followPosition, State.raise_valves]⟩
  | localHand =>
    have hlocal := h.enterLocal v
    have hst : (s.enterLocal v).valves[v].state = .localHand := by
      rw [State.enterLocal_eq]
      dsimp only
      split <;> simp [ValveRec.toLocal]
    refine ⟨hlocal.but v, fun d hd => ⟨((hlocal v).demand d hd).1, (hlocal v).kept ?_ hd⟩, ?_⟩ <;>
      exact fun ho => nomatch hst.symm.trans ho

theorem State.Resting.takeKept (h : s.Resting fit v) : (s.takeKept v).Resting fit v ∨ (s.takeKept v).Permits fit := by
  unfold State.takeKept
  dsimp only
  split
  · exact .inl h
  · next d hd =>
    split
    · exact .inr (h.others.startOperation (h.demand d hd).1 (fun ho => nomatch (h.demand d hd).2.symm.trans ho) _)
    · refine .inl ⟨?_, fun e he => ?_, ?_⟩
      · exact (h.others.setValve_but _).congr (State.notifyJoined_valves ..) (State.notifyJoined_perms ..)
      · simp at he
      · simpa using h.state
    · exact .inl h

theorem State.Resting.shutIfWithdrawn (h : s.Resting fit v) : (s.shutIfWithdrawn v).Permits fit := by
  unfold State.shutIfWithdrawn
  split
  · next ho =>
    obtain ⟨hst, -⟩ := ho
    have hp : Dir.toShut = .toOpen → s.perms[v].granted = true := nofun
    have hop : s.offered v ⟨.toShut, .trip⟩ = s.startOperation v ⟨.toShut, .trip⟩ false := by
      rw [State.offered, State.offer_atRest hp (by rw [hst]; rfl), State.offerAtRest_started (by rw [hst]; rfl)]
      rfl
    rw [hop]
    exact h.others.startOperation (fun _ => rfl) hp _
  · next ho => exact h.permits fun hg hst => ho ⟨hst, hg⟩

theorem State.Permits.shutIfWithdrawn (h : s.Permits fit) (v : Fin 8) : (s.shutIfWithdrawn v).Permits fit := by
  unfold State.shutIfWithdrawn
  split
  · exact h.offered v fun _ => rfl
  · exact h

theorem State.Permits.followAndTake (h : s.Permits fit) (hr : s.valves[v].state ≠ .opening) (p : Position) :
    (s.followAndTake v p).Permits fit := by
  rcases (h.followPosition hr p).takeKept with hrest | hsound
  · exact hrest.shutIfWithdrawn
  · exact hsound.shutIfWithdrawn v

/-- A valve with an OPEN demand has its permission. -/
theorem State.Permits.granted (h : s.Permits fit) {d : Demand} (hd : s.valves[v].demand = some d) (ho : d.dir = .toOpen) :
    s.perms[v].granted = true := by
  cases hg : s.perms[v].granted with
  | true => rfl
  | false => exact absurd (((h v).demand d hd).2 ho) ((h v).shut hg).2

theorem State.Permits.positionReport (h : s.Permits fit) (v : Fin 8) (p : Position) : (s.positionReport v p).Permits fit := by
  have noted : (s.setValve v { s.valves[v] with reported := some ⟨p, s.timebase⟩ }).Permits fit := h.setValve_same rfl rfl
  have hst : (s.setValve v { s.valves[v] with reported := some ⟨p, s.timebase⟩ }).valves[v].state = s.valves[v].state := by simp
  have hperms : (s.setValve v { s.valves[v] with reported := some ⟨p, s.timebase⟩ }).perms = s.perms := rfl
  unfold State.positionReport
  dsimp only
  generalize s.setValve v { s.valves[v] with reported := some ⟨p, s.timebase⟩ } = s1 at *
  have follow (hr : s.valves[v].state ≠ .opening) := noted.followAndTake (v := v) (by rwa [hst]) p
  split
  iterate 2
    split
    · exact noted
    · next d hd =>
      split
      · exact noted.endMatch (by rw [hperms]; exact h.granted hd)
      · split
        · exact noted.endStuck v _
        · exact noted.enterLocal v
        · exact noted
  iterate 3 exact follow (by rw [‹s.valves[v].state = _›]; exact nofun)
  · split
    · exact noted.enterLocal v
    · exact noted
  · split
    · exact noted
    · exact follow (by rw [‹s.valves[v].state = _›]; exact nofun)
  · exact follow (by rw [‹s.valves[v].state = _›]; exact nofun)

theorem State.Permits.actSelected (h : s.Permits fit) (v : Fin 8) (p : Position) : (s.actSelected v p).Permits fit := by
  have noted : (s.setValve v { s.valves[v] with answerTimer := none, reported := some ⟨p, s.timebase⟩ }).Permits fit :=
    h.setValve_same rfl rfl
  unfold State.actSelected
  dsimp only
  split
  · exact noted
  · next d hd =>
    split
    · exact noted.endMatch (h.granted hd)
    · refine State.Permits.setLoop ?_ _
      exact noted.setValve_same rfl rfl

theorem State.Permits.actRefused (h : s.Permits fit) (v : Fin 8) (x : RefuseReason) : (s.actRefused v x).Permits fit := by
  have noted : (s.setValve v { s.valves[v] with answerTimer := none }).Permits fit := h.setValve_same rfl rfl
  cases x with
  | localHand =>
    refine State.Permits.enterLocal ?_ v
    exact noted.setValve_same rfl rfl
  | fault =>
    refine State.Permits.endStuck ?_ v _
    exact noted.setValve_same rfl rfl
  | notSelected => exact noted.missedAnswer v _

theorem State.Permits.valveAnswer (h : s.Permits fit) (b : Bank) (v : Fin 8) (t : Byte) (a : Answer) :
    (s.valveAnswer b v t a).Permits fit := by
  have noted : (s.recordAnswer v a t (s.answerActed v a t)).Permits fit := h.setValve_same rfl rfl
  unfold State.valveAnswer
  dsimp only
  split
  · cases a with
    | selected p => exact noted.actSelected v p
    | finished => exact noted.setValve_same rfl rfl
    | refused x => exact noted.actRefused v x
  · exact noted

theorem State.Permits.commandSent (h : s.Permits fit) (c : Command) : (s.commandSent c).Permits fit := by
  cases c with
  | set => exact h
  | valve =>
    unfold State.commandSent
    dsimp only
    split
    · exact h.setValve_same rfl rfl
    · exact h

theorem State.Permits.setUnknown (h : s.Permits fit) (v : Fin 8) : (s.setUnknown v).Permits fit := by
  unfold State.setUnknown
  dsimp only
  split
  · next hd => exact (h.but v).setValve (.atRest hd nofun fun _ => nofun)
  · next d hd => exact ((h.but v).setValve_but _).startOperation ((h v).demand d hd).1 (h.granted hd) _

theorem forEach_permits {n : Nat} {f : Fin n → State → State} (hf : ∀ i s, s.Permits fit → (f i s).Permits fit) (h : s.Permits fit) :
    (forEach f s).Permits fit :=
  forEach_keeps (fun s t => s.Permits fit → t.Permits fit) (fun _ => id) (fun h k => k ∘ h) f hf s h

theorem State.Permits.valvesRecover (h : s.Permits fit) (b : Bank) : (s.valvesRecover b).Permits fit := by
  refine forEach_permits (fun v s h => ?_) h
  split
  · exact h.setUnknown v
  · exact h

end Sys2Proof.Machine


/-! The Programme Unit keeps the command queue, the attention list and the deferred trigger list in order, and the permissions: one lemma
per operation. -/

namespace Sys2Proof.Machine

/-- A state that differs from another at most in what the Valve Controller and the Programme Unit keep, with the lists in order and the
permissions kept. -/
structure ValveSteady (fit : Fin 8 → Bool) (s t : State) : Prop extends ValveQuiet s t where
  permits : s.Permits fit → t.Permits fit

namespace ValveSteady

variable {fit : Fin 8 → Bool} {s t u : State}

theorem refl (s : State) : ValveSteady fit s s := ⟨.refl s, id⟩

theorem trans (h : ValveSteady fit s t) (k : ValveSteady fit t u) : ValveSteady fit s u :=
  ⟨h.toValveQuiet.trans k.toValveQuiet, k.permits ∘ h.permits⟩

theorem ite {c : Prop} [Decidable c] (h : ValveSteady fit s t) (k : ValveSteady fit s u) : ValveSteady fit s (if c then t else u) := by
  split
  · exact h
  · exact k

end ValveSteady

variable {fit : Fin 8 → Bool}

theorem forEach_steady {n : Nat} {f : Fin n → State → State} (h : ∀ i s, ValveSteady fit s (f i s)) (s : State) :
    ValveSteady fit s (forEach f s) := forEach_keeps (ValveSteady fit) ValveSteady.refl ValveSteady.trans f h s

/-! ## Updates and offers -/

theorem State.setProg_steady (s : State) {p : Programme} (h : s.prog.Ok → p.Ok) : ValveSteady fit s (s.setProg p) :=
  ⟨s.setProg_quiet h, fun k => k.setProg p⟩
theorem State.setTransition_steady (s : State) (t : Option Transition) : ValveSteady fit s (s.setTransition t) := s.setProg_steady id
theorem State.mapRole_steady (s : State) (h : Fin 4) (f : RoleRec → RoleRec) : ValveSteady fit s (s.mapRole h f) := s.setProg_steady id
theorem State.raise_steady (s : State) (x : Fin 74) : ValveSteady fit s (s.raise x) := ⟨s.raise_quiet x, fun h => h.raise x⟩
theorem State.enterTrigger_steady (s : State) (t : Trigger) : ValveSteady fit s (s.enterTrigger t) := by
  refine ⟨s.enterTrigger_quiet t, fun h => ?_⟩
  unfold State.enterTrigger
  split
  · exact h
  · exact h.setProg _
theorem State.offered_steady (s : State) (v : Fin 8) {d : Demand} (hd : d.Sound) : ValveSteady fit s (s.offered v d) :=
  ⟨s.offered_quiet v d, fun h => h.offered v hd⟩
theorem State.offerOpen_steady (s : State) (v : Fin 8) : ValveSteady fit s (s.offerOpen v) := s.offered_steady v nofun
theorem State.withdraw_steady (s : State) {x : Fin 4} {sd : Side} (hf : fit (valveOf x sd) = true) (c : PermCause) (n : Nat) :
    ValveSteady fit s (s.withdraw x sd c n) := ⟨s.withdraw_quiet x sd c n, fun h => h.withdraw hf c n⟩
theorem State.evaluateTrips_steady (s : State) {x : Fin 4} (hf : ∀ sd, fit (valveOf x sd) = true) (e : HolderEntry) (lo hi : Nat) :
    ValveSteady fit s (s.evaluateTrips e x lo hi) := ⟨s.evaluateTrips_quiet e x lo hi, fun h => h.evaluateTrips hf e lo hi⟩

/-! ## Transitions -/

theorem State.endTransition_steady (s : State) (t : Transition) : ValveSteady fit s (s.endTransition t) := by
  unfold State.endTransition
  dsimp only
  split
  · split
    · exact (s.setTransition_steady _).trans (State.enterTrigger_steady ..)
    · exact s.setTransition_steady _
  · exact (s.setTransition_steady _).trans (forEach_steady (fun h s => s.mapRole_steady ..) _)
theorem State.takeShut_steady (s : State) (b : Bank) (v : Fin 8) : ValveSteady fit s (s.takeShut b v) := by
  unfold State.takeShut
  repeat' split
  · exact .refl s
  · exact ((s.setTransition_steady _).trans (State.raise_steady ..)).trans (State.mapRole_steady ..)
  · exact (s.setTransition_steady _).trans (State.offered_steady _ _ nofun)
  · exact .refl s
theorem State.settleShutting_steady (s : State) : ValveSteady fit s s.settleShutting := by
  unfold State.settleShutting
  repeat' split
  · exact s.endTransition_steady _
  · exact .refl s
  · exact .refl s
theorem State.setRoles_steady (entries : List TargetEntry) (p : Fin 4 → Bool) (s : State) : ValveSteady fit s
    (entries.foldl (fun s e => if p e.holder then s else s.mapRole e.holder fun r => { r with role := e.target }) s) := by
  induction entries generalizing s with
  | nil => exact .refl s
  | cons e es ih => exact ValveSteady.trans (.ite (.refl s) (s.mapRole_steady ..)) (ih _)
theorem State.finishOpening_steady (s : State) (b : Bank) (t : Transition) : ValveSteady fit s (s.finishOpening b t) := by
  unfold State.finishOpening
  dsimp only
  refine ValveSteady.trans ?_ (State.settleShutting_steady _)
  refine ValveSteady.trans ?_ (forEach_steady (fun v s => s.takeShut_steady b v) _)
  refine ValveSteady.trans ?_ (State.setTransition_steady ..)
  have roles := State.setRoles_steady (fit := fit) t.entries (t.failedHolder ·) s
  split
  · exact roles.trans (State.mapRole_steady ..)
  · exact roles
theorem State.settleOpening_steady (s : State) (b : Bank) : ValveSteady fit s (s.settleOpening b) := by
  unfold State.settleOpening
  repeat' split
  · exact s.finishOpening_steady ..
  · exact .refl s
  · exact .refl s
theorem State.abandon_steady (s : State) (t : Transition) (sd : Side) : ValveSteady fit s (s.abandon t sd) :=
  (s.raise_steady _).trans (State.endTransition_steady ..)
theorem State.failedIncoming_steady (s : State) (b : Bank) (t : Transition) (sd : Side) (h : Fin 4) :
    ValveSteady fit s (s.failedIncoming b t sd h) := by
  unfold State.failedIncoming
  dsimp only
  repeat' split
  · exact s.abandon_steady ..
  · exact s.abandon_steady ..
  · exact (s.setTransition_steady _).trans (State.offerOpen_steady ..)
  · exact (s.setTransition_steady _).trans (State.settleOpening_steady ..)
theorem State.openEnded_steady (s : State) (b : Bank) (t : Transition) (h : Fin 4) (r : Bool) :
    ValveSteady fit s (s.openEnded b t h r) := by
  unfold State.openEnded
  split
  · exact s.failedIncoming_steady ..
  · exact (s.setTransition_steady _).trans (State.settleOpening_steady ..)
theorem State.takeNotice_steady (s : State) (b : Bank) (n : Notice) : ValveSteady fit s (s.takeNotice b n) := by
  unfold State.takeNotice
  split
  · exact .refl s
  · split
    · exact .ite (s.openEnded_steady ..) (.refl s)
    · exact .ite ((s.setTransition_steady _).trans (State.settleShutting_steady _)) (.refl s)
theorem State.offers_steady (os : List OpenEntry) (s : State) : ValveSteady fit s (os.foldl (fun s o => s.offerOpen o.valve) s) := by
  induction os generalizing s with
  | nil => exact .refl s
  | cons o os ih => exact (s.offerOpen_steady _).trans (ih _)
theorem State.clearRetakes_steady (s : State) (b : Bank) : ValveSteady fit s (s.clearRetakes b) :=
  forEach_steady (fun _ s => .ite (s.mapRole_steady ..) (.refl s)) s
theorem State.buildSlot_steady (s : State) (b : Bank) (t : Trigger) : ValveSteady fit s (s.buildSlot b t) := by
  unfold State.buildSlot
  split
  · exact .refl s
  · exact (((s.clearRetakes_steady b).trans (State.setTransition_steady ..)).trans (State.offers_steady ..)).trans
      (State.settleOpening_steady ..)
theorem State.buildChangeover_steady (s : State) (b : Bank) (sd : Side) : ValveSteady fit s (s.buildChangeover b sd) := by
  unfold State.buildChangeover
  split
  · exact .refl s
  · split
    · exact s.raise_steady _
    · exact ValveSteady.trans (.ite ((s.setTransition_steady _).trans (State.offerOpen_steady ..)) (s.setTransition_steady _))
        (State.settleOpening_steady ..)
theorem State.buildTrigger_steady (s : State) (b : Bank) (t : Trigger) : ValveSteady fit s (s.buildTrigger b t) := by
  unfold State.buildTrigger
  split
  · exact s.buildChangeover_steady ..
  · exact s.buildSlot_steady ..

/-! ## Settling and the holder change -/

theorem State.settle_steady (n : Nat) (s : State) : ValveSteady fit s (s.settle n) := by
  induction n generalizing s with
  | zero => exact .refl s
  | succ n ih =>
    unfold State.settle
    repeat' split
    · exact .refl s
    · refine .trans (.trans ?_ (State.takeNotice_steady ..)) (ih _)
      exact s.setProg_steady id
    · next t ts _ hd =>
      refine .trans (.trans ?_ (State.buildTrigger_steady ..)) (ih _)
      refine s.setProg_steady fun h => ?_
      rw [Programme.Ok, hd] at h
      exact (List.nodup_cons.1 h).2
    · exact .refl s
theorem State.settled_steady (s : State) : ValveSteady fit s s.settled := s.settle_steady _
theorem State.markSide_steady (s : State) (e : HolderEntry) (h : Fin 4) (sd : Side) (lo hi : Nat) :
    ValveSteady fit s (s.markSide e h sd lo hi) := by
  have marked (c : Bool) : ValveSteady fit s (if c then (s.mapRole h fun p => p.setMark sd true).enterTrigger sd.trigger else s) :=
    .ite ((s.mapRole_steady ..).trans (State.enterTrigger_steady ..)) (.refl s)
  exact .ite ((marked _).trans (State.mapRole_steady ..)) (marked _)
theorem State.giveUp_steady (s : State) (b : Bank) (h : Fin 4) : ValveSteady fit s (s.giveUp b h) := by
  unfold State.giveUp
  repeat' split
  · exact .refl s
  · exact s.openEnded_steady ..
  · exact .refl s

/-- A holder change is what the Valve Controller and the Programme Unit make of it, and a flag of the open interval. -/
theorem State.holderChange_eq (s : State) (b : Bank) (h : Fin 4) (lo hi : Nat) (hf : ∀ sd, fit (valveOf h sd) = true) :
    ∃ t f, ValveSteady fit s t ∧ s.holderChange b h lo hi = t.yardFlag f := by
  have k : ValveSteady fit s (((((s.evaluateTrips b.holders[h] h lo hi).settled.markSide b.holders[h] h .outlet lo hi).markSide
      b.holders[h] h .inlet lo hi).giveUp b h).settled) :=
    ((((s.evaluateTrips_steady hf ..).trans (State.settled_steady _)).trans (State.markSide_steady ..)).trans
      (State.markSide_steady ..)).trans ((State.giveUp_steady ..).trans (State.settled_steady _))
  unfold State.holderChange
  dsimp only
  split
  · exact ⟨_, YardFlags.none, k, (State.yardFlag_none _).symm⟩
  · exact ⟨_, _, k, rfl⟩

end Sys2Proof.Machine


/-! What every operation of the part keeps (`Kept`), what one keeps that neither swaps nor closes (`Quiet`), and what one keeps under a live
bank (`Calm`); and what a step has to keep in all (`Safe`). The operations above the Valve Controller follow, one lemma for each. -/

namespace Sys2Proof.Machine

/-- R114, R120: the records of every district. -/
def State.DistrictsOk (s : State) : Prop := (∀ d : Fin 6, s.districts[d].Ok) ∧ s.ConfirmOk

/-- R16: the runs of every holder. -/
def State.LiftsOk (s : State) : Prop := ∀ h : Fin 4, s.holders[h].RunsOk

theorem State.runsOk_iff (s : State) : s.RunsOk ↔ s.LiftsOk ∧ s.DistrictsOk := Iff.rfl

/-- What every operation of a part that stays on keeps. -/
structure Kept (s t : State) : Prop where
  pending : t.pending = s.pending
  power : t.power = s.power
  own : t.own = s.own
  timebase : t.timebase = s.timebase
  clock : s.clock.Ok → t.clock.Ok
  logs : s.LogsOk → t.LogsOk
  line : s.loop.LineOk → t.loop.LineOk
  queue : s.loop.QueueOk → t.loop.QueueOk
  attn : s.attn.Ok → t.attn.Ok
  order : s.attn.InOrder → t.attn.InOrder
  prog : s.prog.Ok → t.prog.Ok
  lifts : s.LiftsOk → t.LiftsOk

/-- What an operation keeps that neither changes the tables nor opens or closes an interval. -/
structure Quiet (s t : State) : Prop extends Kept s t where
  tables : t.tables = s.tables
  valid : t.clock.valid = s.clock.valid
  interval : t.accounts.interval.isSome = s.accounts.interval.isSome

/-- What an operation keeps under a live bank; `fit` says which valves are of fitted holders. -/
structure Calm (fit : Fin 8 → Bool) (s t : State) : Prop extends Quiet s t where
  permits : s.Permits fit → t.Permits fit
  districts : s.DistrictsOk → t.DistrictsOk

/-- Every invariant that holds of a state holds of another. -/
structure Safe (s t : State) : Prop where
  clock : s.clock.Ok → t.clock.Ok
  logs : s.LogsOk → t.LogsOk
  line : s.loop.LineOk → t.loop.LineOk
  queue : s.loop.QueueOk → t.loop.QueueOk
  attn : s.attn.Ok → t.attn.Ok
  order : s.attn.InOrder → t.attn.InOrder
  prog : s.prog.Ok → t.prog.Ok
  banks : s.BanksOk → t.BanksOk
  interval : s.IntervalOk → t.IntervalOk
  permit : s.PermitOk → t.PermitOk
  runs : s.RunsOk → t.RunsOk

/-! ## Composition -/

theorem Kept.refl (s : State) : Kept s s := ⟨rfl, rfl, rfl, rfl, id, id, id, id, id, id, id, id⟩
theorem Kept.trans {s t u : State} (h : Kept s t) (k : Kept t u) : Kept s u :=
  ⟨k.pending.trans h.pending, k.power.trans h.power, k.own.trans h.own, k.timebase.trans h.timebase, k.clock ∘ h.clock, k.logs ∘ h.logs,
    k.line ∘ h.line, k.queue ∘ h.queue, k.attn ∘ h.attn, k.order ∘ h.order, k.prog ∘ h.prog, k.lifts ∘ h.lifts⟩

theorem Quiet.refl (s : State) : Quiet s s := ⟨.refl s, rfl, rfl, rfl⟩
theorem Quiet.trans {s t u : State} (h : Quiet s t) (k : Quiet t u) : Quiet s u :=
  ⟨h.toKept.trans k.toKept, k.tables.trans h.tables, k.valid.trans h.valid, k.interval.trans h.interval⟩

theorem Quiet.live {s t : State} (h : Quiet s t) : t.live = s.live := congrArg TableStore.live h.tables

theorem Safe.refl (s : State) : Safe s s := ⟨id, id, id, id, id, id, id, id, id, id, id⟩
theorem Safe.trans {s t u : State} (h : Safe s t) (k : Safe t u) : Safe s u :=
  ⟨k.clock ∘ h.clock, k.logs ∘ h.logs, k.line ∘ h.line, k.queue ∘ h.queue, k.attn ∘ h.attn, k.order ∘ h.order, k.prog ∘ h.prog,
    k.banks ∘ h.banks, k.interval ∘ h.interval, k.permit ∘ h.permit, k.runs ∘ h.runs⟩

variable {fit : Fin 8 → Bool} {s t u : State}

theorem Calm.refl (s : State) : Calm fit s s := ⟨.refl s, id, id⟩
theorem Calm.trans (h : Calm fit s t) (k : Calm fit t u) : Calm fit s u :=
  ⟨h.toQuiet.trans k.toQuiet, k.permits ∘ h.permits, k.districts ∘ h.districts⟩
theorem Calm.ite {c : Prop} [Decidable c] (h : Calm fit s t) (k : Calm fit s u) : Calm fit s (if c then t else u) := by
  split
  · exact h
  · exact k

theorem forEach_calm {n : Nat} {f : Fin n → State → State} (h : ∀ i s, Calm fit s (f i s)) (s : State) : Calm fit s (forEach f s) :=
  forEach_keeps (Calm fit) Calm.refl Calm.trans f h s

theorem forEach_quiet {n : Nat} {f : Fin n → State → State} (h : ∀ i s, Quiet s (f i s)) (s : State) : Quiet s (forEach f s) :=
  forEach_keeps Quiet Quiet.refl Quiet.trans f h s

/-! ## The invariants of the tables, the interval and the permissions -/

theorem State.permitOk_of_live {b : Bank} (h : s.live = some b) : s.PermitOk ↔ s.Permits b.fits := by
  constructor
  · intro hp v
    obtain ⟨hdemand, hopening, hshut, -⟩ := hp v
    exact ⟨hdemand, hopening b h, hshut⟩
  · intro hp v
    refine ⟨(hp v).demand, fun c hc => ?_, (hp v).shut, fun hn => nomatch h.symm.trans hn⟩
    obtain rfl := Option.some.inj (h.symm.trans hc)
    exact (hp v).opening

theorem State.permitOk_of_none (h : s.live = none) :
    s.PermitOk ↔ ∀ v : Fin 8, s.valves[v].state = .unknown ∧ s.valves[v].demand = none ∧ s.valves[v].travelTimer = none := by
  refine ⟨fun hp v => (hp v).2.2.2 h, fun hv v => ?_⟩
  obtain ⟨hst, hdem, -⟩ := hv v
  refine ⟨fun d hd => (nomatch hdem.symm.trans hd), fun b hb => (nomatch h.symm.trans hb), fun _ => ?_, fun _ => hv v⟩
  rw [hst]
  exact ⟨nofun, nofun⟩

/-- A valve's record that differs at most in what the rule of the permissions does not speak of. -/
def ValveRec.StandsAs (r r' : ValveRec) : Prop :=
  r.state = r'.state ∧ r.demand = r'.demand ∧ (r'.travelTimer = none → r.travelTimer = none)

theorem State.PermitOk.congr (h : s.PermitOk) (hl : t.live = s.live) (hv : ∀ v : Fin 8, t.valves[v].StandsAs s.valves[v])
    (hp : t.perms = s.perms) : t.PermitOk := by
  cases hb : s.live with
  | some b =>
    rw [State.permitOk_of_live (hl.trans hb)]
    intro v
    obtain ⟨hst, hdem, -⟩ := hv v
    rw [hp]
    exact ((State.permitOk_of_live hb).1 h v).congr hst hdem
  | none =>
    rw [State.permitOk_of_none (hl.trans hb)]
    intro v
    obtain ⟨hst, hdem, htravel⟩ := hv v
    obtain ⟨ost, odem, otravel⟩ := (State.permitOk_of_none hb).1 h v
    exact ⟨hst.trans ost, hdem.trans odem, htravel otravel⟩

theorem Quiet.banks (h : Quiet s t) (hb : s.BanksOk) : t.BanksOk := by
  unfold State.BanksOk
  rw [h.tables, h.own]
  exact hb

theorem Quiet.intervalOk (h : Quiet s t) (hi : s.IntervalOk) : t.IntervalOk := by
  have hrun : t.running = s.running := congrArg (fun x => x.live.isSome) h.tables
  unfold State.IntervalOk
  rw [h.power, h.interval, h.valid, hrun]
  exact hi

/-- An operation that leaves the valves as they stand keeps every invariant. -/
theorem Quiet.safe (h : Quiet s t) (hv : ∀ v : Fin 8, t.valves[v].StandsAs s.valves[v]) (hp : t.perms = s.perms)
    (hd : s.DistrictsOk → t.DistrictsOk) : Safe s t :=
  ⟨h.clock, h.logs, h.line, h.queue, h.attn, h.order, h.prog, h.banks, h.intervalOk, fun k => k.congr h.live hv hp,
    fun ⟨hl, k⟩ => ⟨h.lifts hl, hd k⟩⟩

theorem ValveRec.StandsAs.refl (r : ValveRec) : r.StandsAs r := ⟨rfl, rfl, id⟩

theorem State.DistrictsOk.congr (h : s.DistrictsOk) (hd : t.districts = s.districts) (hl : t.live = s.live) : t.DistrictsOk := by
  unfold State.DistrictsOk State.ConfirmOk
  rw [hd, hl]
  exact h

/-- The same where the valves are not touched. -/
theorem Quiet.safe_of_valves (h : Quiet s t) (hv : t.valves = s.valves) (hp : t.perms = s.perms) (hd : t.districts = s.districts) :
    Safe s t := h.safe (fun v => by rw [hv]; exact .refl _) hp (·.congr hd h.live)

theorem Calm.safe {b : Bank} (h : Calm b.fits s t) (hb : s.live = some b) : Safe s t :=
  ⟨h.clock, h.logs, h.line, h.queue, h.attn, h.order, h.prog, h.banks, h.intervalOk,
    fun k => (State.permitOk_of_live (h.live.trans hb)).2 (h.permits ((State.permitOk_of_live hb).1 k)),
    fun ⟨hl, k⟩ => ⟨h.lifts hl, h.districts k⟩⟩

/-! ## Updates -/

/-- What the Valve Controller and the Programme Unit do. -/
theorem ValveQuiet.quiet (h : ValveQuiet s t) : Quiet s t where
  pending := h.only.pending
  power := h.only.power
  own := h.only.own
  timebase := h.only.timebase
  clock k := h.only.clock ▸ k
  logs k := by
    unfold State.LogsOk
    rw [h.only.accounts, h.only.nv]
    exact k
  line k := by
    unfold LoopPort.LineOk
    rw [h.only.loop.buffer, h.only.loop.checkErrors]
    exact k
  queue := h.queue
  attn := h.attn
  order := h.order
  prog := h.prog
  lifts k := by
    unfold State.LiftsOk
    rw [h.only.holders]
    exact k
  tables := h.only.tables
  valid := congrArg Clock.valid h.only.clock
  interval := congrArg (fun a => a.interval.isSome) h.only.accounts

theorem OnlyValves.districtsOk (h : OnlyValves s t) (k : s.DistrictsOk) : t.DistrictsOk := k.congr h.districts h.live

theorem ValveSteady.calm (h : ValveSteady fit s t) : Calm fit s t := ⟨h.quiet, h.permits, h.only.districtsOk⟩

theorem State.mapInterval_calm (s : State) (f : OpenInterval → OpenInterval) : Calm fit s (s.mapInterval f) :=
  { Calm.refl s with interval := Option.isSome_map }
theorem State.yardFlag_calm (s : State) (f : YardFlags) : Calm fit s (s.yardFlag f) := s.mapInterval_calm _
theorem State.channelFlag_calm (s : State) (m : Fin 12) (f : ChannelFlags) : Calm fit s (s.channelFlag m f) := s.mapInterval_calm _
theorem State.setChannel_calm (s : State) (m : Fin 12) (r : ChannelRec) : Calm fit s (s.setChannel m r) := { Calm.refl s with }
theorem State.setPoint_calm (s : State) (p : Fin 24) (r : PointRec) : Calm fit s (s.setPoint p r) := { Calm.refl s with }
theorem State.setBarometer_calm (s : State) (r : PointRec) : Calm fit s (s.setBarometer r) := { Calm.refl s with }
theorem State.setCalorimeter_calm (s : State) (r : PointRec) : Calm fit s (s.setCalorimeter r) := { Calm.refl s with }
theorem State.raise_calm (s : State) (x : Fin 74) : Calm fit s (s.raise x) := (s.raise_steady x).calm
theorem State.raiseAll_calm (s : State) (xs : List (Fin 74)) : Calm fit s (s.raiseAll xs) := by
  induction xs generalizing s with
  | nil => exact .refl s
  | cons x xs ih => exact (s.raise_calm x).trans (ih _)
theorem State.settled_calm (s : State) : Calm fit s s.settled := s.settled_steady.calm
theorem State.enterTrigger_calm (s : State) (t : Trigger) : Calm fit s (s.enterTrigger t) := (s.enterTrigger_steady t).calm
theorem State.mapRole_calm (s : State) (h : Fin 4) (f : RoleRec → RoleRec) : Calm fit s (s.mapRole h f) := (s.mapRole_steady h f).calm

theorem State.LiftsOk.setHolder (k : s.LiftsOk) {h : Fin 4} {r : HolderRec} (hr : r.RunsOk) : (s.setHolder h r).LiftsOk := by
  intro i
  by_cases hi : h = i
  · subst hi
    simpa using hr
  · simpa [upd_other _ _ _ _ hi] using k i

theorem State.setHolder_calm (s : State) (h : Fin 4) {r : HolderRec} (hr : s.holders[h].RunsOk → r.RunsOk) :
    Calm fit s (s.setHolder h r) := { Calm.refl s with lifts := fun k => k.setHolder (hr (k h)) }

theorem State.saveHolder_calm (s : State) (h : Fin 4) : Calm fit s (s.saveHolder h) :=
  { Calm.refl s with lifts := fun k => k.setHolder (h := h) (k h) }

theorem State.holderChange_calm (s : State) (b : Bank) (h : Fin 4) (lo hi : Nat) (hf : ∀ sd, fit (valveOf h sd) = true) :
    Calm fit s (s.holderChange b h lo hi) := by
  obtain ⟨t, f, hst, ht⟩ := s.holderChange_eq b h lo hi hf
  rw [ht]
  exact hst.calm.trans (t.yardFlag_calm f)

theorem State.setDistrict_calm (s : State) {b : Bank} (hb : s.live = some b) (d : Fin 6) {r : DistrictRec}
    (hok : s.districts[d].Ok → r.Ok) (hrun : b.districts[d].used = true →
      s.districts[d].lowRun ≤ b.districts[d].confirm → s.districts[d].highRun ≤ b.districts[d].confirm →
      r.lowRun ≤ b.districts[d].confirm ∧ r.highRun ≤ b.districts[d].confirm) : Calm fit s (s.setDistrict d r) := by
  refine { Calm.refl s with districts := fun ⟨ok, conf⟩ => ⟨fun i => ?_, fun i => ⟨fun c hc hu => ?_, fun hn => ?_⟩⟩ }
  · by_cases hi : d = i
    · subst hi
      simpa using hok (ok d)
    · simpa [upd_other _ _ _ _ hi] using ok i
  · have hc : s.live = some c := hc
    obtain rfl := Option.some.inj (hb.symm.trans hc)
    have hi' := (conf i).1 b hb hu
    by_cases hi : d = i
    · subst hi
      simpa using hrun hu hi'.1 hi'.2
    · simpa [upd_other _ _ _ _ hi] using hi'
  · exact nomatch hb.symm.trans hn

/-- A district's record whose runs and refresh count are kept. -/
theorem State.setDistrict_calm_of_runs (s : State) (d : Fin 6) {r : DistrictRec} (hl : r.lowRun = s.districts[d].lowRun)
    (hh : r.highRun = s.districts[d].highRun) (hn : s.districts[d].refresh ≤ 10 → r.refresh ≤ 10) : Calm fit s (s.setDistrict d r) := by
  refine { Calm.refl s with districts := fun ⟨ok, conf⟩ => ⟨fun i => ?_, fun i => ?_⟩ }
  · by_cases hi : d = i
    · subst hi
      simpa [DistrictRec.Ok, hl, hh] using ⟨(ok d).1, hn (ok d).2⟩
    · simpa [upd_other _ _ _ _ hi] using ok i
  · by_cases hi : d = i
    · subst hi
      simpa [State.live, hl, hh] using conf d
    · simpa [State.live, upd_other _ _ _ _ hi] using conf i

theorem State.setLoop_calm (s : State) {l : LoopPort} (hl : s.loop.LineOk → l.LineOk) (hq : s.loop.QueueOk → l.QueueOk) :
    Calm fit s (s.setLoop l) := { Calm.refl s with line := hl, queue := hq }

end Sys2Proof.Machine


/-! The reports, the review, the recovery and the line keep every invariant: one lemma per operation. -/

namespace Sys2Proof.Machine

theorem holderOf_valveOf (h : Fin 4) (sd : Side) : holderOf (valveOf h sd) = h := by
  cases sd <;> exact Fin.ext (by simp only [holderOf, valveOf]; omega)

theorem Bank.fits_valveOf {b : Bank} {h : Fin 4} (hf : b.fitted h = true) (sd : Side) : b.fits (valveOf h sd) = true := by
  rw [Bank.fits, holderOf_valveOf]
  exact hf

variable {fit : Fin 8 → Bool} {s t : State} {b : Bank}

/-! ## Lift reports, presets and the cup check -/

theorem HolderRec.placeAt_runsOk {r : HolderRec} (b : Bank) (h : Fin 4) (n : Nat) (k : r.RunsOk) : (HolderRec.placeAt b h r n).RunsOk := by
  obtain ⟨hout, hin, hnone⟩ := k
  unfold HolderRec.placeAt HolderRec.RunsOk
  dsimp only
  split
  · exact ⟨hout, hin, hnone⟩
  · exact ⟨Nat.zero_le _, Nat.zero_le _, .inl rfl⟩

theorem LiftRun.record_runsOk {r : HolderRec} (u : LiftRun) (b : Bank) (h : Fin 4) (k : r.RunsOk) : (u.record b h r).RunsOk := by
  unfold LiftRun.record
  refine HolderRec.placeAt_runsOk b h u.count ?_
  split
  · exact HolderRec.placeAt_runsOk b h _ k
  · exact k

theorem HolderRec.cupCheck_runsOk (r : HolderRec) (tol : Nat) (v : Int) : (r.cupCheck tol v).1.RunsOk := by
  unfold HolderRec.cupCheck
  split
  · exact ⟨Nat.min_le_left .., Nat.zero_le _, .inr rfl⟩
  · exact ⟨Nat.zero_le _, Nat.min_le_left .., .inl rfl⟩

theorem State.takeLift_calm (s : State) (h : Fin 4) (body : LiftBody) : Calm b.fits s (s.takeLift b h body) := by
  unfold State.takeLift
  split
  · exact .refl s
  · next hnot =>
    have hf : b.fitted h = true := by
      cases hx : b.fitted h with
      | true => rfl
      | false => exact absurd (.inl hx) hnot
    dsimp only
    split
    · exact s.setHolder_calm h id
    · next ref _ =>
      generalize liftRun b.holders[h] h s.holders[h] ref body s.timebase = u
      have recorded : Calm b.fits s ((s.setHolder h (u.record b h s.holders[h])).raiseAll u.raised) :=
        (s.setHolder_calm h fun k => u.record_runsOk b h k).trans (State.raiseAll_calm ..)
      have saved := Calm.ite (c := u.datum.isSome = true) (recorded.trans (State.saveHolder_calm _ h)) recorded
      exact .ite (saved.trans (State.holderChange_calm _ b h _ _ (Bank.fits_valveOf hf))) saved

theorem State.preset_calm (s : State) {h : Fin 4} (hf : b.fitted h = true) (n : Nat) : Calm b.fits s (s.preset b h n) := by
  have saved : Calm b.fits s ((s.setHolder h (HolderRec.placeAt b h { s.holders[h] with certain := true } n)).saveHolder h) := by
    refine .trans (s.setHolder_calm h fun k => HolderRec.placeAt_runsOk b h n ?_) (State.saveHolder_calm _ h)
    exact k
  unfold State.preset
  dsimp only
  exact .ite saved (saved.trans (State.holderChange_calm _ b h _ _ (Bank.fits_valveOf hf)))

theorem State.cupReading_calm (s : State) {h : Fin 4} (hf : b.fitted h = true) (v : Int) (q : Quality) :
    Calm b.fits s (s.cupReading b h v q) := by
  unfold State.cupReading
  split
  · have checked : Calm b.fits s (s.setHolder h (s.holders[h].cupCheck b.holders[h].cupTol v).1) :=
      s.setHolder_calm h fun _ => HolderRec.cupCheck_runsOk ..
    have raised := Calm.ite (c := (s.holders[h].cupCheck b.holders[h].cupTol v).2.1 = true)
      (checked.trans (State.raise_calm _ (srcLiftFault h))) checked
    exact .ite (raised.trans (State.holderChange_calm _ b h _ _ (Bank.fits_valveOf hf))) raised
  · exact .refl s

theorem State.cupReadings_calm (s : State) (p : Fin 24) (v : Int) (q : Quality) : Calm b.fits s (s.cupReadings b p v q) := by
  refine forEach_calm (fun h s => ?_) s
  split
  · next hp => exact s.cupReading_calm (Bool.and_eq_true_iff.1 hp).1 v q
  · exact .refl s

/-! ## Meter, point and governor reports -/

theorem State.hand_calm (s : State) (b : Bank) (m : Fin 12) (n : Nat) : Calm fit s (s.hand b m n) := s.mapInterval_calm _

theorem State.takeMeter_calm (s : State) (b : Bank) (m : Fin 12) (r p : Nat) : Calm fit s (s.takeMeter b m r p) := by
  unfold State.takeMeter
  dsimp only
  split
  · split
    · exact s.setChannel_calm ..
    · split
      · exact ((s.setChannel_calm ..).trans (State.raise_calm ..)).trans (State.channelFlag_calm ..)
      · have handed (c : Prop) [Decidable c] (r : ChannelRec) (n : Nat) :
            Calm fit s (if c then (s.setChannel m r).hand b m n else s.setChannel m r) :=
          .ite ((s.setChannel_calm ..).trans (State.hand_calm ..)) (s.setChannel_calm ..)
        exact .ite ((handed ..).trans (State.yardFlag_calm ..)) (handed ..)
  · exact .refl s

/-- R114: a report at the end of the main keeps the runs of a district within its confirm count. -/
theorem State.endOfMain_calm (s : State) (hb : s.live = some b) (p : Fin 24) (v : Int) : Calm fit s (s.endOfMain b p v) := by
  refine forEach_keeps (fun s t => s.live = some b → Calm fit s t) (fun s _ => .refl s)
    (fun h k hb => (h hb).trans (k ((h hb).live.trans hb))) _ (fun d s hb => ?_) s hb
  split
  · refine s.setDistrict_calm hb d (fun hok => ?_) fun _ hlow hhigh => ?_ <;> unfold DistrictRec.endReport <;> repeat' split
    · exact ⟨.inr rfl, hok.2⟩
    · exact ⟨.inl rfl, hok.2⟩
    · exact ⟨.inl rfl, hok.2⟩
    · exact ⟨Nat.min_le_left .., Nat.zero_le _⟩
    · exact ⟨Nat.zero_le _, Nat.min_le_left ..⟩
    · exact ⟨Nat.zero_le _, Nat.zero_le _⟩
  · exact .refl s

theorem State.pointReport_calm (s : State) (hb : s.live = some b) (p : Fin 24) (v : Int) (q : Quality) :
    Calm b.fits s (s.pointReport b p v q) := by
  unfold State.pointReport
  split
  · have read : Calm b.fits s ((s.setPoint p (s.points[p].take v q s.timebase)).cupReadings b p v q) :=
      (s.setPoint_calm ..).trans (State.cupReadings_calm ..)
    exact read.trans (State.endOfMain_calm _ (read.live.trans hb) p v)
  · exact s.setPoint_calm ..

theorem State.governorReport_calm (s : State) (b : Bank) (d : Fin 6) (x : Nat) (hand : Bool) :
    Calm fit s (s.governorReport b d x hand) := by
  unfold State.governorReport
  split
  · exact s.setDistrict_calm_of_runs d rfl rfl id
  · exact .refl s

theorem State.positionReport_steady (s : State) (v : Fin 8) (p : Position) : ValveSteady fit s (s.positionReport v p) :=
  ⟨s.positionReport_quiet v p, fun h => h.positionReport v p⟩
theorem State.valveAnswer_steady (s : State) (b : Bank) (v : Fin 8) (t : Byte) (a : Answer) :
    ValveSteady fit s (s.valveAnswer b v t a) := ⟨s.valveAnswer_quiet b v t a, fun h => h.valveAnswer b v t a⟩
theorem State.missedAnswer_steady (s : State) (v : Fin 8) (c : FailCause) : ValveSteady fit s (s.missedAnswer v c) :=
  ⟨s.missedAnswer_quiet v c, fun h => h.missedAnswer v c⟩
theorem State.endStuck_steady (s : State) (v : Fin 8) (c : FailCause) : ValveSteady fit s (s.endStuck v c) :=
  ⟨s.endStuck_quiet v c, fun h => h.endStuck v c⟩
theorem State.valvesRecover_steady (s : State) (b : Bank) : ValveSteady fit s (s.valvesRecover b) :=
  ⟨s.valvesRecover_quiet b, fun h => h.valvesRecover b⟩

theorem State.routeTo_calm (s : State) (hb : s.live = some b) (st : Station) (body : List Byte) : Calm b.fits s (s.routeTo b st body) := by
  unfold State.routeTo
  cases st <;> dsimp only <;> split
  · exact s.takeLift_calm ..
  · exact .refl s
  · exact s.takeMeter_calm ..
  · exact .refl s
  · exact s.pointReport_calm hb ..
  · exact .refl s
  · exact ((s.positionReport_steady ..).trans (State.settled_steady _)).calm
  · exact .refl s
  · exact s.governorReport_calm ..
  · exact .refl s
  · exact s.setCalorimeter_calm _
  · exact .refl s
  · exact s.setBarometer_calm _
  · exact .refl s

theorem State.routeReport_safe (s : State) (src : Byte) (body : List Byte) : Safe s (s.routeReport src body) := by
  unfold State.routeReport
  split
  · next b hb =>
    split
    · exact (s.routeTo_calm hb ..).safe hb
    · exact .refl s
  · exact .refl s

theorem State.routeAnswer_safe (s : State) (src : Byte) (body : List Byte) : Safe s (s.routeAnswer src body) := by
  unfold State.routeAnswer
  split
  · next b hb =>
    split
    · exact ((s.valveAnswer_steady ..).trans (State.settled_steady _)).calm.safe hb
    · exact .refl s
  · exact .refl s

/-! ## The line -/

/-- A change of the Loop Port alone. -/
theorem State.setLoop_safe (s : State) {l : LoopPort} (hl : s.loop.LineOk → l.LineOk) (hq : s.loop.QueueOk → l.QueueOk) :
    Safe s (s.setLoop l) := (s.setLoop_calm (fit := fun _ => true) hl hq).safe_of_valves rfl rfl rfl

theorem State.forward_safe (s : State) (f : LineFrame) : Safe s (s.forward f) :=
  s.setLoop_safe (fun h => LoopPort.enter_lineOk f h) (fun h => (LoopPort.enter_queueOk f h).congr rfl rfl)

theorem State.absorb_safe (s : State) : Safe s s.absorb := s.setLoop_safe id (·.congr rfl rfl)

theorem State.receiveReport_safe (s : State) (dest src : Byte) (body : List Byte) : Safe s (s.receiveReport dest src body) :=
  (s.forward_safe _).trans (State.routeReport_safe ..)

theorem State.receiveAnswer_safe (s : State) (dest src : Byte) (body : List Byte) : Safe s (s.receiveAnswer dest src body) := by
  unfold State.receiveAnswer
  dsimp only
  split
  · exact (s.forward_safe _).trans (State.routeAnswer_safe ..)
  · exact s.forward_safe _

theorem State.receiveTail_safe (s : State) (dest src : Byte) (body : List Byte) : Safe s (s.receiveTail dest src body) := by
  refine (s.forward_safe _).trans (State.setLoop_safe _ ?_ ?_) <;> unfold LoopPort.tail <;> split
  · exact id
  · exact id
  · exact (·.congr rfl rfl)
  · exact (·.congr rfl rfl)

/-! ## The insertion window -/

theorem State.commandSent_loop (s : State) (c : Command) : (s.commandSent c).loop = s.loop := by
  unfold State.commandSent
  split
  · rfl
  · split <;> rfl

theorem State.commandSent_safe (s : State) (c : Command) : Safe s (s.commandSent c) := by
  refine (s.commandSent_quiet c).quiet.safe (fun v => ?_) ?_ (s.commandSent_quiet c).only.districtsOk <;> unfold State.commandSent <;>
    split
  · exact .refl _
  · next w _ _ _ _ =>
    split
    · by_cases hw : w = v
      · subst hw
        simp [ValveRec.StandsAs]
      · simpa [upd_other _ _ _ _ hw] using ValveRec.StandsAs.refl _
    · exact .refl _
  · rfl
  · split <;> rfl

theorem State.Begins.safe (h : s.Begins t) : Safe s t := by
  induction h with
  | command s b c a _ hfirst =>
    have hc : c ∈ s.loop.commands := by
      rcases hfirst with h | ⟨-, h⟩ | ⟨-, d, h, -⟩ <;> exact List.mem_of_find?_eq_some h
    exact s.setLoop_safe id (LoopPort.sent_queueOk _ hc)
  | unsent s t c _ _ _ ih =>
    refine .trans ?_ ih
    refine (s.commandSent_safe c).trans (State.setLoop_safe (s.commandSent c) ?_ ?_) <;> rw [State.commandSent_loop]
    · exact id
    · exact LoopPort.taken_queueOk c
  | response s => exact s.setLoop_safe id (fun h => h.tx rfl fun _ => rfl)
  | status s => exact s.setLoop_safe id (fun h => h.tx rfl fun _ => rfl)

theorem State.nextOwn_safe (s : State) : Safe s s.nextOwn := s.nextOwn_begins.safe

theorem State.tryOpen_safe (s : State) : Safe s s.tryOpen := by
  have opened : Safe s (s.setLoop { s.loop with window := .sending }) := s.setLoop_safe id (·.congr rfl rfl)
  unfold State.tryOpen
  dsimp only
  repeat' split
  · exact opened.trans (State.nextOwn_safe _)
  · exact opened
  · exact .refl s

theorem State.lineWentQuiet_safe (s : State) : Safe s s.lineWentQuiet := by
  refine .trans (s.setLoop_safe ?_ ?_) (State.tryOpen_safe _)
  · exact id
  · exact (·.congr rfl rfl)

theorem State.throughSent_safe (s : State) (arriving : Bool) : Safe s (s.throughSent arriving) := by
  have passed (f : LineFrame) : s.loop.QueueOk → (s.loop.passedOn f arriving).QueueOk := fun h => h.tx rfl fun _ => rfl
  have sent (f : LineFrame) : Safe s (s.setLoop (s.loop.passedOn f arriving)) := s.setLoop_safe id (passed f)
  have next (f : LineFrame) : Safe s (s.setLoop (s.loop.passedOn f arriving).startThrough) :=
    s.setLoop_safe (fun h => LoopPort.startThrough_lineOk (l := s.loop.passedOn f arriving) h)
      fun h => LoopPort.startThrough_queueOk (passed f h)
  unfold State.throughSent
  dsimp only
  repeat' split
  · exact (sent _).trans (State.nextOwn_safe _)
  · exact (next _).trans (State.tryOpen_safe _)
  · exact .refl s

theorem State.tellOwner_safe (s : State) (o : OwnFrame) : Safe s (s.tellOwner o) := by
  unfold State.tellOwner
  split
  · exact s.commandSent_safe _
  · exact .refl s

theorem State.ownSent_safe (s : State) : Safe s s.ownSent := by
  have freed (o : OwnFrame) : Safe s ((s.tellOwner o).setLoop { (s.tellOwner o).loop with tx := .idle }) :=
    (s.tellOwner_safe o).trans (State.setLoop_safe _ id fun h => h.tx rfl fun _ => rfl)
  have ended (u : State) : Safe u (u.setLoop u.loop.endWindow.startThrough) :=
    u.setLoop_safe (fun h => LoopPort.startThrough_lineOk (LoopPort.endWindow_lineOk h))
      fun h => LoopPort.startThrough_queueOk (LoopPort.endWindow_queueOk h)
  unfold State.ownSent
  dsimp only
  repeat' split
  · exact (freed _).trans (ended _)
  · exact (freed _).trans (ended _)
  · exact (freed _).trans (State.nextOwn_safe _)
  · exact .refl s

/-! ## Bad frames, loss and recovery -/

theorem State.raise_safe (s : State) (x : Fin 74) : Safe s (s.raise x) := by
  refine (s.raise_calm (fit := fun _ => true) x).safe_of_valves (s.raise_valves x) (s.raise_perms x) ?_
  exact (s.raise_only x).districts

theorem State.countBad_safe (s : State) : Safe s s.countBad := by
  have counted (m : Bool) (l : LoopPort) (hb : l.buffer = s.loop.buffer) (hn : l.checkErrors = min 255 (s.loop.checkErrors + 1))
      (hc : l.commands = s.loop.commands) (ht : l.tx = s.loop.tx) : Safe s (s.setLoop l) :=
    s.setLoop_safe (fun h => ⟨hb ▸ h.1, hn ▸ Nat.min_le_left ..⟩) (·.congr hc ht)
  unfold State.countBad
  dsimp only
  split
  · exact (counted true { s.loop with checkErrors := min 255 (s.loop.checkErrors + 1), checkMark := true } rfl rfl rfl rfl).trans
      (State.raise_safe _ srcCheckErrors)
  · exact counted true _ rfl rfl rfl rfl

theorem State.badFrame_safe (s : State) (cs : List Byte) : Safe s (s.badFrame cs) := (s.forward_safe _).trans (State.countBad_safe _)

theorem State.metersRecover_calm (s : State) (b : Bank) : Calm fit s (s.metersRecover b) := { Calm.refl s with }

theorem State.governorsRecover_calm (s : State) (b : Bank) : Calm fit s (s.governorsRecover b) := by
  refine { Calm.refl s with districts := fun ⟨hok, hconf⟩ => ⟨fun d => ?_, fun d => ?_⟩ }
  · have := hok d
    simp only [State.governorsRecover, Fin.getElem_fin, Vector.getElem_mapFinIdx]
    split
    · exact ⟨this.1, Nat.zero_le _⟩
    · exact this
  · have := hconf d
    simp only [State.governorsRecover, Fin.getElem_fin, Vector.getElem_mapFinIdx]
    split <;> exact this

theorem State.blocksRecover_calm (s : State) (b : Bank) (programmeFirst : Bool) : Calm fit s (s.blocksRecover b programmeFirst) := by
  have others : Calm fit s ((s.metersRecover b).governorsRecover b) := (s.metersRecover_calm b).trans (State.governorsRecover_calm ..)
  unfold State.blocksRecover
  dsimp only
  split
  · exact ((others.trans (State.settled_calm _)).trans (State.valvesRecover_steady ..).calm).trans (State.settled_calm _)
  · exact (others.trans (State.valvesRecover_steady ..).calm).trans (State.settled_calm _)

theorem State.raiseAt_safe (s : State) (x : Fin 74) (o : Occurrence) : Safe s (s.raiseAt x o) := by
  unfold State.raiseAt
  split
  · exact { Safe.refl s with attn := Attention.occur_ok _ _ _, order := Attention.occur_inOrder _ _ _ }
  · exact .refl s

theorem State.enterDeferred_safe (s : State) : Safe s s.enterDeferred := by
  unfold State.enterDeferred
  split
  · refine .trans ?_ (State.raiseAt_safe _ srcLoopLost _)
    exact { Safe.refl s with }
  · exact .refl s

theorem State.recover_safe (s : State) (programmeFirst : Bool) : Safe s (s.recover programmeFirst) := by
  have up : Safe s (s.setLoop { s.loop with lost := false }).enterDeferred := by
    refine .trans (s.setLoop_safe ?_ ?_) (State.enterDeferred_safe _)
    · exact id
    · exact (·.congr rfl rfl)
  have live : (s.setLoop { s.loop with lost := false }).enterDeferred.live = s.live := by
    unfold State.enterDeferred State.raiseAt
    repeat' split
    all_goals rfl
  unfold State.recover
  dsimp only
  split
  · next b hb => exact up.trans ((State.blocksRecover_calm _ b _).safe (live.trans hb))
  · exact up

theorem State.receiveHead_safe (s : State) (dest src cycle : Byte) (programmeFirst : Bool) :
    Safe s (s.receiveHead dest src cycle programmeFirst) := by
  have taken : Safe s ((s.forward (.valid ⟨dest, src, kindScanHead, [cycle]⟩)).setLoop
      ((s.forward (.valid ⟨dest, src, kindScanHead, [cycle]⟩)).loop.head cycle s.timebase)) :=
    (s.forward_safe _).trans (State.setLoop_safe _ (fun h => ⟨h.1, Nat.zero_le _⟩) (·.congr rfl rfl))
  unfold State.receiveHead
  dsimp only
  split
  · exact taken.trans (State.recover_safe ..)
  · exact taken

theorem State.valvesLost_quiet (s : State) : Quiet s s.valvesLost := { Quiet.refl s with queue := LoopPort.withdraw_queueOk _ }

theorem State.becomeLost_quiet (s : State) : Quiet s s.becomeLost := by
  have deferred : Quiet s ((s.setLoop { s.loop with lost := true }).setAttn { s.attn with deferred := some s.now }) :=
    { Quiet.refl s with queue := (·.congr rfl rfl) }
  have withdrawn (t : State) : Quiet t t.governorsLost :=
    (t.setLoop_calm (fit := fun _ => true) (l := t.loop.withdraw Command.isAnySet) id (LoopPort.withdraw_queueOk _)).toQuiet
  exact ((deferred.trans (State.valvesLost_quiet _)).trans (withdrawn _)).trans (State.yardFlag_calm (fit := fun _ => true) _ _).toQuiet

theorem State.becomeLost_safe (s : State) : Safe s s.becomeLost := by
  have hkept : (∀ v : Fin 8, s.becomeLost.valves[v].StandsAs s.valves[v]) ∧ s.becomeLost.perms = s.perms ∧
      s.becomeLost.districts = s.districts := by
    simp [State.becomeLost, State.valvesLost, State.governorsLost, State.yardFlag, State.mapInterval, ValveRec.StandsAs]
  obtain ⟨hv, hp, hd⟩ := hkept
  exact s.becomeLost_quiet.safe hv hp (·.congr hd s.becomeLost_quiet.live)

end Sys2Proof.Machine


/-! The swap of the live bank, the interval close, the taking of a bank and RESTART keep every invariant. Midway the records of a block stand
under the bank before and the live bank is the new one; so the takeover is stated from one to the other. -/

namespace Sys2Proof.Machine

variable {fit : Fin 8 → Bool} {s t u : State} {b old new : Bank}

/-! ## Holders, channels and points at a swap -/

theorem HolderRec.restored_runsOk (sv : Option HolderSave) (n : Nat) : (HolderRec.restored sv n).RunsOk :=
  ⟨Nat.zero_le _, Nat.zero_le _, .inl rfl⟩

theorem HolderRec.bring_runsOk {r : HolderRec} (b : Bank) (h : Fin 4) (n : Nat) (k : r.RunsOk) : (HolderRec.bring b h r n).RunsOk := by
  unfold HolderRec.bring
  dsimp only
  split
  · refine HolderRec.placeAt_runsOk b h _ ?_
    exact k
  · exact HolderRec.placeAt_runsOk b h _ k

theorem HolderRec.swapTo_runsOk {r : HolderRec} (old new : Bank) (h : Fin 4) (n : Nat) (k : r.RunsOk) :
    (HolderRec.swapTo old new h r n).1.RunsOk := by
  unfold HolderRec.swapTo
  refine HolderRec.placeAt_runsOk new h _ ?_
  have limited (c : Prop) [Decidable c] (r' : HolderRec) (hr : r'.RunsOk) : (if c then r' else r).RunsOk := by
    split
    · exact hr
    · exact k
  split
  · exact ⟨Nat.zero_le _, Nat.zero_le _, .inl rfl⟩
  · exact limited _ _ k

theorem State.liftSwap_calm (s : State) (old new : Bank) (h : Fin 4) : Calm fit s (s.liftSwap old new h) := by
  unfold State.liftSwap
  split
  · have swapped : Calm fit s (s.setHolder h (s.holders[h].swapTo old new h s.timebase).1) :=
      s.setHolder_calm h fun k => HolderRec.swapTo_runsOk old new h _ k
    exact .ite (swapped.trans (State.raise_calm ..)) swapped
  · exact s.setHolder_calm h fun _ => HolderRec.bring_runsOk new h _ (HolderRec.restored_runsOk ..)
  · exact .refl s

theorem State.enterStalled_calm (s : State) (m : Fin 12) : Calm fit s (s.enterStalled m) :=
  ((s.setChannel_calm ..).trans (State.raise_calm ..)).trans (State.channelFlag_calm ..)

theorem State.meterSwap_calm (s : State) (old new : Bank) (m : Fin 12) : Calm fit s (s.meterSwap old new m) := by
  unfold State.meterSwap
  dsimp only
  split
  · exact s.setChannel_calm ..
  · exact .refl s
  · exact .ite ((s.setChannel_calm ..).trans (State.enterStalled_calm ..)) (s.setChannel_calm ..)

theorem State.pointsSwap_calm (s : State) (b : Bank) : Calm fit s (s.pointsSwap b) := by
  have taken (p : Vector PointRec 24) (x y : PointRec) : Calm fit s { s with points := p, barometer := x, calorimeter := y } :=
    { Calm.refl s with }
  unfold State.pointsSwap
  dsimp only
  split
  · exact (taken ..).trans (State.raise_calm ..)
  · exact taken ..

/-! ## Valves and roles at a swap -/

theorem ValveRec.initial_sound (g f : Bool) : ValveRec.initial.Sound g f := .atRest rfl nofun fun _ => nofun

theorem State.valveSwap_quiet (s : State) (old new : Bank) (v : Fin 8) : ValveQuiet s (s.valveSwap old new v) := by
  unfold State.valveSwap
  split
  · exact (s.setValve_quiet ..).trans (State.setPerm_quiet ..)
  · exact ((s.setValve_quiet ..).trans (State.withdrawCommands_quiet ..)).trans (State.notifyJoined_quiet ..)
  · exact .ite (s.setUnknown_quiet v) (.refl s)
  · exact .refl s

theorem State.PermitsBut.and {v : Fin 8} {f : Bool} (h : s.PermitsBut fit v) (hv : s.valves[v].Sound s.perms[v].granted f) :
    s.Permits fun w => if w = v then f else fit w := by
  intro w
  by_cases hw : w = v
  · subst hw
    simpa using hv
  · simpa [hw] using h w (Ne.symm hw)

/-- A valve whose holder ceases to be fitted. -/
theorem ValveRec.Sound.unfit {r : ValveRec} {g f : Bool} (h : r.Sound g f) : r.unfit.Sound g false :=
  ⟨nofun, nofun, h.shut⟩

/-- R82: a valve is taken over from the holders that were fitted to those that are. -/
theorem State.Permits.valveSwap (h : s.Permits fit) {v : Fin 8} (hv : fit v = old.fits v) :
    (s.valveSwap old new v).Permits fun w => if w = v then new.fits v else fit w := by
  unfold State.valveSwap
  split
  · refine (((h.but v).setValve_but _).setPerm_but _).and ?_
    simpa using ValveRec.initial_sound ..
  · next hold hnew =>
    have hnew : new.fits v = false := hnew
    have unfit := (((h.but v).setValve_but s.valves[v].unfit).and (f := false) (by simpa using (h v).unfit)).setLoop
      (s.loop.withdraw (·.isValve v))
    rw [hnew]
    exact unfit.notifyJoined _ _ _
  · next hold hnew =>
    have hsame : fit v = new.fits v := hv.trans (hold.trans hnew.symm)
    split
    · exact ((h.setUnknown v).but v).and (hsame ▸ h.setUnknown v v)
    · exact (h.but v).and (hsame ▸ h v)
  · next hold hnew =>
    have hsame : fit v = new.fits v := hv.trans (hold.trans hnew.symm)
    exact (h.but v).and (hsame ▸ h v)

/-- The same of every valve in turn. -/
theorem State.Permits.valveSwaps (h : s.Permits old.fits) : (forEach (fun v s => s.valveSwap old new v) s).Permits new.fits := by
  have swaps (l : List (Fin 8)) : ∀ (s : State) (fit : Fin 8 → Bool), l.Nodup → (∀ v ∈ l, fit v = old.fits v) →
      (∀ v, v ∉ l → fit v = new.fits v) → s.Permits fit → (l.foldl (fun s v => s.valveSwap old new v) s).Permits new.fits := by
    induction l with
    | nil => exact fun s fit _ _ hnew hs => funext (fun v => hnew v List.not_mem_nil) ▸ hs
    | cons v vs ih =>
      intro s fit hnodup hold hnew hs
      obtain ⟨hv, hvs⟩ := List.nodup_cons.1 hnodup
      refine ih _ _ hvs (fun w hw => ?_) (fun w hw => ?_) (hs.valveSwap (new := new) (hold v List.mem_cons_self))
      · rw [if_neg (fun e : w = v => hv (e ▸ hw))]
        exact hold w (List.mem_cons_of_mem v hw)
      · split
        · next e => rw [e]
        · next e => exact hnew w fun hm => (List.mem_cons.1 hm).elim e hw
  exact swaps (List.finRange 8) s old.fits (List.nodup_finRange 8) (fun _ _ => rfl) (fun v hv => absurd (List.mem_finRange v) hv) h

theorem State.roleSwap_steady (s : State) (old new : Bank) (h : Fin 4) : ValveSteady fit s (s.roleSwap old new h) := by
  unfold State.roleSwap
  split
  · exact (s.mapRole_steady ..).trans (State.setTransition_steady ..)
  · exact s.mapRole_steady ..
  · exact .refl s

theorem State.retakeAll_steady (s : State) (b : Bank) : ValveSteady fit s (s.retakeAll b) :=
  forEach_steady (fun _ s => .ite (s.mapRole_steady ..) (.refl s)) s

theorem State.programmeSwap_steady (s : State) (old new : Bank) : ValveSteady fit s (s.programmeSwap old new) := by
  have roles := forEach_steady (fit := fit) (fun h s => s.roleSwap_steady old new h) s
  unfold State.programmeSwap
  dsimp only
  refine .ite ((roles.trans (State.retakeAll_steady ..)).trans (State.enterTrigger_steady ..)) (.ite ?_ roles)
  exact roles.trans (State.enterTrigger_steady ..)

/-! ## Districts at a swap (R123) -/

/-- A district's record under the bank that has it in use, or not. -/
def DistrictRec.OkUnder (r : DistrictRec) (e : DistrictEntry) : Prop :=
  r.Ok ∧ (e.used = true → r.lowRun ≤ e.confirm ∧ r.highRun ≤ e.confirm)

theorem State.districtsOk_of_live (h : s.live = some b) :
    s.DistrictsOk ↔ ∀ d : Fin 6, s.districts[d].OkUnder b.districts[d] := by
  constructor
  · exact fun ⟨hok, hconf⟩ d => ⟨hok d, (hconf d).1 b h⟩
  · refine fun k => ⟨fun d => (k d).1, fun d => ⟨fun c hc => ?_, fun hn => nomatch h.symm.trans hn⟩⟩
    obtain rfl := Option.some.inj (h.symm.trans hc)
    exact (k d).2

theorem State.districtSwap_quiet (s : State) (old new : Bank) (d : Fin 6) : Quiet s (s.districtSwap old new d) := by
  have set (s : State) (r : DistrictRec) : Quiet s (s.setDistrict d r) := { Quiet.refl s with }
  have withdrawn (s : State) : Quiet s (s.setLoop (s.loop.withdraw (·.isSet d))) := (s.withdrawCommands_quiet _).quiet
  unfold State.districtSwap
  dsimp only
  split
  · split
    · exact (set ..).trans (withdrawn _)
    · exact set ..
  · exact set ..
  · exact (set ..).trans (withdrawn _)
  · exact .refl s

theorem DistrictRec.swapTo_okUnder {r : DistrictRec} {old new : DistrictEntry} (h : r.OkUnder old) (hu : old.used = true)
    (moved out : Bool) : (r.swapTo old new moved out).OkUnder new := by
  obtain ⟨⟨hnone, hrefresh⟩, hrun⟩ := h
  have runs : (r.swapTo old new moved out).refresh = r.refresh ∧
      (((r.swapTo old new moved out).lowRun = 0 ∧ (r.swapTo old new moved out).highRun = 0) ∨
        (old.confirm = new.confirm ∧ (r.swapTo old new moved out).lowRun = r.lowRun ∧
          (r.swapTo old new moved out).highRun = r.highRun)) := by
    have confirm (h : old.endChanged new = false) : old.confirm = new.confirm := by
      simp only [DistrictEntry.endChanged, Bool.or_eq_false_iff, bne_eq_false_iff_eq] at h
      exact h.1.2
    unfold DistrictRec.swapTo
    cases hc : old.endChanged new <;> cases moved <;> cases out <;> simp [confirm, hc]
  obtain ⟨hn, ⟨hl, hh⟩ | ⟨hconf, hl, hh⟩⟩ := runs <;> unfold DistrictRec.OkUnder DistrictRec.Ok <;> rw [hn, hl, hh]
  · exact ⟨⟨.inl rfl, hrefresh⟩, fun _ => ⟨Nat.zero_le _, Nat.zero_le _⟩⟩
  · exact ⟨⟨hnone, hrefresh⟩, fun _ => hconf ▸ hrun hu⟩

/-- A swap of one district leaves the others. -/
theorem State.districtSwap_other (s : State) (old new : Bank) {d e : Fin 6} (h : d ≠ e) :
    (s.districtSwap old new d).districts[e] = s.districts[e] := by
  unfold State.districtSwap
  dsimp only
  repeat' split
  all_goals simp [upd_other _ _ _ _ h]

theorem State.districtSwap_okUnder (s : State) (old new : Bank) (d : Fin 6) (h : s.districts[d].OkUnder old.districts[d]) :
    (s.districtSwap old new d).districts[d].OkUnder new.districts[d] := by
  unfold State.districtSwap
  dsimp only
  split
  · next hold _ =>
    split <;> simpa using DistrictRec.swapTo_okUnder h hold _ _
  · simp [DistrictRec.OkUnder, DistrictRec.Ok, DistrictRec.initial]
  · next hnew =>
    refine ⟨?_, fun hu => nomatch hnew.symm.trans hu⟩
    simpa [DistrictRec.Ok] using h.1
  · next hnew =>
    exact ⟨h.1, fun hu => nomatch hnew.symm.trans hu⟩

theorem State.districtSwaps_okUnder (s : State) (old new : Bank) (h : ∀ d : Fin 6, s.districts[d].OkUnder old.districts[d]) (d : Fin 6) :
    (forEach (fun d s => s.districtSwap old new d) s).districts[d].OkUnder new.districts[d] := by
  have swaps (l : List (Fin 6)) : ∀ s : State, l.Nodup →
      (∀ d : Fin 6, if d ∈ l then s.districts[d].OkUnder old.districts[d] else s.districts[d].OkUnder new.districts[d]) →
      (l.foldl (fun s d => s.districtSwap old new d) s).districts[d].OkUnder new.districts[d] := by
    induction l with
    | nil => exact fun s _ hs => hs d
    | cons e es ih =>
      intro s hnodup hs
      obtain ⟨he, hes⟩ := List.nodup_cons.1 hnodup
      refine ih _ hes fun c => ?_
      by_cases hc : e = c
      · subst hc
        rw [if_neg he]
        exact s.districtSwap_okUnder old new e (by simpa using hs e)
      · rw [s.districtSwap_other old new hc]
        simpa [Ne.symm hc] using hs c
  exact swaps (List.finRange 6) s (List.nodup_finRange 6) fun d => by simpa using h d

/-! ## The takeover and the swap -/

@[simp] theorem State.raise_districts (s : State) (x : Fin 74) : (s.raise x).districts = s.districts := (s.raise_only x).districts

theorem forEach_districts {n : Nat} {f : Fin n → State → State} (h : ∀ i s, (f i s).districts = s.districts) (s : State) :
    (forEach f s).districts = s.districts :=
  forEach_keeps (fun s t => t.districts = s.districts) (fun _ => rfl) (fun h k => k.trans h) f h s

theorem State.liftSwap_districts (s : State) (old new : Bank) (h : Fin 4) : (s.liftSwap old new h).districts = s.districts := by
  unfold State.liftSwap
  split
  · dsimp only
    split <;> simp
  · rfl
  · rfl

theorem State.meterSwap_districts (s : State) (old new : Bank) (m : Fin 12) : (s.meterSwap old new m).districts = s.districts := by
  unfold State.meterSwap State.enterStalled
  dsimp only
  repeat' split
  all_goals simp [State.channelFlag, State.mapInterval]

theorem State.pointsSwap_districts (s : State) (b : Bank) : (s.pointsSwap b).districts = s.districts := by
  unfold State.pointsSwap
  dsimp only
  split <;> simp

/-- R154, Table 25: the takeover of a bank, all blocks in turn. -/
theorem State.takeOver_kept (s : State) (old new : Bank) : Quiet s (s.takeOver old new) ∧
    (s.Permits old.fits → (s.takeOver old new).Permits new.fits) ∧
    ((∀ d : Fin 6, s.districts[d].OkUnder old.districts[d]) → ∀ d : Fin 6, (s.takeOver old new).districts[d].OkUnder new.districts[d]) := by
  unfold State.takeOver
  dsimp only
  have first : Calm old.fits s ((forEach (fun m s => s.meterSwap old new m) (forEach (fun h s => s.liftSwap old new h) s)).pointsSwap new) :=
    ((forEach_calm (fun h s => s.liftSwap_calm old new h) _).trans (forEach_calm (fun m s => s.meterSwap_calm old new m) _)).trans
      (State.pointsSwap_calm ..)
  have firstDistricts : ((forEach (fun m s => s.meterSwap old new m) (forEach (fun h s => s.liftSwap old new h) s)).pointsSwap
      new).districts = s.districts := by
    rw [State.pointsSwap_districts, forEach_districts fun m s => s.meterSwap_districts old new m,
      forEach_districts fun h s => s.liftSwap_districts old new h]
  generalize (forEach (fun m s => s.meterSwap old new m) (forEach (fun h s => s.liftSwap old new h) s)).pointsSwap new = s1 at *
  have valves := forEach_valveQuiet (fun v s => s.valveSwap_quiet old new v) s1
  have programme := (forEach (fun v s => s.valveSwap old new v) s1).programmeSwap_steady (fit := new.fits) old new
  have districts := forEach_quiet (fun d s => s.districtSwap_quiet old new d)
    ((forEach (fun v s => s.valveSwap old new v) s1).programmeSwap old new)
  have controller := valves.trans programme.toValveQuiet
  refine ⟨(first.toQuiet.trans controller.quiet).trans districts, fun h => ?permits, fun h => ?districts⟩
  case permits =>
    have taken := programme.permits (first.permits h).valveSwaps
    have kept (d : Fin 6) (s : State) : (s.districtSwap old new d).valves = s.valves ∧ (s.districtSwap old new d).perms = s.perms := by
      unfold State.districtSwap
      dsimp only
      repeat' split
      all_goals exact ⟨rfl, rfl⟩
    exact forEach_permits (fun d s h => h.congr (kept d s).1 (kept d s).2) taken
  case districts =>
    refine State.districtSwaps_okUnder _ old new fun d => ?_
    rw [controller.only.districts, firstDistricts]
    exact h d

/-- R22, R79: what the takeovers issue to other blocks. -/
theorem State.swapEvents_calm (s : State) (before : Vector HolderRec 4) (old new : Bank) :
    Calm new.fits s (s.swapEvents before old new) := by
  have changes (h : Fin 4) (s : State) : Calm new.fits s (State.changeAfterSwap before old new h s) := by
    unfold State.changeAfterSwap
    dsimp only
    split
    · next hf =>
      exact .ite (s.holderChange_calm _ _ _ _ (Bank.fits_valveOf hf)) (.ite (s.holderChange_calm _ _ _ _ (Bank.fits_valveOf hf)) (.refl s))
    · exact .refl s
  have trips (h : Fin 4) (s : State) : Calm new.fits s (State.tripsAfterSwap old new h s) := by
    unfold State.tripsAfterSwap
    dsimp only
    split
    · next hf =>
      exact ((s.evaluateTrips_steady (Bank.fits_valveOf (Bool.and_eq_true_iff.1 hf).1) ..).trans (State.settled_steady _)).calm
    · exact .refl s
  exact ((forEach_calm changes s).trans (forEach_calm trips _)).trans (State.settled_calm _)

/-! ## The close (R133 to R137, R154) -/

/-- What the taking of a bank or a close makes of a part, an interval being open after it. -/
structure Opens (s t : State) : Prop extends Kept s t where
  valid : t.clock.valid = s.clock.valid
  interval : t.accounts.interval.isSome = true

theorem State.swapTables_kept (s : State) : Kept s s.swapTables ∧ s.swapTables.tables = s.tables.swapped ∧
    s.swapTables.clock = s.clock ∧ s.swapTables.valves = s.valves ∧ s.swapTables.perms = s.perms ∧
    s.swapTables.districts = s.districts := by
  unfold State.swapTables
  dsimp only
  have reclassed : Kept s ((s.setTables s.tables.swapped).setAttn ((s.setTables s.tables.swapped).attn.reclass s.tables.swapped.live)) :=
    { Kept.refl s with attn := Attention.reclass_ok _, order := Attention.reclass_inOrder _ }
  have raised (t : State) := t.raise_only srcBankSwapped
  exact ⟨reclassed.trans (State.raise_calm (fit := fun _ => true) _ _).toKept, (raised _).tables, (raised _).clock,
    State.raise_valves .., State.raise_perms .., State.raise_districts ..⟩

theorem State.openInterval_opens (s : State) (o : Opening) (hl : s.live = some b) : Opens s (s.openInterval o) ∧
    (s.openInterval o).tables = s.tables ∧ (s.openInterval o).valves = s.valves ∧ (s.openInterval o).perms = s.perms ∧
    (s.openInterval o).districts = s.districts := by
  have opened : s.openInterval o = s.setAccounts { s.accounts with interval := some (s.newInterval b o) } := by
    unfold State.openInterval
    rw [hl]
  rw [opened]
  exact ⟨{ Kept.refl s with valid := rfl, interval := rfl }, rfl, rfl, rfl, rfl⟩

/-- R154: a swap at a close, from one live bank to the next. -/
theorem State.swapAndOpen_opens (s : State) (o : Opening) (hl : s.live = some old) : Opens s (s.swapAndOpen old o) ∧
    (s.swapAndOpen old o).tables = s.tables.swapped ∧ (s.PermitOk → (s.swapAndOpen old o).PermitOk) ∧
    (s.DistrictsOk → (s.swapAndOpen old o).DistrictsOk) := by
  unfold State.swapAndOpen
  dsimp only
  generalize hnew : s.tables.pending = new
  have hlive : s.tables.swapped.live = some new := congrArg some hnew
  obtain ⟨swapped, htables, hclock, hvalves, hperms, hdistricts⟩ := s.swapTables_kept
  generalize s.swapTables = s1 at *
  obtain ⟨taken, permits, districts⟩ := s1.takeOver_kept old new
  generalize s1.takeOver old new = s2 at *
  have hl2 : s2.live = some new := taken.live.trans ((congrArg TableStore.live htables).trans hlive)
  obtain ⟨opened, otables, ovalves, operms, odistricts⟩ := s2.openInterval_opens o hl2
  generalize s2.openInterval o = s3 at *
  have hl3 : s3.live = some new := (congrArg TableStore.live otables).trans hl2
  have events := s3.swapEvents_calm s.holders old new
  have hl4 := events.live.trans hl3
  refine ⟨⟨((swapped.trans taken.toKept).trans opened.toKept).trans events.toKept, ?_, events.interval.trans opened.interval⟩, ?_,
    fun h => ?_, fun h => ?_⟩
  · rw [events.valid, opened.valid, taken.valid, hclock]
  · rw [events.tables, otables, taken.tables, htables]
  · refine (State.permitOk_of_live hl4).2 (events.permits ((permits ?_).congr ovalves operms))
    exact ((State.permitOk_of_live hl).1 h).congr hvalves hperms
  · refine events.districts ((State.districtsOk_of_live hl3).2 fun d => ?_)
    rw [odistricts]
    refine districts (fun d => ?_) d
    rw [hdistricts]
    exact (State.districtsOk_of_live hl).1 h d

/-- What a close leaves of a part with a live bank: a COMMITTED bank becomes the live one. -/
structure Closes (s t : State) : Prop extends Kept s t where
  tables : t.tables = s.tables ∨ s.tables.committed = true ∧ t.tables = s.tables.swapped
  valid : t.clock.valid = s.clock.valid
  interval : t.accounts.interval.isSome = s.accounts.interval.isSome
  permit : s.PermitOk → t.PermitOk
  districts : s.DistrictsOk → t.DistrictsOk

theorem TableStore.swapped_sound {x : TableStore} {own : Nat}
    (h : x.committed = true → x.pending.broken own = none ∧ x.live.isSome) (hc : x.committed = true) :
    (∀ b, x.swapped.live = some b → b.broken own = none) ∧
      (x.swapped.committed = true → x.swapped.pending.broken own = none ∧ x.swapped.live.isSome) := by
  refine ⟨fun b hb => ?_, fun hn => nomatch hn⟩
  obtain rfl := Option.some.inj hb
  exact (h hc).1

theorem Closes.safe (h : Closes s t) (hl : s.live = some b) : Safe s t where
  clock := h.clock
  logs := h.logs
  line := h.line
  queue := h.queue
  attn := h.attn
  order := h.order
  prog := h.prog
  banks := fun ⟨hlive, hcommitted⟩ => by
    unfold State.BanksOk
    rw [h.own]
    rcases h.tables with ht | ⟨hc, ht⟩ <;> rw [ht]
    · exact ⟨hlive, hcommitted⟩
    · exact TableStore.swapped_sound hcommitted hc
  interval := fun hi hon => by
    obtain ⟨hopen, -⟩ := hi (h.power ▸ hon)
    have hrun : s.running = true := congrArg Option.isSome hl
    have hrun' : t.running = true := by
      unfold State.running
      rcases h.tables with ht | ⟨hc, ht⟩ <;> rw [ht]
      · exact hrun
      · rfl
    rw [h.interval, hopen, hrun, hrun']
    exact ⟨rfl, nofun⟩
  permit := h.permit
  runs := fun ⟨hlifts, hdistricts⟩ => ⟨h.lifts hlifts, h.districts hdistricts⟩

theorem State.saveHolders_calm (s : State) (b : Bank) : Calm fit s (s.saveHolders b) :=
  forEach_calm (fun h s => .ite (s.saveHolder_calm h) (.refl s)) s

theorem State.saveHolders_interval (s : State) (b : Bank) : (s.saveHolders b).valves = s.valves ∧ (s.saveHolders b).perms = s.perms :=
  forEach_keeps (fun s t => t.valves = s.valves ∧ t.perms = s.perms) (fun _ => ⟨rfl, rfl⟩)
    (fun h k => ⟨k.1.trans h.1, k.2.trans h.2⟩) _ (fun h s => by split <;> exact ⟨rfl, rfl⟩) s

/-- R136, R137: the record of a close enters the logs, in hand and in the store. -/
theorem State.recordClose_kept (s : State) (b : Bank) {r : IntervalRecord} (hr : r.sequence = s.accounts.logs.lastSeq + 1) :
    Kept s (s.recordClose b r) ∧ (s.recordClose b r).tables = s.tables ∧ (s.recordClose b r).clock.valid = s.clock.valid ∧
    (s.PermitOk → (s.recordClose b r).PermitOk) ∧ (s.DistrictsOk → (s.recordClose b r).DistrictsOk) := by
  have written : Kept s (s.writeLogs (s.accounts.logs.enter r)) :=
    { Kept.refl s with logs := fun ⟨hlogs, hnv, _⟩ => ⟨Logs.enter_ok hlogs hr, Logs.enter_ok hlogs hr, hnv⟩ }
  have saved := (s.writeLogs (s.accounts.logs.enter r)).saveHolders_calm (fit := fun _ => true) b
  obtain ⟨hvalves, hperms⟩ := (s.writeLogs (s.accounts.logs.enter r)).saveHolders_interval b
  exact ⟨written.trans saved.toKept, saved.tables, saved.valid,
    fun h => State.PermitOk.congr h saved.live (fun v => by rw [State.recordClose, hvalves]; exact .refl _) hperms, saved.districts⟩

theorem State.closeInterval_closes (s : State) (hl : s.live = some b) (extra next : YardFlags) (w : Option WallTime) :
    Closes s (s.closeInterval b extra next w) := by
  unfold State.closeInterval
  split
  · exact { Kept.refl s with tables := .inl rfl, valid := rfl, interval := rfl, permit := id, districts := id }
  · next iv hiv =>
    dsimp only
    obtain ⟨recorded, rtables, rvalid, rpermit, rdistricts⟩ := s.recordClose_kept b (r := s.closeRecord b iv extra w) rfl
    generalize s.recordClose b (s.closeRecord b iv extra w) = s1 at *
    have hl1 : s1.live = some b := (congrArg TableStore.live rtables).trans hl
    have hsome : s.accounts.interval.isSome = true := by rw [hiv]; rfl
    split
    · next hc =>
      obtain ⟨swapped, stables, spermit, sdistricts⟩ := s1.swapAndOpen_opens
        ((s.closeRecord b iv extra w).carried (s.stockUncertain b) (stockHeld (s.stocks b)) next) hl1
      exact { recorded.trans swapped.toKept with
        tables := .inr ⟨hc, stables.trans (congrArg TableStore.swapped rtables)⟩, valid := swapped.valid.trans rvalid,
        interval := swapped.interval.trans hsome.symm, permit := spermit ∘ rpermit, districts := sdistricts ∘ rdistricts }
    · obtain ⟨opened, otables, ovalves, operms, odistricts⟩ := s1.openInterval_opens
        ((s.closeRecord b iv extra w).carried (s.stockUncertain b) (stockHeld (s.stocks b)) next) hl1
      have hlive := congrArg TableStore.live otables
      exact { recorded.trans opened.toKept with
        tables := .inl (otables.trans rtables), valid := opened.valid.trans rvalid, interval := opened.interval.trans hsome.symm,
        permit := fun h => (rpermit h).congr hlive (fun v => by rw [ovalves]; exact .refl _) operms,
        districts := fun h => (rdistricts h).congr odistricts hlive }

theorem State.closeInterval_safe (s : State) (hl : s.live = some b) (extra next : YardFlags) (w : Option WallTime) :
    Safe s (s.closeInterval b extra next w) := (s.closeInterval_closes hl extra next w).safe hl

end Sys2Proof.Machine


/-! RESTART, power-on and COMMIT, time, the directives and the frames keep every invariant; then the step does. -/

namespace Sys2Proof.Machine

variable {fit : Fin 8 → Bool} {s t u : State} {b : Bank}

/-! ## The taking of a bank (Table 25) -/

theorem State.bringHolders_calm (s : State) (b : Bank) : Calm fit s (s.bringHolders b) :=
  forEach_calm (fun h s => .ite (s.setHolder_calm h fun k => HolderRec.bring_runsOk b h _ k) (.refl s)) s

theorem State.setPerm_granted_calm (s : State) (v : Fin 8) : Calm fit s (s.setPerm v PermRec.initial) := by
  refine { Calm.refl (fit := fit) s with permits := fun h w => ?_ }
  by_cases hw : v = w
  · subst hw
    exact ⟨(h v).demand, (h v).opening, fun hg => by simp [PermRec.initial] at hg⟩
  · simpa [upd_other _ _ _ _ hw] using h w

theorem State.grantAll_calm (s : State) (b : Bank) : Calm fit s (s.grantAll b) :=
  forEach_calm (fun v s => .ite (s.setPerm_granted_calm v) (.refl s)) s

theorem State.startReviews_calm (s : State) (b : Bank) : Calm fit s (s.startReviews b) := by
  refine { Calm.refl s with districts := fun ⟨hok, hconf⟩ => ⟨fun d => ?_, fun d => ?_⟩ }
  · have := hok d
    simp only [State.startReviews, Fin.getElem_fin, Vector.getElem_mapFinIdx]
    split <;> exact this
  · have := hconf d
    simp only [State.startReviews, Fin.getElem_fin, Vector.getElem_mapFinIdx]
    split <;> exact this

theorem State.restoredChanges_calm (s : State) (b : Bank) : Calm b.fits s (s.restoredChanges b) := by
  refine forEach_calm (fun h s => ?_) s
  split
  · next hf => exact s.holderChange_calm b h _ _ (Bank.fits_valveOf hf)
  · exact .refl s

theorem State.takeLive_tail_calm (s : State) (b : Bank) : Calm b.fits s (((s.restoredChanges b).enterTrigger .slot).settled) :=
  ((s.restoredChanges_calm b).trans (State.enterTrigger_calm ..)).trans (State.settled_calm _)

theorem State.takeLive_head_calm (s : State) (b : Bank) : Calm fit s (((s.bringHolders b).grantAll b).startReviews b) :=
  ((s.bringHolders_calm b).trans (State.grantAll_calm ..)).trans (State.startReviews_calm ..)

theorem State.takeLive_calm (s : State) (b : Bank) : Calm b.fits s (s.takeLive b false) :=
  (s.takeLive_head_calm b).trans (State.takeLive_tail_calm _ b)

/-- The first interval opens with the bank. -/
theorem State.takeLive_opens (s : State) (hl : s.live = some b) : Opens s (s.takeLive b true) ∧
    (s.takeLive b true).tables = s.tables ∧ (s.Permits b.fits → (s.takeLive b true).Permits b.fits) ∧
    (s.DistrictsOk → (s.takeLive b true).DistrictsOk) := by
  have head := s.takeLive_head_calm (fit := b.fits) b
  unfold State.takeLive
  dsimp only [if_true]
  generalize ((s.bringHolders b).grantAll b).startReviews b = s1 at *
  obtain ⟨opened, otables, ovalves, operms, odistricts⟩ := s1.openInterval_opens (s1.firstOpening b) (head.live.trans hl)
  generalize s1.openInterval (s1.firstOpening b) = s2 at *
  have tail := s2.takeLive_tail_calm b
  exact ⟨⟨(head.toKept.trans opened.toKept).trans tail.toKept, tail.valid.trans (opened.valid.trans head.valid),
      tail.interval.trans opened.interval⟩, tail.tables.trans (otables.trans head.tables),
    fun h => tail.permits ((head.permits h).congr ovalves operms),
    fun h => tail.districts ((head.districts h).congr odistricts (congrArg TableStore.live otables))⟩

/-! ## RESTART, DISCARD, LOAD SEGMENT and COMMIT -/

/-- A change of the tables that leaves the live bank. -/
theorem State.setTables_safe (s : State) {x : TableStore} (hl : x.live = s.tables.live)
    (hc : s.BanksOk → x.committed = true → x.pending.broken s.own = none ∧ x.live.isSome) : Safe s (s.setTables x) := by
  have hlive : (s.setTables x).live = s.live := hl
  refine { Safe.refl s with
    banks := fun h => ⟨fun b hb => h.1 b (hl.symm.trans hb), hc h⟩, interval := fun h hon => ?_,
    permit := fun h => h.congr hlive (fun v => .refl _) rfl, runs := fun ⟨hlifts, h⟩ => ⟨hlifts, State.DistrictsOk.congr h rfl hlive⟩ }
  have hrun : (s.setTables x).running = s.running := congrArg Option.isSome hl
  rw [hrun]
  exact h hon

theorem State.reinitialised_calm (s : State) : Calm fit s s.reinitialised where
  pending := rfl
  power := rfl
  own := rfl
  timebase := rfl
  clock := id
  logs := id
  line := id
  queue := LoopPort.withdraw_queueOk _
  attn := id
  order := id
  prog _ := List.nodup_nil
  lifts _ h := by simpa [State.reinitialised] using HolderRec.restored_runsOk ..
  tables := rfl
  valid := rfl
  interval := rfl
  permits _ v := by simpa [State.reinitialised] using ValveRec.initial_sound ..
  districts _ := by
    have initial (d : Fin 6) : s.reinitialised.districts[d] = DistrictRec.initial := by simp [State.reinitialised]
    refine ⟨fun d => ?_, fun d => ?_⟩ <;> rw [initial]
    · exact ⟨.inl rfl, Nat.zero_le _⟩
    · exact ⟨fun _ _ _ => ⟨Nat.zero_le _, Nat.zero_le _⟩, fun _ => ⟨rfl, rfl⟩⟩

theorem Closes.live (h : Closes s t) (hl : s.live = some b) : ∃ n, t.live = some n := by
  rcases h.tables with ht | ⟨-, ht⟩
  · exact ⟨b, (congrArg TableStore.live ht).trans hl⟩
  · exact ⟨s.tables.pending, congrArg TableStore.live ht⟩

theorem TableStore.restarted_of_live {x : TableStore} (h : x.live = some b) :
    x.restarted = { x with pending := b, marks := Vector.replicate 12 true, committed := false } := by
  obtain ⟨live, generation, pending, marks, committed, store, storeGen, copy⟩ := x
  obtain rfl : live = some b := h
  rfl

theorem State.restarted_safe (s : State) (hl : s.live = some b) : Safe s (s.restarted b) := by
  unfold State.restarted
  dsimp only
  have closes := s.closeInterval_closes hl { YardFlags.none with restart := true } YardFlags.none s.clock.wall
  generalize s.closeInterval b { YardFlags.none with restart := true } YardFlags.none s.clock.wall = s1 at *
  obtain ⟨n, hn⟩ := closes.live hl
  have hrestarted : s1.tables.restarted = { s1.tables with pending := n, marks := Vector.replicate 12 true, committed := false } :=
    TableStore.restarted_of_live hn
  have tables : Safe s1 (s1.setTables s1.tables.restarted) := by
    rw [hrestarted]
    exact s1.setTables_safe rfl fun _ hc => nomatch hc
  have hl2 : (s1.setTables s1.tables.restarted).live = some n := by rw [hrestarted]; exact hn
  have again := (s1.setTables s1.tables.restarted).reinitialised_calm (fit := n.fits)
  have closed := (closes.safe hl).trans (tables.trans (again.safe hl2))
  have hl3 := again.live.trans hl2
  generalize (s1.setTables s1.tables.restarted).reinitialised = s2 at *
  rw [hl3]
  exact closed.trans ((s2.takeLive_calm n).safe hl3)

theorem State.commitPassed_safe (s : State) (hk : s.tables.pending.broken s.own = none) : Safe s s.commitPassed := by
  unfold State.commitPassed
  split
  · next b hl =>
    have committed : Safe s (s.setTables { s.tables with committed := true }) :=
      s.setTables_safe rfl fun _ _ => ⟨hk, by have hl : s.tables.live = some b := hl; rw [hl]; rfl⟩
    dsimp only
    split
    · exact committed
    · exact committed.trans (State.closeInterval_safe (s.setTables { s.tables with committed := true }) hl ..)
  · next hl =>
    obtain ⟨swapped, htables, hclock, hvalves, hperms, hdistricts⟩ := s.swapTables_kept
    generalize s.swapTables = s1 at *
    have hl1 : s1.live = some s.tables.pending := congrArg TableStore.live htables
    obtain ⟨opens, otables, permits, districts⟩ := s1.takeLive_opens hl1
    generalize s1.takeLive s.tables.pending true = s2 at *
    have kept := swapped.trans opens.toKept
    have hl2 : s2.live = some s.tables.pending := (congrArg TableStore.live otables).trans hl1
    refine ⟨kept.clock, kept.logs, kept.line, kept.queue, kept.attn, kept.order, kept.prog, fun _ => ?_, fun _ _ => ?_, fun h => ?_,
      fun ⟨hlifts, hconf⟩ => ⟨kept.lifts hlifts, districts ?_⟩⟩
    · unfold State.BanksOk
      rw [otables, htables, kept.own]
      refine ⟨fun b hb => ?_, fun hc => nomatch hc⟩
      obtain rfl := Option.some.inj hb
      exact hk
    · have hrun : s2.running = true := congrArg Option.isSome hl2
      rw [opens.interval, hrun]
      exact ⟨rfl, nofun⟩
    · refine (State.permitOk_of_live hl2).2 (permits fun v => ?_)
      obtain ⟨hst, hdem, -⟩ := (State.permitOk_of_none hl).1 h v
      rw [hvalves]
      exact .atRest hdem (by rw [hst]; exact nofun) fun _ => by rw [hst]; exact nofun
    · refine (State.districtsOk_of_live hl1).2 fun d => ?_
      rw [hdistricts]
      obtain ⟨hlow, hhigh⟩ := (hconf.2 d).2 hl
      exact ⟨hconf.1 d, fun _ => by rw [hlow, hhigh]; exact ⟨Nat.zero_le _, Nat.zero_le _⟩⟩

/-! ## Power (R143, R156, R170) -/

theorem State.stopped_safe (s : State) {p : Power} (hp : p ≠ .on) {nv : Nonvolatile} (hlogs : s.LogsOk → nv.logs.Ok ∧ nv.logsBefore.Ok) :
    Safe s (s.stopped p nv) := by
  refine { Safe.refl s with
    logs := fun h => ⟨h.1, hlogs h⟩, queue := fun h => h.tx rfl fun _ => rfl, interval := fun _ hon => absurd hon hp }

theorem Nonvolatile.cut_logs {n : Nonvolatile} (h : n.logs.Ok) (hb : n.logsBefore.Ok) (logCut : Bool) (savesCut : List (Fin 4)) :
    (n.cut logCut savesCut).logs.Ok ∧ (n.cut logCut savesCut).logsBefore.Ok := by
  refine ⟨?_, hb⟩
  unfold Nonvolatile.cut
  cases logCut
  · exact h
  · exact hb

/-- Every block at its power-on values. -/
theorem State.poweredOn_sound (own : Nat) (nv : Nonvolatile) (x : TableStore) (q : List Instr) (n : Nat) :
    let p := State.poweredOn own nv x q n
    p.clock.Ok ∧ p.loop.LineOk ∧ p.loop.QueueOk ∧ p.attn.Ok ∧ p.attn.InOrder ∧ p.prog.Ok ∧ p.LiftsOk ∧ p.DistrictsOk ∧
      ∀ v : Fin 8, p.valves[v] = ValveRec.initial := by
  have initial (d : Fin 6) : (State.poweredOn own nv x q n).districts[d] = DistrictRec.initial := by simp [State.poweredOn]
  refine ⟨⟨Nat.zero_le _, Nat.zero_le _, Nat.zero_lt_succ _⟩, ⟨Nat.zero_le _, Nat.zero_le _⟩, ⟨fun _ => Nat.zero_le _, fun _ => Nat.zero_le _⟩,
    ⟨List.nodup_nil, .nil, nofun⟩, ⟨List.nodup_nil, .nil, nofun⟩, List.nodup_nil, fun h => ?_, ⟨fun d => ?_, fun d => ?_⟩, fun v => ?_⟩
  · simpa [State.poweredOn] using HolderRec.restored_runsOk ..
  · rw [initial]
    exact ⟨.inl rfl, Nat.zero_le _⟩
  · rw [initial]
    exact ⟨fun _ _ _ => ⟨Nat.zero_le _, Nat.zero_le _⟩, fun _ => ⟨rfl, rfl⟩⟩
  · simp [State.poweredOn]

theorem TableStore.restorable_sound {x : TableStore} {own : Nat} {copySound : Bool} (h : x.restorable own copySound = some b) :
    b.broken own = none := by
  unfold TableStore.restorable at h
  repeat' split at h
  · next hb => exact Option.some.inj h ▸ Option.isNone_iff_eq_none.1 hb
  · exact nomatch h
  · exact nomatch h

theorem TableStore.powerOn_sound (x : TableStore) (own : Nat) (copySound : Bool) :
    (∀ b, (x.powerOn own copySound).live = some b → b.broken own = none) ∧ (x.powerOn own copySound).committed = false := by
  unfold TableStore.powerOn
  split
  · next b h => exact ⟨fun c hc => Option.some.inj hc ▸ TableStore.restorable_sound h, rfl⟩
  · exact ⟨nofun, rfl⟩

/-- R156: every block at its power-on values, the occurrences of power-on entered. -/
theorem State.powerOnBlocks_calm (s : State) (own : Nat) (copySound : Bool) :
    Calm fit (State.poweredOn own s.nv.settled (s.tables.powerOn own copySound) s.pending s.drawn) (s.powerOnBlocks own copySound) ∧
    (s.powerOnBlocks own copySound).valves = Vector.replicate 8 ValveRec.initial := by
  unfold State.powerOnBlocks
  dsimp only
  split
  · exact ⟨(State.raise_calm ..).trans (State.raise_calm ..), by simp [State.poweredOn]⟩
  · exact ⟨State.raise_calm .., by simp [State.poweredOn]⟩

theorem State.powerOn_safe (s : State) (straps : Byte) (copySound : Bool) : Safe s (s.powerOn straps copySound) := by
  unfold State.powerOn
  dsimp only
  split
  · obtain ⟨hclock, hline, hqueue, hattn, horder, hprog, hlifts, hdistricts, -⟩ := State.poweredOn_sound straps.toNat s.nv.settled
      (s.tables.powerOn straps.toNat copySound) s.pending s.drawn
    have hlogs (h : s.LogsOk) : (State.poweredOn straps.toNat s.nv.settled (s.tables.powerOn straps.toNat copySound) s.pending
        s.drawn).LogsOk := ⟨h.2.1, h.2.1, h.2.1⟩
    obtain ⟨hbanks, hcommitted⟩ := s.tables.powerOn_sound straps.toNat copySound
    have blocks := s.powerOnBlocks_calm (fit := fun _ => true) straps.toNat copySound
    have htables : (s.powerOnBlocks straps.toNat copySound).tables = s.tables.powerOn straps.toNat copySound := blocks.1.tables
    have hown : (s.powerOnBlocks straps.toNat copySound).own = straps.toNat := blocks.1.own
    have sound : (s.powerOnBlocks straps.toNat copySound).BanksOk := by
      unfold State.BanksOk
      rw [htables, hown]
      exact ⟨hbanks, fun hc => nomatch hc.symm.trans hcommitted⟩
    obtain ⟨calm, hvalves⟩ := blocks
    generalize s.powerOnBlocks straps.toNat copySound = s1 at *
    split
    · next b hl =>
      obtain ⟨opens, otables, permits, districts⟩ := s1.takeLive_opens hl
      have kept := calm.toKept.trans opens.toKept
      have hl2 := (congrArg TableStore.live otables).trans hl
      refine ⟨fun _ => kept.clock hclock, fun h => kept.logs (hlogs h), fun _ => kept.line hline, fun _ => kept.queue hqueue,
        fun _ => kept.attn hattn, fun _ => kept.order horder, fun _ => kept.prog hprog, fun _ => ?_, fun _ _ => ?_,
        fun _ => (State.permitOk_of_live hl2).2 (permits fun v => ?_), fun _ => ⟨kept.lifts hlifts, districts (calm.districts hdistricts)⟩⟩
      · unfold State.BanksOk
        rw [otables, opens.own]
        exact sound
      · have hrun : (s1.takeLive b true).running = true := congrArg Option.isSome hl2
        rw [opens.interval, hrun]
        exact ⟨rfl, nofun⟩
      · rw [hvalves]
        simpa using ValveRec.initial_sound ..
    · next hl =>
      refine ⟨fun _ => calm.clock hclock, fun h => calm.logs (hlogs h), fun _ => calm.line hline, fun _ => calm.queue hqueue,
        fun _ => calm.attn hattn, fun _ => calm.order horder, fun _ => calm.prog hprog, fun _ => sound, fun _ _ => ?_,
        fun _ => (State.permitOk_of_none hl).2 fun v => ?_, fun _ => ⟨calm.lifts hlifts, calm.districts hdistricts⟩⟩
      · have hrun : s1.running = false := congrArg Option.isSome hl
        rw [hrun, calm.interval, calm.valid]
        exact ⟨rfl, fun _ => rfl⟩
      · rw [hvalves]
        simp [ValveRec.initial]
  · exact s.stopped_safe (p := .strapHeld) (fun hp => nomatch hp) fun h => h.2

/-! ## Time -/

theorem State.passMs_safe (s : State) (n : Nat) : Safe s (s.passMs n) := by
  refine { Safe.refl s with clock := Clock.advance_ok n, interval := fun h hon => ?_ }
  have hvalid : (s.passMs n).clock.valid = s.clock.valid := Clock.advance_valid ..
  rw [hvalid]
  exact h hon

theorem State.passTo_safe (s : State) (n : Nat) : Safe s (s.passTo n) := s.passMs_safe _
theorem State.passToSec_safe (s : State) (n : Nat) : Safe s (s.passToSec n) := s.passMs_safe _

/-- A time that has come passes nothing. -/
theorem State.passMs_zero (s : State) : Kept s (s.passMs 0) := { Kept.refl s with clock := Clock.advance_ok 0 }
theorem State.passTo_kept (s : State) {n : Nat} (h : n ≤ s.timebase) : Kept s (s.passTo n) := by
  rw [State.passTo, Nat.sub_eq_zero_of_le h]
  exact s.passMs_zero

theorem State.settled_of_none (h : s.live = none) : s.settled = s := by
  unfold State.settled Config.settleBound State.settle
  rw [h]

/-- Settling keeps every invariant, in UNCONFIGURED mode by doing nothing. -/
theorem State.settled_safe (s : State) : Safe s s.settled := by
  cases hl : s.live with
  | some b => exact (s.settled_calm (fit := b.fits)).safe hl
  | none =>
    rw [State.settled_of_none hl]
    exact .refl s

theorem State.lossExpired_safe (s : State) : Safe s s.lossExpired := by
  unfold State.lossExpired
  split
  · exact .refl s
  · exact (s.passTo_safe _).trans (State.becomeLost_safe _)

theorem State.stallExpired_safe (s : State) (m : Fin 12) : Safe s (s.stallExpired m) := by
  unfold State.stallExpired
  split
  · next b hl =>
    split
    · next e _ => exact (s.passTo_safe e).trans (((s.passTo e).enterStalled_calm (fit := b.fits) m).safe hl)
    · exact .refl s
  · exact .refl s

theorem State.goStale_calm (s : State) (r : Fin 25) : Calm fit s (s.goStale r) := by
  unfold State.goStale
  split
  · exact s.setPoint_calm ..
  · exact s.setBarometer_calm _

theorem State.goCvStale_calm (s : State) : Calm fit s s.goCvStale := (s.setCalorimeter_calm _).trans (State.raise_calm ..)

theorem State.staleExpired_safe (s : State) (r : Fin 25) : Safe s (s.staleExpired r) := by
  unfold State.staleExpired
  split
  · next b hl =>
    split
    · next e _ => exact (s.passTo_safe e).trans (((s.passTo e).goStale_calm (fit := b.fits) r).safe hl)
    · exact .refl s
  · exact .refl s

theorem State.cvStaleExpired_safe (s : State) : Safe s s.cvStaleExpired := by
  unfold State.cvStaleExpired
  split
  · next b hl =>
    split
    · next e _ => exact (s.passTo_safe e).trans (((s.passTo e).goCvStale_calm (fit := b.fits)).safe hl)
    · exact .refl s
  · exact .refl s

/-- What the Valve Controller does of a valve in UNCONFIGURED mode, where the valve has nothing to do, keeps every invariant too. -/
theorem ValveSteady.safe (h : ∀ fit, ValveSteady fit s t) (hn : s.live = none → s.PermitOk → t = s) : Safe s t := by
  cases hl : s.live with
  | some b => exact (h b.fits).calm.safe hl
  | none =>
    have quiet := (h fun _ => true).quiet
    exact ⟨quiet.clock, quiet.logs, quiet.line, quiet.queue, quiet.attn, quiet.order, quiet.prog, quiet.banks, quiet.intervalOk,
      fun hp => (hn hl hp).symm ▸ hp, fun ⟨hlifts, hd⟩ => ⟨quiet.lifts hlifts, (h fun _ => true).only.districtsOk hd⟩⟩

theorem State.answerExpired_safe (s : State) (v : Fin 8) : Safe s (s.answerExpired v) := by
  unfold State.answerExpired
  split
  · next e _ =>
    refine ((s.passTo_safe e).trans (ValveSteady.safe (fun _ => State.missedAnswer_steady _ v .noAnswer) fun hn hp => ?_)).trans
      (State.settled_safe _)
    unfold State.missedAnswer
    dsimp only
    split
    · rfl
    · next hd => exact nomatch hd.symm.trans ((State.permitOk_of_none hn).1 hp v).2.1
  · exact .refl s

theorem State.travelExpired_safe (s : State) (v : Fin 8) : Safe s (s.travelExpired v) := by
  unfold State.travelExpired
  split
  · next e he =>
    refine ((s.passTo_safe e).trans (ValveSteady.safe (fun _ => State.endStuck_steady _ v .travelTimeout) fun hn hp => ?_)).trans
      (State.settled_safe _)
    exact nomatch he.symm.trans ((State.permitOk_of_none hn).1 hp v).2.2
  · exact .refl s

end Sys2Proof.Machine


/-! The review of a district, the boundaries of the clock and the store's write keep every invariant; and what falls due at a tick keeps
the queue, the power, the own address and the timebase. -/

namespace Sys2Proof.Machine

variable {fit : Fin 8 → Bool} {s t u : State} {b : Bank}

/-! ## A review (R111 to R120) -/

theorem State.raiseClamped_calm (s : State) (d : Fin 6) (sl : DaySlot) (c : Bool) : Calm fit s (s.raiseClamped d sl c) :=
  .ite ((s.raise_calm _).trans (State.setDistrict_calm_of_runs _ d (by simp) (by simp) (by simp))) (.refl s)

theorem State.raiseEndLow_calm (s : State) (d : Fin 6) (c : Bool) : Calm fit s (s.raiseEndLow d c) := by
  unfold State.raiseEndLow
  split
  · exact (s.raise_calm _).trans (State.setDistrict_calm_of_runs _ d (by simp) (by simp) (by simp))
  · exact s.setDistrict_calm_of_runs d rfl rfl id

theorem State.raiseShort_calm (s : State) (d : Fin 6) (c : Bool) : Calm fit s (s.raiseShort d c) := by
  unfold State.raiseShort
  split
  · exact (s.raise_calm _).trans (State.setDistrict_calm_of_runs _ d (by simp) (by simp) (by simp))
  · exact s.setDistrict_calm_of_runs d rfl rfl id

theorem LoopPort.placeSet_lineOk {l : LoopPort} (d : Fin 6) (x : Nat) (h : l.LineOk) : (l.placeSet d x).1.LineOk := by
  have only := l.placeSet_only d x
  unfold LoopPort.LineOk
  rw [only.buffer, only.checkErrors]
  exact h

theorem State.sendStage_calm (s : State) (d : Fin 6) (e : DistrictEntry) (g : Stages) : Calm fit s (s.sendStage d e g) := by
  unfold State.sendStage
  dsimp only
  split
  · exact (s.setLoop_calm (LoopPort.placeSet_lineOk d _) (LoopPort.placeSet_queueOk d _)).trans
      (State.setDistrict_calm_of_runs _ d rfl rfl fun _ => Nat.zero_le _)
  · exact s.setDistrict_calm_of_runs d rfl rfl fun _ => Nat.min_le_left ..

theorem State.review_calm (s : State) (b : Bank) (d : Fin 6) (sl : DaySlot) : Calm fit s (s.review b d sl) :=
  (((s.raiseClamped_calm ..).trans (State.raiseEndLow_calm ..)).trans (State.raiseShort_calm ..)).trans (State.sendStage_calm ..)

theorem State.reviewExpired_calm (s : State) (b : Bank) (d : Fin 6) : Calm fit s (s.reviewExpired b d) := by
  have timer := s.setDistrict_calm_of_runs (fit := fit) d
    (r := { s.districts[d] with reviewTimer := some (s.timebase + Config.reviewTime) }) rfl rfl id
  unfold State.reviewExpired
  dsimp only
  split
  · exact timer.trans (State.review_calm ..)
  · exact timer

theorem State.reviewDone_safe (s : State) (d : Fin 6) : Safe s (s.reviewDone d) := by
  unfold State.reviewDone
  split
  · next b e hl _ =>
    split
    · exact (s.passTo_safe e).trans ((State.reviewExpired_calm (fit := b.fits) (s.passTo e) b d).safe hl)
    · exact .refl s
  · exact .refl s

/-! ## The boundaries of the clock and the store (R125, R126, R133, R155) -/

theorem State.setClock_calm (s : State) {c : Clock} (hv : c.valid = s.clock.valid) (hc : s.clock.Ok → c.Ok) : Calm fit s (s.setClock c) :=
  { Calm.refl s with clock := hc, valid := hv }

theorem State.setClock_quiet_safe (s : State) {c : Clock} (hv : c.valid = s.clock.valid) (hc : s.clock.Ok → c.Ok) :
    Safe s (s.setClock c) :=
  (s.setClock_calm (fit := fun _ => true) hv hc).toQuiet.safe_of_valves rfl rfl rfl

theorem State.enterTrigger_safe (s : State) (t : Trigger) : Safe s (s.enterTrigger t) :=
  by
  refine (s.enterTrigger_calm (fit := fun _ => true) t).toQuiet.safe_of_valves ?_ ?_ ?_ <;> unfold State.enterTrigger <;> split <;> rfl

theorem State.giveSlot_calm (s : State) : Calm fit s s.giveSlot :=
  ((s.setClock_calm (c := s.clock.takeSlot) rfl id).trans (State.enterTrigger_calm ..)).trans (State.settled_calm _)

theorem State.giveSlot_safe (s : State) : Safe s s.giveSlot :=
  ((s.setClock_quiet_safe (c := s.clock.takeSlot) rfl id).trans (State.enterTrigger_safe ..)).trans (State.settled_safe _)

theorem State.slotBoundary_safe (s : State) : Safe s s.slotBoundary := by
  unfold State.slotBoundary
  split
  · exact s.giveSlot_safe
  · split
    · exact (s.passToSec_safe _).trans (State.giveSlot_safe _)
    · exact .refl s

theorem State.closeNow_safe (s : State) : Safe s s.closeNow := by
  unfold State.closeNow
  split
  · next hl => exact s.closeInterval_safe hl ..
  · exact .refl s

theorem State.closeNow_kept (s : State) : Kept s s.closeNow := by
  unfold State.closeNow
  split
  · next hl => exact (s.closeInterval_closes hl ..).toKept
  · exact .refl s

theorem State.nominalEndReached_safe (s : State) : Safe s s.nominalEndReached := by
  unfold State.nominalEndReached
  repeat' split
  · exact s.closeNow_safe
  · exact (s.passToSec_safe _).trans (State.closeNow_safe _)
  all_goals exact .refl s

theorem State.clockStops_safe (s : State) : Safe s s.clockStops := by
  unfold State.clockStops
  split
  · exact (s.passToSec_safe _).trans (State.setClock_quiet_safe _ rfl id)
  · exact .refl s

theorem State.storeWritten_safe (s : State) (agrees : Bool) : Safe s (s.storeWritten agrees) := by
  have written : Safe s (s.setTables (s.tables.written agrees)) := by
    unfold TableStore.written
    split
    · exact s.setTables_safe rfl fun h => h.2
    · exact s.setTables_safe rfl fun h => h.2
  unfold State.storeWritten
  split
  · dsimp only
    split
    · exact written
    · exact written.trans (State.raise_safe ..)
  · exact .refl s

/-! ## What falls due (log 3) -/

theorem forEach_safe {n : Nat} {f : Fin n → State → State} (h : ∀ i s, Safe s (f i s)) (s : State) : Safe s (forEach f s) :=
  forEach_keeps Safe Safe.refl Safe.trans f h s

theorem Safe.ite {c : Prop} [Decidable c] (h : Safe s t) (k : Safe s u) : Safe s (if c then t else u) := by
  split
  · exact h
  · exact k

theorem Safe.andWhen {c : Prop} [Decidable c] (h : Safe s t) (k : Safe t u) : Safe s (if c then u else t) := .ite (h.trans k) h

theorem State.takeDue_safe (s : State) : Safe s s.takeDue := by
  unfold State.takeDue
  extract_lets s1 s2 s3 s4 s5 s6 s7 s8 s9
  have loss : Safe s s1 := .andWhen (.refl s) s.lossExpired_safe
  have stall : Safe s s2 := loss.trans (forEach_safe (fun m s => .andWhen (.refl s) (s.stallExpired_safe m)) s1)
  have stale : Safe s s3 := stall.trans (forEach_safe (fun r s => .andWhen (.refl s) (s.staleExpired_safe r)) s2)
  have cv : Safe s s4 := stale.andWhen s3.cvStaleExpired_safe
  have answer : Safe s s5 := cv.trans (forEach_safe (fun v s => .andWhen (.refl s) (s.answerExpired_safe v)) s4)
  have travel : Safe s s6 := answer.trans (forEach_safe (fun v s => .andWhen (.refl s) (s.travelExpired_safe v)) s5)
  have review : Safe s s7 := travel.trans (forEach_safe (fun d s => .andWhen (.refl s) (s.reviewDone_safe d)) s6)
  have slot : Safe s s8 := review.andWhen s7.slotBoundary_safe
  have close : Safe s s9 := slot.andWhen s8.nominalEndReached_safe
  exact close.andWhen s9.clockStops_safe

theorem State.whenOn_safe (s : State) {f : State → State} (h : Safe s (f s)) : Safe s (s.whenOn f) := .ite h (.refl s)

theorem State.tick_safe (s : State) : Safe s s.tick := s.whenOn_safe ((s.passMs_safe 1).trans (State.takeDue_safe _))

/-! ## What falls due keeps the time (log 3) -/

theorem timerBy_some {n k : Nat} (h : timerBy (some n) k = true) : n ≤ k := of_decide_eq_true h

theorem State.lossExpired_kept (s : State) (h : s.loop.lossExpiry ≤ s.timebase) : Kept s s.lossExpired := by
  unfold State.lossExpired
  split
  · exact .refl s
  · exact (s.passTo_kept h).trans (State.becomeLost_quiet _).toKept

theorem State.stallExpired_kept (s : State) (m : Fin 12) (h : s.due (s.live.bind fun b => s.stallExpiry b m) = true) :
    Kept s (s.stallExpired m) := by
  unfold State.stallExpired
  split
  · next b hl =>
    split
    · next e he =>
      rw [hl, Option.bind_some, he] at h
      exact (s.passTo_kept (timerBy_some h)).trans ((s.passTo e).enterStalled_calm (fit := b.fits) m).toKept
    · exact .refl s
  · exact .refl s

theorem State.staleExpired_kept (s : State) (r : Fin 25)
    (h : s.due (s.live.bind fun b => (s.staleRec r).staleExpiry b.yard.pointStale) = true) : Kept s (s.staleExpired r) := by
  unfold State.staleExpired
  split
  · next b hl =>
    split
    · next e he =>
      rw [hl, Option.bind_some, he] at h
      exact (s.passTo_kept (timerBy_some h)).trans ((s.passTo e).goStale_calm (fit := b.fits) r).toKept
    · exact .refl s
  · exact .refl s

theorem State.cvStaleExpired_kept (s : State) (h : s.due (s.live.bind fun b => s.calorimeter.staleExpiry b.yard.cvStale) = true) :
    Kept s s.cvStaleExpired := by
  unfold State.cvStaleExpired
  split
  · next b hl =>
    split
    · next e he =>
      rw [hl, Option.bind_some, he] at h
      exact (s.passTo_kept (timerBy_some h)).trans ((s.passTo e).goCvStale_calm (fit := b.fits)).toKept
    · exact .refl s
  · exact .refl s

theorem ValveSteady.settled_kept (h : ValveSteady fit s t) : Kept s t.settled :=
  h.calm.toKept.trans (t.settled_calm (fit := fit)).toKept

theorem State.answerExpired_kept (s : State) (v : Fin 8) (h : s.due s.valves[v].answerTimer = true) : Kept s (s.answerExpired v) := by
  unfold State.answerExpired
  split
  · next e he =>
    rw [he] at h
    exact (s.passTo_kept (timerBy_some h)).trans (State.missedAnswer_steady (fit := fun _ => true) _ v .noAnswer).settled_kept
  · exact .refl s

theorem State.travelExpired_kept (s : State) (v : Fin 8) (h : s.due s.valves[v].travelTimer = true) : Kept s (s.travelExpired v) := by
  unfold State.travelExpired
  split
  · next e he =>
    rw [he] at h
    exact (s.passTo_kept (timerBy_some h)).trans (State.endStuck_steady (fit := fun _ => true) _ v .travelTimeout).settled_kept
  · exact .refl s

theorem State.reviewDone_kept (s : State) (d : Fin 6) (h : s.due s.districts[d].reviewTimer = true) : Kept s (s.reviewDone d) := by
  unfold State.reviewDone
  split
  · next b e _ he =>
    rw [he] at h
    split
    · exact (s.passTo_kept (timerBy_some h)).trans (State.reviewExpired_calm (fit := b.fits) (s.passTo e) b d).toKept
    · exact .refl s
  · exact .refl s

theorem State.slotBoundary_kept (s : State) (h : s.clock.slotDue = true) : Kept s s.slotBoundary := by
  unfold State.slotBoundary
  rw [if_pos h]
  exact (s.giveSlot_calm (fit := fun _ => true)).toKept

theorem State.nominalEndReached_kept (s : State) (h : timerBy s.nominalEnd s.clock.totalSec = true) : Kept s s.nominalEndReached := by
  unfold State.nominalEndReached
  split
  · next e he =>
    rw [he] at h
    split
    · rw [if_pos (timerBy_some h)]
      exact s.closeNow_kept
    · exact .refl s
  · exact .refl s

theorem State.clockStops_kept (s : State) (h : s.clock.atLast = true) : Kept s s.clockStops := by
  have passed : lastTotal * 1000 - s.clock.totalMs = 0 := by
    simp only [Clock.atLast, Bool.and_eq_true, decide_eq_true_eq] at h
    obtain ⟨hday, hsec⟩ := h
    refine Nat.sub_eq_zero_of_le (Nat.le_trans (Nat.mul_le_mul_right _ ?_) (Nat.le_add_right ..))
    exact Nat.add_le_add (Nat.mul_le_mul_right _ hday) hsec
  unfold State.clockStops
  split
  · rw [State.passToSec, passed]
    exact s.passMs_zero.trans (State.setClock_calm (fit := fun _ => true) (c := { (s.passMs 0).clock with advancing := false }) _ rfl id).toKept
  · exact .refl s

theorem Kept.andWhen {c : Prop} [Decidable c] (h : Kept s t) (k : c → Kept t u) : Kept s (if c then u else t) := by
  split
  · next hc => exact h.trans (k hc)
  · exact h

theorem forEach_kept {n : Nat} {f : Fin n → State → State} (h : ∀ i s, Kept s (f i s)) (s : State) : Kept s (forEach f s) :=
  forEach_keeps Kept Kept.refl Kept.trans f h s

theorem State.takeDue_kept (s : State) : Kept s s.takeDue := by
  unfold State.takeDue
  extract_lets s1 s2 s3 s4 s5 s6 s7 s8 s9
  have loss : Kept s s1 := .andWhen (.refl s) fun h => s.lossExpired_kept (of_decide_eq_true (Bool.and_eq_true_iff.1 h).2)
  have stall : Kept s s2 := loss.trans (forEach_kept (fun m s => .andWhen (.refl s) (s.stallExpired_kept m)) s1)
  have stale : Kept s s3 := stall.trans (forEach_kept (fun r s => .andWhen (.refl s) (s.staleExpired_kept r)) s2)
  have cv : Kept s s4 := stale.andWhen s3.cvStaleExpired_kept
  have answer : Kept s s5 := cv.trans (forEach_kept (fun v s => .andWhen (.refl s) (s.answerExpired_kept v)) s4)
  have travel : Kept s s6 := answer.trans (forEach_kept (fun v s => .andWhen (.refl s) (s.travelExpired_kept v)) s5)
  have review : Kept s s7 := travel.trans (forEach_kept (fun d s => .andWhen (.refl s) (s.reviewDone_kept d)) s6)
  have slot : Kept s s8 := review.andWhen s7.slotBoundary_kept
  have close : Kept s s9 := slot.andWhen fun h => s8.nominalEndReached_kept (Bool.and_eq_true_iff.1 h).2
  exact close.andWhen fun h => s9.clockStops_kept (Bool.and_eq_true_iff.1 h).2

/-- Settles O1: the step is by definition the front command on the state with the rest of the queue. -/
theorem stepRunsFront : Obligations.StepRunsFront := fun _ _ _ => rfl

/-- Settles O2, by what each of the things that fall due keeps. -/
theorem idleStep : Obligations.IdleStep := by
  intro s hq
  have hstep : step s = .next s.tick := by rw [step, hq]
  rw [hstep, State.tick, State.whenOn]
  constructor
  · intro hoff
    rw [if_neg hoff]
  · intro hon
    rw [if_pos hon]
    have kept := (s.passMs 1).takeDue_kept
    exact ⟨_, rfl, kept.timebase, kept.pending.trans hq, kept.power.trans hon, kept.own⟩

end Sys2Proof.Machine


/-! The directives, the frames and the commands keep every invariant, and so does the step: the statements of the families of invariants. -/

namespace Sys2Proof.Machine

variable {fit : Fin 8 → Bool} {s t u : State} {b : Bank}

/-! ## The acts of the directives (Table 36) -/

theorem State.withBank_safe {f : Bank → Act} (h : ∀ b, s.live = some b → Safe s (f b).1) : Safe s (s.withBank f).1 := by
  unfold State.withBank
  split
  · next hl => exact h _ hl
  · exact .refl s

theorem State.actLoadSegment_safe (s : State) (ps : List Byte) : Safe s (s.actLoadSegment ps).1 := by
  unfold State.actLoadSegment
  dsimp only
  split
  · exact .refl s
  next hc =>
    split
    · exact s.setTables_safe rfl fun _ h => absurd h hc
    · exact .refl s

/-- R150: a bank that COMMIT finds nothing broken in breaks no condition. -/
theorem State.broken_of_commitBreak (h : s.commitBreak = none) : s.tables.pending.broken s.own = none := (Option.or_eq_none_iff.1 h).2

theorem State.actCommit_safe (s : State) : Safe s s.actCommit.1 := by
  unfold State.actCommit
  split
  · exact .refl s
  · split
    · exact .refl s
    · next h => exact s.commitPassed_safe (State.broken_of_commitBreak h)

theorem State.actDiscard_safe (s : State) : Safe s s.actDiscard.1 := by
  have discard : s.tables.discard.live = s.tables.live ∧ s.tables.discard.committed = false := by
    unfold TableStore.discard
    split <;> exact ⟨rfl, rfl⟩
  exact s.setTables_safe discard.1 fun _ hc => nomatch hc.symm.trans discard.2

theorem State.actReadTable_safe (s : State) (ps : List Byte) : Safe s (s.actReadTable ps).1 := by
  have bank (k t first n : Nat) (b : Bank) : Safe s (s.readBank k t first n b).1 := by
    unfold State.readBank
    split <;> exact .refl s
  unfold State.actReadTable
  dsimp only
  split
  · exact State.withBank_safe fun _ _ => bank ..
  · exact bank ..
  · exact .refl s

theorem State.readRecord_safe (s : State) (r : IntervalRecord) : Safe s (s.readRecord r).1 := { Safe.refl s with }

theorem State.actReadInterval_safe (s : State) (q : Nat) : Safe s (s.actReadInterval q).1 := by
  unfold State.actReadInterval
  split
  · split <;> exact .refl s
  · split
    · exact s.readRecord_safe _
    · split <;> exact .refl s

theorem State.actReadNext_safe (s : State) : Safe s s.actReadNext.1 := by
  unfold State.actReadNext
  dsimp only
  split
  · split
    · exact .refl s
    · exact s.readRecord_safe _
  · split
    · exact s.readRecord_safe _
    · split <;> exact .refl s

theorem State.actReadDay_safe (s : State) (g : Nat) : Safe s (s.actReadDay g).1 := by
  unfold State.actReadDay
  dsimp only
  repeat' split
  all_goals exact .refl s

/-! ### SET CLOCK (R138 to R140) -/

theorem State.clockTo_safe (s : State) (hl : s.live = some b) {t : WallTime} (hd : t.day ≤ Config.lastDay)
    (hs : t.sec ≤ Config.lastSecond) : Safe s (s.clockTo t) := by
  have set : Safe s (s.setClock (s.clock.setTo t)) := by
    refine { Safe.refl s with clock := fun _ => Clock.setTo_ok s.clock hd hs, interval := fun h hon => ⟨(h hon).1, fun hrun => ?_⟩ }
    have hrun : s.live.isSome = false := hrun
    rw [hl] at hrun
    exact nomatch hrun
  exact (set.trans (State.enterTrigger_safe ..)).trans (State.settled_safe _)

theorem State.clockTo_live (s : State) (t : WallTime) : (s.clockTo t).live = s.live :=
  ((State.enterTrigger_calm (fit := fun _ => true) (s.setClock (s.clock.setTo t)) .slot).trans (State.settled_calm _)).live

theorem State.applyStep_safe (s : State) (hl : s.live = some b) (before : Clock) (t : WallTime) : Safe s (s.applyStep b before t) := by
  unfold State.applyStep
  split
  · exact (s.mapInterval_calm (fit := b.fits) _).safe hl
  · exact .refl s
  · have flagged := (s.yardFlag_calm (fit := b.fits) { YardFlags.none with clockAdjusted := true }).safe hl
    unfold State.adjustTo
    dsimp only
    repeat' split
    · exact flagged.trans (State.closeInterval_safe (s.yardFlag { YardFlags.none with clockAdjusted := true }) hl ..)
    all_goals exact flagged
  · exact s.closeInterval_safe hl ..

theorem State.actSetClock_safe (s : State) {t : WallTime} (hd : t.day ≤ Config.lastDay) : Safe s (s.actSetClock t).1 := by
  refine State.withBank_safe fun b hl => ?_
  split
  · exact .refl s
  · next h =>
    obtain ⟨hsec, -⟩ := not_or.1 h
    exact (s.clockTo_safe hl hd (Nat.le_of_not_lt hsec)).trans (State.applyStep_safe _ ((s.clockTo_live t).trans hl) ..)

/-! ### Valves, permissions and roles -/

theorem State.deskDemand_safe (s : State) (hl : s.live = some b) (v : Fin 8) (d : Dir) : Safe s (s.deskDemand v d).1 := by
  have offered := (s.offered_steady (fit := b.fits) v (d := ⟨d, .desk⟩) nofun).calm.safe hl
  unfold State.deskDemand
  unfold State.offered at offered
  split
  · exact .refl s
  · next h =>
    rw [h] at offered
    exact offered.trans (State.settled_safe _)

theorem State.actValve_safe (s : State) (n dir : Nat) : Safe s (s.actValve n dir).1 := by
  refine State.withBank_safe fun b hl => ?_
  repeat' split
  · exact .refl s
  · exact s.deskDemand_safe hl ..
  · exact .refl s

theorem Bank.fitted_of_fittedHolder {n : Nat} {h : Fin 4} (k : b.fittedHolder n = some h) : b.fitted h = true :=
  (Option.filter_eq_some_iff.1 k).2

theorem State.permit_calm (s : State) (h : Fin 4) (sd : Side) : Calm fit s (s.permit h sd) :=
  (((s.setPerm_granted_calm _).trans (State.mapRole_calm ..)).trans (State.enterTrigger_calm ..)).trans (State.settled_calm _)

theorem State.actSetPermit_safe (s : State) (n side : Nat) : Safe s (s.actSetPermit n side).1 := by
  refine State.withBank_safe fun b hl => ?_
  repeat' split
  · exact .refl s
  · exact (s.permit_calm ..).safe hl
  all_goals exact .refl s

theorem State.actWithdrawPermit_safe (s : State) (n side : Nat) : Safe s (s.actWithdrawPermit n side).1 := by
  refine State.withBank_safe fun b hl => ?_
  split
  · next h sd hh _ =>
    have hf := Bank.fits_valveOf (Bank.fitted_of_fittedHolder hh) sd
    exact ((s.withdraw_steady hf .desk _).calm.trans (State.settled_calm _)).safe hl
  · exact .refl s

theorem State.actHoldRole_safe (s : State) (n : Nat) : Safe s (s.actHoldRole n).1 := by
  refine State.withBank_safe fun b hl => ?_
  split
  · repeat' split
    · exact .refl s
    · exact .refl s
    · exact (s.mapRole_calm _ RoleRec.hold (fit := b.fits)).safe hl
  · exact .refl s

theorem State.release_calm (s : State) (h : Fin 4) : Calm fit s (s.release h) :=
  .ite (((s.mapRole_calm ..).trans (State.enterTrigger_calm ..)).trans (State.settled_calm _)) (.refl s)

theorem State.actReleaseRole_safe (s : State) (n : Nat) : Safe s (s.actReleaseRole n).1 := by
  refine State.withBank_safe fun b hl => ?_
  split
  · exact (s.release_calm _).safe hl
  · exact .refl s

theorem State.actPresetLift_safe (s : State) (n count : Nat) : Safe s (s.actPresetLift n count).1 := by
  refine State.withBank_safe fun b hl => ?_
  repeat' split
  · next hh _ => exact (s.preset_calm (Bank.fitted_of_fittedHolder hh) count).safe hl
  all_goals exact .refl s

theorem State.actTrim_safe (s : State) (n trim : Nat) : Safe s (s.actTrim n trim).1 := by
  refine State.withBank_safe fun b hl => ?_
  split
  · next d _ =>
    exact (s.setDistrict_calm_of_runs (fit := b.fits) d (r := { s.districts[d] with trim := min trim b.districts[d].trimMax }) rfl rfl
      id).safe hl
  · exact .refl s

theorem State.actClearAttention_safe (s : State) (n seen : Nat) : Safe s (s.actClearAttention n seen).1 := by
  unfold State.actClearAttention
  split
  · next h => exact { Safe.refl s with attn := Attention.clear_ok ⟨n, h⟩ seen, order := Attention.clear_inOrder ⟨n, h⟩ seen }
  · exact .refl s

theorem State.actRestart_safe (s : State) : Safe s s.actRestart.1 := State.withBank_safe fun _ hl => s.restarted_safe hl

/-! ## Directives as bodies (R168, R172, R183) -/

theorem State.respond_safe (s : State) (code ref : Byte) (r : Reply) : Safe s (s.respond code ref r) :=
  { Safe.refl s with queue := (·.congr rfl rfl) }

theorem State.directive_safe {code ref : Byte} {ok : Bool} {act : State → Act} (h : Safe s (act s).1) :
    Safe s (s.directive code ref ok act) := by
  unfold State.directive
  repeat' split
  · exact s.raise_safe _
  · exact h.trans (State.respond_safe ..)
  · exact s.respond_safe ..

/-- The day of SET CLOCK is spelt in two bytes. -/
theorem param_two_le (ws : List Nat) (ps : List Byte) : param (2 :: ws) ps 0 ≤ Config.lastDay := by
  have spelt : ∀ cs : List Byte, cs.length ≤ 2 → natOf cs ≤ 65535
    | [], _ => Nat.zero_le _
    | [c], _ => by simp only [natOf, List.foldl_cons, List.foldl_nil]; omega
    | [c, d], _ => by simp only [natOf, List.foldl_cons, List.foldl_nil]; omega
    | _ :: _ :: _ :: _, h => absurd h (by simp)
  exact spelt _ (List.length_take_le ..)

theorem State.takeSetClock_safe (s : State) (ref : Byte) (ps : List Byte) : Safe s (s.takeSetClock ref ps) :=
  State.directive_safe (s.actSetClock_safe (param_two_le [3] ps))

theorem State.takeByCode_safe (s : State) (code ref : Byte) (ps : List Byte) : Safe s (s.takeByCode code ref ps) := by
  have reading {f : Bank → Act} (h : ∀ b, (f b).1 = s) : Safe s (s.withBank f).1 :=
    State.withBank_safe fun b _ => (h b).symm ▸ .refl s
  unfold State.takeByCode
  split
  · exact State.directive_safe (s.actLoadSegment_safe ps)
  · exact State.directive_safe s.actCommit_safe
  · exact State.directive_safe s.actDiscard_safe
  · exact State.directive_safe (s.actReadTable_safe ps)
  · exact State.directive_safe (s.actReadInterval_safe _)
  · exact State.directive_safe s.actReadNext_safe
  · exact State.directive_safe (s.actReadDay_safe _)
  · exact State.directive_safe (reading fun b => by split <;> rfl)
  · exact State.directive_safe (reading fun b => by split <;> rfl)
  · exact State.directive_safe (reading fun b => by split <;> rfl)
  · exact State.directive_safe (reading fun b => by split <;> rfl)
  · exact State.directive_safe (reading fun b => by split <;> rfl)
  · exact s.takeSetClock_safe ref ps
  · exact State.directive_safe (s.actValve_safe ..)
  · exact State.directive_safe (s.actSetPermit_safe ..)
  · exact State.directive_safe (s.actWithdrawPermit_safe ..)
  · exact State.directive_safe (s.actHoldRole_safe _)
  · exact State.directive_safe (s.actReleaseRole_safe _)
  · exact State.directive_safe (s.actPresetLift_safe ..)
  · exact State.directive_safe (s.actTrim_safe ..)
  · exact State.directive_safe (s.actClearAttention_safe ..)
  · exact State.directive_safe s.actRestart_safe
  · exact State.directive_safe (.refl s)

theorem State.takeDirective_safe (s : State) (body : List Byte) : Safe s (s.takeDirective body) := by
  unfold State.takeDirective
  split
  · exact s.takeByCode_safe ..
  · exact State.directive_safe (.refl s)

/-! ## Frames (R158, R161) -/

theorem State.receiveDirective_safe (s : State) (dest src : Byte) (body : List Byte) : Safe s (s.receiveDirective dest src body) := by
  unfold State.receiveDirective
  dsimp only
  repeat' split
  · exact s.absorb_safe.trans (State.takeDirective_safe ..)
  · exact s.absorb_safe
  · exact (s.forward_safe _).trans (State.takeSetClock_safe ..)
  all_goals exact s.forward_safe _

theorem State.receive_safe (s : State) (f : Frame) : Safe s (s.receive f) := by
  unfold State.receive
  split
  · exact s.receiveHead_safe ..
  · exact s.receiveTail_safe ..
  · exact s.receiveReport_safe ..
  · exact s.receiveAnswer_safe ..
  · exact s.receiveDirective_safe ..
  · exact s.forward_safe _

theorem State.take_safe (s : State) (f : LineFrame) : Safe s (s.take f) := by
  cases f with
  | valid f => exact s.receive_safe f
  | bad cs => exact s.badFrame_safe cs

theorem State.hear_safe (s : State) (cs : List Byte) : Safe s (s.hear cs) := by
  unfold State.hear
  generalize (heard cs).1 = fs
  induction fs generalizing s with
  | nil => exact .refl s
  | cons f fs ih => exact (s.take_safe f).trans (ih _)

theorem State.hearGap_safe (s : State) (cs : List Byte) : Safe s (s.hearGap cs) :=
  .ite (s.hear_safe cs) ((s.hear_safe cs).trans (State.badFrame_safe ..))

theorem State.whole_safe {act : State → State} (s : State) (f : Frame) (h : Safe s (act s)) : Safe s (s.whole f act) :=
  .ite h (s.hear_safe _)

/-! ## Commands -/

/-- Every invariant holds of the state of an outcome. -/
def State.SafeTo (s : State) (o : Host.Outcome State Fault Refusal) : Prop := ∀ t, o = .next t → Safe s t

theorem State.SafeTo.next (h : Safe s t) : s.SafeTo (.next t) := by
  rintro _ ⟨rfl⟩
  exact h

theorem State.SafeTo.whenOn {f : State → State} (h : Safe s (f s)) : s.SafeTo (.next (s.whenOn f)) := .next (s.whenOn_safe h)

/-- The same for a frame, whatever its length. -/
theorem State.SafeTo.whole {f : State → Frame} {act : State → State} (h : Safe s (act s)) :
    s.SafeTo (.next (s.whenOn fun s => s.whole (f s) act)) := .whenOn (s.whole_safe _ h)

theorem execDirectiveUnknown_safe (s : State) (body : List Byte) : s.SafeTo (execDirectiveUnknown body s) :=
  .whole (s.absorb_safe.trans (State.takeDirective_safe ..))

/-- A row of Table 31 is DIRECTIVE UNKNOWN with the body that begins with its code. -/
theorem execDirective_safe (s : State) (code ref : Byte) (ps : List Byte) : s.SafeTo (execDirectiveUnknown (code :: ref :: ps) s) :=
  execDirectiveUnknown_safe s _

theorem stopped_cut_safe (s : State) {p : Power} (hp : p ≠ .on) (logCut : Bool) (savesCut : List (Fin 4)) :
    Safe s (s.stopped p (s.nv.cut logCut savesCut)) :=
  s.stopped_safe hp fun h => Nonvolatile.cut_logs h.2.1 h.2.2 ..

theorem exec_safe (s : State) (i : Instr) : s.SafeTo (exec i s) := by
  cases i with
  | powerOn straps copySound => exact .next (s.powerOn_safe ..)
  | powerLoss => exact .next (stopped_cut_safe s (p := .unpowered) (fun h => nomatch h) ..)
  | resetPinHeld => exact .next (stopped_cut_safe s (p := .resetHeld) (fun h => nomatch h) ..)
  | scanHead => exact .whenOn (s.receiveHead_safe ..)
  | scanTail => exact .whole (s.receiveTail_safe ..)
  | badFrameReceived => exact .whenOn (s.hear_safe _)
  | characterGap => exact .whenOn (s.hearGap_safe _)
  | frameForwarded => exact .whole (s.receive_safe _)
  | throughFrameSent => exact .whenOn (s.throughSent_safe _)
  | liftReport => exact .whole (s.receiveReport_safe ..)
  | meterReport | pointReport | barometerReport | calorimeterReport | valvePositionReport | governorReport =>
    exact .whenOn (s.receiveReport_safe ..)
  | answerSelected | answerDone | answerRefused => exact .whenOn (s.receiveAnswer_safe ..)
  | quietGapElapsed => exact .whenOn s.lineWentQuiet_safe
  | ownFrameSent => exact .whenOn s.ownSent_safe
  | lossTimerExpiry => exact .whenOn s.lossExpired_safe
  | stallTimerExpiry m => exact .whenOn (s.stallExpired_safe m)
  | staleTimerExpiry r => exact .whenOn (s.staleExpired_safe r)
  | cvStaleTimerExpiry => exact .whenOn s.cvStaleExpired_safe
  | answerTimerExpiry v => exact .whenOn (s.answerExpired_safe v)
  | travelTimerExpiry v => exact .whenOn (s.travelExpired_safe v)
  | reviewTimerExpiry d => exact .whenOn (s.reviewDone_safe d)
  | slotBoundary => exact .whenOn s.slotBoundary_safe
  | nominalEndReached => exact .whenOn s.nominalEndReached_safe
  | storeWriteComplete agrees => exact .whenOn (s.storeWritten_safe agrees)
  | clockStopsAdvancing => exact .whenOn s.clockStops_safe
  | directiveUnknown body => exact execDirectiveUnknown_safe s body
  | loadSegment ref => exact execDirective_safe s 1 ref _
  | commit ref => exact execDirective_safe s 2 ref _
  | discard ref => exact execDirective_safe s 3 ref _
  | readTable ref => exact execDirective_safe s 4 ref _
  | readInterval ref => exact execDirective_safe s 5 ref _
  | readNext ref => exact execDirective_safe s 6 ref _
  | readDay ref => exact execDirective_safe s 7 ref _
  | readHolder ref => exact execDirective_safe s 8 ref _
  | readValve ref => exact execDirective_safe s 9 ref _
  | readMeter ref => exact execDirective_safe s 10 ref _
  | readDistrict ref => exact execDirective_safe s 11 ref _
  | readPoint ref => exact execDirective_safe s 12 ref _
  | setClock broadcast ref ps =>
    cases broadcast with
    | false => exact execDirective_safe s 13 ref _
    | true => exact .whole (s.receiveDirective_safe ..)
  | valve ref => exact execDirective_safe s 14 ref _
  | setPermit ref => exact execDirective_safe s 15 ref _
  | withdrawPermit ref => exact execDirective_safe s 16 ref _
  | holdRole ref => exact execDirective_safe s 17 ref _
  | releaseRole ref => exact execDirective_safe s 18 ref _
  | presetLift ref => exact execDirective_safe s 19 ref _
  | trim ref => exact execDirective_safe s 20 ref _
  | clearAttention ref => exact execDirective_safe s 21 ref _
  | restart ref => exact execDirective_safe s 22 ref _
  | directiveDiscarded src body =>
    exact .whole (.ite (s.absorb_safe.trans (State.takeDirective_safe ..)) s.absorb_safe)

theorem step_safe (s : State) : s.SafeTo (step s) := by
  intro t ht
  unfold step at ht
  split at ht
  · have popped : Safe s (s.setPending ‹_›) := { Safe.refl s with }
    exact popped.trans (exec_safe _ _ t ht)
  · exact State.SafeTo.next s.tick_safe t ht

/-! ## The statements -/

/-- Settles O4, by what every command keeps (`step_safe`). -/
theorem clockKept : Obligations.ClockKept := fun s t hc ht => (step_safe s t ht).clock hc

/-- Settles O5, by what every command keeps (`step_safe`). -/
theorem logsKept : Obligations.LogsKept := fun s t h ht => (step_safe s t ht).logs h

/-- Settles O6, by what every command keeps (`step_safe`). -/
theorem boundsKept : Obligations.BoundsKept := fun s t hline hprog ht => ⟨(step_safe s t ht).line hline, (step_safe s t ht).prog hprog⟩

/-- Settles O7, by what every command keeps (`step_safe`). -/
theorem queueKept : Obligations.QueueKept := fun s t h ht => (step_safe s t ht).queue h

/-- Settles O8, by what every command keeps (`step_safe`). -/
theorem attentionKept : Obligations.AttentionKept := fun s t ht => ⟨(step_safe s t ht).attn, (step_safe s t ht).order⟩

/-- Settles O10, by what every command keeps (`step_safe`). -/
theorem intervalKept : Obligations.IntervalKept := fun s t h ht => (step_safe s t ht).interval h

/-- Settles O11, by what every command keeps (`step_safe`). -/
theorem permitsKept : Obligations.PermitsKept := fun s t h ht => (step_safe s t ht).permit h

/-- Settles O12, by what every command keeps (`step_safe`). -/
theorem runsKept : Obligations.RunsKept := fun s t h ht => (step_safe s t ht).runs h

end Sys2Proof.Machine


/-! The conditions of COMMIT, table by table (R150): a bank breaks none if and only if it is sound. -/

namespace Sys2Proof.Machine

variable {b : Bank} {own : Nat}

/-! ## The whole check as one condition for each entry -/

theorem firstBreak_none {t i : Nat} {cs : List Cond} : firstBreak t i cs = none ↔ ∀ c ∈ cs, c.holds = true := by
  simp [firstBreak]

theorem tableBreak_none {t n : Nat} {conds : Nat → List Cond} :
    tableBreak t n conds = none ↔ ∀ i < n, ∀ c ∈ conds i, c.holds = true := by
  simp only [tableBreak, List.findSome?_eq_none_iff, List.mem_range, firstBreak_none]

/-- Every condition of a list holds. -/
def AllHold (cs : List Cond) : Prop := ∀ c ∈ cs, c.holds = true

@[simp] theorem allHold_nil : AllHold [] ↔ True := by simp [AllHold]
@[simp] theorem allHold_cons (c : Cond) (cs : List Cond) : AllHold (c :: cs) ↔ c.holds = true ∧ AllHold cs := by simp [AllHold]
@[simp] theorem allHold_append (cs ds : List Cond) : AllHold (cs ++ ds) ↔ AllHold cs ∧ AllHold ds := by
  simp [AllHold, or_imp, forall_and]
@[simp] theorem Cond.listed_holds (r n : Nat) (h : Bool) : (Cond.listed r n h).holds = h := rfl
@[simp] theorem Cond.prose_holds (r n : Nat) (h : Bool) : (Cond.prose r n h).holds = h := rfl
@[simp] theorem within_iff {lo hi x : Nat} : within lo hi x = true ↔ lo ≤ x ∧ x ≤ hi := by simp [within]

theorem Bank.broken_none : b.broken own = none ↔
    (∀ i < 40, AllHold (b.checkMap own i)) ∧ (∀ i < 8, AllHold (b.checkSpare own i)) ∧ (∀ i < 4, AllHold (b.checkHolder i)) ∧
    (∀ i < 64, AllHold (b.checkGeometry i)) ∧ (∀ i < 12, AllHold (b.checkMeter i)) ∧ (∀ i < 221, AllHold (b.checkCorrection i)) ∧
    (∀ i < 48, AllHold (b.checkSlot i)) ∧ (∀ i < 2, AllHold (b.checkOrder i)) ∧ (∀ i < 6, AllHold (b.checkDistrict i)) ∧
    AllHold b.checkYard ∧ ∀ i < 74, AllHold (b.checkAttention i) := by
  unfold Bank.broken
  simp only [List.findSome?_eq_none_iff, List.forall_mem_cons, tableBreak_none, Bank.conds, entryCount]
  simp [AllHold]

/-- A table is checked at the places of its entries. -/
theorem forall_lt_iff {n : Nat} {p : Nat → Prop} : (∀ i < n, p i) ↔ ∀ i : Fin n, p i :=
  ⟨fun h i => h i i.isLt, fun h i hi => h ⟨i, hi⟩⟩

/-! ## Small tables -/

theorem Bank.checkMeter_iff (m : Fin 12) : AllHold (b.checkMeter m) ↔ (b.meters[m].inUse = true → b.meters[m].Sound) := by
  simp only [Bank.checkMeter, Fin.getElem_fin, Fin.is_lt, getElem?_pos]
  split
  · next h =>
    simp [MeterEntry.Sound, h]
    omega
  · next h => simp [h]

theorem Bank.checkCorrection_iff (i : Fin 221) : AllHold (b.checkCorrection i) ↔ 7000 ≤ b.correction[i] ∧ b.correction[i] ≤ 13000 := by
  simp [Bank.checkCorrection]

theorem Bank.checkSlot_iff (i : Fin 48) : AllHold (b.checkSlot i) ↔ ∀ h : Fin 4, b.fitted h = true → b.slots[i][h] ≤ 3 := by
  simp only [Bank.checkSlot, Fin.getElem_fin, Fin.is_lt, getElem?_pos]
  simp [Decidable.imp_iff_not_or]

theorem Bank.checkYard_iff : AllHold b.checkYard ↔ b.yard.Sound := by
  simp [Bank.checkYard, YardEntry.Sound]
  omega

theorem Bank.checkAttention_iff (n : Fin 74) : AllHold (b.checkAttention n) ↔ b.attention[n].enabled ≤ 1 ∧ b.attention[n].cls ≤ 2 := by
  simp [Bank.checkAttention]

/-! ## The holder table -/

theorem Vector.toList_three {α : Type} (v : Vector α 3) : v.toList = [v[0], v[1], v[2]] := by
  apply List.ext_getElem
  · simp
  · intro i _ _
    match i with
    | 0 | 1 | 2 => simp

/-- R15: the lifts 2 to 4 that a holder has. -/
theorem HolderEntry.cupList_eq (e : HolderEntry) : e.cupList =
    ([(2, e.cups[0], e.incs[0]), (3, e.cups[1], e.incs[1]), (4, e.cups[2], e.incs[2])] : List (Nat × Nat × Nat)).filter
      fun x => x.1 ≤ e.liftCount := by
  simp only [HolderEntry.cupList, Vector.toList_three, List.zip_cons_cons, List.zip_nil_right, List.zipIdx_cons, List.zipIdx_nil,
    List.filterMap_cons, List.filterMap_nil, List.filter_cons, List.filter_nil, decide_eq_true_eq]
  by_cases h2 : 2 ≤ e.liftCount <;> by_cases h3 : 3 ≤ e.liftCount <;> by_cases h4 : 4 ≤ e.liftCount <;> simp [h2, h3, h4]

/-- Table 1a: the number of lifts. -/
def HolderEntry.LiftsOk (e : HolderEntry) : Prop := 1 ≤ e.lifts ∧ e.lifts ≤ 4 ∧ (e.kind = 1 → e.lifts = 1)

theorem HolderEntry.LiftsOk.liftCount {e : HolderEntry} (h : e.LiftsOk) : e.liftCount = e.lifts := by
  unfold HolderEntry.liftCount HolderEntry.isPiston
  split
  · next hk => exact (h.2.2 (by simpa using hk)).symm
  · rfl

theorem HolderEntry.sound_iff (e : HolderEntry) : e.Sound ↔
    ((e.fitted = 1 ∧ e.kind ≤ 1) ∧ e.LiftsOk ∧ 1 ≤ e.travel ∧ e.travel ≤ 25000) ∧
    (∀ k : Fin 3, k.val + 2 ≤ e.lifts → 1 ≤ e.cups[k] ∧ e.cups[k] ≤ e.travel ∧ e.incs[k] ≤ 3000 ∧ ∀ j, j < k → e.cups[j] < e.cups[k]) ∧
    e.base + ((List.finRange 3).map fun k => if k.val + 2 ≤ e.lifts then e.incs[k] else 0).sum ≤ 3000 ∧
    (2 ≤ e.nBreaks ∧ e.nBreaks ≤ 16) ∧ (e.nDatums ≤ 4 ∧ ∀ k : Fin 4, k.val < e.nDatums → e.datums[k] ≤ e.travel) ∧
    (1 ≤ e.slipTol ∧ e.slipTol ≤ 500 ∧ 5 ≤ e.cupTol ∧ e.cupTol ≤ 200) ∧
    (e.lowStop < e.nearEmpty ∧ e.nearEmpty < e.nearFull ∧ e.nearFull < e.highStop ∧ e.highStop ≤ e.travel) ∧
    (e.rePermit ≤ 25000 ∧ e.changeover ≤ 25000) ∧
    (10 ≤ e.inletTime ∧ e.inletTime ≤ 900 ∧ 10 ≤ e.outletTime ∧ e.outletTime ≤ 900) ∧
    (1 ≤ e.tempPoint ∧ e.tempPoint ≤ 24 ∧ 1 ≤ e.presPoint ∧ e.presPoint ≤ 24) :=
  ⟨fun ⟨⟨hf, hk, hl⟩, ht, hc, hp, hb, hd, htol, hs, hm, htime, hpt⟩ => ⟨⟨⟨hf, hk⟩, hl, ht⟩, hc, hp, hb, hd, htol, hs, hm, htime, hpt⟩,
    fun ⟨⟨⟨hf, hk⟩, hl, ht⟩, hc, hp, hb, hd, htol, hs, hm, htime, hpt⟩ => ⟨⟨hf, hk, hl⟩, ht, hc, hp, hb, hd, htol, hs, hm, htime, hpt⟩⟩

/-- The places of lifts 2 to 4, read one by one. -/
theorem HolderEntry.cups_iff (e : HolderEntry) :
    (∀ k : Fin 3, k.val + 2 ≤ e.lifts → 1 ≤ e.cups[k] ∧ e.cups[k] ≤ e.travel ∧ e.incs[k] ≤ 3000 ∧ ∀ j, j < k → e.cups[j] < e.cups[k]) ↔
    (2 ≤ e.lifts → 1 ≤ e.cups[0] ∧ e.cups[0] ≤ e.travel ∧ e.incs[0] ≤ 3000) ∧
    (3 ≤ e.lifts → 1 ≤ e.cups[1] ∧ e.cups[1] ≤ e.travel ∧ e.incs[1] ≤ 3000 ∧ e.cups[0] < e.cups[1]) ∧
    (4 ≤ e.lifts → 1 ≤ e.cups[2] ∧ e.cups[2] ≤ e.travel ∧ e.incs[2] ≤ 3000 ∧ e.cups[0] < e.cups[2] ∧ e.cups[1] < e.cups[2]) := by
  simp [Fin.forall_fin_succ]

/-- The first entries of a table. -/
theorem Vector.take_all {α : Type} {n : Nat} (v : Vector α n) (k : Nat) (p : α → Bool) :
    (v.toList.take k).all p = true ↔ ∀ j : Fin n, j.val < k → p v[j] = true := by
  rw [List.all_eq_true]
  constructor
  · intro h j hj
    refine h _ (List.mem_of_getElem? (i := j.val) ?_)
    simp [hj]
  · intro h x hx
    obtain ⟨j, hj, rfl⟩ := List.getElem_of_mem hx
    obtain ⟨hk, hlt⟩ : j < k ∧ j < n := by simpa [Nat.lt_min] using hj
    simpa using h ⟨j, hlt⟩ hk

theorem HolderEntry.datumList_all (e : HolderEntry) (n : Nat) :
    (e.datumList.all fun x => decide (x ≤ n)) = true ↔ ∀ k : Fin 4, k.val < e.nDatums → e.datums[k] ≤ n := by
  rw [HolderEntry.datumList, Vector.take_all]
  simp only [decide_eq_true_eq]

/-- Table 24, id 3, with the number of lifts known. -/
theorem HolderEntry.checks_iff (e : HolderEntry) (hl : e.LiftsOk) (hf : e.fitted ≠ 0) :
    (strictlyUp e.cupHeights = true ∧ (e.cupHeights.all fun c => decide (c ≤ e.travel)) = true) ∧
      e.base + e.increments.sum ≤ 3000 ∧ (e.datumList.all fun x => decide (x ≤ e.travel)) = true ∧
      strictlyUp [e.lowStop, e.nearEmpty, e.nearFull, e.highStop] = true ∧ e.inRange = true ↔ e.Sound := by
  have hcount := hl.liftCount
  have hsum : ((List.finRange 3).map fun k => if k.val + 2 ≤ e.lifts then e.incs[k] else 0).sum =
      (if 2 ≤ e.lifts then e.incs[0] else 0) + ((if 3 ≤ e.lifts then e.incs[1] else 0) + (if 4 ≤ e.lifts then e.incs[2] else 0)) := rfl
  rw [HolderEntry.sound_iff, HolderEntry.cups_iff, hsum, HolderEntry.datumList_all]
  clear hsum
  simp only [HolderEntry.inRange, HolderEntry.cupHeights, HolderEntry.increments, HolderEntry.cupList_eq, hcount, hl, true_and,
    List.filter_cons, List.filter_nil, decide_eq_true_eq, Bool.and_eq_true, within_iff, List.all_eq_true, strictlyUp]
  generalize (∀ k : Fin 4, k.val < e.nDatums → e.datums[k] ≤ e.travel) = datums
  by_cases hd : datums
  case neg => simp [hd]
  obtain h1 | h2 | h3 | h4 : e.lifts = 1 ∨ e.lifts = 2 ∨ e.lifts = 3 ∨ e.lifts = 4 := by
    obtain ⟨hlo, hhi, -⟩ := hl
    omega
  · simp [h1, hd, strictlyUp]
    omega
  · simp [h2, hd, strictlyUp]
    omega
  · simp [h3, hd, strictlyUp]
    omega
  · simp [h4, hd, strictlyUp]
    omega

theorem HolderEntry.liftsOk_iff (e : HolderEntry) : (if e.isPiston then e.lifts == 1 else within 1 4 e.lifts) = true ↔ e.LiftsOk := by
  unfold HolderEntry.LiftsOk HolderEntry.isPiston
  split
  · next hk =>
    have hk : e.kind = 1 := by simpa using hk
    simp [hk]
    omega
  · next hk =>
    have hk : e.kind ≠ 1 := by simpa using hk
    simp [hk]

theorem Bank.checkHolder_iff (h : Fin 4) : AllHold (b.checkHolder h) ↔ (b.fitted h = true → b.holders[h].Sound) := by
  have checks := b.holders[h].checks_iff
  have lifts (k : b.holders[h].Sound) : b.holders[h].LiftsOk := (b.holders[h].sound_iff.1 k).1.2.1
  simp only [Bank.checkHolder, Bank.fitted, Fin.getElem_fin, Fin.is_lt, getElem?_pos] at *
  generalize b.holders[h.val] = e at *
  split
  · next hf =>
    have hf0 : e.fitted ≠ 0 := by simpa [HolderEntry.isFitted] using hf
    simp only [allHold_cons, allHold_nil, Cond.listed_holds, Cond.prose_holds, HolderEntry.liftsOk_iff, Bool.and_eq_true,
      decide_eq_true_eq, and_true, hf, true_imp_iff]
    exact ⟨fun ⟨hl, k⟩ => (checks hl hf0).1 k, fun k => ⟨lifts k, (checks (lifts k) hf0).2 k⟩⟩
  · next hf => simp [hf]

/-! ## The breakpoints -/

theorem Bank.breakpoints_getElem? {h : Fin 4} (hn : b.holders[h].nBreaks ≤ 16) (j : Nat) : (b.breakpoints h)[j]? =
    if j < b.holders[h].nBreaks then (b.geometry[16 * h.val + j]?).map fun g => (g.height, g.volume) else none := by
  simp only [Bank.breakpoints, List.getElem?_map, List.getElem?_take, List.getElem?_drop, Vector.getElem?_toList]
  split
  · next hj => rw [if_pos (Nat.lt_of_lt_of_le hj hn)]
  · rfl

theorem Bank.breakpoints_length {h : Fin 4} (hn : b.holders[h].nBreaks ≤ 16) : (b.breakpoints h).length = b.holders[h].nBreaks := by
  simp only [Bank.breakpoints, List.length_map, List.length_take, List.length_drop, Vector.length_toList]
  omega

theorem geometryHolds_iff (travel j : Nat) (ps : List (Nat × Nat)) : geometryHolds travel j ps = true ↔
    ∀ p, ps[j]? = some p → (j = 0 → p.1 = 0) ∧ (∀ k q, j = k + 1 → ps[k]? = some q → q.1 < p.1 ∧ q.2 ≤ p.2) ∧
      (j + 1 = ps.length → p.1 = travel) := by
  unfold geometryHolds
  cases hj : ps[j]? with
  | none => simp
  | some p =>
    simp only [Option.some.injEq, forall_eq']
    cases j with
    | zero => simp [Decidable.imp_iff_not_or]
    | succ k =>
      have hk : k < ps.length := by
        have := (List.getElem?_eq_some_iff.1 hj).1
        omega
      have before : (∀ i q, k + 1 = i + 1 → ps[i]? = some q → q.1 < p.1 ∧ q.2 ≤ p.2) ↔ ps[k].1 < p.1 ∧ ps[k].2 ≤ p.2 := by
        constructor
        · exact fun h => h k _ rfl (List.getElem?_eq_getElem hk)
        · rintro h i q hi hq
          obtain rfl : k = i := Nat.succ.inj hi
          rw [List.getElem?_eq_getElem hk] at hq
          exact Option.some.inj hq ▸ h
      rw [before]
      simp [List.getElem?_eq_getElem hk, Decidable.imp_iff_not_or]

/-- Table 24, id 4, holder by holder. -/
theorem Bank.checkGeometry_iff : (∀ i < 64, AllHold (b.checkGeometry i)) ↔ ∀ h : Fin 4, b.fitted h = true → ∀ j < 16,
    geometryHolds b.holders[h].travel j (b.breakpoints h) = true ∧ ∀ p, (b.breakpoints h)[j]? = some p → p.2 ≤ Config.maxVolume := by
  have entry (h : Fin 4) (j : Nat) (hj : j < 16) : AllHold (b.checkGeometry (16 * h.val + j)) ↔ (b.fitted h = true →
      geometryHolds b.holders[h].travel j (b.breakpoints h) = true ∧ ∀ p, (b.breakpoints h)[j]? = some p → p.2 ≤ Config.maxVolume) := by
    have hdiv : (16 * h.val + j) / 16 = h.val := by omega
    have hmod : (16 * h.val + j) % 16 = j := by omega
    have hplace : placeOf 4 (h.val + 1) = some h := placeOf_succ 4 h
    unfold Bank.checkGeometry
    rw [hdiv, hplace, hmod]
    dsimp only
    split
    · next hf => cases (b.breakpoints h)[j]? <;> simp [hf]
    · next hf => simp [hf]
  constructor
  · intro k h hf j hj
    exact (entry h j hj).1 (k _ (by omega)) hf
  · intro k i hi
    have hsplit : 16 * (i / 16) + i % 16 = i := Nat.div_add_mod ..
    rw [← hsplit]
    exact (entry ⟨i / 16, by omega⟩ (i % 16) (Nat.mod_lt _ (by decide))).2 fun hf => k _ hf _ (Nat.mod_lt _ (by decide))

theorem Bank.geometrySound_iff {h : Fin 4} (hlo : 2 ≤ b.holders[h].nBreaks) (hhi : b.holders[h].nBreaks ≤ 16) :
    (∀ j < 16, geometryHolds b.holders[h].travel j (b.breakpoints h) = true ∧
      ∀ p, (b.breakpoints h)[j]? = some p → p.2 ≤ Config.maxVolume) ↔ b.GeometrySound h := by
  have get := b.breakpoints_getElem? hhi
  simp only [geometryHolds_iff, b.breakpoints_length hhi]
  unfold Bank.GeometrySound
  dsimp only
  have at_some {j : Nat} {g : GeoEntry} (hj : j < b.holders[h].nBreaks) (hg : b.geometry[16 * h.val + j]? = some g) :
      (b.breakpoints h)[j]? = some (g.height, g.volume) := by rw [get, if_pos hj, hg]; rfl
  constructor
  · intro k
    refine ⟨fun p hp => ?_, fun p hp => ?_, fun j p q hj hp hq => ?_, fun j p hj hp => ?_⟩
    · exact ((k 0 (by omega)).1 _ (at_some (by omega) hp)).1 rfl
    · exact ((k _ (by omega)).1 _ (at_some (by omega) hp)).2.2 (by omega)
    · exact ((k _ (by omega)).1 _ (at_some hj hq)).2.1 j _ rfl (at_some (by omega) hp)
    · exact (k j (by omega)).2 _ (at_some hj hp)
  · rintro ⟨hfirst, hlast, hrise, hvol⟩ j hj
    have some_at {i : Nat} {p : Nat × Nat} (hp : (b.breakpoints h)[i]? = some p) : i < b.holders[h].nBreaks ∧
        ∃ g, b.geometry[16 * h.val + i]? = some g ∧ p = (g.height, g.volume) := by
      rw [get] at hp
      split at hp
      · next hi =>
        obtain ⟨g, hg, hgp⟩ := Option.map_eq_some_iff.1 hp
        exact ⟨hi, g, hg, hgp.symm⟩
      · exact nomatch hp
    constructor
    · intro p hp
      obtain ⟨hjn, g, hg, rfl⟩ := some_at hp
      refine ⟨fun h0 => hfirst g (by rw [← hg, h0]), fun i q hi hq => ?_, fun hn => hlast g ?_⟩
      · obtain ⟨-, g', hg', rfl⟩ := some_at hq
        exact hrise i g' g (by omega) hg' (by rw [← hg, hi])
      · rw [← hg, ← hn]
        rfl
    · intro p hp
      obtain ⟨hjn, g, hg, rfl⟩ := some_at hp
      exact hvol j g hjn hg

end Sys2Proof.Machine


/-! The conditions of COMMIT, the tables of addresses, orders and districts; a bank breaks no condition if and only if it is sound. -/

namespace Sys2Proof.Machine

variable {b : Bank} {own : Nat}

/-! ## Numbers that name something -/

theorem placeOf_eq_some {n k : Nat} {i : Fin n} : placeOf n k = some i ↔ k = i.val + 1 := by
  constructor
  · intro h
    unfold placeOf at h
    split at h
    · next hk =>
      obtain rfl := Option.some.inj h
      exact (Nat.sub_add_cancel hk.1).symm
    · exact nomatch h
  · rintro rfl
    exact placeOf_succ n i

theorem placeOf_map_iff {n k : Nat} {p : Fin n → Bool} : ((placeOf n k).map p).getD false = true ↔ ∃ i : Fin n, k = i.val + 1 ∧ p i = true := by
  cases h : placeOf n k with
  | none =>
    simp only [Option.map_none, Option.getD_none, Bool.false_eq_true, false_iff]
    rintro ⟨i, hi, -⟩
    exact nomatch h.symm.trans (placeOf_eq_some.2 hi)
  | some i =>
    simp only [Option.map_some, Option.getD_some]
    constructor
    · exact fun hp => ⟨i, placeOf_eq_some.1 h, hp⟩
    · rintro ⟨j, hj, hp⟩
      obtain rfl := Option.some.inj (h.symm.trans (placeOf_eq_some.2 hj))
      exact hp

theorem Bank.fittedNo_iff {n : Nat} : b.fittedNo n = true ↔ ∃ h : Fin 4, n = h.val + 1 ∧ b.fitted h = true := placeOf_map_iff

/-! ## The orders and the districts -/

theorem namedOnce_iff : ∀ xs : List Nat, namedOnce xs = true ↔ xs.Pairwise (· ≠ ·)
  | [] => by simp [namedOnce]
  | x :: xs => by
    rw [namedOnce, Bool.and_eq_true, namedOnce_iff xs, List.pairwise_cons]
    refine and_congr ?_ Iff.rfl
    simp only [List.contains_eq_mem, Bool.not_eq_true', decide_eq_false_iff_not]
    exact ⟨fun h y hy he => h (he ▸ hy), fun h hx => h x hx rfl⟩

theorem OrderEntry.namedOnce_iff (o : OrderEntry) : namedOnce (o.places.toList.take o.count) = true ↔
    ∀ j : Fin 4, j.val < o.count → ∀ i, i < j → o.places[i] ≠ o.places[j] := by
  rw [Machine.namedOnce_iff, List.pairwise_iff_getElem]
  constructor
  · intro h j hj i hij
    have hij : i.val < j.val := hij
    have get (k : Fin 4) (hk : k.val < o.count) : (o.places.toList.take o.count)[k.val]'(by simp; omega) = o.places[k] := by simp
    have := h i.val j.val (by simp; omega) (by simp; omega) hij
    rwa [get i (Nat.lt_trans hij hj), get j hj] at this
  · intro h i j hi hj hij
    obtain ⟨hcount, hlt⟩ : j < o.count ∧ j < 4 := by simpa [Nat.lt_min] using hj
    simpa using h ⟨j, hlt⟩ hcount ⟨i, Nat.lt_trans hij hlt⟩ hij

theorem Bank.checkOrder_iff (i : Fin 2) : AllHold (b.checkOrder i) ↔ b.OrderSound b.orders[i] := by
  simp only [Bank.checkOrder, Bank.OrderSound, Fin.getElem_fin, Fin.is_lt, getElem?_pos]
  generalize b.orders[i.val] = o
  simp only [allHold_cons, allHold_nil, Cond.listed_holds, Bool.and_eq_true, and_true, Vector.take_all, OrderEntry.namedOnce_iff,
    within_iff, Bank.fittedNo_iff, Fin.getElem_fin]
  constructor
  · rintro ⟨⟨⟨⟨hlo, hhi⟩, -⟩, honce⟩, hfit⟩
    exact ⟨hlo, hhi, fun j hj => ⟨hfit j hj, honce j hj⟩⟩
  · rintro ⟨hlo, hhi, h⟩
    refine ⟨⟨⟨⟨hlo, hhi⟩, fun j hj => ?_⟩, fun j hj => (h j hj).2⟩, fun j hj => (h j hj).1⟩
    obtain ⟨⟨x, hx, -⟩, -⟩ := h j hj
    omega

theorem Bank.schedule_iff (d : Fin 6) : ((b.schedules.toList.drop (48 * d.val)).take 48).all (within 0 3000) = true ↔
    ∀ slot, 1 ≤ slot → slot ≤ 48 → b.schedule d slot ≤ 3000 := by
  have get (j : Nat) (hj : j < 48) : ((b.schedules.toList.drop (48 * d.val)).take 48)[j]? = some (b.schedule d (j + 1)) := by
    have hlt : 48 * d.val + j < 288 := by omega
    simp [hj, List.getElem?_drop, Bank.schedule, hlt]
  rw [List.all_eq_true]
  constructor
  · intro h slot hlo hhi
    have hslot := get (slot - 1) (by omega)
    rw [Nat.sub_add_cancel hlo] at hslot
    exact (within_iff.1 (h _ (List.mem_of_getElem? hslot))).2
  · intro h x hx
    obtain ⟨j, hj, hxj⟩ := List.getElem_of_mem hx
    have hj48 : j < 48 := Nat.lt_of_lt_of_le hj (List.length_take_le ..)
    have := (List.getElem?_eq_getElem hj).symm.trans (get j hj48)
    rw [← hxj, Option.some.inj this]
    exact within_iff.2 ⟨Nat.zero_le _, h _ (by omega) (by omega)⟩

theorem DistrictEntry.sound_iff (e : DistrictEntry) : e.Sound ↔
    e.inUse = 1 ∧ (e.minSet ≤ e.maxSet ∧ e.maxSet ≤ 3000) ∧ (e.boostC ≤ 10000 ∧ e.boostMax ≤ 3000) ∧
    (1 ≤ e.trimStep ∧ e.trimStep ≤ 500 ∧ e.trimMax ≤ 3000 ∧ (e.trimMax ≠ 0 → e.trimStep ≤ e.trimMax)) ∧
    (e.endLow < e.endHigh ∧ e.endHigh ≤ 3000 ∧ 1 ≤ e.confirm ∧ e.confirm ≤ 10) ∧
    (e.minDrop ≤ 3000 ∧ 1 ≤ e.slew ∧ e.slew ≤ 3000 ∧ e.deadband ≤ 500 ∧ 1 ≤ e.inletPoint ∧ e.inletPoint ≤ 24 ∧
      1 ≤ e.endPoint ∧ e.endPoint ≤ 24 ∧ e.meter ≤ 12) :=
  ⟨fun ⟨hu, hb, hbo, ht, he, hr⟩ => ⟨hu, hb, hbo, ht, he, hr⟩, fun ⟨hu, hb, hbo, ht, he, hr⟩ => ⟨hu, hb, hbo, ht, he, hr⟩⟩

theorem Bank.checkDistrict_iff (d : Fin 6) : AllHold (b.checkDistrict d) ↔
    (b.districts[d].used = true → b.districts[d].Sound ∧ ∀ slot, 1 ≤ slot → slot ≤ 48 → b.schedule d slot ≤ 3000) := by
  simp only [Bank.checkDistrict, Fin.getElem_fin, Fin.is_lt, getElem?_pos, ← Bank.schedule_iff]
  generalize b.districts[d.val] = e
  cases ((b.schedules.toList.drop (48 * d.val)).take 48).all (within 0 3000) <;> split
  case false.isTrue h => simp [h]
  case true.isTrue h =>
    have hu : e.inUse ≠ 0 := by simpa [DistrictEntry.used] using h
    simp [h, DistrictEntry.sound_iff, DistrictEntry.inRange]
    omega
  all_goals next h => simp [h]

/-! ## The station map -/

theorem Bank.mapBefore_all (i : Fin 40) (p : MapEntry → Bool) :
    (b.mapBefore i).all p = true ↔ ∀ j, j < i → p b.stationMap[j] = true := Vector.take_all b.stationMap i.val p

theorem MapEntry.indices_all (e : MapEntry) (p : Nat → Bool) : e.indices.all p = true ↔ ∀ n, e.index ≤ n → n < e.index + e.count → p n = true := by
  simp only [MapEntry.indices, List.all_eq_true, List.mem_map, List.mem_range]
  constructor
  · exact fun h n hlo hhi => h n ⟨n - e.index, by omega, by omega⟩
  · rintro h _ ⟨k, hk, rfl⟩
    exact h _ (by omega) (by omega)

/-- R151: the role indices lie in the range of their kind. -/
def MapEntry.RolesFit (e : MapEntry) : Prop :=
  ∀ n, (e.kind, n) ∈ [(0, 4), (1, 12), (2, 24), (3, 8), (4, 6)] → 1 ≤ e.index ∧ e.index + e.count ≤ n + 1

theorem MapEntry.indicesFit_iff {e : MapEntry} (hc : e.count ≠ 0) : e.indicesFit = true ↔ e.RolesFit := by
  have range (n : Nat) : (within 1 n e.index && decide (e.index + e.count - 1 ≤ n)) = true ↔ 1 ≤ e.index ∧ e.index + e.count ≤ n + 1 := by
    simp
    omega
  unfold MapEntry.indicesFit MapEntry.RolesFit
  match e.kind with
  | 0 | 1 | 2 | 3 | 4 => simp only [kindRange, range]; simp
  | k + 5 => simp [kindRange]

theorem MapEntry.sharesAddress_iff {e f : MapEntry} (hc : e.count ≠ 0) : (!e.sharesAddress f) = true ↔
    (f.count ≠ 0 → ∀ a, e.covers a = true → f.covers a = false) := by
  simp only [MapEntry.sharesAddress, MapEntry.covers, Bool.not_eq_true', Bool.and_eq_true, Bool.and_eq_false_iff, decide_eq_true_eq,
    decide_eq_false_iff_not]
  constructor
  · intro h hf a ha
    omega
  · intro h
    by_cases hf : f.count = 0
    · omega
    · have := h hf (max e.first f.first)
      omega

theorem MapEntry.sharesRole_iff {e f : MapEntry} : (!e.sharesRole f) = true ↔
    (f.count ≠ 0 → f.kind = e.kind → e.index + e.count ≤ f.index ∨ f.index + f.count ≤ e.index) := by
  simp only [MapEntry.sharesRole, Bool.not_eq_true', Bool.and_eq_false_iff, decide_eq_false_iff_not, beq_eq_false_iff_ne]
  omega

theorem Bank.mapSound_iff (i : Fin 40) (e : MapEntry) : b.MapSound own i e ↔
    (1 ≤ e.first ∧ e.first + e.count ≤ 251 ∧ e.count ≤ 16) ∧ e.kind ≤ 6 ∧ e.RolesFit ∧ (5 ≤ e.kind → e.count = 1) ∧
    e.covers own = false ∧
    (∀ j, j < i → b.stationMap[j].count ≠ 0 →
      (∀ a, e.covers a = true → b.stationMap[j].covers a = false) ∧
      (b.stationMap[j].kind = e.kind → e.kind ≤ 4 ∧ (e.index + e.count ≤ b.stationMap[j].index ∨
        b.stationMap[j].index + b.stationMap[j].count ≤ e.index))) ∧
    ∀ n, e.index ≤ n → n < e.index + e.count →
      (∀ h : Fin 4, e.kind = 0 → n = h.val + 1 → b.fitted h = true) ∧
      (∀ m : Fin 12, e.kind = 1 → n = m.val + 1 → b.meters[m].inUse = true) ∧
      (∀ v : Fin 8, e.kind = 3 → n = v.val + 1 → b.fitted (holderOf v) = true) ∧
      (∀ d : Fin 6, e.kind = 4 → n = d.val + 1 → b.districts[d].used = true) :=
  ⟨fun ⟨ha, hk, hr, hs, ho, hap, hp⟩ => ⟨ha, hk, hr, hs, ho, hap, hp⟩, fun ⟨ha, hk, hr, hs, ho, hap, hp⟩ => ⟨ha, hk, hr, hs, ho, hap, hp⟩⟩

/-- R1, R23, R59, R107: what the roles of an entry name is there. -/
def Bank.RolesPresent (b : Bank) (e : MapEntry) : Prop := ∀ n, e.index ≤ n → n < e.index + e.count →
  (∀ h : Fin 4, e.kind = 0 → n = h.val + 1 → b.fitted h = true) ∧
  (∀ m : Fin 12, e.kind = 1 → n = m.val + 1 → b.meters[m].inUse = true) ∧
  (∀ v : Fin 8, e.kind = 3 → n = v.val + 1 → b.fitted (holderOf v) = true) ∧
  (∀ d : Fin 6, e.kind = 4 → n = d.val + 1 → b.districts[d].used = true)

/-- The earlier entries give none of the roles, and for a kind of one role none of its kind. -/
def Bank.RolesApart (b : Bank) (i : Fin 40) (e : MapEntry) : Prop := ∀ j, j < i → b.stationMap[j].count ≠ 0 →
  b.stationMap[j].kind = e.kind → e.kind ≤ 4 ∧ (e.index + e.count ≤ b.stationMap[j].index ∨
    b.stationMap[j].index + b.stationMap[j].count ≤ e.index)

/-- The role indices of an entry, each naming a place for which a mark holds. -/
theorem MapEntry.indices_all_named {e : MapEntry} {N : Nat} (hr : 1 ≤ e.index ∧ e.index + e.count ≤ N + 1) {p : Nat → Bool}
    {q : Fin N → Bool} (hp : ∀ i : Fin N, p (i.val + 1) = q i) : e.indices.all p = true ↔
      ∀ n, e.index ≤ n → n < e.index + e.count → ∀ i : Fin N, n = i.val + 1 → q i = true := by
  rw [MapEntry.indices_all]
  refine forall_congr' fun n => imp_congr_right fun hlo => imp_congr_right fun hhi => ?_
  obtain ⟨i, rfl⟩ : ∃ i : Fin N, n = i.val + 1 := ⟨⟨n - 1, by omega⟩, by simp; omega⟩
  rw [hp]
  exact ⟨fun h j hj => Fin.ext (Nat.succ.inj hj) ▸ h, fun h => h i rfl⟩

theorem fittedNo_succ (b : Bank) (h : Fin 4) : b.fittedNo (h.val + 1) = b.fitted h := by simp [Bank.fittedNo, placeOf_succ]
theorem fittedNo_valve (b : Bank) (v : Fin 8) : b.fittedNo ((v.val + 1 + 1) / 2) = b.fitted (holderOf v) := by
  have h : (v.val + 1 + 1) / 2 = (holderOf v).val + 1 := Nat.add_div_right v.val (Nat.zero_lt_succ 1)
  rw [h, fittedNo_succ]

theorem Bank.roleConds_iff {i : Fin 40} {e : MapEntry} (hc : e.count ≠ 0) (hk : e.kind ≤ 6) (hr : e.RolesFit) :
    AllHold (b.roleConds i e) ↔ (5 ≤ e.kind → e.count = 1) ∧ b.RolesApart i e ∧ b.RolesPresent e := by
  have fit : e.indicesFit = true := (MapEntry.indicesFit_iff hc).2 hr
  have once (h4 : e.kind ≤ 4) : ((b.mapBefore i).all fun f => !e.sharesRole f) = true ↔ b.RolesApart i e := by
    simp only [Bank.mapBefore_all, MapEntry.sharesRole_iff, Bank.RolesApart, h4, true_and]
  have single (h5 : 5 ≤ e.kind) : (decide (e.count = 1) && (b.mapBefore i).all fun f => !(f.kind == e.kind && decide (f.count ≠ 0))) = true ↔
      e.count = 1 ∧ b.RolesApart i e := by
    have h4 : ¬ e.kind ≤ 4 := by omega
    simp only [Bool.and_eq_true, decide_eq_true_eq, Bank.mapBefore_all, Bank.RolesApart, h4, false_and, imp_false]
    refine and_congr_right fun _ => forall_congr' fun j => imp_congr_right fun _ => ?_
    cases hkind : b.stationMap[j].kind == e.kind <;> simp_all
  unfold Bank.roleConds Bank.RolesPresent
  obtain h | h | h | h | h | h | h : e.kind = 0 ∨ e.kind = 1 ∨ e.kind = 2 ∨ e.kind = 3 ∨ e.kind = 4 ∨ e.kind = 5 ∨ e.kind = 6 := by omega
  · have named := MapEntry.indices_all_named (hr 4 (by simp [h])) (fittedNo_succ b)
    simp [h, once, -List.all_eq_true, named]
  · have named := MapEntry.indices_all_named (hr 12 (by simp [h])) (p := b.meterNo) (q := fun m => b.meters[m].inUse)
      fun m => by simp [Bank.meterNo, placeOf_succ]
    simp [h, fit, once, -List.all_eq_true, named]
  · simp [h, fit, once, -List.all_eq_true]
  · have named := MapEntry.indices_all_named (hr 8 (by simp [h])) (p := fun v => b.fittedNo ((v + 1) / 2)) (fittedNo_valve b)
    simp [h, fit, once, -List.all_eq_true, named]
  · have named := MapEntry.indices_all_named (hr 6 (by simp [h])) (p := b.districtNo) (q := fun d => b.districts[d].used)
      fun d => by simp [Bank.districtNo, placeOf_succ]
    simp [h, fit, once, -List.all_eq_true, named]
  · have single := single (by omega)
    rw [h] at single
    simp only [h, allHold_cons, allHold_nil, Cond.listed_holds, single]
    simp
  · have single := single (by omega)
    rw [h] at single
    simp only [h, allHold_cons, allHold_nil, Cond.listed_holds, single]
    simp

theorem Bank.checkMap_iff (i : Fin 40) :
    AllHold (b.checkMap own i) ↔ (b.stationMap[i].count ≠ 0 → b.MapSound own i b.stationMap[i]) := by
  simp only [Bank.checkMap, Fin.getElem_fin, Fin.is_lt, getElem?_pos]
  generalize b.stationMap[i.val] = e
  split
  · next hc => simp [hc]
  · next hc =>
    simp only [ne_eq, hc, not_false_eq_true, true_imp_iff, Bank.mapSound_iff, allHold_append]
    have conds : AllHold (b.mapConds own i e) ↔ (1 ≤ e.first ∧ e.first + e.count ≤ 251 ∧ e.count ≤ 16) ∧ e.kind ≤ 6 ∧ e.RolesFit ∧
        e.covers own = false ∧
        ∀ j, j < i → b.stationMap[j].count ≠ 0 → ∀ a, e.covers a = true → b.stationMap[j].covers a = false := by
      simp only [Bank.mapConds, allHold_cons, allHold_nil, Cond.listed_holds, Bool.and_eq_true, within_iff, decide_eq_true_eq,
        Bank.mapBefore_all, MapEntry.sharesAddress_iff hc, MapEntry.indicesFit_iff hc, Bool.not_eq_true', and_true]
      constructor
      · rintro ⟨⟨hfirst, hlast⟩, hcount, hk, hr, ho, ha⟩
        exact ⟨by omega, hk, hr, ho, ha⟩
      · rintro ⟨hfirst, hk, hr, ho, ha⟩
        exact ⟨by omega, by omega, hk, hr, ho, ha⟩
    rw [conds]
    constructor
    · rintro ⟨⟨hfirst, hk, hr, ho, ha⟩, hroles⟩
      obtain ⟨hs, hap, hp⟩ := (Bank.roleConds_iff hc hk hr).1 hroles
      exact ⟨hfirst, hk, hr, hs, ho, fun j hj hf => ⟨ha j hj hf, hap j hj hf⟩, hp⟩
    · rintro ⟨hfirst, hk, hr, hs, ho, hap, hp⟩
      exact ⟨⟨hfirst, hk, hr, ho, fun j hj hf => (hap j hj hf).1⟩,
        (Bank.roleConds_iff hc hk hr).2 ⟨hs, fun j hj hf => (hap j hj hf).2, hp⟩⟩

/-! ## The aliases -/

theorem Vector.all_toList_iff {α : Type} {n : Nat} (v : Vector α n) (p : α → Bool) : v.toList.all p = true ↔ ∀ i : Fin n, p v[i] = true := by
  rw [List.all_eq_true]
  constructor
  · exact fun h i => h _ (by simp)
  · intro h x hx
    obtain ⟨j, hj, rfl⟩ := List.getElem_of_mem hx
    simpa using h ⟨j, by simpa using hj⟩

theorem Bank.mapped_iff (a : Nat) : b.mapped a = true ↔ ∃ j : Fin 40, b.stationMap[j].covers a = true := by
  have h := Vector.all_toList_iff b.stationMap fun e => !e.covers a
  rw [← Decidable.not_iff_not, Bool.not_eq_true, Bank.mapped, ← Bool.not_eq_true', List.not_any_eq_all_not, h]
  simp

theorem Bank.sparesBefore_all (i : Fin 8) (p : SpareEntry → Bool) :
    (b.spares.toList.take i).all p = true ↔ ∀ j, j < i → p b.spares[j] = true := Vector.take_all b.spares i.val p

theorem Bank.checkSpare_iff (i : Fin 8) :
    AllHold (b.checkSpare own i) ↔ (b.spares[i].used = true → b.SpareSound own i b.spares[i]) := by
  simp only [Bank.checkSpare, Fin.getElem_fin, Fin.is_lt, getElem?_pos]
  generalize b.spares[i.val] = x
  have unmapped : (!b.mapped x.a) = true ↔ ∀ j : Fin 40, b.stationMap[j].covers x.a = false := by
    rw [Bool.not_eq_true', ← Bool.not_eq_true, Bank.mapped_iff]
    simp
  have apart (y : SpareEntry) (a : Nat) : (!(y.used && y.a == a)) = true ↔ (y.used = true → y.a ≠ a) := by
    simp
    exact ⟨fun h hu => h.resolve_left (by simp [hu]), fun h => by cases hu : y.used <;> simp [hu] at h ⊢; exact h⟩
  split
  · next hu =>
    simp only [allHold_cons, allHold_nil, Cond.listed_holds, Bool.and_eq_true, within_iff, bne_iff_ne, unmapped,
      Bank.sparesBefore_all, Vector.all_toList_iff, apart, Bank.mapped_iff, hu, true_imp_iff, and_true]
    exact ⟨fun ⟨⟨⟨a1, a2⟩, b1, b2⟩, ho, hf, hm, hn⟩ => ⟨⟨a1, a2, b1, b2⟩, ho, hf, hm, hn⟩,
      fun ⟨⟨a1, a2, b1, b2⟩, ho, hf, hm, hn⟩ => ⟨⟨⟨a1, a2⟩, b1, b2⟩, ho, hf, hm, hn⟩⟩
  · next hu => simp [hu]

/-! ## The whole bank -/

theorem Bank.broken_iff_sound (b : Bank) (own : Nat) : b.broken own = none ↔ b.Sound own := by
  rw [Bank.broken_none]
  simp only [forall_lt_iff (n := 40), forall_lt_iff (n := 8), forall_lt_iff (n := 4), forall_lt_iff (n := 12), forall_lt_iff (n := 221),
    forall_lt_iff (n := 48), forall_lt_iff (n := 2), forall_lt_iff (n := 6), forall_lt_iff (n := 74), Bank.checkMap_iff,
    Bank.checkSpare_iff, Bank.checkHolder_iff, Bank.checkMeter_iff, Bank.checkCorrection_iff, Bank.checkSlot_iff, Bank.checkOrder_iff,
    Bank.checkDistrict_iff, Bank.checkYard_iff, Bank.checkAttention_iff, Bank.checkGeometry_iff]
  constructor
  · rintro ⟨hmap, hspare, hholder, hgeo, hmeter, hcorr, hslot, horder, hdistrict, hyard, hattn⟩
    refine ⟨hmap, hspare, fun h hf => ⟨hholder h hf, ?_⟩, hmeter, hcorr, hslot, horder, hdistrict, hyard, hattn⟩
    obtain ⟨hlo, hhi⟩ := (hholder h hf).breakpoints
    exact (Bank.geometrySound_iff hlo hhi).1 (hgeo h hf)
  · rintro ⟨hmap, hspare, hholder, hmeter, hcorr, hslot, horder, hdistrict, hyard, hattn⟩
    refine ⟨hmap, hspare, fun h hf => (hholder h hf).1, fun h hf => ?_, hmeter, hcorr, hslot, horder, hdistrict, hyard, hattn⟩
    obtain ⟨hlo, hhi⟩ := (hholder h hf).1.breakpoints
    exact (Bank.geometrySound_iff hlo hhi).2 (hholder h hf).2

/-- Settles O9: the step keeps the banks, and the check finds nothing broken in exactly the sound ones. -/
theorem banksKept : Obligations.BanksKept := ⟨fun s t h ht => (step_safe s t ht).banks h, Bank.broken_iff_sound⟩

end Sys2Proof.Machine


/-! What follows from a count, the interval that holds a wall time, and the outcome of the first commands: statements about one function. -/

namespace Sys2Proof.Machine

/-! ## The volume at a height (R18) -/

theorem volumeAt_cons₂ (p q : Nat × Nat) (rest : List (Nat × Nat)) (n : Nat) : volumeAt (p :: q :: rest) n =
    if n < q.1 then p.2 + (n - p.1) * (q.2 - p.2) / (q.1 - p.1) else volumeAt (q :: rest) n := rfl

/-- Breakpoints of rising counts, the volumes not falling. -/
abbrev Rising (ps : List (Nat × Nat)) : Prop := ps.Pairwise fun p q => p.1 < q.1 ∧ p.2 ≤ q.2

theorem le_volumeAt : ∀ (p : Nat × Nat) (ps : List (Nat × Nat)) (n : Nat), Rising (p :: ps) → p.2 ≤ volumeAt (p :: ps) n
  | _, [], _, _ => Nat.le_refl _
  | p, q :: rest, n, h => by
    obtain ⟨hp, hq⟩ := List.pairwise_cons.1 h
    rw [volumeAt_cons₂]
    split
    · exact Nat.le_add_right ..
    · exact Nat.le_trans (hp q (by simp)).2 (le_volumeAt q rest n hq)

/-- Between two breakpoints the volume does not pass the upper one's. -/
theorem interpolated_le {p q : Nat × Nat} {n : Nat} (hpq : p.1 < q.1 ∧ p.2 ≤ q.2) (hn : n < q.1) :
    p.2 + (n - p.1) * (q.2 - p.2) / (q.1 - p.1) ≤ q.2 := by
  have hle : (n - p.1) * (q.2 - p.2) / (q.1 - p.1) ≤ q.2 - p.2 := by
    refine Nat.div_le_of_le_mul ?_
    exact Nat.mul_le_mul_right _ (by omega)
  omega

theorem volumeAt_mono : ∀ (ps : List (Nat × Nat)) {n m : Nat}, Rising ps → n ≤ m → volumeAt ps n ≤ volumeAt ps m
  | [], _, _, _, _ => Nat.le_refl _
  | [_], _, _, _, _ => Nat.le_refl _
  | p :: q :: rest, n, m, h, hnm => by
    obtain ⟨hp, hq⟩ := List.pairwise_cons.1 h
    rw [volumeAt_cons₂, volumeAt_cons₂]
    by_cases hm : m < q.1
    · rw [if_pos hm, if_pos (Nat.lt_of_le_of_lt hnm hm)]
      exact Nat.add_le_add_left (Nat.div_le_div_right (Nat.mul_le_mul_right _ (Nat.sub_le_sub_right hnm _))) _
    · rw [if_neg hm]
      split
      · next hn => exact Nat.le_trans (interpolated_le (hp q (by simp)) hn) (le_volumeAt q rest m hq)
      · exact volumeAt_mono (q :: rest) hq hnm

theorem volumeAt_breakpoint : ∀ (ps : List (Nat × Nat)), Rising ps → ∀ p ∈ ps, volumeAt ps p.1 = p.2
  | [], _, _, hx => nomatch hx
  | [p], _, x, hx => by rw [List.mem_singleton.1 hx]; rfl
  | p :: q :: rest, h, x, hx => by
    obtain ⟨hp, hq⟩ := List.pairwise_cons.1 h
    rw [volumeAt_cons₂]
    rcases List.mem_cons.1 hx with rfl | hx
    · rw [if_pos (hp q (by simp)).1, Nat.sub_self, Nat.zero_mul, Nat.zero_div, Nat.add_zero]
    · have hge : ¬ x.1 < q.1 := by
        rcases List.mem_cons.1 hx with rfl | hx
        · exact Nat.lt_irrefl _
        · exact Nat.lt_asymm ((List.pairwise_cons.1 hq).1 x hx).1
      rw [if_neg hge]
      exact volumeAt_breakpoint (q :: rest) hq x hx

theorem volumeAt_between : ∀ (ps : List (Nat × Nat)), Rising ps → ∀ (i : Nat) (hi : i + 1 < ps.length) (n : Nat), ps[i].1 ≤ n →
    n < ps[i + 1].1 → volumeAt ps n = ps[i].2 + (n - ps[i].1) * (ps[i + 1].2 - ps[i].2) / (ps[i + 1].1 - ps[i].1)
  | [], _, _, hi, _, _, _ => absurd hi (Nat.not_lt_zero _)
  | [_], _, i, hi, _, _, _ => by simp at hi
  | p :: q :: rest, h, 0, _, n, _, hn => (volumeAt_cons₂ p q rest n).trans (if_pos hn)
  | p :: q :: rest, h, i + 1, hi, n, hlo, hn => by
    obtain ⟨-, hq⟩ := List.pairwise_cons.1 h
    have hi' : i + 1 < (q :: rest).length := Nat.lt_of_succ_lt_succ hi
    have hge : q.1 ≤ (q :: rest)[i].1 := by
      cases i with
      | zero => exact Nat.le_refl _
      | succ k => exact Nat.le_of_lt ((List.pairwise_cons.1 hq).1 _ (List.getElem_mem _)).1
    rw [volumeAt_cons₂, if_neg (Nat.not_lt.2 (Nat.le_trans hge hlo))]
    exact volumeAt_between (q :: rest) hq i hi' n hlo hn

/-- Settles O20: the record placed at a count, and the volume by induction on the breakpoints. -/
theorem volumeFollowsCount : Obligations.VolumeFollowsCount := by
  refine ⟨fun b h r n k => ⟨rfl, ?_, ?_, rfl⟩, fun ps h => ⟨volumeAt_breakpoint ps h, fun n m => volumeAt_mono ps h, volumeAt_between ps h⟩⟩
  · simp only [HolderRec.placeAt, HolderEntry.cuppedAt, List.mem_filterMap]
    constructor
    · rintro ⟨⟨j, c, i⟩, hmem, hx⟩
      split at hx
      · next hc =>
        obtain rfl := Option.some.inj hx
        exact ⟨c, i, hmem, hc⟩
      · exact nomatch hx
    · rintro ⟨c, i, hmem, hc⟩
      exact ⟨_, hmem, if_pos hc⟩
  · simp only [HolderRec.placeAt, HolderEntry.expectedAt]
    congr 2
    induction b.holders[h].cupList with
    | nil => rfl
    | cons x xs ih => by_cases hx : x.2.1 ≤ n <;> simp [hx, ih]

/-! ## The interval that holds a wall time (R128) -/

theorem wallOf_some {n : Nat} (h : n < 65536 * 86400) : ∃ w : WallTime, wallOf n = some w ∧ w.sec ≤ 86399 ∧ w.total = n := by
  refine ⟨⟨n / 86400, n % 86400⟩, if_pos ?_, ?_, Nat.div_add_mod' n 86400⟩
  · exact Nat.le_of_lt_succ (Nat.div_lt_of_lt_mul (by rwa [Nat.mul_comm]))
  · exact Nat.le_of_lt_succ (Nat.mod_lt _ (Nat.zero_lt_succ _))

theorem wallOf_none_iff {n : Nat} : wallOf n = none ↔ 65536 * 86400 ≤ n := by
  constructor
  · intro h
    refine Decidable.byContradiction fun hlt => ?_
    obtain ⟨w, hw, -⟩ := wallOf_some (Nat.lt_of_not_le hlt)
    exact nomatch h.symm.trans hw
  · intro h
    refine if_neg fun hle => ?_
    have hdiv : 65536 ≤ n / 86400 := (Nat.le_div_iff_mul_le (Nat.zero_lt_succ _)).2 h
    exact absurd (Nat.le_trans hdiv hle) (by decide)

/-- R128: the interval of a gas day that holds the seconds `into` of it. -/
theorem YardEntry.placeIn_holds {y : YardEntry} (hy : y.length = 15 ∨ y.length = 30 ∨ y.length = 60) (t : WallTime) {g into : Nat}
    (hinto : into < 86400) (htotal : t.total = g * 86400 + y.gasHour * 3600 + into) (hsec : t.sec ≤ 86399) :
    ∃ i : Identity, (y.placeIn g into).identity = some i ∧ i.gasDay = g ∧
      i.index * (y.length * 60) ≤ into ∧ into < (i.index + 1) * (y.length * 60) ∧ i.index < 24 * 60 / y.length ∧
      (t.day ≤ 65535 → ∃ b : WallTime, (y.placeIn g into).nominalStart = some b ∧ b.sec ≤ 86399 ∧ b.total ≤ t.total ∧
        b.total = g * 86400 + y.gasHour * 3600 + i.index * (y.length * 60)) ∧
      (∀ e, (y.placeIn g into).nominalEnd = some e → e.sec ≤ 86399 ∧ t.total < e.total ∧ e.total ≤ t.total + y.length * 60 ∧
        e.total = g * 86400 + y.gasHour * 3600 + (i.index + 1) * (y.length * 60)) ∧
      ((y.placeIn g into).nominalEnd = none ↔ 65535 * 86400 + 86400 ≤ g * 86400 + y.gasHour * 3600 + (i.index + 1) * (y.length * 60)) := by
  have hpos : 0 < y.length * 60 := by omega
  have hlow : into / (y.length * 60) * (y.length * 60) ≤ into := Nat.div_mul_le_self ..
  have hhigh : into < (into / (y.length * 60) + 1) * (y.length * 60) := by
    rw [Nat.mul_comm]
    exact Nat.lt_mul_div_succ into hpos
  refine ⟨⟨g, into / (y.length * 60)⟩, rfl, rfl, hlow, hhigh, ?_, fun hday => ?_, fun e he => ?_, wallOf_none_iff⟩
  · show into / (y.length * 60) < 24 * 60 / y.length
    rcases hy with h | h | h <;> rw [h] <;> omega
  · have hstart : g * 86400 + y.gasHour * 3600 + into / (y.length * 60) * (y.length * 60) ≤ t.total := by omega
    obtain ⟨w, hw, hwsec, hwtotal⟩ := wallOf_some (n := g * 86400 + y.gasHour * 3600 + into / (y.length * 60) * (y.length * 60)) (by
      unfold WallTime.total at hstart
      omega)
    exact ⟨w, hw, hwsec, by rw [hwtotal]; exact hstart, hwtotal⟩
  · have he : wallOf (g * 86400 + y.gasHour * 3600 + (into / (y.length * 60) + 1) * (y.length * 60)) = some e := he
    obtain ⟨w, hw, hwsec, hwtotal⟩ := wallOf_some (Nat.lt_of_not_le fun h => nomatch (wallOf_none_iff.2 h).symm.trans he)
    obtain rfl := Option.some.inj (hw.symm.trans he)
    rw [Nat.succ_mul] at hhigh hwtotal ⊢
    exact ⟨hwsec, by omega, by omega, hwtotal⟩

/-- Settles O18, by the gas day that holds the time. -/
theorem intervalHoldsTime : Obligations.IntervalHoldsTime := by
  intro y t hy hg hsec
  have place : y.place t = if y.gasHour * 3600 ≤ t.sec then y.placeIn t.day (t.sec - y.gasHour * 3600)
      else if 0 < t.day then y.placeIn (t.day - 1) (t.sec + 86400 - y.gasHour * 3600) else ⟨none, none, some ⟨0, y.gasHour * 3600⟩⟩ := rfl
  refine ⟨fun c hc => by simp [YardEntry.placeClock, Clock.wall, hc], fun c hc => by simp [YardEntry.placeClock, Clock.wall, hc],
    fun hday hlt => ?_, fun h => ?_⟩
  · rw [place, if_neg (Nat.not_le.2 hlt), if_neg (by omega)]
  · rw [place]
    split
    · next hge =>
      have htotal : t.total = t.day * 86400 + y.gasHour * 3600 + (t.sec - y.gasHour * 3600) := by
        unfold WallTime.total
        omega
      obtain ⟨i, hi, hgas, hrest⟩ := YardEntry.placeIn_holds hy t (by omega) htotal hsec
      have hinto : t.total - (i.gasDay * 86400 + y.gasHour * 3600) = t.sec - y.gasHour * 3600 := by omega
      exact ⟨i, hi, hgas, by rw [hinto, hgas]; exact hrest⟩
    · next hlt =>
      have hday : 0 < t.day := h.resolve_left hlt
      have htotal : t.total = (t.day - 1) * 86400 + y.gasHour * 3600 + (t.sec + 86400 - y.gasHour * 3600) := by
        unfold WallTime.total
        omega
      rw [if_pos hday]
      obtain ⟨i, hi, hgas, hrest⟩ := YardEntry.placeIn_holds hy t (by omega) htotal hsec
      have hinto : t.total - (i.gasDay * 86400 + y.gasHour * 3600) = t.sec + 86400 - y.gasHour * 3600 := by omega
      exact ⟨i, hi, hgas, by rw [hinto, hgas]; exact hrest⟩

end Sys2Proof.Machine


/-! The check of a frame, and the frames in the characters of the line (R158, R181). -/

namespace Sys2Proof.Machine

/-! ## Valid characters -/

theorem halfBytes_length (v : Half) : (halfBytes v).length = 2 := rfl

/-- R158, R181: what a valid frame consists of. -/
theorem validChars_iff (cs : List Byte) : validChars cs = true ↔ ∃ (dest src kind len : Byte) (body : List Byte),
    cs = 165 :: dest :: src :: kind :: len :: (body ++ halfBytes (checkOf (dest :: src :: kind :: len :: body))) ∧
      len.toNat ≤ 200 ∧ body.length = len.toNat := by
  constructor
  · intro h
    unfold validChars at h
    split at h
    · next lead dest src kind len rest =>
      simp only [Bool.and_eq_true, beq_iff_eq, decide_eq_true_eq] at h
      obtain ⟨⟨⟨hlead, hlen⟩, hrest⟩, hcheck⟩ := h
      obtain rfl : lead = 165 := BitVec.eq_of_toNat_eq hlead
      refine ⟨dest, src, kind, len, rest.take len.toNat, ?_, hlen, by rw [List.length_take]; omega⟩
      rw [← hcheck, List.take_append_drop]
    · exact nomatch h
  · rintro ⟨dest, src, kind, len, body, rfl, hlen, hbody⟩
    have hmax : len.toNat ≤ Config.maxBody := hlen
    have htake : ∀ cs, (body ++ cs).take len.toNat = body := fun cs => List.take_left' hbody
    have hdrop : ∀ cs, (body ++ cs).drop len.toNat = cs := fun cs => List.drop_left' hbody
    simp [validChars, hmax, hbody, htake, hdrop, halfBytes_length]
    rfl

theorem Frame.chars_eq (f : Frame) : f.chars = 165 :: f.dest :: f.src :: f.kind :: b8 f.body.length ::
    (f.body ++ halfBytes (checkOf (f.dest :: f.src :: f.kind :: b8 f.body.length :: f.body))) := rfl

theorem validChars_iff_frame (cs : List Byte) : validChars cs = true ↔ ∃ f : Frame, f.body.length ≤ 200 ∧ cs = f.chars := by
  rw [validChars_iff]
  constructor
  · rintro ⟨dest, src, kind, len, body, rfl, hlen, hbody⟩
    refine ⟨⟨dest, src, kind, body⟩, by rw [hbody]; exact hlen, ?_⟩
    rw [Frame.chars_eq]
    dsimp only
    rw [hbody, b8_toNat]
  · rintro ⟨f, hbody, rfl⟩
    have hlen : (b8 f.body.length).toNat = f.body.length := by
      simp [b8]
      omega
    exact ⟨f.dest, f.src, f.kind, b8 f.body.length, f.body, f.chars_eq, by rw [hlen]; exact hbody, hlen.symm⟩

/-! ## What is heard -/

theorem cutFrame_shorter {cs rest : List Byte} {f : LineFrame} (h : cutFrame cs = some (f, rest)) : rest.length < cs.length := by
  unfold cutFrame at h
  split at h
  · split at h
    · obtain ⟨-, rfl⟩ := Prod.mk.inj (Option.some.inj h)
      simp
      omega
    · split at h
      · exact nomatch h
      · obtain ⟨-, rfl⟩ := Prod.mk.inj (Option.some.inj h)
        simp
        omega
  · exact nomatch h

theorem waitLead_length (cs : List Byte) : (waitLead cs).length ≤ cs.length := (List.dropWhile_sublist _).length_le

/-- The number of frames to look for does not matter beyond the number of characters. -/
theorem heardIn_enough {n m : Nat} {cs : List Byte} (hn : cs.length < n) (hm : cs.length < m) : heardIn n cs = heardIn m cs := by
  induction n generalizing m cs with
  | zero => exact absurd hn (Nat.not_lt_zero _)
  | succ n ih =>
    cases m with
    | zero => exact absurd hm (Nat.not_lt_zero _)
    | succ m =>
      rw [heardIn, heardIn]
      split
      · rfl
      · next f rest hcut =>
        have hlt := Nat.lt_of_lt_of_le (cutFrame_shorter hcut) (waitLead_length cs)
        rw [ih (by omega : rest.length < n) (by omega : rest.length < m)]

theorem heard_cut {cs rest : List Byte} {f : LineFrame} (h : cutFrame (waitLead cs) = some (f, rest)) :
    heard cs = (f :: (heard rest).1, (heard rest).2) := by
  have hlt := Nat.lt_of_lt_of_le (cutFrame_shorter h) (waitLead_length cs)
  rw [heard, heardIn, h]
  dsimp only
  rw [heardIn_enough hlt (Nat.lt_succ_self rest.length)]
  rfl

theorem heard_uncut {cs : List Byte} (h : cutFrame (waitLead cs) = none) : heard cs = ([], waitLead cs) := by rw [heard, heardIn, h]

theorem waitLead_lead (cs : List Byte) : waitLead (165 :: cs) = 165 :: cs := rfl

theorem heard_noise {c : Byte} (cs : List Byte) (h : c ≠ 165) : heard (c :: cs) = heard cs := by
  have hne : c.toNat ≠ Config.leadCharacter := fun hc => h (BitVec.eq_of_toNat_eq hc)
  have hwait : waitLead (c :: cs) = waitLead cs := by simp [waitLead, hne]
  cases hcut : cutFrame (waitLead cs) with
  | none => rw [heard_uncut hcut, heard_uncut (hwait.symm ▸ hcut), hwait]
  | some x => rw [heard_cut hcut, heard_cut (hwait.symm ▸ hcut)]

/-- The characters of a frame whose length is not above the greatest, and what follows them. -/
theorem cutFrame_whole (dest src kind len : Byte) (body rest : List Byte) (hlen : len.toNat ≤ 200) (hbody : body.length = len.toNat + 2) :
    cutFrame (165 :: dest :: src :: kind :: len :: (body ++ rest)) = some
      (if validChars (165 :: dest :: src :: kind :: len :: body) then .valid ⟨dest, src, kind, body.take len.toNat⟩
        else .bad (165 :: dest :: src :: kind :: len :: body), rest) := by
  have hmax : ¬ Config.maxBody < len.toNat := Nat.not_lt.2 hlen
  have hlong : ¬ (body ++ rest).length < len.toNat + 2 := by
    rw [List.length_append]
    omega
  unfold cutFrame
  dsimp only
  rw [if_neg hmax, if_neg hlong, ← hbody, List.take_left, List.drop_left, List.take_append_of_le_length (by omega)]

/-- Settles O13, by what is cut from the line where a lead character stands. -/
theorem frameCheck : Obligations.FrameCheck := by
  refine ⟨validChars_iff_frame, by decide +kernel, fun c rest h => heard_noise rest h, fun f rest hbody => ?_,
    fun dest src kind len rest hlen => heard_cut ?_, fun dest src kind len high low body rest hlen hbody hcheck => heard_cut ?_,
    fun dest src kind len body hlen hbody => ?_⟩
  · have hlen : (b8 f.body.length).toNat = f.body.length := by
      simp [b8]
      omega
    have valid := (validChars_iff_frame f.chars).2 ⟨f, hbody, rfl⟩
    have cut := cutFrame_whole f.dest f.src f.kind (b8 f.body.length)
      (f.body ++ halfBytes (checkOf (f.dest :: f.src :: f.kind :: b8 f.body.length :: f.body))) rest (by omega)
      (by rw [List.length_append, halfBytes_length, hlen])
    rw [← Frame.chars_eq, if_pos valid, hlen, List.take_left] at cut
    exact heard_cut cut
  · exact if_pos hlen
  · have bad : ¬ validChars (165 :: dest :: src :: kind :: len :: (body ++ [high, low])) = true := by
      rw [validChars_iff]
      rintro ⟨dest', src', kind', len', body', heq, -, hbody'⟩
      obtain ⟨-, rfl, rfl, rfl, rfl, heq⟩ : _ ∧ _ ∧ _ ∧ _ ∧ _ ∧ _ := by simpa only [List.cons.injEq] using heq
      obtain ⟨rfl, htail⟩ := List.append_inj heq (hbody.trans hbody'.symm)
      exact hcheck htail
    have cut := cutFrame_whole dest src kind len (body ++ [high, low]) rest hlen (by simp [hbody])
    rw [if_neg bad] at cut
    exact cut
  · refine heard_uncut ?_
    have hmax : ¬ Config.maxBody < len.toNat := Nat.not_lt.2 hlen
    have cut : cutFrame (165 :: dest :: src :: kind :: len :: body) = none := by
      unfold cutFrame
      dsimp only
      rw [if_neg hmax, if_pos hbody]
    exact cut

/-! ## One character changed (R181) -/

theorem checkShift_inj {r s : Half} (h : checkShift r = checkShift s) : r = s := by
  have low (x : Half) : (checkShift x).getLsbD 0 = x.getMsbD 0 := by
    unfold checkShift
    split
    · next hx => rw [hx]; simp
    · next hx => simp at hx ⊢; exact hx
  have hmsb : r.getMsbD 0 = s.getMsbD 0 := by rw [← low, ← low, h]
  have hshift : r <<< 1 = s <<< 1 := by
    unfold checkShift at h
    rw [hmsb] at h
    split at h
    · exact (BitVec.xor_left_inj _).1 h
    · exact h
  refine BitVec.eq_of_getLsbD_eq fun i hi => ?_
  by_cases hlast : i = 15
  · subst hlast
    simpa [BitVec.getMsbD] using hmsb
  · have hbit := congrArg (·.getLsbD (i + 1)) hshift
    have hlt : i + 1 < 16 := by omega
    simpa [hlt, ← BitVec.getLsbD_eq_getElem] using hbit

theorem checkShifts_inj : ∀ (n : Nat) {r s : Half}, Nat.repeat checkShift n r = Nat.repeat checkShift n s → r = s
  | 0, _, _, h => h
  | n + 1, _, _, h => checkShifts_inj n (checkShift_inj h)

theorem checkByte_inj_register {c : Byte} {r s : Half} (h : checkByte r c = checkByte s c) : r = s :=
  (BitVec.xor_left_inj _).1 (checkShifts_inj 8 h)

theorem checkByte_inj_byte {c d : Byte} {r : Half} (h : checkByte r c = checkByte r d) : c = d := by
  have hshift := (BitVec.xor_right_inj _).1 (checkShifts_inj 8 h)
  refine BitVec.eq_of_getLsbD_eq fun i hi => ?_
  have hbit := congrArg (·.getLsbD (i + 8)) hshift
  have hlt : i + 8 < 16 := by omega
  have hge : ¬ i + 8 < 8 := by omega
  simpa [hlt, hge] using hbit

theorem checkFold_inj (cs : List Byte) {r s : Half} (h : cs.foldl checkByte r = cs.foldl checkByte s) : r = s := by
  induction cs generalizing r s with
  | nil => exact h
  | cons c cs ih => exact checkByte_inj_register (ih h)

/-- The check of characters of which one is changed. -/
theorem checkOf_set_ne (cs : List Byte) (i : Nat) (h : i < cs.length) {x : Byte} (hx : x ≠ cs[i]) : checkOf (cs.set i x) ≠ checkOf cs := by
  unfold checkOf
  generalize (0xFFFF : Half) = r
  induction cs generalizing r i with
  | nil => exact absurd h (Nat.not_lt_zero _)
  | cons c cs ih =>
    cases i with
    | zero => exact fun heq => hx (checkByte_inj_byte (checkFold_inj cs heq))
    | succ i => exact ih i (Nat.lt_of_succ_lt_succ h) hx (checkByte r c)

theorem halfBytes_inj {v w : Half} (h : halfBytes v = halfBytes w) : v = w := by
  obtain ⟨hhigh, hlow, -⟩ : _ ∧ _ ∧ _ := by simpa only [halfBytes, List.cons.injEq] using h
  refine BitVec.eq_of_getLsbD_eq fun i hi => ?_
  by_cases hi8 : i < 8
  · have hbit := congrArg (·.getLsbD i) hlow
    simpa [hi8] using hbit
  · have hbit := congrArg (·.getLsbD (i - 8)) hhigh
    have hlt : i - 8 < 8 := by omega
    have hadd : 8 + (i - 8) = i := by omega
    simpa [hlt, hadd] using hbit

/-- R158, R181: the characters of a valid frame, taken as those that the check covers and the check. -/
theorem validChars_covered {cs : List Byte} (h : validChars cs = true) :
    ∃ covered : List Byte, cs = 165 :: (covered ++ halfBytes (checkOf covered)) := by
  obtain ⟨dest, src, kind, len, body, rfl, -⟩ := (validChars_iff cs).1 h
  exact ⟨dest :: src :: kind :: len :: body, rfl⟩

theorem List.set_ne_self {α : Type} {l : List α} {i : Nat} (h : i < l.length) {x : α} (hx : x ≠ l[i]) : l.set i x ≠ l := by
  intro heq
  have hget : (l.set i x)[i]? = l[i]? := congrArg (·[i]?) heq
  rw [List.getElem?_set_self h, List.getElem?_eq_getElem h] at hget
  exact hx (Option.some.inj hget)

/-- Settles O14, by the place of the character: the lead character, one that the check covers, or one of the check. -/
theorem oneCharacterChanged : Obligations.OneCharacterChanged := by
  intro cs i h x hvalid hx
  rw [← Bool.not_eq_true]
  intro hset
  obtain ⟨covered, rfl⟩ := validChars_covered hvalid
  obtain ⟨covered', heq⟩ := validChars_covered hset
  cases i with
  | zero => exact hx (List.cons.inj heq).1
  | succ j =>
    have hx : x ≠ (covered ++ halfBytes (checkOf covered))[j]'(Nat.lt_of_succ_lt_succ h) := hx
    have heq : (covered ++ halfBytes (checkOf covered)).set j x = covered' ++ halfBytes (checkOf covered') := (List.cons.inj heq).2
    have hlen : covered.length = covered'.length := by
      have := congrArg List.length heq
      simpa [halfBytes_length] using this
    rw [List.set_append] at heq
    split at heq
    · next hj =>
      obtain ⟨rfl, hcheck⟩ := List.append_inj heq (by rw [List.length_set, hlen])
      rw [List.getElem_append_left hj] at hx
      exact checkOf_set_ne covered j hj hx (halfBytes_inj hcheck).symm
    · next hj =>
      obtain ⟨rfl, hcheck⟩ := List.append_inj heq hlen
      rw [List.getElem_append_right (Nat.le_of_not_lt hj)] at hx
      exact List.set_ne_self _ hx hcheck

end Sys2Proof.Machine


/-! Frames on the line (chapter 9): what a frame received whole does to the Loop Port, the window, and the statements about them. -/

namespace Sys2Proof.Machine

variable {s : State}

/-! ## Commands of a part that is on -/

theorem State.whenOn_on {f : State → State} (h : s.power = .on) : s.whenOn f = f s := if_pos h

/-- A frame of a body of at most 200 characters is taken as what it is. -/
theorem State.whenOn_whole {f : State → Frame} {act : State → State} (h : s.power = .on) (hf : (f s).body.length ≤ 200) :
    (s.whenOn fun s => s.whole (f s) act) = act s := (State.whenOn_on h).trans (s.whole_short _ act hf)

theorem exec_liftReport (h : s.power = .on) (dest src datum index : Byte) {xs : List Byte} (hx : xs.length ≤ 197) :
    exec (.liftReport dest src datum index xs) s = .next (s.receiveReport dest src (b8 xs.length :: datum :: index :: xs)) :=
  congrArg _ (State.whenOn_whole (f := fun _ => ⟨dest, src, kindReport, b8 xs.length :: datum :: index :: xs⟩)
    (act := fun s => s.receiveReport dest src (b8 xs.length :: datum :: index :: xs)) h (by simp only [List.length_cons]; omega))
theorem exec_meterReport (h : s.power = .on) (dest src : Byte) (r p : Half) :
    exec (.meterReport dest src r p) s = .next (s.receiveReport dest src (halfBytes r ++ halfBytes p)) := congrArg _ (State.whenOn_on h)
theorem exec_pointReport (h : s.power = .on) (dest src : Byte) (v : Half) (q : Byte) :
    exec (.pointReport dest src v q) s = .next (s.receiveReport dest src (halfBytes v ++ [q])) := congrArg _ (State.whenOn_on h)
theorem exec_barometerReport (h : s.power = .on) (dest src : Byte) (v : Half) (q : Byte) :
    exec (.barometerReport dest src v q) s = .next (s.receiveReport dest src (halfBytes v ++ [q])) := congrArg _ (State.whenOn_on h)
theorem exec_calorimeterReport (h : s.power = .on) (dest src : Byte) (v : Half) (q : Byte) :
    exec (.calorimeterReport dest src v q) s = .next (s.receiveReport dest src (halfBytes v ++ [q])) := congrArg _ (State.whenOn_on h)
theorem exec_valvePositionReport (h : s.power = .on) (dest src p : Byte) :
    exec (.valvePositionReport dest src p) s = .next (s.receiveReport dest src [p]) := congrArg _ (State.whenOn_on h)
theorem exec_governorReport (h : s.power = .on) (dest src : Byte) (v : Half) (x : Byte) :
    exec (.governorReport dest src v x) s = .next (s.receiveReport dest src (halfBytes v ++ [x])) := congrArg _ (State.whenOn_on h)
theorem exec_frameForwarded (h : s.power = .on) (f : Frame) (hf : f.body.length ≤ 200) :
    exec (.frameForwarded f.dest f.src f.kind f.body) s = .next (s.receive f) :=
  congrArg _ (State.whenOn_whole (f := fun _ => f) (act := fun s => s.receive f) h hf)
theorem exec_scanHead (h : s.power = .on) (dest src cycle : Byte) (first : Bool) :
    exec (.scanHead dest src cycle first) s = .next (s.receiveHead dest src cycle first) := congrArg _ (State.whenOn_on h)
theorem exec_scanTail (h : s.power = .on) (dest src : Byte) {body : List Byte} (hb : body.length ≤ 200) :
    exec (.scanTail dest src body) s = .next (s.receiveTail dest src body) :=
  congrArg _ (State.whenOn_whole (f := fun _ => ⟨dest, src, kindScanTail, body⟩) (act := fun s => s.receiveTail dest src body) h hb)
theorem exec_throughFrameSent (h : s.power = .on) (arriving : Bool) :
    exec (.throughFrameSent arriving) s = .next (s.throughSent arriving) := congrArg _ (State.whenOn_on h)
theorem exec_quietGapElapsed (h : s.power = .on) : exec .quietGapElapsed s = .next s.lineWentQuiet := congrArg _ (State.whenOn_on h)
theorem exec_ownFrameSent (h : s.power = .on) : exec .ownFrameSent s = .next s.ownSent := congrArg _ (State.whenOn_on h)

/-! ## A frame that enters the through-buffer (R160, R166) -/

section Enter

variable {l : LoopPort} (f : LineFrame)

theorem LoopPort.startThrough_idle {g : LineFrame} {gs : List LineFrame} (ht : l.tx = .idle) (hb : l.buffer = g :: gs) :
    l.startThrough = { l with tx := .through g, buffer := gs } := by
  unfold LoopPort.startThrough
  rw [ht, hb]

theorem LoopPort.startThrough_busy (ht : l.tx ≠ .idle) : l.startThrough = l := by
  unfold LoopPort.startThrough
  split
  · next h _ => exact absurd h ht
  · rfl

theorem LoopPort.startThrough_empty (hb : l.buffer = []) : l.startThrough = l := by
  unfold LoopPort.startThrough
  split
  · next _ _ h => exact nomatch hb.symm.trans h
  · rfl

theorem LoopPort.enter_busy (ht : l.tx ≠ .idle) (hlen : l.buffer.length < 8) : l.enter f = { l with buffer := l.buffer ++ [f] } := by
  unfold LoopPort.enter
  rw [if_pos (show l.buffer.length < Config.bufferSize from hlen)]
  exact LoopPort.startThrough_busy ht

theorem LoopPort.enter_dropped {g : LineFrame} (ht : l.tx = .through g) (hlen : 8 ≤ l.buffer.length) : l.enter f = l := by
  unfold LoopPort.enter
  rw [if_neg (show ¬ l.buffer.length < Config.bufferSize from Nat.not_lt.2 hlen), ht]

/-- With the transmitter idle the oldest frame starts, be it the one that enters. -/
theorem LoopPort.enter_idle (ht : l.tx = .idle) {g : LineFrame} {gs : List LineFrame} (hb : l.buffer ++ [f] = g :: gs) :
    l.enter f = { l with tx := .through g, buffer := gs } := by
  have start : { l with buffer := l.buffer ++ [f] }.startThrough = { l with tx := .through g, buffer := gs } :=
    LoopPort.startThrough_idle ht hb
  unfold LoopPort.enter
  split
  · exact start
  · rw [ht] at start ⊢
    exact start

theorem LoopPort.endWindow_eq (l : LoopPort) :
    l.endWindow = { l with window := if l.rearm then .armed else .idle, rearm := false } := by
  obtain ⟨lost, lossExpiry, cycle, window, rearm⟩ := l
  cases rearm <;> rfl

/-- The part's own frame is broken off by one that finds the through-buffer full. -/
theorem LoopPort.enter_breaks {o : OwnFrame} (ht : l.tx = .own o) (hlen : 8 ≤ l.buffer.length) {g : LineFrame} {gs : List LineFrame}
    (hb : l.buffer = g :: gs) : l.enter f = { l.giveBack o with
      tx := .through g, buffer := gs ++ [f], window := if (l.giveBack o).rearm then .armed else .idle, rearm := false } := by
  unfold LoopPort.enter
  rw [if_neg (show ¬ l.buffer.length < Config.bufferSize from Nat.not_lt.2 hlen), ht, hb]
  dsimp only
  rw [LoopPort.endWindow_eq]
  rfl

end Enter

/-! ## Frames only forwarded (R160, R161) -/

/-- A frame that is only forwarded: all that follows is what becomes of the Loop Port. -/
theorem State.forward_eq (s : State) (f : LineFrame) {l : LoopPort} (h : s.loop.enter f = l) :
    s.forward f = { s with loop := { l with lineQuiet := false } } := h ▸ rfl

/-- Settles O21, by the state of the transmitter and of the through-buffer. -/
theorem frameForwarded : Obligations.FrameForwarded := by
  refine ⟨fun s dest src kind body hlong => ?_, fun s dest src kind body hon hbody honly => ?_⟩
  · have whole (s : State) : (s.whole ⟨dest, src, kind, body⟩ fun s => s.receive ⟨dest, src, kind, body⟩) =
        s.hear (Frame.chars ⟨dest, src, kind, body⟩) := if_neg (Nat.not_le.2 hlong)
    exact congrArg (fun f => Host.Outcome.next (s.whenOn f)) (funext whole)
  · have forwarded : exec (.frameForwarded dest src kind body) s = .next (s.forward (.valid ⟨dest, src, kind, body⟩)) :=
      (exec_frameForwarded hon ⟨dest, src, kind, body⟩ hbody).trans (congrArg _ (s.receive_onlyForwards _ honly))
    dsimp only
    rw [forwarded]
    refine ⟨fun g ht hlen => ?_, fun g ht hlen => ?_, fun o ht hlen => ?_, fun ht hb => ?_, fun g gs ht hb => ?_, fun c a g gs ht hb hlen => ?_,
      fun x r rs g gs ht hr hb hlen => ?_, fun c a g gs ht hb hlen => ?_, fun x g gs ht hb hlen => ?_, fun x g gs ht hb hlen => ?_⟩
    · rw [s.forward_eq _ (LoopPort.enter_busy _ (by rw [ht]; exact nofun) hlen)]
    · rw [s.forward_eq _ (LoopPort.enter_dropped _ ht hlen)]
    · rw [s.forward_eq _ (LoopPort.enter_busy _ (by rw [ht]; exact nofun) hlen)]
    · rw [s.forward_eq _ (LoopPort.enter_idle _ ht (by rw [hb]; rfl)), hb]
    · rw [s.forward_eq _ (LoopPort.enter_idle (gs := gs ++ [_]) _ ht (by rw [hb]; rfl))]
    · rw [s.forward_eq _ (LoopPort.enter_breaks _ ht hlen hb)]
      rfl
    · rw [s.forward_eq _ (LoopPort.enter_breaks _ ht hlen hb)]
      simp only [LoopPort.giveBack, hr]
    · rw [s.forward_eq _ (LoopPort.enter_breaks _ ht hlen hb)]
      rfl
    · rw [s.forward_eq _ (LoopPort.enter_breaks _ ht hlen hb)]
      rfl
    · rw [s.forward_eq _ (LoopPort.enter_breaks _ ht hlen hb)]
      rfl

/-- Settles O22: each report is forwarded, and resolves to no role. -/
theorem unroutedReports : Obligations.UnroutedReports := by
  intro s dest src hon hnone
  have forwarded (body : List Byte) := s.receiveReport_none dest src body hnone
  exact ⟨fun datum index xs hx => (exec_liftReport hon dest src datum index hx).trans (congrArg _ (forwarded _)),
    fun r p => (exec_meterReport hon dest src r p).trans (congrArg _ (forwarded _)),
    fun v q => (exec_pointReport hon dest src v q).trans (congrArg _ (forwarded _)),
    fun v q => (exec_barometerReport hon dest src v q).trans (congrArg _ (forwarded _)),
    fun v q => (exec_calorimeterReport hon dest src v q).trans (congrArg _ (forwarded _)),
    fun p => (exec_valvePositionReport hon dest src p).trans (congrArg _ (forwarded _)),
    fun v x => (exec_governorReport hon dest src v x).trans (congrArg _ (forwarded _))⟩

/-! ## SCAN HEAD and SCAN TAIL with the loop UP -/

/-- Settles O25, by the equation of a SCAN HEAD with the loop UP. -/
theorem scanHead : Obligations.ScanHead := by
  intro s dest src cycle first hon hup
  rw [exec_scanHead hon]
  unfold State.receiveHead
  rw [if_neg (by rw [hup]; exact Bool.false_ne_true)]
  rfl

/-- Settles O27, by the equation of a SCAN TAIL. -/
theorem scanTail : Obligations.ScanTail := by
  intro s dest src body hon hbody
  exact exec_scanTail hon dest src hbody

/-! ## The window's opening and the end of a passing frame (R165) -/

theorem LoopPort.mayOpen_iff (l : LoopPort) :
    l.mayOpen = true ↔ l.window = .armed ∧ l.tailForwarded = true ∧ l.buffer = [] ∧ l.lineQuiet = true := by
  simp [LoopPort.mayOpen, and_assoc]

theorem State.tryOpen_shut (h : ¬(s.loop.window = .armed ∧ s.loop.tailForwarded = true ∧ s.loop.buffer = [] ∧ s.loop.lineQuiet = true)) :
    s.tryOpen = s := if_neg (mt s.loop.mayOpen_iff.1 h)

theorem State.tryOpen_busy (h : s.loop.window = .armed ∧ s.loop.tailForwarded = true ∧ s.loop.buffer = [] ∧ s.loop.lineQuiet = true)
    (ht : s.loop.tx ≠ .idle) : s.tryOpen = s.setLoop { s.loop with window := .sending } := by
  unfold State.tryOpen
  rw [if_pos (s.loop.mayOpen_iff.2 h)]
  exact if_neg ht

theorem State.tryOpen_idle (h : s.loop.window = .armed ∧ s.loop.tailForwarded = true ∧ s.loop.buffer = [] ∧ s.loop.lineQuiet = true)
    (ht : s.loop.tx = .idle) : s.tryOpen = (s.setLoop { s.loop with window := .sending }).nextOwn := by
  unfold State.tryOpen
  rw [if_pos (s.loop.mayOpen_iff.2 h)]
  exact if_pos ht

/-- Settles O23, by the window and by what the through-buffer holds. -/
theorem throughFrameSent : Obligations.ThroughFrameSent := by
  intro s f arriving hon htx
  dsimp only
  have sent : exec (.throughFrameSent arriving) s = .next (if s.loop.window = .sending
      then (s.setLoop (s.loop.passedOn f arriving)).nextOwn else (s.setLoop (s.loop.passedOn f arriving).startThrough).tryOpen) := by
    rw [exec_throughFrameSent hon]
    unfold State.throughSent
    rw [htx]
    rfl
  refine ⟨fun hw => ⟨fun g gs hb => ?_, fun hb => ?_⟩, fun hw => ⟨_, sent.trans (congrArg _ (if_pos hw)), State.nextOwn_begins _⟩⟩
  · have start : (s.loop.passedOn f arriving).startThrough = { s.loop.passedOn f arriving with tx := .through g, buffer := gs } :=
      LoopPort.startThrough_idle rfl hb
    rw [sent, if_neg hw, start]
    split
    · next h =>
      rw [State.tryOpen_busy (s := s.setLoop { s.loop.passedOn f arriving with tx := .through g, buffer := gs }) h nofun]
      rfl
    · next h =>
      rw [State.tryOpen_shut (s := s.setLoop { s.loop.passedOn f arriving with tx := .through g, buffer := gs }) h]
      rfl
  · have start : (s.loop.passedOn f arriving).startThrough = s.loop.passedOn f arriving := LoopPort.startThrough_empty hb
    refine ⟨_, sent.trans (congrArg _ (if_neg hw)), ?_⟩
    rw [start]
    split
    · next h =>
      obtain ⟨harmed, htail, hquiet⟩ := h
      rw [State.tryOpen_idle (s := s.setLoop (s.loop.passedOn f arriving)) ⟨harmed, htail, hb, hquiet⟩ rfl]
      exact State.nextOwn_begins _
    · next h =>
      rw [State.tryOpen_shut (s := s.setLoop (s.loop.passedOn f arriving)) fun ⟨harmed, htail, _, hquiet⟩ => h ⟨harmed, htail, hquiet⟩]
      rfl

end Sys2Proof.Machine


/-! The insertion window (R164, R165): its opening, the frame that begins, and the end of a frame of the part's own. -/

namespace Sys2Proof.Machine

variable {s t : State}

/-! ## The frame that begins -/

theorem LoopPort.nextCommand_of_first {l : LoopPort} {c : Command} (h : l.FirstInOrder c) : l.nextCommand = some c := by
  have trip_none (hv : l.commands.find? Command.isAnyValve = none) : l.commands.find? Command.isTrip = none := by
    rw [List.find?_eq_none] at hv ⊢
    intro x hx ht
    refine hv x hx ?_
    cases x with
    | valve => rfl
    | set => exact ht
  unfold LoopPort.nextCommand
  rcases h with ht | ⟨ht, hv⟩ | ⟨hv, d, hd, hbefore⟩
  · rw [ht]; rfl
  · rw [ht, hv]; rfl
  · rw [trip_none hv, hv]
    refine List.findSome?_eq_some_iff.2 ⟨(List.finRange 6).take d, d, (List.finRange 6).drop (d + 1), ?_, hd, fun e he => hbefore e ?_⟩
    · have hget : (List.finRange 6)[d.val]'(by simp) = d := by simp
      conv => lhs; rw [← List.take_append_drop d.val (List.finRange 6), List.drop_eq_getElem_cons (by simp), hget]
    · obtain ⟨j, hj, rfl⟩ := List.getElem_of_mem he
      have hlt : j < d.val := Nat.lt_of_lt_of_le hj (List.length_take_le ..)
      rw [Fin.lt_def]
      simpa using hlt

theorem State.nextOwn_command {b : Bank} {c : Command} {a : Nat} (hl : s.live = some b) (hc : s.loop.FirstInOrder c)
    (ha : b.addressOf c.station = some a) : s.nextOwn = { s with loop := { s.loop with
      commands := s.loop.commands.erase c, tx := .own (.command c ⟨b8 a, b8 s.own, 4, c.body⟩ false) } } := by
  have address : s.commandAddress c = some a := by rw [State.commandAddress, hl]; exact ha
  unfold State.nextOwn State.beginNext
  rw [LoopPort.nextCommand_of_first hc]
  dsimp only
  rw [address]
  rfl

theorem LoopPort.nextCommand_empty {l : LoopPort} (h : l.commands = []) : l.nextCommand = none := by
  unfold LoopPort.nextCommand
  rw [h]
  rfl

theorem State.nextOwn_response {r : List Byte} {rest : List (List Byte)} {rs : List (List (List Byte))} (hc : s.loop.commands = [])
    (hr : s.loop.responses = (r :: rest) :: rs) : s.nextOwn = { s with loop := { s.loop with
      tx := .own (.response ⟨0, b8 s.own, 7, r⟩ (!rest.isEmpty)), responses := if rest = [] then rs else rest :: rs } } := by
  unfold State.nextOwn State.beginNext
  rw [LoopPort.nextCommand_empty hc]
  unfold State.beginResponse
  rw [hr]
  cases rest <;> rfl

theorem State.nextOwn_status (hc : s.loop.commands = []) (hr : s.loop.responses = []) :
    s.nextOwn = { s with loop := { s.loop with tx := .own (.status ⟨0, b8 s.own, 8, s.statusBody⟩) } } := by
  unfold State.nextOwn State.beginNext
  rw [LoopPort.nextCommand_empty hc]
  unfold State.beginResponse
  rw [hr]
  rfl

/-! ## What the beginning of a frame leaves as it is -/

theorem State.Keeps.refl (s : State) : s.Keeps s := ⟨rfl, rfl, rfl, rfl, rfl, rfl, rfl, rfl, rfl, rfl⟩
theorem State.Keeps.trans {u : State} (h : s.Keeps t) (k : t.Keeps u) : s.Keeps u :=
  ⟨k.pending.trans h.pending, k.power.trans h.power, k.own.trans h.own, k.timebase.trans h.timebase, k.clock.trans h.clock,
    k.tables.trans h.tables, k.channels.trans h.channels, k.points.trans h.points, k.barometer.trans h.barometer,
    k.calorimeter.trans h.calorimeter⟩
theorem State.setLoop_keeps (s : State) (l : LoopPort) : s.Keeps (s.setLoop l) := ⟨rfl, rfl, rfl, rfl, rfl, rfl, rfl, rfl, rfl, rfl⟩
theorem OnlyValves.keeps (h : OnlyValves s t) : s.Keeps t :=
  ⟨h.pending, h.power, h.own, h.timebase, h.clock, h.tables, h.channels, h.points, h.barometer, h.calorimeter⟩

/-- What the beginning of a window's frame does not touch. -/
def State.SameLine (s t : State) : Prop := t.loop.lineQuiet = s.loop.lineQuiet ∧ t.loop.buffer = s.loop.buffer ∧ s.Keeps t

theorem State.SameLine.trans {u : State} (h : s.SameLine t) (k : t.SameLine u) : s.SameLine u :=
  ⟨k.1.trans h.1, k.2.1.trans h.2.1, h.2.2.trans k.2.2⟩

theorem State.Begins.sameLine (h : s.Begins t) : s.SameLine t := by
  induction h with
  | command s b c a => exact ⟨rfl, rfl, s.setLoop_keeps _⟩
  | unsent s t c _ _ _ ih =>
    obtain ⟨hquiet, hbuffer, hkeeps⟩ := ih
    have told : s.Keeps { s.commandSent c with loop := { s.loop with commands := s.loop.commands.erase c } } :=
      (s.commandSent_only c).keeps.trans (State.setLoop_keeps _ { s.loop with commands := s.loop.commands.erase c })
    exact ⟨hquiet, hbuffer, told.trans hkeeps⟩
  | response s => exact ⟨rfl, rfl, s.setLoop_keeps _⟩
  | status s => exact ⟨rfl, rfl, s.setLoop_keeps _⟩

theorem State.tryOpen_sameLine (s : State) : s.SameLine s.tryOpen := by
  have opened : s.SameLine (s.setLoop { s.loop with window := .sending }) := ⟨rfl, rfl, s.setLoop_keeps _⟩
  unfold State.tryOpen
  repeat' split
  · exact opened.trans (State.nextOwn_begins _).sameLine
  · exact opened
  · exact ⟨rfl, rfl, .refl s⟩

/-! ## The STATUS frame (R178, Table 39) -/

theorem putN_fits {w n : Nat} (h : n < 256 ^ w) : putN w n = bytesOf w n := if_pos h
theorem bytesOf_length : ∀ (w n : Nat), (bytesOf w n).length = w
  | 0, _ => rfl
  | w + 1, n => by rw [bytesOf, List.length_append, bytesOf_length w]; rfl
theorem putN_length (w n : Nat) : (putN w n).length = w := by
  unfold putN
  split <;> exact bytesOf_length ..

theorem AttnItem.bytes_length (e : AttnItem) : e.bytes.length = 8 := by simp [AttnItem.bytes, putN_length]

/-- The n-th of parts of 8 characters each. -/
theorem drop_flatMap_eight {α : Type} {f : α → List Byte} (hf : ∀ x, (f x).length = 8) (xs : List α) (n : Nat) {x : α}
    (h : xs[n]? = some x) : ((xs.flatMap f).drop (8 * n)).take 8 = f x := by
  induction xs generalizing n with
  | nil => exact nomatch h
  | cons y ys ih =>
    rw [List.flatMap_cons]
    cases n with
    | zero =>
      obtain rfl : y = x := by simpa using h
      rw [Nat.mul_zero, List.drop_zero, List.take_left' (hf y)]
    | succ n =>
      have hmul : 8 * (n + 1) = (f y).length + 8 * n := by rw [hf]; omega
      rw [hmul, ← List.drop_drop, List.drop_left]
      exact ih n (by simpa using h)

/-- The first 12 characters of the body. -/
def State.statusHead (s : State) : List Byte :=
  [b8 (bitsOf [s.running, s.loop.lost, s.loop.cycle.isSome, s.tables.committed, !s.clock.valid]), s.loop.cycle.getD 0] ++
    putN 2 s.tables.generation ++ [b8 s.tables.store.code] ++ putN 2 s.clock.day ++ putN 3 s.clock.sec ++
    [b8 s.attn.items.length, b8 s.attn.shown.length]

theorem State.statusBody_eq (s : State) : s.statusBody = s.statusHead ++ s.attn.shown.flatMap AttnItem.bytes := rfl
theorem State.statusHead_length (s : State) : s.statusHead.length = 12 := by simp [State.statusHead, putN_length]

theorem length_flatMap_eight {α : Type} {f : α → List Byte} (hf : ∀ x, (f x).length = 8) (xs : List α) :
    (xs.flatMap f).length = 8 * xs.length := by
  induction xs with
  | nil => rfl
  | cons x xs ih =>
    rw [List.flatMap_cons, List.length_append, hf, ih, List.length_cons]
    omega

theorem State.statusBody_length (s : State) : s.statusBody.length = 12 + 8 * min 12 s.attn.items.length := by
  rw [s.statusBody_eq, List.length_append, s.statusHead_length, length_flatMap_eight AttnItem.bytes_length]
  simp [Attention.shown]

theorem StoreState.code_eq (x : StoreState) : x.code = [StoreState.empty, .writing, .valid, .failed].idxOf x := by cases x <;> rfl
theorem AttnClass.code_eq (x : AttnClass) : x.code = [AttnClass.urgent, .prompt, .routine].idxOf x := by cases x <;> rfl

/-- A mark in a bit. -/
def markBit (x : Bool) (n : Nat) : Nat := if x then n else 0

theorem bitsOf_five (a b c d e : Bool) :
    bitsOf [a, b, c, d, e] = markBit a 1 + markBit b 2 + markBit c 4 + markBit d 8 + markBit e 16 := by
  cases a <;> cases b <;> cases c <;> cases d <;> cases e <;> rfl

theorem State.statusBody_head (s : State) (hgen : s.tables.generation < 2 ^ 16) (hday : s.clock.day < 2 ^ 16)
    (hsec : s.clock.sec < 2 ^ 24) : s.statusBody.take 12 =
      [b8 (markBit s.running 1 + markBit s.loop.lost 2 + markBit s.loop.cycle.isSome 4 + markBit s.tables.committed 8 +
          markBit (!s.clock.valid) 16), s.loop.cycle.getD 0] ++ bytesOf 2 s.tables.generation ++
        [b8 ([StoreState.empty, .writing, .valid, .failed].idxOf s.tables.store)] ++ bytesOf 2 s.clock.day ++
        bytesOf 3 s.clock.sec ++ [b8 s.attn.items.length, b8 (min 12 s.attn.items.length)] := by
  rw [s.statusBody_eq, List.take_left' s.statusHead_length, State.statusHead, bitsOf_five, putN_fits hgen, putN_fits hday, putN_fits hsec,
    StoreState.code_eq]
  simp only [Attention.shown, List.length_take]

theorem State.statusBody_entry (s : State) {n : Nat} {e : AttnItem} (hn : n < 12) (he : s.attn.items[n]? = some e)
    (hday : e.first.day < 2 ^ 16) (hsec : e.first.sec < 2 ^ 24) : (s.statusBody.drop (12 + 8 * n)).take 8 =
      [b8 e.source.val, b8 ([AttnClass.urgent, .prompt, .routine].idxOf e.cls + markBit (!e.first.valid) 4), b8 e.count] ++
        bytesOf 2 e.first.day ++ bytesOf 3 e.first.sec := by
  have hshown : s.attn.shown[n]? = some e := by simpa [Attention.shown, List.getElem?_take, hn] using he
  have hclock : 4 * clockCode e.first.valid = markBit (!e.first.valid) 4 := by cases e.first.valid <;> rfl
  rw [s.statusBody_eq, ← s.statusHead_length, ← List.drop_drop, List.drop_left,
    drop_flatMap_eight AttnItem.bytes_length s.attn.shown n hshown, AttnItem.bytes, putN_fits hday, putN_fits hsec, AttnClass.code_eq, hclock]

/-- Settles O28, by the frame that the order of the window finds. -/
theorem windowOpens : Obligations.WindowOpens := by
  intro s hon
  dsimp only
  have quiet : exec .quietGapElapsed s = .next (s.setLoop { s.loop with lineQuiet := true }).tryOpen := exec_quietGapElapsed hon
  refine ⟨⟨s.statusBody_length, fun hgen hday hsec => s.statusBody_head hgen hday hsec,
      fun n e hn he hday hsec => s.statusBody_entry hn he hday hsec⟩, ⟨_, quiet, ?_⟩, fun hnot => ?_,
    fun harmed htail hbuffer => ⟨fun htx => ?_, fun htx => ?_⟩⟩
  · obtain ⟨hquiet, hbuffer, hkeeps⟩ := (s.setLoop { s.loop with lineQuiet := true }).tryOpen_sameLine
    exact ⟨hquiet, hbuffer, (s.setLoop_keeps _).trans hkeeps⟩
  · rw [quiet, State.tryOpen_shut]
    · rfl
    · rintro ⟨harmed, htail, hbuffer, -⟩
      rcases hnot with h | h | h
      · exact h harmed
      · exact nomatch h.symm.trans htail
      · exact h hbuffer
  · rw [quiet, State.tryOpen_busy (s := s.setLoop { s.loop with lineQuiet := true }) ⟨harmed, htail, hbuffer, rfl⟩ htx]
    rfl
  · rw [State.tryOpen_idle (s := s.setLoop { s.loop with lineQuiet := true }) ⟨harmed, htail, hbuffer, rfl⟩ htx] at quiet
    generalize hu : (s.setLoop { s.loop with lineQuiet := true }).setLoop
      { (s.setLoop { s.loop with lineQuiet := true }).loop with window := .sending } = u at quiet
    have opened : { s with loop := { s.loop with window := .sending, lineQuiet := true } } = u := hu
    rw [opened]
    refine ⟨⟨_, quiet, State.nextOwn_begins _⟩, fun b c a hl hc ha => ?_, fun r rest rs hc hr => ?_, fun hc hr => ?_⟩
    · rw [quiet, State.nextOwn_command (s := u) (by subst hu; exact hl) (by subst hu; exact hc) ha, ← opened]
    · rw [quiet, State.nextOwn_response (s := u) (by subst hu; exact hc) (by subst hu; exact hr), ← opened]
    · rw [quiet, State.nextOwn_status (s := u) (by subst hu; exact hc) (by subst hu; exact hr), ← opened]
      rfl

/-! ## The end of a frame of the part's own (R165, R166) -/

theorem LoopPort.endWindow_startThrough {l : LoopPort} (ht : l.tx = .idle) {g : LineFrame} {gs : List LineFrame} (hb : l.buffer = g :: gs) :
    l.endWindow.startThrough = { l with
      tx := .through g, buffer := gs, window := if l.rearm then .armed else .idle, rearm := false } := by
  rw [LoopPort.endWindow_eq]
  exact LoopPort.startThrough_idle ht hb

/-- R165, R166: after a command or a response, the owner of a command having been told. -/
theorem State.ownSent_goesOn {o : OwnFrame} (htx : s.loop.tx = .own o) (ho : ∀ f, o ≠ .status f) :
    (∀ g gs, s.loop.buffer = g :: gs → 6 ≤ s.loop.buffer.length → s.ownSent = { s.tellOwner o with loop := { s.loop with
      tx := .through g, buffer := gs, window := if s.loop.rearm then .armed else .idle, rearm := false } }) ∧
    (s.loop.buffer.length < 6 → State.Begins { s.tellOwner o with loop := { s.loop with tx := .idle } } s.ownSent) := by
  have told : (s.tellOwner o).loop = s.loop := by
    unfold State.tellOwner
    split
    · exact s.commandSent_loop _
    · rfl
  have sent : s.ownSent = if Config.yieldAt ≤ s.loop.buffer.length
      then { s.tellOwner o with loop := { s.loop with tx := .idle }.endWindow.startThrough }
      else State.nextOwn { s.tellOwner o with loop := { s.loop with tx := .idle } } := by
    unfold State.ownSent
    rw [htx]
    dsimp only
    rw [told]
    cases o with
    | status f => exact absurd rfl (ho f)
    | command => rfl
    | response => rfl
  rw [sent]
  constructor
  · intro g gs hb hlen
    rw [if_pos (show Config.yieldAt ≤ s.loop.buffer.length from hlen),
      LoopPort.endWindow_startThrough (l := { s.loop with tx := .idle }) rfl hb]
  · intro hlen
    rw [if_neg (show ¬ Config.yieldAt ≤ s.loop.buffer.length from Nat.not_le.2 hlen)]
    exact State.nextOwn_begins _

/-- Settles O29, by the kind of the frame that has been sent. -/
theorem ownFrameSent : Obligations.OwnFrameSent := by
  intro s hon
  dsimp only
  have sent : exec .ownFrameSent s = .next s.ownSent := exec_ownFrameSent hon
  have goesOn {o : OwnFrame} {told : State} (htx : s.loop.tx = .own o) (ho : ∀ f, o ≠ .status f) (ht : s.tellOwner o = told) :
      (∀ g gs, s.loop.buffer = g :: gs → 6 ≤ s.loop.buffer.length → exec .ownFrameSent s = .next { told with loop := { s.loop with
        tx := .through g, buffer := gs, window := if s.loop.rearm then .armed else .idle, rearm := false } }) ∧
      (s.loop.buffer.length < 6 → Completes .ownFrameSent s (State.Begins { told with loop := { s.loop with tx := .idle } })) := by
    subst ht
    obtain ⟨hyield, hnext⟩ := State.ownSent_goesOn htx ho
    exact ⟨fun g gs hb hlen => sent.trans (congrArg _ (hyield g gs hb hlen)), fun hlen => ⟨_, sent, hnext hlen⟩⟩
  have status {x : Frame} (htx : s.loop.tx = .own (.status x)) :
      s.ownSent = s.setLoop { s.loop with tx := .idle }.endWindow.startThrough := by
    unfold State.ownSent
    rw [htx]
    rfl
  refine ⟨fun x htx hb => ?_, fun x g gs htx hb => ?_, fun v op dir tag trip x void htx => ⟨fun htag hphase => ?_, fun hnot => ?_⟩,
    fun d n x void htx => ?_, fun x more htx => ?_⟩
  · have ended : LoopPort.startThrough { s.loop with tx := .idle, window := if s.loop.rearm then .armed else .idle, rearm := false } =
        { s.loop with tx := .idle, window := if s.loop.rearm then .armed else .idle, rearm := false } := LoopPort.startThrough_empty hb
    rw [sent, status htx, LoopPort.endWindow_eq]
    exact congrArg (fun l => Host.Outcome.next (s.setLoop l)) ended
  · rw [sent, status htx, LoopPort.endWindow_startThrough (l := { s.loop with tx := .idle }) rfl hb]
    rfl
  · exact goesOn htx nofun (if_pos ⟨htag, hphase⟩)
  · exact goesOn htx nofun (if_neg fun ⟨htag, hphase⟩ => hnot.elim (absurd htag) hphase)
  · exact goesOn htx nofun rfl
  · exact goesOn htx nofun rfl

end Sys2Proof.Machine

/-! # The state of reset

The values that every block has at power-on without a bank, and that the invariants hold of them. -/

namespace Sys2Proof.Machine

/-! ## The blocks of the reset state, place by place -/

theorem reset_holder (h : Fin 4) : State.reset.holders[h] = HolderRec.restored none 0 := by
  simp [State.reset, State.poweredOn, Nonvolatile.initial]

theorem reset_channel (m : Fin 12) : State.reset.channels[m] = ChannelRec.initial := by
  revert m; decide

theorem reset_point (p : Fin 24) : State.reset.points[p] = PointRec.initial := by
  revert p; decide

theorem reset_valve (v : Fin 8) : State.reset.valves[v] = ValveRec.initial := by
  revert v; decide

theorem reset_perm (v : Fin 8) : State.reset.perms[v] = PermRec.initial := by
  revert v; decide

theorem reset_role (h : Fin 4) : State.reset.prog.roles[h] = RoleRec.initial := by
  revert h; decide

theorem reset_district (d : Fin 6) : State.reset.districts[d] = DistrictRec.initial := by
  revert d; decide

theorem reset_live : State.reset.live = none := rfl

/-! ## The invariants hold of it -/

theorem Logs.empty_ok : Logs.empty.Ok := ⟨Nat.zero_le _, Nat.zero_le _, fun _ h => absurd h (Nat.not_lt_zero _)⟩

theorem reset_lineOk : State.reset.loop.LineOk := ⟨Nat.zero_le _, Nat.zero_le _⟩

theorem reset_queueOk : State.reset.loop.QueueOk := ⟨fun _ => Nat.zero_le _, fun _ => Nat.zero_le _⟩

/-- One entry, of one occurrence, is a list in every order. -/
theorem reset_attn_ok : State.reset.attn.Ok :=
  ⟨List.pairwise_singleton _ _, List.pairwise_singleton _ _, by
    intro e he
    obtain rfl := List.mem_singleton.mp he
    decide⟩

theorem reset_attn_inOrder : State.reset.attn.InOrder :=
  ⟨List.pairwise_singleton _ _, List.pairwise_singleton _ _, by
    intro e he
    obtain rfl := List.mem_singleton.mp he
    decide⟩

theorem reset_banksOk : State.reset.BanksOk := ⟨fun _ h => (nomatch h), fun h => (nomatch h)⟩

theorem reset_intervalOk : State.reset.IntervalOk := fun _ => ⟨rfl, fun _ => rfl⟩

theorem reset_permitOk : State.reset.PermitOk := by
  intro v
  rw [reset_valve, reset_perm]
  exact ⟨fun _ h => (nomatch h), fun _ h => (nomatch h), fun h => (nomatch h), fun _ => ⟨rfl, rfl, rfl⟩⟩

theorem reset_runsOk : State.reset.RunsOk := by
  refine ⟨fun h => ?_, fun d => ?_, fun d => ?_⟩
  · rw [reset_holder]; exact ⟨Nat.zero_le _, Nat.zero_le _, .inl rfl⟩
  · rw [reset_district]; exact ⟨.inl rfl, Nat.zero_le _⟩
  · rw [reset_district]; exact ⟨fun _ h => (nomatch h), fun _ => ⟨rfl, rfl⟩⟩

/-- Settles O3: block by block, the power-on records and the invariants of them. -/
theorem resetState : Obligations.ResetState := by
  unfold Obligations.ResetState
  refine ⟨fun h => ?holder, fun m => ?channel, reset_point, rfl, rfl, fun v => ?valve, reset_perm, reset_role, rfl, rfl,
    fun d => ?district, rfl, rfl, rfl, rfl, rfl, rfl, rfl, rfl, rfl, rfl, rfl, rfl, rfl, rfl, rfl, rfl, rfl, rfl, rfl, rfl, rfl,
    rfl, ⟨Nat.zero_le _, Nat.zero_le _, Nat.succ_pos _⟩, ⟨Logs.empty_ok, Logs.empty_ok, Logs.empty_ok⟩, reset_lineOk,
    reset_queueOk, reset_attn_ok, reset_attn_inOrder, List.nodup_nil, reset_banksOk, reset_intervalOk, reset_permitOk, reset_runsOk⟩
  case holder => rw [reset_holder]; exact ⟨rfl, rfl, rfl, rfl, rfl, rfl, rfl, rfl, rfl⟩
  case channel => rw [reset_channel]; exact ⟨rfl, rfl, rfl, rfl⟩
  case valve => rw [reset_valve]; exact ⟨rfl, rfl, rfl⟩
  case district => rw [reset_district]; exact ⟨rfl, rfl, rfl⟩

end Sys2Proof.Machine

/-! # Directives of the desk

A directive to the part's own address is absorbed and acted on by its code: one equation for all of them, and what follows from it for
the directives that are turned away (R161, R168, R172, R173). -/

namespace Sys2Proof.Machine

variable {s : State}

/-! ## Every directive by its code -/

/-- R172: whether a directive's body has the length of Table 36. -/
def lengthOkOf (code : Nat) (ps : List Byte) : Bool :=
  match paramCount code with
  | some n => ps.length == n
  | none => if code = 1 then loadLengthOk ps else true

/-- Table 36: what the directive of a code does with its parameters. -/
def State.actOf (code : Nat) (ps : List Byte) (s : State) : Act :=
  match code with
  | 1 => s.actLoadSegment ps
  | 2 => s.actCommit
  | 3 => s.actDiscard
  | 4 => s.actReadTable ps
  | 5 => s.actReadInterval (param [4] ps 0)
  | 6 => s.actReadNext
  | 7 => s.actReadDay (param [2] ps 0)
  | 8 => s.actReadHolder (param [1] ps 0)
  | 9 => s.actReadValve (param [1] ps 0)
  | 10 => s.actReadMeter (param [1] ps 0)
  | 11 => s.actReadDistrict (param [1] ps 0)
  | 12 => s.actReadPoint (param [1] ps 0)
  | 13 => s.actSetClock ⟨param [2, 3] ps 0, param [2, 3] ps 1⟩
  | 14 => s.actValve (param [1, 1] ps 0) (param [1, 1] ps 1)
  | 15 => s.actSetPermit (param [1, 1] ps 0) (param [1, 1] ps 1)
  | 16 => s.actWithdrawPermit (param [1, 1] ps 0) (param [1, 1] ps 1)
  | 17 => s.actHoldRole (param [1] ps 0)
  | 18 => s.actReleaseRole (param [1] ps 0)
  | 19 => s.actPresetLift (param [1, 2] ps 0) (param [1, 2] ps 1)
  | 20 => s.actTrim (param [1, 2] ps 0) (param [1, 2] ps 1)
  | 21 => s.actClearAttention (param [1, 1] ps 0) (param [1, 1] ps 1)
  | 22 => s.actRestart
  | _ => s.refuse .unknownDirective

/-- A directive of the desk to a part that is on, of at most 198 parameters, is absorbed and handed to the Directive Handler. -/
theorem State.fromDesk_on (s : State) (hon : s.power = .on) {body : List Byte} (hlen : body.length ≤ 200) (f : State → State) :
    s.fromDesk body f = .next (f s.absorb) :=
  congrArg _ (State.whenOn_whole (f := fun s => ⟨b8 s.own, 0, kindDirective, body⟩) (act := fun s => f s.absorb) hon hlen)

theorem exec_directive {i : Instr} {code : Nat} {ref : Byte} {ps : List Byte} (hi : directiveOf i = some (code, ref, ps))
    (hon : s.power = .on) (hlen : ps.length ≤ 198) :
    exec i s = .next (s.absorb.directive (b8 code) ref (lengthOkOf code ps) (State.actOf code ps)) := by
  have handed := s.fromDesk_on hon (body := b8 code :: ref :: ps) (by simp only [List.length_cons]; omega) fun s =>
    s.directive (b8 code) ref (lengthOkOf code ps) (State.actOf code ps)
  refine Eq.trans ?_ handed
  cases i
  case setClock broadcast r p =>
    cases broadcast
    · cases hi; rfl
    · exact nomatch hi
  all_goals cases hi
  all_goals rfl

/-- One that finds room for its response and has the right length is acted on. -/
theorem exec_directive_acts {i : Instr} {code : Nat} {ref : Byte} {ps : List Byte} (hi : directiveOf i = some (code, ref, ps))
    (hcan : s.canAnswer) (hlen : ps.length ≤ 198) (hok : lengthOkOf code ps = true) :
    exec i s = .next ((State.actOf code ps s.absorb).1.respond (b8 code) ref (State.actOf code ps s.absorb).2) := by
  rw [exec_directive hi hcan.1 hlen, hok]
  exact congrArg _ (s.absorb.directive_acts (b8 code) ref _ hcan.2)

/-- A refusal changes nothing but the response queue. -/
theorem exec_directive_refused {i : Instr} {code : Nat} {ref : Byte} {ps : List Byte} {r : Reason} {data : List Byte}
    (hi : directiveOf i = some (code, ref, ps)) (hcan : s.canAnswer) (hlen : ps.length ≤ 198) (hok : lengthOkOf code ps = true)
    (hact : State.actOf code ps s.absorb = (s.absorb, .refused r data)) :
    exec i s = .next (s.refuses (b8 code) ref (b8 r.code) data) := by
  rw [exec_directive_acts hi hcan hlen hok, hact]
  exact congrArg _ (s.absorb_refuse _ ref r data)

/-- A directive answered in one frame, that leaves the state `t` but for the response. -/
theorem exec_directive_answered {i : Instr} {code : Nat} {ref : Byte} {ps : List Byte} {t : State} {data : List Byte}
    (hi : directiveOf i = some (code, ref, ps)) (hcan : s.canAnswer) (hlen : ps.length ≤ 198) (hok : lengthOkOf code ps = true)
    (hact : State.actOf code ps s.absorb = (t.absorb, one data)) :
    exec i s = .next (t.accepts (b8 code) ref data) := by
  rw [exec_directive_acts hi hcan hlen hok, hact]
  exact congrArg _ (t.absorb_answer _ ref data)

theorem State.withBank_live {b : Bank} (h : s.live = some b) (f : Bank → Act) : s.withBank f = f b := by
  unfold State.withBank; rw [h]
theorem State.withBank_none (h : s.live = none) (f : Bank → Act) : s.withBank f = s.refuse .unconfigured := by
  unfold State.withBank; rw [h]

/-! ## Parameters -/

theorem param_byte (ws : List Nat) (n : Byte) (ps : List Byte) : param (1 :: ws) (n :: ps) 0 = n.toNat := by
  simp [param, fieldsOf, fld, natOf]
theorem param_byte_next (ws : List Nat) (n : Byte) (ps : List Byte) (i : Nat) :
    param (1 :: ws) (n :: ps) (i + 1) = param ws ps i := rfl
theorem param_half (ws : List Nat) {n : Nat} (h : n < 65536) (ps : List Byte) : param (2 :: ws) (bytesOf 2 n ++ ps) 0 = n := by
  unfold param
  rw [fieldsOf, List.take_left' (bytesOf_length 2 n), natOf_bytesOf_two n h]
  rfl
theorem param_half_next (ws : List Nat) (n : Nat) (ps : List Byte) (i : Nat) :
    param (2 :: ws) (bytesOf 2 n ++ ps) (i + 1) = param ws ps i := by
  unfold param
  rw [fieldsOf, List.drop_left' (bytesOf_length 2 n)]
  rfl

/-- A number from 0 to 255 as it comes back. -/
theorem param_small (ws : List Nat) {n : Nat} (h : n < 256) (ps : List Byte) : param (1 :: ws) (b8 n :: ps) 0 = n :=
  (param_byte ws (b8 n) ps).trans (toNat_b8 h)

theorem placeOf_eq_none {n k : Nat} : placeOf n k = none ↔ k = 0 ∨ n < k := by
  unfold placeOf
  split <;> simp <;> omega

theorem Bank.fittedHolder_none {b : Bank} {n : Nat} (h : ∀ k : Fin 4, b.fitted k = true → n ≠ k.val + 1) : b.fittedHolder n = none := by
  rw [Bank.fittedHolder, Option.filter_eq_none_iff]
  intro k hk hf
  exact h k hf (placeOf_eq_some.1 hk)

theorem Bank.fittedValve_none {b : Bank} {n : Nat} (h : ∀ v : Fin 8, b.fitted (holderOf v) = true → n ≠ v.val + 1) :
    b.fittedValve n = none := by
  rw [Bank.fittedValve, Option.filter_eq_none_iff]
  intro v hv hf
  exact h v hf (placeOf_eq_some.1 hv)

theorem Bank.fittedHolder_some {b : Bank} {h : Fin 4} (hf : b.fitted h = true) : b.fittedHolder (h.val + 1) = some h := by
  rw [Bank.fittedHolder, placeOf_succ, Option.filter_some, if_pos hf]

theorem Bank.fittedValve_some {b : Bank} {v : Fin 8} (hf : b.fitted (holderOf v) = true) : b.fittedValve (v.val + 1) = some v := by
  rw [Bank.fittedValve, placeOf_succ, Option.filter_some, if_pos hf]

/-! ## Directives that are turned away -/

/-- R173: the directives that act on the jobs are refused in UNCONFIGURED mode. -/
theorem State.actOf_unconfigured (h : s.live = none) {code : Nat} {ps : List Byte}
    (hcode : code ∈ [8, 9, 10, 11, 12, 13, 14, 15, 16, 17, 18, 19, 20, 22] ∨ (code = 4 ∧ ps.head? = some 0) ∨
      (code = 5 ∧ ps = [0, 0, 0, 0])) :
    State.actOf code ps s = s.refuse .unconfigured := by
  rcases hcode with hcode | ⟨rfl, hhead⟩ | ⟨rfl, rfl⟩
  · simp only [List.mem_cons, List.not_mem_nil, or_false] at hcode
    rcases hcode with rfl | rfl | rfl | rfl | rfl | rfl | rfl | rfl | rfl | rfl | rfl | rfl | rfl | rfl
    all_goals exact State.withBank_none h _
  · obtain ⟨ps, rfl⟩ : ∃ qs, ps = 0 :: qs := by cases ps <;> simp_all
    exact State.withBank_none h _
  · show s.actReadInterval 0 = _
    unfold State.actReadInterval
    rw [if_pos rfl, h]

/-- A code that Table 31 does not have is refused, whatever its parameters. -/
theorem State.takeByCode_unknown {code : Byte} (h : code.toNat = 0 ∨ 22 < code.toNat) (ref : Byte) (ps : List Byte) :
    s.takeByCode code ref ps = s.takeUnknown code ref := by
  unfold State.takeByCode
  split
  case h_23 => rfl
  all_goals omega

/-- R172: what a directive of an unknown code leaves. -/
theorem exec_directiveUnknown (hon : s.power = .on) {body : List Byte} (hlen : body.length ≤ 200) :
    exec (.directiveUnknown body) s = .next (s.absorb.takeDirective body) :=
  s.fromDesk_on hon hlen fun s => s.takeDirective body

theorem State.takeUnknown_refused (hroom : s.loop.responses.length < 8) (code ref : Byte) :
    s.absorb.takeUnknown code ref = s.refuses code ref 9 [] :=
  (s.absorb.directive_acts code ref _ hroom).trans (s.absorb_refuse code ref .unknownDirective [])

/-- Settles O48: by the equation of the directives, and that of a broadcast SET CLOCK in the state that its forwarding leaves. -/
theorem directivesTurnedAway : Obligations.DirectivesTurnedAway := by
  refine ⟨?own, ?broadcast, ?numbers, ?unknown⟩
  case own =>
    intro s i code ref ps hi hon hlen
    refine ⟨fun hfull => ?_, fun n hroom hcount hne => ?_, fun n hroom hlive hcount heq hcode => ?_⟩
    · rw [exec_directive hi hon hlen]
      exact congrArg _ (s.absorb.directive_overrun _ ref _ _ hfull)
    · have hbad : lengthOkOf code ps = false := by simpa [lengthOkOf, hcount] using hne
      rw [exec_directive hi hon hlen, hbad]
      exact congrArg _ ((s.absorb.directive_length _ ref _ hroom).trans (s.absorb_refuse _ ref .outOfRange []))
    · have hok : lengthOkOf code ps = true := by simpa [lengthOkOf, hcount] using heq
      exact exec_directive_refused hi ⟨hon, hroom⟩ hlen hok (State.actOf_unconfigured (s := s.absorb) hlive hcode)
  case broadcast =>
    intro s ref ps hon hlen p
    have htake : exec (.setClock true ref ps) s = .next (p.takeSetClock ref ps) :=
      congrArg _ ((State.whenOn_whole (f := fun _ => ⟨255, 0, kindDirective, 13 :: ref :: ps⟩)
        (act := fun s => s.receiveDirective 255 0 (13 :: ref :: ps)) hon (by simp only [List.length_cons]; omega)).trans
        (s.receiveDirective_setClock ref ps))
    have hquiet : p.loop.lineQuiet = false := rfl
    rw [htake]
    refine ⟨fun hfull => congrArg _ (p.directive_overrun 13 ref _ _ hfull), fun hroom hne => ?_, fun hroom hlive heq => ?_⟩
    · have hbad : (ps.length == 5) = false := by simpa using hne
      unfold State.takeSetClock
      rw [hbad]
      exact congrArg _ ((p.directive_length 13 ref _ hroom).trans (p.respond_refuse 13 ref .outOfRange [] hquiet))
    · have hok : (ps.length == 5) = true := by simpa using heq
      unfold State.takeSetClock
      rw [hok, p.directive_acts 13 ref _ hroom, State.actSetClock, State.withBank_none (s := p) hlive]
      exact congrArg _ (p.respond_refuse 13 ref .unconfigured [] hquiet)
  case numbers =>
    intro s b ref n x y hcan hlive
    refine ⟨fun hno => ?_, fun hno => ?_, fun hno => ?_⟩
    · have hnone := Bank.fittedHolder_none hno
      refine ⟨?_, ?_, ?_, ?_, ?_⟩
      all_goals
        refine exec_directive_refused (r := .outOfRange) rfl hcan (by simp) rfl ?_
        refine (State.withBank_live (s := s.absorb) hlive _).trans ?_
        rw [param_byte, hnone]
        rfl
    · refine exec_directive_refused (r := .outOfRange) rfl hcan (by simp) rfl ?_
      refine (State.withBank_live (s := s.absorb) hlive _).trans ?_
      rw [param_byte, Bank.fittedValve_none hno]
      rfl
    · have hnone : ((placeOf 6 n.toNat).filter fun d => b.districts[d].used) = none := by
        rw [Option.filter_eq_none_iff]
        intro d hd hu
        exact hno d hu (placeOf_eq_some.1 hd)
      refine exec_directive_refused (r := .outOfRange) rfl hcan (by simp) rfl ?_
      refine (State.withBank_live (s := s.absorb) hlive _).trans ?_
      rw [param_byte, hnone]
      rfl
  case unknown =>
    intro s body hon hlen
    refine ⟨?_, fun hshort hroom => ?_, fun src hsrc => ?_⟩
    · rintro code ref ps rfl hcode hroom
      rw [exec_directiveUnknown hon hlen]
      exact congrArg _ ((State.takeByCode_unknown hcode ref ps).trans (State.takeUnknown_refused hroom code ref))
    · have htake : s.absorb.takeDirective body = s.absorb.takeUnknown 0 0 := by
        match body, hshort with
        | [], _ => rfl
        | [_], _ => rfl
      rw [exec_directiveUnknown hon hlen, htake, State.takeUnknown_refused hroom]
    · refine congrArg _ ((State.whenOn_whole (f := fun s => ⟨b8 s.own, src, kindDirective, body⟩)
        (act := fun s => if src = 0 then s.absorb.takeDirective body else s.absorb) hon hlen).trans (if_neg hsrc))

end Sys2Proof.Machine

/-! # Tables loaded and read

The bytes of an entry read back as they were loaded; LOAD SEGMENT, DISCARD and READ TABLE (R148, R149, R153). -/

namespace Sys2Proof.Machine

variable {s : State}

/-! ## Numbers and bytes -/

theorem natOf_append (bs : List Byte) (c : Byte) : natOf (bs ++ [c]) = natOf bs * 256 + c.toNat := by
  simp [natOf, List.foldl_append]

/-- Induction from the last byte: one that core Lean, on which the package builds, does not have. -/
theorem bytes_snoc_induction {P : List Byte → Prop} (nil : P []) (append : ∀ bs c, P bs → P (bs ++ [c])) (bs : List Byte) : P bs := by
  rw [← bs.reverse_reverse]
  induction bs.reverse with
  | nil => exact nil
  | cons c cs ih => rw [List.reverse_cons]; exact append _ _ ih

theorem natOf_lt (bs : List Byte) : natOf bs < 256 ^ bs.length := by
  induction bs using bytes_snoc_induction with
  | nil => exact Nat.one_pos
  | append bs c ih =>
    rw [natOf_append, List.length_append, List.length_singleton, Nat.pow_succ]
    have := c.isLt
    omega

theorem bytesOf_natOf (bs : List Byte) : bytesOf bs.length (natOf bs) = bs := by
  induction bs using bytes_snoc_induction with
  | nil => rfl
  | append bs c ih =>
    have hc := c.isLt
    have hdiv : (natOf bs * 256 + c.toNat) / 256 = natOf bs := by omega
    have hlow : BitVec.ofNat 8 (natOf bs * 256 + c.toNat) = c := by
      apply BitVec.eq_of_toNat_eq
      rw [BitVec.toNat_ofNat]
      omega
    rw [natOf_append, List.length_append, List.length_singleton, bytesOf, hdiv, hlow, ih]

theorem putN_natOf {w : Nat} {bs : List Byte} (h : bs.length = w) : putN w (natOf bs) = bs := by
  subst h
  rw [putN_fits (natOf_lt bs), bytesOf_natOf]

/-- Bytes cut into fields, and the fields written again. -/
theorem fieldBytes_fieldsOf : ∀ (ws : List Nat) (bs : List Byte), bs.length = ws.sum → fieldBytes ws (fieldsOf ws bs) = bs
  | [], _, h => (List.eq_nil_of_length_eq_zero h).symm
  | w :: ws, bs, h => by
    rw [List.sum_cons] at h
    have htake : (bs.take w).length = w := List.length_take_of_le (by omega)
    have hdrop : (bs.drop w).length = ws.sum := by rw [List.length_drop]; omega
    rw [fieldsOf, fieldBytes, putN_natOf htake, fieldBytes_fieldsOf ws _ hdrop, List.take_append_drop]

theorem fieldsOf_length : ∀ (ws : List Nat) (bs : List Byte), (fieldsOf ws bs).length = ws.length
  | [], _ => rfl
  | _ :: ws, _ => congrArg (· + 1) (fieldsOf_length ws _)

theorem bitsOf_lt : ∀ l : List Bool, bitsOf l < 2 ^ l.length
  | [] => Nat.one_pos
  | b :: l => by
    have := bitsOf_lt l
    rw [bitsOf, List.length_cons, Nat.pow_succ]
    split <;> omega

theorem TableStore.markBytes_eq (t : TableStore) : t.markBytes = bytesOf 2 (bitsOf t.marks.toList) := by
  refine putN_fits (Nat.lt_of_lt_of_le (bitsOf_lt _) ?_)
  rw [Vector.length_toList]
  decide

/-! ## Entries of the tables -/

/-- Reading the fields of a list one by one gives the list. -/
theorem map_fld_range {n : List Nat} {k : Nat} (h : n.length = k) : (List.range k).map (fld n) = n := by
  subst h
  refine List.ext_getElem (by simp) fun i hi _ => ?_
  have hi : i < n.length := by simpa using hi
  simp [fld, hi]

theorem fields_setFields_entry {α : Type} {k : Nat} (v : Vector α k) {i : Nat} (hi : i < k) (x : α) (f : α → List Nat) :
    ((v.setIfInBounds i x)[i]?.map f).getD [] = f x := by
  simp [hi]

/-- An entry written reads back with its fields. -/
theorem Bank.fields_setFields_same (b : Bank) {t i : Nat} {n : List Nat} (ht : 1 ≤ t ∧ t ≤ 12) (hi : i < entryCount t)
    (hn : n.length = (entryWidths t).length) : (b.setFields t i n).fields t i = n := by
  obtain ⟨h1, h12⟩ := ht
  match t, h1, h12 with
  | 1, _, _ => exact (fields_setFields_entry _ hi _ _).trans (map_fld_range hn)
  | 2, _, _ => exact (fields_setFields_entry _ hi _ _).trans (map_fld_range hn)
  | 3, _, _ => exact (fields_setFields_entry _ hi _ _).trans (map_fld_range hn)
  | 4, _, _ => exact (fields_setFields_entry _ hi _ _).trans (map_fld_range hn)
  | 5, _, _ => exact (fields_setFields_entry _ hi _ _).trans (map_fld_range hn)
  | 6, _, _ => exact (fields_setFields_entry _ hi _ _).trans (map_fld_range hn)
  | 7, _, _ => exact (fields_setFields_entry _ hi _ _).trans (map_fld_range hn)
  | 8, _, _ => exact (fields_setFields_entry _ hi _ _).trans (map_fld_range hn)
  | 9, _, _ => exact (fields_setFields_entry _ hi _ _).trans (map_fld_range hn)
  | 10, _, _ => exact (fields_setFields_entry _ hi _ _).trans (map_fld_range hn)
  | 11, _, _ =>
    obtain rfl : i = 0 := by simp only [entryCount] at hi; omega
    exact map_fld_range hn
  | 12, _, _ => exact (fields_setFields_entry _ hi _ _).trans (map_fld_range hn)

theorem entry_setIfInBounds_other {α : Type} {k : Nat} (v : Vector α k) {i j : Nat} (h : i ≠ j) (x : α) :
    (v.setIfInBounds i x)[j]? = v[j]? := by
  simp [h]

/-- An entry written leaves every other entry of every table as it was. -/
theorem Bank.fields_setFields_other (b : Bank) {t i u j : Nat} (n : List Nat) (h : u ≠ t ∨ j ≠ i) :
    (b.setFields t i n).fields u j = b.fields u j := by
  by_cases hu : u = t
  · subst hu
    have hij : i ≠ j := (h.resolve_left (fun k => k rfl)).symm
    unfold Bank.setFields Bank.fields
    split <;> simp only [entry_setIfInBounds_other _ hij]
    split <;> simp_all
  · unfold Bank.setFields
    split <;> unfold Bank.fields <;> split <;> first | rfl | exact absurd rfl hu | skip
    all_goals split <;> rfl

theorem Bank.fields_loadEntries (t : Nat) : ∀ (n i : Nat) (bs : List Byte) (b : Bank) (u j : Nat), u ≠ t ∨ j < i ∨ i + n ≤ j →
    (Bank.loadEntries t n i bs b).fields u j = b.fields u j
  | 0, _, _, _, _, _, _ => rfl
  | n + 1, i, bs, b, u, j, h => by
    rw [Bank.loadEntries, Bank.fields_loadEntries t n (i + 1) _ _ u j (by omega)]
    exact b.fields_setFields_other _ (by omega)

/-- R148, R149: the entries of a segment read back as the bytes loaded. -/
theorem Bank.readEntries_loadEntries {t : Nat} (ht : 1 ≤ t ∧ t ≤ 12) : ∀ (n i : Nat) (bs : List Byte) (b : Bank),
    i + n ≤ entryCount t → bs.length = n * entrySize t → (Bank.loadEntries t n i bs b).readEntries t n i = bs
  | 0, _, _, _, _, h => (List.eq_nil_of_length_eq_zero (h.trans (Nat.zero_mul _))).symm
  | n + 1, i, bs, b, hi, h => by
    rw [Nat.succ_mul] at h
    have htake : (bs.take (entrySize t)).length = (entryWidths t).sum := List.length_take_of_le (by omega)
    have hdrop : (bs.drop (entrySize t)).length = n * entrySize t := by rw [List.length_drop]; omega
    have hfirst : (Bank.loadEntries t (n + 1) i bs b).entryBytes t i = bs.take (entrySize t) := by
      unfold Bank.entryBytes
      rw [Bank.loadEntries, Bank.fields_loadEntries t n (i + 1) _ _ t i (by omega), Bank.loadEntry,
        Bank.fields_setFields_same _ ht (by omega) (fieldsOf_length ..), fieldBytes_fieldsOf _ _ htake]
    have hrest := Bank.readEntries_loadEntries ht n (i + 1) (bs.drop (entrySize t)) (b.loadEntry t i (bs.take (entrySize t)))
      (by omega) hdrop
    rw [Bank.readEntries, hfirst]
    exact (congrArg _ hrest).trans (List.take_append_drop ..)

/-! ## LOAD SEGMENT (R148) -/

/-- A directive of a wrong length is refused with OUT_OF_RANGE. -/
theorem exec_directive_badLength {i : Instr} {code : Nat} {ref : Byte} {ps : List Byte} (hi : directiveOf i = some (code, ref, ps))
    (hcan : s.canAnswer) (hlen : ps.length ≤ 198) (hbad : lengthOkOf code ps = false) :
    exec i s = .next (s.refuses (b8 code) ref 2 []) := by
  rw [exec_directive hi hcan.1 hlen, hbad]
  exact congrArg _ ((s.absorb.directive_length _ ref _ hcan.2).trans (s.absorb_refuse _ ref .outOfRange []))

theorem segmentOk_iff {t first n : Nat} :
    segmentOk t first n = true ↔ (1 ≤ t ∧ t ≤ 12) ∧ (1 ≤ n ∧ n ≤ 24) ∧ first + n ≤ entryCount t := by
  simp [segmentOk, within, and_assoc]

section Load

variable {t first n : Nat} {bs : List Byte} (ht : t < 256) (hfirst : first < 65536) (hn : n < 256)
include ht hfirst hn

/-- The parameters of LOAD SEGMENT: table, first entry, count and entries. -/
theorem load_params :
    let ps : List Byte := b8 t :: bytesOf 2 first ++ b8 n :: bs
    param [1, 2, 1] ps 0 = t ∧ param [1, 2, 1] ps 1 = first ∧ param [1, 2, 1] ps 2 = n ∧ ps.drop 4 = bs :=
  ⟨param_small _ ht _, (param_byte_next ..).trans (param_half _ hfirst _),
    (param_byte_next ..).trans ((param_half_next ..).trans (param_small _ hn _)), rfl⟩

theorem loadLengthOk_iff :
    loadLengthOk (b8 t :: bytesOf 2 first ++ b8 n :: bs) = true ↔ t = 0 ∨ 12 < t ∨ bs.length = n * entrySize t := by
  obtain ⟨h0, -, h2, hd⟩ := load_params (bs := bs) ht hfirst hn
  unfold loadLengthOk
  rw [h0, h2, hd]
  simp [within, bytesOf_length]
  omega

theorem State.actLoadSegment_eq (s : State) : s.actLoadSegment (b8 t :: bytesOf 2 first ++ b8 n :: bs) =
    if s.tables.committed then s.refuse .committed
    else if segmentOk t first n then
      (s.setTables (s.tables.load t first n bs),
        one ([b8 t] ++ putN 2 first ++ [b8 n] ++ (s.tables.load t first n bs).markBytes))
    else s.refuse .outOfRange := by
  obtain ⟨h0, h1, h2, hd⟩ := load_params (bs := bs) ht hfirst hn
  unfold State.actLoadSegment
  rw [h0, h1, h2, hd]
  rfl

end Load

theorem entryCount_le (t : Nat) : entryCount t ≤ 288 := by
  unfold entryCount
  split <;> omega

/-- Settles O15: the length first, then the state of the pending bank, then the segment; and entries read back as loaded. -/
theorem loadSegment : Obligations.LoadSegment := by
  intro s ref hcan refused
  refine ⟨fun ps hshort => ?short, fun t first n bs ht hfirst hn hlen => ?_⟩
  case short =>
    have hbad : loadLengthOk ps = false := by simp [loadLengthOk]; omega
    exact exec_directive_badLength rfl hcan (by omega) hbad
  intro ps
  have hps : ps.length ≤ 198 := by simp [ps, bytesOf_length]; omega
  have hok := loadLengthOk_iff (bs := bs) ht hfirst hn
  have hact := State.actLoadSegment_eq (bs := bs) ht hfirst hn s.absorb
  refine ⟨fun h1 h12 hne => ?length, fun hcom hl => ?committed, fun hcom hbad => ?segment, fun hm hcom h1 hn1 hn24 hin hl => ?loaded⟩
  case length =>
    refine exec_directive_badLength rfl hcan hps (Bool.eq_false_iff.2 fun h => ?_)
    have := hok.1 h
    omega
  case committed =>
    refine exec_directive_refused (r := .committed) rfl hcan hps (hok.2 hl) (hact.trans ?_)
    exact if_pos hcom
  case segment =>
    have hopen : ¬ s.absorb.tables.committed = true := Bool.eq_false_iff.1 hcom
    have hseg : segmentOk t first n = false := by
      refine Bool.eq_false_iff.2 fun h => ?_
      have := segmentOk_iff.1 h
      omega
    by_cases hl : loadLengthOk ps = true
    · refine exec_directive_refused (r := .outOfRange) rfl hcan hps hl (hact.trans ?_)
      rw [if_neg hopen, hseg]
      rfl
    · exact exec_directive_badLength rfl hcan hps (Bool.eq_false_iff.2 hl)
  case loaded =>
    have hopen : ¬ s.absorb.tables.committed = true := Bool.eq_false_iff.1 hcom
    have hseg : segmentOk t first n = true := segmentOk_iff.2 ⟨⟨h1, by omega⟩, ⟨hn1, hn24⟩, hin⟩
    have hcount := entryCount_le t
    refine ⟨Bank.loadEntries t n first bs s.tables.pending, ?_, Bank.readEntries_loadEntries ⟨h1, by omega⟩ n first bs _ hin hl,
      fun u i hui => Bank.fields_loadEntries t n first bs _ u i hui⟩
    have hmarks : s.tables.load t first n bs = { s.tables with
        pending := Bank.loadEntries t n first bs s.tables.pending, marks := s.tables.marks.set (t - 1) true hm } := by
      unfold TableStore.load
      have hset : s.tables.marks.setIfInBounds (t - 1) true = s.tables.marks.set (t - 1) true hm :=
        Vector.ext fun i hi => by rw [Vector.getElem_setIfInBounds hi, Vector.getElem_set]
      rw [hset]
    refine exec_directive_answered (t := { s with tables := _ }) rfl hcan hps (hok.2 (.inr (.inr hl))) (hact.trans ?_)
    rw [if_neg hopen, if_pos hseg, TableStore.markBytes_eq, putN_fits (show first < 256 ^ 2 by omega),
      show s.absorb.tables.load t first n bs = _ from hmarks]
    simp only [one, List.cons_append, List.nil_append, List.append_assoc]
    rfl

/-! ## DISCARD and READ TABLE (R149, R153) -/

theorem State.commitData_eq (s : State) : s.commitData = putN 2 s.tables.generation ++ [if s.tables.committed then 1 else 0] := by
  unfold State.commitData
  cases s.tables.committed <;> rfl

/-- R149: READ TABLE of a bank byte that names the live bank or the pending one, and of another. -/
def State.bankOf (s : State) (bank : Nat) : Option Bank := if bank = 0 then s.live else some s.tables.pending

section ReadTable

variable {bank t first n : Nat} (hbank : bank < 256) (ht : t < 256) (hfirst : first < 65536) (hn : n < 256)
include hbank ht hfirst hn

theorem State.actReadTable_eq (s : State) : s.actReadTable (b8 bank :: b8 t :: bytesOf 2 first ++ [b8 n]) =
    if 1 < bank then s.refuse .outOfRange
    else match s.bankOf bank with
      | some b => s.readBank bank t first n b
      | none => s.refuse .unconfigured := by
  have h0 : param [1, 1, 2, 1] (b8 bank :: b8 t :: bytesOf 2 first ++ [b8 n]) 0 = bank := param_small _ hbank _
  have h1 : param [1, 1, 2, 1] (b8 bank :: b8 t :: bytesOf 2 first ++ [b8 n]) 1 = t := (param_byte_next ..).trans (param_small _ ht _)
  have h2 : param [1, 1, 2, 1] (b8 bank :: b8 t :: bytesOf 2 first ++ [b8 n]) 2 = first :=
    (param_byte_next ..).trans ((param_byte_next ..).trans (param_half _ hfirst _))
  have h3 : param [1, 1, 2, 1] (b8 bank :: b8 t :: bytesOf 2 first ++ [b8 n]) 3 = n :=
    (param_byte_next ..).trans ((param_byte_next ..).trans ((param_half_next ..).trans (param_small _ hn [])))
  unfold State.actReadTable
  dsimp only
  rw [h0, h1, h2, h3]
  clear h0 h1 h2 h3
  rcases bank with _ | _ | k
  · unfold State.withBank State.bankOf
    rfl
  · rfl
  · exact (if_pos (by omega)).symm

end ReadTable

theorem State.readBank_refused (s : State) {t first n : Nat} (bank : Nat) (b : Bank)
    (h : t = 0 ∨ 12 < t ∨ n = 0 ∨ 24 < n ∨ entryCount t < first + n ∨ 185 < n * entrySize t) :
    s.readBank bank t first n b = s.refuse .outOfRange := by
  refine if_neg fun k => ?_
  rw [Bool.and_eq_true, segmentOk_iff, decide_eq_true_iff] at k
  omega

theorem State.readBank_answered (s : State) {t first n : Nat} (bank : Nat) (b : Bank) (ht : 1 ≤ t ∧ t ≤ 12) (hn : 1 ≤ n ∧ n ≤ 24)
    (hin : first + n ≤ entryCount t) (hsize : n * entrySize t ≤ 185) :
    s.readBank bank t first n b = (s, one (b8 bank :: b8 t :: bytesOf 2 first ++
      b8 n :: (putN 2 s.tables.generation ++ [if s.tables.committed then 1 else 0]) ++
        bytesOf 2 (bitsOf s.tables.marks.toList) ++ b.readEntries t n first)) := by
  have hcount := entryCount_le t
  unfold State.readBank
  rw [if_pos (by rw [Bool.and_eq_true, segmentOk_iff, decide_eq_true_iff]; exact ⟨⟨ht, hn, hin⟩, hsize⟩), State.tableData,
    State.commitData_eq, TableStore.markBytes_eq, putN_fits (show first < 256 ^ 2 by omega)]
  simp only [List.cons_append, List.nil_append, List.append_assoc]

theorem TableStore.discard_live {t : TableStore} {b : Bank} (h : t.live = some b) :
    t.discard = { t with pending := b, marks := Vector.replicate 12 true, committed := false } := by
  unfold TableStore.discard
  split
  · next c hc => cases hc.symm.trans h; rfl
  · next hc => exact nomatch hc.symm.trans h

theorem TableStore.discard_blank {t : TableStore} (h : t.live = none) :
    t.discard = { t with pending := Bank.blank, marks := Vector.replicate 12 false, committed := false } := by
  unfold TableStore.discard
  split
  · next c hc => exact nomatch hc.symm.trans h
  · rfl

/-- Settles O50: DISCARD by whether there is a live bank; READ TABLE by the bank byte, and then by the segment. -/
theorem discardAndReadTable : Obligations.DiscardAndReadTable := by
  intro s ref hcan
  intro answer
  refine ⟨fun b hlive => ?live, fun hlive => ?blank, fun bank t first n hbank ht hfirst hn => ?refused,
    fun bank t first n b hbank hb h1 h12 hn1 hn24 hin hsize => ?read⟩
  case live =>
    refine exec_directive_answered (t := { s with tables := _ }) rfl hcan (by simp) rfl ?_
    show (s.absorb.setTables s.tables.discard, one s.commitData) = _
    rw [State.commitData_eq, TableStore.discard_live hlive]
    rfl
  case blank =>
    refine exec_directive_answered (t := { s with tables := _ }) rfl hcan (by simp) rfl ?_
    show (s.absorb.setTables s.tables.discard, one s.commitData) = _
    rw [State.commitData_eq, TableStore.discard_blank hlive]
    rfl
  case refused =>
    have hlen : (b8 bank :: b8 t :: bytesOf 2 first ++ [b8 n]).length = 5 := by simp [bytesOf_length]
    have hact := State.actReadTable_eq hbank ht hfirst hn s.absorb
    have hok : lengthOkOf 4 (b8 bank :: b8 t :: bytesOf 2 first ++ [b8 n]) = true := by simp [lengthOkOf, paramCount, bytesOf_length]
    refine ⟨fun hover => ?_, fun hzero hlive => ?_, fun hbank1 hbad => ?_⟩
    · exact exec_directive_refused (r := .outOfRange) rfl hcan (by omega) hok (hact.trans (if_pos hover))
    · refine exec_directive_refused (r := .unconfigured) rfl hcan (by omega) hok (hact.trans ?_)
      rw [if_neg (by omega), show s.absorb.bankOf bank = none from (if_pos hzero).trans hlive]
      rfl
    · refine exec_directive_refused (r := .outOfRange) rfl hcan (by omega) hok (hact.trans ?_)
      split
      · rfl
      · split
        · exact s.absorb.readBank_refused bank _ hbad
        · next hle _ hno =>
          have hle : bank ≤ 1 := Nat.not_lt.1 hle
          unfold State.bankOf at hno
          split at hno
          · next h0 =>
            have hlive : s.live = none := hno
            rcases hbank1 with h1 | h1
            · omega
            · rw [hlive] at h1; exact nomatch h1
          · exact nomatch hno
  case read =>
    have hcount := entryCount_le t
    have hok : lengthOkOf 4 (b8 bank :: b8 t :: bytesOf 2 first ++ [b8 n]) = true := by simp [lengthOkOf, paramCount, bytesOf_length]
    have hact := State.actReadTable_eq (show bank < 256 by omega) (show t < 256 by omega) (show first < 65536 by omega)
      (show n < 256 by omega) s.absorb
    have hbankOf : s.absorb.bankOf bank = some b := by
      unfold State.bankOf
      split at hb
      · next h0 => rw [if_pos h0]; exact hb
      · next h0 => rw [if_neg h0, hb]; rfl
    refine exec_directive_answered (t := s) rfl hcan (by simp [bytesOf_length]) hok (hact.trans ?_)
    rw [if_neg (by omega), hbankOf]
    exact s.absorb.readBank_answered bank b ⟨h1, h12⟩ ⟨hn1, hn24⟩ hin hsize

/-! ## TRIM (R116) -/

/-- Settles O58: by whether the number names a district in use. -/
theorem trim : Obligations.Trim := by
  intro s b d ref n hcan hlive hn e r ps
  have h0 : param [1, 2] ps 0 = d.val + 1 := param_small _ (by omega) _
  have h1 : param [1, 2] ps 1 = n := (param_byte_next ..).trans (param_half [] hn [])
  have hlen : ps.length = 3 := by simp [ps, bytesOf_length]
  have hok : lengthOkOf 20 ps = true := by simp [lengthOkOf, paramCount, hlen]
  have hact : State.actOf 20 ps s.absorb = s.absorb.actTrim (d.val + 1) n := by
    show s.absorb.actTrim (param [1, 2] ps 0) (param [1, 2] ps 1) = _
    rw [h0, h1]
  refine ⟨fun hunused => ?_, fun hused => ?_⟩
  · refine exec_directive_refused (r := .outOfRange) rfl hcan (by omega) hok (hact.trans ?_)
    unfold State.actTrim
    rw [State.withBank_live (s := s.absorb) hlive, placeOf_succ, Option.filter_some, if_neg (Bool.eq_false_iff.1 hunused)]
    rfl
  · refine exec_directive_answered (t := { s with districts := _ }) rfl hcan (by omega) hok (hact.trans ?_)
    unfold State.actTrim
    rw [State.withBank_live (s := s.absorb) hlive, placeOf_succ, Option.filter_some, if_pos hused]
    simp only [State.trimTo, State.setDistrict, Prod.mk.injEq]
    refine ⟨rfl, ?_⟩
    simp
    rfl

/-! ## Power lost -/

/-- Settles O47: the content that a cut leaves, place by place. -/
theorem powerLost : Obligations.PowerLost := by
  intro s logCut cuts
  refine ⟨s.nv.cut logCut cuts, rfl, rfl, fun h => ?_, rfl, rfl, rfl⟩
  exact Vector.getElem_ofFn ..

end Sys2Proof.Machine

/-! # What the Programme Unit can do

Whatever the Programme Unit takes, it is made of three kinds of steps: a change of its own records, a NO SEND or NO FILL occurrence, and
a demand of PROGRAMME origin offered to a valve. What these three keep, every operation of the unit keeps. -/

namespace Sys2Proof.Machine

/-! ## Sequences of steps -/

/-- States that follow one from another by steps of a kind. -/
inductive Steps (R : State → State → Prop) : State → State → Prop where
  | refl (s : State) : Steps R s s
  | tail {s t u : State} : Steps R s t → R t u → Steps R s u

namespace Steps

variable {R R' : State → State → Prop} {s t u : State}

theorem one (h : R s t) : Steps R s t := .tail (.refl s) h

theorem trans (h : Steps R s t) (k : Steps R t u) : Steps R s u := by
  induction k with
  | refl => exact h
  | tail _ step ih => exact .tail ih step

theorem mono (h : Steps R s t) (sub : ∀ {a b}, R a b → R' a b) : Steps R' s t := by
  induction h with
  | refl => exact .refl _
  | tail _ step ih => exact .tail ih (sub step)

theorem ite {c : Prop} [Decidable c] (h : Steps R s t) (k : Steps R s u) : Steps R s (if c then t else u) := by
  split
  · exact h
  · exact k

/-- A relation that is reflexive and transitive and holds over every step holds over a sequence of steps. -/
theorem keeps (h : Steps R s t) {K : State → State → Prop} (refl : ∀ a, K a a) (trans : ∀ {a b c}, K a b → K b c → K a c)
    (step : ∀ {a b}, R a b → K a b) : K s t := by
  induction h with
  | refl => exact refl _
  | tail _ last ih => exact trans ih (step last)

end Steps

theorem forEach_steps {R : State → State → Prop} {n : Nat} {f : Fin n → State → State} (h : ∀ i s, Steps R s (f i s)) (s : State) :
    Steps R s (forEach f s) := forEach_keeps (Steps R) Steps.refl Steps.trans f h s

/-- One step of the Programme Unit. -/
inductive ProgrammeStep : State → State → Prop where
  | records (s : State) (p : Programme) : ProgrammeStep s (s.setProg p)
  | noCandidate (s : State) (sd : Side) : ProgrammeStep s (s.raise sd.source)
  | demand (s : State) (v : Fin 8) (d : Dir) : ProgrammeStep s (s.offered v ⟨d, .programme⟩)

/-- What the Programme Unit does from one state to another. -/
abbrev ProgrammeSteps : State → State → Prop := Steps ProgrammeStep

/-! ## The operations of the Programme Unit -/

section Operations

variable (s : State) (b : Bank)

theorem State.setProg_steps (p : Programme) : ProgrammeSteps s (s.setProg p) := .one (.records s p)
theorem State.setTransition_steps (t : Option Transition) : ProgrammeSteps s (s.setTransition t) := s.setProg_steps _
theorem State.mapRole_steps (h : Fin 4) (f : RoleRec → RoleRec) : ProgrammeSteps s (s.mapRole h f) := s.setProg_steps _
theorem State.noCandidate_steps (sd : Side) : ProgrammeSteps s (s.raise sd.source) := .one (.noCandidate s sd)
theorem State.demand_steps (v : Fin 8) (d : Dir) : ProgrammeSteps s (s.offered v ⟨d, .programme⟩) := .one (.demand s v d)
theorem State.offerOpen_steps (v : Fin 8) : ProgrammeSteps s (s.offerOpen v) := s.demand_steps v .toOpen
theorem State.enterTrigger_steps (t : Trigger) : ProgrammeSteps s (s.enterTrigger t) := .ite (.refl s) (s.setProg_steps _)

theorem State.endTransition_steps (t : Transition) : ProgrammeSteps s (s.endTransition t) := by
  unfold State.endTransition
  dsimp only
  split
  · split
    · exact (s.setTransition_steps _).trans (State.enterTrigger_steps ..)
    · exact s.setTransition_steps _
  · exact (s.setTransition_steps _).trans (forEach_steps (fun h s => s.mapRole_steps h _) _)

theorem State.takeShut_steps (v : Fin 8) : ProgrammeSteps s (s.takeShut b v) := by
  unfold State.takeShut
  repeat' split
  · exact .refl s
  · exact ((s.setTransition_steps _).trans (State.noCandidate_steps ..)).trans (State.mapRole_steps ..)
  · exact (s.setTransition_steps _).trans (State.demand_steps ..)
  · exact .refl s

theorem State.settleShutting_steps : ProgrammeSteps s s.settleShutting := by
  unfold State.settleShutting
  repeat' split
  · exact s.endTransition_steps _
  · exact .refl s
  · exact .refl s

theorem State.setRoles_steps (entries : List TargetEntry) (p : Fin 4 → Bool) (s : State) : ProgrammeSteps s
    (entries.foldl (fun s e => if p e.holder then s else s.mapRole e.holder fun r => { r with role := e.target }) s) := by
  induction entries generalizing s with
  | nil => exact .refl s
  | cons e es ih => exact Steps.trans (.ite (.refl s) (s.mapRole_steps ..)) (ih _)

theorem State.finishOpening_steps (t : Transition) : ProgrammeSteps s (s.finishOpening b t) := by
  unfold State.finishOpening
  dsimp only
  refine Steps.trans ?_ (State.settleShutting_steps _)
  refine Steps.trans ?_ (forEach_steps (fun v s => s.takeShut_steps b v) _)
  refine Steps.trans ?_ (State.setTransition_steps ..)
  have roles := State.setRoles_steps t.entries (t.failedHolder ·) s
  split
  · exact roles.trans (State.mapRole_steps ..)
  · exact roles

theorem State.settleOpening_steps : ProgrammeSteps s (s.settleOpening b) := by
  unfold State.settleOpening
  repeat' split
  · exact s.finishOpening_steps ..
  · exact .refl s
  · exact .refl s

theorem State.abandon_steps (t : Transition) (sd : Side) : ProgrammeSteps s (s.abandon t sd) :=
  (s.noCandidate_steps sd).trans (State.endTransition_steps ..)

theorem State.failedIncoming_steps (t : Transition) (sd : Side) (h : Fin 4) : ProgrammeSteps s (s.failedIncoming b t sd h) := by
  unfold State.failedIncoming
  dsimp only
  repeat' split
  · exact s.abandon_steps ..
  · exact s.abandon_steps ..
  · exact (s.setTransition_steps _).trans (State.offerOpen_steps ..)
  · exact (s.setTransition_steps _).trans (State.settleOpening_steps ..)

theorem State.openEnded_steps (t : Transition) (h : Fin 4) (r : Bool) : ProgrammeSteps s (s.openEnded b t h r) := by
  unfold State.openEnded
  split
  · exact s.failedIncoming_steps ..
  · exact (s.setTransition_steps _).trans (State.settleOpening_steps ..)

theorem State.takeNotice_steps (n : Notice) : ProgrammeSteps s (s.takeNotice b n) := by
  unfold State.takeNotice
  split
  · exact .refl s
  · split
    · exact .ite (s.openEnded_steps ..) (.refl s)
    · exact .ite ((s.setTransition_steps _).trans (State.settleShutting_steps _)) (.refl s)

theorem State.offers_steps (os : List OpenEntry) (s : State) : ProgrammeSteps s (os.foldl (fun s o => s.offerOpen o.valve) s) := by
  induction os generalizing s with
  | nil => exact .refl s
  | cons o os ih => exact (s.offerOpen_steps _).trans (ih _)

theorem State.clearRetakes_steps : ProgrammeSteps s (s.clearRetakes b) :=
  forEach_steps (fun h s => .ite (s.mapRole_steps h _) (.refl s)) s

theorem State.buildSlot_steps (t : Trigger) : ProgrammeSteps s (s.buildSlot b t) := by
  unfold State.buildSlot
  split
  · exact .refl s
  · exact (((s.clearRetakes_steps b).trans (State.setTransition_steps ..)).trans (State.offers_steps ..)).trans
      (State.settleOpening_steps ..)

theorem State.buildChangeover_steps (sd : Side) : ProgrammeSteps s (s.buildChangeover b sd) := by
  unfold State.buildChangeover
  split
  · exact .refl s
  · split
    · exact s.noCandidate_steps _
    · exact Steps.trans (.ite ((s.setTransition_steps _).trans (State.offerOpen_steps ..)) (s.setTransition_steps _))
        (State.settleOpening_steps ..)

theorem State.buildTrigger_steps (t : Trigger) : ProgrammeSteps s (s.buildTrigger b t) := by
  unfold State.buildTrigger
  split
  · exact s.buildChangeover_steps ..
  · exact s.buildSlot_steps ..

theorem State.markSide_steps (e : HolderEntry) (h : Fin 4) (sd : Side) (lo hi : Nat) : ProgrammeSteps s (s.markSide e h sd lo hi) := by
  have marked (c : Bool) : ProgrammeSteps s (if c then (s.mapRole h fun p => p.setMark sd true).enterTrigger sd.trigger else s) :=
    .ite ((s.mapRole_steps ..).trans (State.enterTrigger_steps ..)) (.refl s)
  exact .ite ((marked _).trans (State.mapRole_steps ..)) (marked _)

theorem State.giveUp_steps (h : Fin 4) : ProgrammeSteps s (s.giveUp b h) := by
  unfold State.giveUp
  repeat' split
  · exact .refl s
  · exact s.openEnded_steps ..
  · exact .refl s

end Operations

theorem State.settle_steps (n : Nat) (s : State) : ProgrammeSteps s (s.settle n) := by
  induction n generalizing s with
  | zero => exact .refl s
  | succ n ih =>
    unfold State.settle
    repeat' split
    · exact .refl s
    · exact ((s.setProg_steps _).trans (State.takeNotice_steps ..)).trans (ih _)
    · exact ((s.setProg_steps _).trans (State.buildTrigger_steps ..)).trans (ih _)
    · exact .refl s

theorem State.settled_steps (s : State) : ProgrammeSteps s s.settled := s.settle_steps _

/-! ## Events: what a change of holders can do to valves, permissions and the programme -/

/-- One step of the events that follow a change of holders: a step of the programme, a withdrawal of a permission of those that `p`
names, or a flag of the open interval. -/
inductive EventStep (p : Fin 4 → Side → Prop) : State → State → Prop where
  | programme {s t : State} : ProgrammeStep s t → EventStep p s t
  | withdrawal (s : State) (h : Fin 4) (sd : Side) (c : PermCause) (n : Nat) : p h sd → EventStep p s (s.withdraw h sd c n)
  | flag (s : State) (f : YardFlags) : EventStep p s (s.yardFlag f)

/-- What the events of a change of holders do from one state to another. -/
abbrev EventSteps (p : Fin 4 → Side → Prop) : State → State → Prop := Steps (EventStep p)

variable {p q : Fin 4 → Side → Prop}

theorem Steps.events {s t : State} (h : ProgrammeSteps s t) : EventSteps p s t := h.mono .programme

theorem EventSteps.weaken {s t : State} (h : EventSteps p s t) (hpq : ∀ k sd, p k sd → q k sd) : EventSteps q s t := by
  refine h.mono fun {a b} step => ?_
  cases step with
  | programme step => exact .programme step
  | withdrawal k sd c n hp => exact .withdrawal _ k sd c n (hpq k sd hp)
  | flag f => exact .flag _ f

theorem State.withdraw_events (s : State) {h : Fin 4} {sd : Side} (c : PermCause) (n : Nat) (hp : p h sd) :
    EventSteps p s (s.withdraw h sd c n) := .one (.withdrawal s h sd c n hp)

theorem State.evaluateTrips_events (s : State) (e : HolderEntry) {h : Fin 4} (lo hi : Nat) (ho : lo ≤ e.lowStop → p h .outlet)
    (hi' : e.highStop ≤ hi → p h .inlet) : EventSteps p s (s.evaluateTrips e h lo hi) := by
  unfold State.evaluateTrips
  dsimp only
  have low : EventSteps p s (if lo ≤ e.lowStop then s.withdraw h .outlet .lowStop lo else s) := by
    split
    · next hlo => exact s.withdraw_events _ _ (ho hlo)
    · exact .refl s
  split
  · next hhi => exact low.trans (State.withdraw_events _ _ _ (hi' hhi))
  · exact low

/-- What a holder change does after the stops have been compared. -/
def State.afterTrips (s : State) (b : Bank) (h : Fin 4) (lo hi : Nat) : State :=
  let s2 := (((s.settled.markSide b.holders[h] h .outlet lo hi).markSide b.holders[h] h .inlet lo hi).giveUp b h).settled
  if s2.holders[h].certain then s2 else s2.yardFlag { YardFlags.none with stockUncertain := true }

theorem State.holderChange_split (s : State) (b : Bank) (h : Fin 4) (lo hi : Nat) :
    s.holderChange b h lo hi = (s.evaluateTrips b.holders[h] h lo hi).afterTrips b h lo hi := rfl

theorem State.afterTrips_events (s : State) (b : Bank) (h : Fin 4) (lo hi : Nat) : EventSteps p s (s.afterTrips b h lo hi) := by
  have k : EventSteps p s (((s.settled.markSide b.holders[h] h .outlet lo hi).markSide b.holders[h] h .inlet lo hi).giveUp b h).settled :=
    ((((s.settled_steps.trans (State.markSide_steps ..)).trans (State.markSide_steps ..)).trans (State.giveUp_steps ..)).trans
      (State.settled_steps _)).events
  exact .ite k (k.trans (.one (.flag _ _)))

theorem State.holderChange_events (s : State) (b : Bank) {h : Fin 4} (lo hi : Nat) (ho : lo ≤ b.holders[h].lowStop → p h .outlet)
    (hi' : b.holders[h].highStop ≤ hi → p h .inlet) : EventSteps p s (s.holderChange b h lo hi) :=
  (s.evaluateTrips_events _ lo hi ho hi').trans (State.afterTrips_events ..)

end Sys2Proof.Machine

/-! # One valve among the others, and its trip

A demand offered to a valve leaves the other valves, the permissions and the attention list alone; and a valve that a trip has taken is
left alone by whatever the programme and other trips do afterwards (R62, R78). -/

namespace Sys2Proof.Machine

/-! ## Sources that are not raised -/

theorem State.NotRaised.refl (s : State) (x : Fin 74) : s.NotRaised s x := fun _ _ => Iff.rfl

theorem State.NotRaised.trans {s t u : State} {x : Fin 74} (h : s.NotRaised t x) (k : t.NotRaised u x) : s.NotRaised u x :=
  fun e he => (k e he).trans (h e he)

theorem State.NotRaised.of_items {s t : State} (h : t.attn.items = s.attn.items) (x : Fin 74) : s.NotRaised t x :=
  fun e _ => by rw [h]

theorem State.NotRaised.mem_source {s t : State} {x : Fin 74} (h : s.NotRaised t x) :
    x ∈ t.attn.items.map AttnItem.source ↔ x ∈ s.attn.items.map AttnItem.source := by
  simp only [List.mem_map]
  exact ⟨fun ⟨e, he, hx⟩ => ⟨e, (h e hx).1 he, hx⟩, fun ⟨e, he, hx⟩ => ⟨e, (h e hx).2 he, hx⟩⟩

/-- An occurrence stays as it is while its source has no other. -/
theorem State.Raised.after {s t u : State} {x : Fin 74} (h : s.Raised t x) (k : t.NotRaised u x) : s.Raised u x := by
  obtain ⟨hon, hoff⟩ := h
  refine ⟨fun hm => ?_, fun hm => (hoff hm).trans k⟩
  obtain ⟨hnew, hold⟩ := hon hm
  refine ⟨fun hx => ?_, fun e he hx => ?_⟩
  · obtain ⟨e, he, hs, hcount, hfirst⟩ := hnew hx
    exact ⟨e, (k e hs).2 he, hs, hcount, hfirst⟩
  · obtain ⟨e', he', hs, hcount, hfirst⟩ := hold e he hx
    exact ⟨e', (k e' hs).2 he', hs, hcount, hfirst⟩

/-- An occurrence after steps that gave its source none, under the same tables and clock. -/
theorem State.Raised.before {s t u : State} {x : Fin 74} (h : s.NotRaised t x) (k : t.Raised u x) (ht : t.tables.live = s.tables.live)
    (hn : t.now = s.now) : s.Raised u x := by
  obtain ⟨hon, hoff⟩ := k
  rw [ht] at hon hoff
  refine ⟨fun hm => ?_, fun hm => h.trans (hoff hm)⟩
  obtain ⟨hnew, hold⟩ := hon hm
  rw [hn] at hnew
  exact ⟨fun hx => hnew fun hx' => hx (h.mem_source.1 hx'), fun e he hx => hold e ((h e hx).2 he) hx⟩

/-! ## What an offered demand leaves alone -/

/-- A state that differs from another at most in one valve, its commands and the notices. -/
structure AtValve (v : Fin 8) (s t : State) : Prop where
  valves : ∀ w, w ≠ v → t.valves[w] = s.valves[w]
  commands : ∀ c : Command, c.isValve v = false → (c ∈ t.loop.commands ↔ c ∈ s.loop.commands)
  perms : t.perms = s.perms
  attn : t.attn = s.attn
  prog : { t.prog with notices := s.prog.notices } = s.prog

namespace AtValve

variable {v : Fin 8} {s t u : State}

theorem refl (s : State) : AtValve v s s := ⟨fun _ _ => rfl, fun _ _ => Iff.rfl, rfl, rfl, rfl⟩

theorem trans (h : AtValve v s t) (k : AtValve v t u) : AtValve v s u :=
  ⟨fun _ hw => (k.valves _ hw).trans (h.valves _ hw), fun _ hc => (k.commands _ hc).trans (h.commands _ hc), k.perms.trans h.perms,
    k.attn.trans h.attn,
    (congrArg (fun p : Programme => { p with notices := s.prog.notices }) k.prog).trans h.prog⟩

theorem ite {c : Prop} [Decidable c] (h : AtValve v s t) (k : AtValve v s u) : AtValve v s (if c then t else u) := by
  split
  · exact h
  · exact k

end AtValve

theorem State.setValve_atValve (s : State) (v : Fin 8) (r : ValveRec) : AtValve v s (s.setValve v r) :=
  ⟨fun _ hw => upd_other _ _ _ _ (Ne.symm hw), fun _ _ => Iff.rfl, rfl, rfl, rfl⟩

theorem LoopPort.mem_placeValve_other (l : LoopPort) {v : Fin 8} (o : Bool) (d : Dir) (t : Byte) (x : Bool) {c : Command}
    (hc : c.isValve v = false) : c ∈ (l.placeValve v o d t x).commands ↔ c ∈ l.commands := by
  have hne : c ≠ .valve v o d t x := by rintro rfl; simp [Command.isValve] at hc
  simp [LoopPort.placeValve, hc, hne]

theorem LoopPort.mem_placeValve (l : LoopPort) (v : Fin 8) (o : Bool) (d : Dir) (t : Byte) (x : Bool) :
    .valve v o d t x ∈ (l.placeValve v o d t x).commands := List.mem_append.2 (.inr (List.mem_singleton.2 rfl))

theorem Command.promoted_other {v : Fin 8} {c : Command} (hc : c.isValve v = false) : c.promoted v = c := by
  cases c with
  | valve w o d t x =>
    have hw : w ≠ v := of_decide_eq_false hc
    simp [Command.promoted, hw]
  | set => rfl

theorem LoopPort.mem_promote_other (l : LoopPort) {v : Fin 8} {c : Command} (hc : c.isValve v = false) :
    c ∈ (l.promote v).commands ↔ c ∈ l.commands := by
  rw [LoopPort.promote_commands, List.mem_map]
  refine ⟨?_, fun h => ⟨c, h, Command.promoted_other hc⟩⟩
  rintro ⟨d, hd, rfl⟩
  rw [Command.promoted_isValve] at hc
  rwa [Command.promoted_other hc]

theorem State.placeValve_atValve (s : State) (v : Fin 8) (o : Bool) (d : Dir) (t : Byte) (x : Bool) :
    AtValve v s (s.setLoop (s.loop.placeValve v o d t x)) :=
  ⟨fun _ _ => rfl, fun _ hc => s.loop.mem_placeValve_other o d t x hc, rfl, rfl, rfl⟩

theorem State.promote_atValve (s : State) (v : Fin 8) : AtValve v s (s.setLoop (s.loop.promote v)) :=
  ⟨fun _ _ => rfl, fun _ hc => s.loop.mem_promote_other hc, rfl, rfl, rfl⟩

theorem State.notify_atValve (s : State) (v w : Fin 8) (d : Dir) (x : Bool) : AtValve v s (s.notify w d x) :=
  ⟨fun _ _ => rfl, fun _ _ => Iff.rfl, rfl, rfl, rfl⟩

theorem State.notifyJoined_atValve (s : State) (v w : Fin 8) (r : ValveRec) (x : Bool) : AtValve v s (s.notifyJoined w r x) := by
  unfold State.notifyJoined
  split
  · exact s.notify_atValve ..
  · exact .refl s

theorem State.beginExchange_atValve (s : State) (v : Fin 8) (d : Dir) (x : Bool) : AtValve v s (s.beginExchange v d x) :=
  .ite (s.setValve_atValve v _) ((s.setValve_atValve v _).trans (State.placeValve_atValve ..))

theorem State.startOperation_atValve (s : State) (v : Fin 8) (d : Demand) (j : Bool) : AtValve v s (s.startOperation v d j) :=
  (s.setValve_atValve v _).trans (State.beginExchange_atValve ..)

theorem State.refuseDemand_atValve (s : State) (v : Fin 8) (d : Demand) : AtValve v s (s.refuseDemand v d) :=
  .ite (s.notify_atValve ..) (.refl s)
theorem State.satisfyDemand_atValve (s : State) (v : Fin 8) (d : Demand) : AtValve v s (s.satisfyDemand v d) :=
  .ite (s.notify_atValve ..) (.refl s)

theorem State.offerAtRest_atValve (s : State) (v : Fin 8) (d : Demand) : AtValve v s (s.offerAtRest v d).1 := by
  unfold State.offerAtRest
  split
  · exact s.startOperation_atValve ..
  · exact s.satisfyDemand_atValve ..
  · exact s.setValve_atValve ..
  · exact s.refuseDemand_atValve ..

theorem State.offerInFlight_atValve (s : State) (v : Fin 8) (old d : Demand) : AtValve v s (s.offerInFlight v old d).1 := by
  unfold State.offerInFlight
  split
  · exact .ite ((s.setValve_atValve v _).trans (State.promote_atValve ..)) (s.setValve_atValve v _)
  · split
    · exact ((s.notifyJoined_atValve ..).trans (State.setValve_atValve ..)).trans (State.beginExchange_atValve ..)
    · exact s.refuseDemand_atValve ..

theorem State.offered_atValve (s : State) (v : Fin 8) (d : Demand) : AtValve v s (s.offered v d) := by
  unfold State.offered State.offer
  split
  · exact s.refuseDemand_atValve ..
  · split
    · exact s.offerInFlight_atValve ..
    · exact s.offerAtRest_atValve ..

/-! ## A withdrawal (R78, R80) -/

/-- The source that a trip of a side raises. -/
def tripSource (h : Fin 4) (sd : Side) : Fin 74 := if sd = .outlet then srcLowTrip h else srcHighTrip h

theorem tripSource_inj {h k : Fin 4} {sd sd' : Side} (e : tripSource h sd = tripSource k sd') : h = k ∧ sd = sd' := by
  have hv := congrArg Fin.val e
  cases sd <;> cases sd' <;> simp [tripSource, srcLowTrip, srcHighTrip] at hv ⊢ <;> omega

theorem source_ne_tripSource (sd' : Side) (h : Fin 4) (sd : Side) : sd'.source ≠ tripSource h sd := by
  intro e
  have hv := congrArg Fin.val e
  cases sd <;> cases sd' <;> simp [tripSource, srcLowTrip, srcHighTrip, Side.source, srcNoSend, srcNoFill] at hv <;> omega

theorem valveOf_inj {h k : Fin 4} {sd sd' : Side} (e : valveOf h sd = valveOf k sd') : h = k ∧ sd = sd' := by
  have hv := congrArg Fin.val e
  cases sd <;> cases sd' <;> simp [valveOf] at hv ⊢ <;> omega

section Withdraw

variable (s : State) (h : Fin 4) (sd : Side) (c : PermCause) (n : Nat)

theorem State.withdraw_withdrawn {s : State} {h : Fin 4} {sd : Side} (hg : s.perms[valveOf h sd].granted = false) (c : PermCause)
    (n : Nat) : s.withdraw h sd c n = s := by
  unfold State.withdraw
  dsimp only
  rw [hg]
  rfl

theorem State.withdraw_granted {s : State} {h : Fin 4} {sd : Side} (hg : s.perms[valveOf h sd].granted = true) (c : PermCause) (n : Nat) :
    s.withdraw h sd c n =
      ((s.setPerm (valveOf h sd) ⟨false, some c, some n, some s.timebase⟩).offered (valveOf h sd) ⟨.toShut, .trip⟩).raise
        (tripSource h sd) := by
  unfold State.withdraw
  dsimp only
  rw [if_pos hg]
  cases sd <;> rfl

theorem State.withdraw_valves {w : Fin 8} (hw : w ≠ valveOf h sd) : (s.withdraw h sd c n).valves[w] = s.valves[w] := by
  cases hg : s.perms[valveOf h sd].granted with
  | false => rw [State.withdraw_withdrawn hg]
  | true =>
    rw [State.withdraw_granted hg, State.raise_valves]
    exact (State.offered_atValve ..).valves w hw

theorem State.withdraw_perms {w : Fin 8} (hw : w ≠ valveOf h sd) : (s.withdraw h sd c n).perms[w] = s.perms[w] := by
  cases hg : s.perms[valveOf h sd].granted with
  | false => rw [State.withdraw_withdrawn hg]
  | true =>
    rw [State.withdraw_granted hg, State.raise_perms, (State.offered_atValve ..).perms]
    exact upd_other _ _ _ _ (Ne.symm hw)

theorem State.withdraw_commands {x : Command} (hx : x.isValve (valveOf h sd) = false) :
    x ∈ (s.withdraw h sd c n).loop.commands ↔ x ∈ s.loop.commands := by
  cases hg : s.perms[valveOf h sd].granted with
  | false => rw [State.withdraw_withdrawn hg]
  | true =>
    rw [State.withdraw_granted hg, State.raise_loop]
    exact (State.offered_atValve ..).commands x hx

theorem State.withdraw_notRaised {x : Fin 74} (hx : x ≠ tripSource h sd) : s.NotRaised (s.withdraw h sd c n) x := by
  cases hg : s.perms[valveOf h sd].granted with
  | false => rw [State.withdraw_withdrawn hg]; exact .refl s x
  | true =>
    rw [State.withdraw_granted hg]
    refine State.NotRaised.trans (State.NotRaised.of_items ?_ x) (State.raise_notRaised _ hx)
    exact congrArg Attention.items (State.offered_atValve ..).attn

end Withdraw

/-! ## A tripped valve is left alone -/

/-- What a trip leaves of a valve: SHUT, or with a SHUT demand of TRIP origin that it keeps. -/
def ValveRec.Tripped (r : ValveRec) : Prop :=
  r.state = .shut ∨ (r.state ∈ [.shutting, .noAnswer, .localHand] ∧ r.demand = some ⟨.toShut, .trip⟩)

theorem ValveRec.Tripped.joined {r : ValveRec} (h : r.Tripped) (j : Bool) : ({ r with joined := j } : ValveRec).Tripped := h

/-- What is kept of a valve whose permission is WITHDRAWN and that a trip has taken. -/
structure TripStands (h : Fin 4) (sd : Side) (s t : State) : Prop where
  perm : t.perms[valveOf h sd] = s.perms[valveOf h sd]
  notRaised : s.NotRaised t (tripSource h sd)
  valve : s.valves[valveOf h sd].Tripped → ∃ j, t.valves[valveOf h sd] = { s.valves[valveOf h sd] with joined := j }
  shut : s.valves[valveOf h sd].state = .shut → t.valves[valveOf h sd] = s.valves[valveOf h sd]
  commands : s.valves[valveOf h sd].Tripped → ∀ c ∈ s.loop.commands, c.isValve (valveOf h sd) = true → c ∈ t.loop.commands

namespace TripStands

variable {h : Fin 4} {sd : Side} {s t u : State}

theorem refl (s : State) : TripStands h sd s s := ⟨rfl, .refl s _, fun _ => ⟨_, rfl⟩, fun _ => rfl, fun _ _ hc _ => hc⟩

theorem trans (k : TripStands h sd s t) (l : TripStands h sd t u) : TripStands h sd s u := by
  have kept (hr : s.valves[valveOf h sd].Tripped) : t.valves[valveOf h sd].Tripped := by
    obtain ⟨j, hj⟩ := k.valve hr
    rw [hj]
    exact hr.joined j
  refine ⟨l.perm.trans k.perm, k.notRaised.trans l.notRaised, fun hr => ?_, fun hs => ?_,
    fun hr c hc hv => l.commands (kept hr) c (k.commands hr c hc hv) hv⟩
  · obtain ⟨j, hj⟩ := k.valve hr
    obtain ⟨i, hi⟩ := l.valve (kept hr)
    exact ⟨i, by rw [hi, hj]⟩
  · have ht := k.shut hs
    exact (l.shut (by rw [ht]; exact hs)).trans ht

/-- Steps that leave the valve's record, its permission, its source and its commands as they are. -/
theorem of_same (hv : t.valves[valveOf h sd] = s.valves[valveOf h sd]) (hp : t.perms[valveOf h sd] = s.perms[valveOf h sd])
    (hn : s.NotRaised t (tripSource h sd))
    (hc : ∀ c ∈ s.loop.commands, c.isValve (valveOf h sd) = true → c ∈ t.loop.commands) : TripStands h sd s t :=
  ⟨hp, hn, fun _ => ⟨_, hv⟩, fun _ => hv, fun _ => hc⟩

end TripStands

theorem Command.isValve_other {c : Command} {v w : Fin 8} (h : c.isValve v = true) (hw : w ≠ v) : c.isValve w = false := by
  cases c with
  | valve x _ _ _ _ =>
    have hx : x = v := of_decide_eq_true h
    exact decide_eq_false fun hxw => hw (hxw.symm.trans hx)
  | set => exact nomatch h

section Offers

variable {s : State} {v : Fin 8}

/-- An OPEN demand of PROGRAMME origin without permission is refused with its notice. -/
theorem State.offered_open_refused (hg : s.perms[v].granted = false) : s.offered v ⟨.toOpen, .programme⟩ = s.notify v .toOpen false := by
  unfold State.offered State.offer
  rw [if_pos ⟨rfl, hg⟩]
  rfl

theorem State.offered_shut_satisfied (hs : s.valves[v].state = .shut) :
    s.offered v ⟨.toShut, .programme⟩ = s.notify v .toShut true := by
  unfold State.offered
  rw [State.offer_atRest (d := ⟨.toShut, .programme⟩) nofun (by rw [hs]; rfl)]
  unfold State.offerAtRest
  rw [hs]
  rfl

theorem State.offered_shut_refused (hs : s.valves[v].state = .noAnswer ∨ s.valves[v].state = .localHand) :
    s.offered v ⟨.toShut, .programme⟩ = s.notify v .toShut false := by
  unfold State.offered
  rw [State.offer_atRest (d := ⟨.toShut, .programme⟩) nofun (by rcases hs with hs | hs <;> rw [hs] <;> rfl)]
  unfold State.offerAtRest
  rcases hs with hs | hs
  · rw [hs]; rfl
  · rw [hs]; rfl

/-- One that finds a trip's operation joins it. -/
theorem State.offered_shut_joins (hs : s.valves[v].state = .shutting) (hd : s.valves[v].demand = some ⟨.toShut, .trip⟩) :
    s.offered v ⟨.toShut, .programme⟩ = s.setValve v { s.valves[v] with joined := true } := by
  unfold State.offered
  rw [State.offer_inFlight (d := ⟨.toShut, .programme⟩) nofun (by rw [hs]; rfl) hd]
  show s.setValve v { s.valves[v] with demand := some ⟨.toShut, .trip⟩, joined := s.valves[v].joined || true } = _
  rw [Bool.or_true, ← hd]

/-- A demand of PROGRAMME origin at a valve that a trip has taken, its permission WITHDRAWN: it is refused, satisfied or joins. -/
theorem State.offered_tripped (hg : s.perms[v].granted = false) (d : Dir) (hr : s.valves[v].Tripped) :
    (∃ x, s.offered v ⟨d, .programme⟩ = s.notify v d x) ∨
      (s.valves[v].state ≠ .shut ∧ s.offered v ⟨d, .programme⟩ = s.setValve v { s.valves[v] with joined := true }) := by
  cases d with
  | toOpen => exact .inl ⟨_, State.offered_open_refused hg⟩
  | toShut =>
    rcases hr with hs | ⟨hs, hd⟩
    · exact .inl ⟨_, State.offered_shut_satisfied hs⟩
    · simp only [List.mem_cons, List.not_mem_nil, or_false] at hs
      rcases hs with hs | hs
      · exact .inr ⟨by rw [hs]; nofun, State.offered_shut_joins hs hd⟩
      · exact .inl ⟨_, State.offered_shut_refused hs⟩

end Offers

theorem State.offered_tripStands {s : State} {h : Fin 4} {sd : Side} (hg : s.perms[valveOf h sd].granted = false) (w : Fin 8) (d : Dir) :
    TripStands h sd s (s.offered w ⟨d, .programme⟩) := by
  have frame := s.offered_atValve w ⟨d, .programme⟩
  have hperm : (s.offered w ⟨d, .programme⟩).perms[valveOf h sd] = s.perms[valveOf h sd] := by rw [frame.perms]
  have hraised : s.NotRaised (s.offered w ⟨d, .programme⟩) (tripSource h sd) := .of_items (congrArg _ frame.attn) _
  by_cases hw : w = valveOf h sd
  case neg =>
    exact .of_same (frame.valves _ (Ne.symm hw)) hperm hraised fun c hc hv => (frame.commands c (c.isValve_other hv hw)).2 hc
  case pos =>
    subst hw
    refine ⟨hperm, hraised, fun hr => ?_, fun hs => ?_, fun hr c hc _ => ?_⟩
    · rcases State.offered_tripped hg d hr with ⟨x, hx⟩ | ⟨-, hx⟩
      · rw [hx]; exact ⟨_, rfl⟩
      · rw [hx]; exact ⟨true, upd_self ..⟩
    · rcases State.offered_tripped hg d (.inl hs) with ⟨x, hx⟩ | ⟨hne, -⟩
      · rw [hx]; rfl
      · exact absurd hs hne
    · rcases State.offered_tripped hg d hr with ⟨x, hx⟩ | ⟨-, hx⟩
      · rw [hx]; exact hc
      · rw [hx]; exact hc

theorem ProgrammeStep.tripStands {s t : State} {h : Fin 4} {sd : Side} (step : ProgrammeStep s t)
    (hg : s.perms[valveOf h sd].granted = false) : TripStands h sd s t := by
  cases step with
  | records p => exact .of_same rfl rfl (.refl s _) fun _ hc _ => hc
  | noCandidate sd' =>
    refine .of_same (by rw [State.raise_valves]) (by rw [State.raise_perms]) ?_ fun _ hc _ => by rwa [State.raise_loop]
    exact s.raise_notRaised (source_ne_tripSource sd' h sd).symm
  | demand w d => exact State.offered_tripStands hg w d

theorem EventStep.tripStands {p : Fin 4 → Side → Prop} {s t : State} {h : Fin 4} {sd : Side} (step : EventStep p s t)
    (hg : s.perms[valveOf h sd].granted = false) : TripStands h sd s t := by
  cases step with
  | programme step => exact step.tripStands hg
  | withdrawal k sd' c n _ =>
    by_cases hk : valveOf k sd' = valveOf h sd
    · rw [State.withdraw_withdrawn ((congrArg (fun v => s.perms[v].granted) hk).trans hg)]
      exact .refl s
    · refine .of_same (s.withdraw_valves k sd' c n (Ne.symm hk)) (s.withdraw_perms k sd' c n (Ne.symm hk)) ?_
        fun x hx hv => (s.withdraw_commands k sd' c n (x.isValve_other hv hk)).2 hx
      refine s.withdraw_notRaised k sd' c n fun e => hk ?_
      obtain ⟨rfl, rfl⟩ := tripSource_inj e
      rfl
  | flag f => exact .of_same rfl rfl (.refl s _) fun _ hc _ => hc

/-- R78: once its permission is WITHDRAWN, no event undoes a trip. -/
theorem EventSteps.tripStands {p : Fin 4 → Side → Prop} {s t : State} {h : Fin 4} {sd : Side} (steps : EventSteps p s t)
    (hg : s.perms[valveOf h sd].granted = false) : TripStands h sd s t := by
  have both : t.perms[valveOf h sd].granted = false ∧ TripStands h sd s t := by
    induction steps with
    | refl => exact ⟨hg, .refl _⟩
    | tail _ step ih =>
      obtain ⟨hg, stands⟩ := ih
      have next := step.tripStands hg
      exact ⟨by rw [next.perm]; exact hg, stands.trans next⟩
  exact both.2

end Sys2Proof.Machine

/-! # Trips (R78, R80)

What a withdrawal does to its valve by the valve's state, and that a holder change trips as R78 says, whatever the programme does in the
same event. -/

namespace Sys2Proof.Machine

/-- A place just written, read by the same index. -/
theorem upd_at {α : Type} {n : Nat} (v : Vector α n) (i : Fin n) (x : α) : (upd v i x)[i] = x := upd_self v i x

/-! ## Frames of events -/

namespace OnlyEvents

variable {s t : State}

theorem timebase (h : OnlyEvents s t) : t.timebase = s.timebase := by obtain ⟨f, h⟩ := h; exact h.timebase
theorem clock (h : OnlyEvents s t) : t.clock = s.clock := by obtain ⟨f, h⟩ := h; exact h.clock
theorem tables (h : OnlyEvents s t) : t.tables = s.tables := by obtain ⟨f, h⟩ := h; exact h.tables
theorem live (h : OnlyEvents s t) : t.live = s.live := congrArg TableStore.live h.tables
theorem holders (h : OnlyEvents s t) : t.holders = s.holders := by obtain ⟨f, h⟩ := h; exact h.holders
theorem districts (h : OnlyEvents s t) : t.districts = s.districts := by obtain ⟨f, h⟩ := h; exact h.districts
theorem nv (h : OnlyEvents s t) : t.nv = s.nv := by obtain ⟨f, h⟩ := h; exact h.nv
theorem drawn (h : OnlyEvents s t) : t.drawn = s.drawn := by obtain ⟨f, h⟩ := h; exact h.drawn
theorem loop (h : OnlyEvents s t) : OnlyCommands s.loop t.loop := by obtain ⟨f, h⟩ := h; exact h.loop
theorem now (h : OnlyEvents s t) : t.now = s.now := congrArg (fun c : Clock => (⟨c.day, c.sec, c.valid⟩ : Occurrence)) h.clock
theorem logs (h : OnlyEvents s t) : t.accounts.logs = s.accounts.logs := by
  obtain ⟨f, h⟩ := h; rw [h.accounts]; rfl

theorem keeps (h : OnlyEvents s t) : s.Keeps t := by
  obtain ⟨f, h⟩ := h
  exact ⟨h.pending, h.power, h.own, h.timebase, h.clock, h.tables, h.channels, h.points, h.barometer, h.calorimeter⟩

end OnlyEvents

theorem ProgrammeStep.only {s t : State} (h : ProgrammeStep s t) : OnlyValves s t := by
  cases h with
  | records p => exact s.setProg_only p
  | noCandidate sd => exact s.raise_only _
  | demand v d => exact s.offered_only v _

theorem EventStep.only {p : Fin 4 → Side → Prop} {s t : State} (h : EventStep p s t) : OnlyEvents s t := by
  cases h with
  | programme h => exact .of_valves h.only
  | withdrawal k sd c n _ => exact .of_valves (s.withdraw_only k sd c n)
  | flag f => exact ⟨f, .refl _⟩

theorem Steps.onlyEvents {p : Fin 4 → Side → Prop} {s t : State} (h : EventSteps p s t) : OnlyEvents s t :=
  Steps.keeps h .refl (fun h k => h.trans k) fun h => h.only

theorem Steps.onlyValves {s t : State} (h : ProgrammeSteps s t) : OnlyValves s t :=
  Steps.keeps h .refl (fun h k => h.trans k) fun h => h.only

/-! ## The outcomes of an offered demand (R61, R62) -/

section Offers

variable {s : State} {v : Fin 8} {d : Demand}

/-- A valve at rest from which Table 11 starts an operation. -/
theorem State.offered_started (hp : d.dir = .toOpen → s.perms[v].granted = true) (h : table11 s.valves[v].state d = .started) :
    s.offered v d = s.begun v s.valves[v] d (d.origin == .programme) := by
  have hrest : s.valves[v].state.inFlight = false := by
    cases hs : s.valves[v].state <;> rw [hs] at h <;> first | rfl | exact nomatch h
  unfold State.offered
  rw [State.offer_atRest hp hrest, State.offerAtRest_started h]
  exact s.startOperation_eq_begun v d _

/-- An operation in flight is reversed: the new one starts from the valve's record with its timers stopped. -/
theorem State.reverseOperation_eq_begun (s : State) (v : Fin 8) (d : Demand) :
    s.reverseOperation v d = (s.notifyJoined v s.valves[v] false).begun v
      { s.valves[v] with answerTimer := none, travelTimer := none } d (d.origin == .programme) := by
  obtain ⟨dir, o⟩ := d
  unfold State.reverseOperation
  dsimp only
  generalize hu : s.notifyJoined v s.valves[v] false = u
  unfold State.beginExchange State.begun
  cases h : u.loop.lost <;> cases dir <;> simp [State.setValve, State.setLoop, ValveRec.starting, Dir.moving, upd, h]

theorem State.offered_reversed (hp : d.dir = .toOpen → s.perms[v].granted = true) {old : Demand}
    (hs : s.valves[v].state.inFlight = true) (hd : s.valves[v].demand = some old) (hdir : old.dir ≠ d.dir)
    (hr : old.origin.rank ≤ d.origin.rank) :
    s.offered v d = (s.notifyJoined v s.valves[v] false).begun v
      { s.valves[v] with answerTimer := none, travelTimer := none } d (d.origin == .programme) := by
  unfold State.offered
  rw [State.offer_inFlight hp hs hd, State.offerInFlight_reversed hdir hr]
  exact s.reverseOperation_eq_begun v d

/-! ## A trip's demand at a valve, by the valve's state -/

theorem State.offered_trip_shut (hs : s.valves[v].state = .shut) : s.offered v ⟨.toShut, .trip⟩ = s := by
  unfold State.offered
  rw [State.offer_atRest (d := ⟨.toShut, .trip⟩) nofun (by rw [hs]; rfl)]
  unfold State.offerAtRest
  rw [hs]
  rfl

theorem State.offered_trip_kept (hs : s.valves[v].state = .noAnswer ∨ s.valves[v].state = .localHand) :
    s.offered v ⟨.toShut, .trip⟩ = s.setValve v { s.valves[v] with demand := some ⟨.toShut, .trip⟩ } := by
  unfold State.offered
  rw [State.offer_atRest (d := ⟨.toShut, .trip⟩) nofun (by rcases hs with hs | hs <;> rw [hs] <;> rfl)]
  unfold State.offerAtRest
  rcases hs with hs | hs
  · rw [hs]; rfl
  · rw [hs]; rfl

theorem State.offered_trip_joins (hs : s.valves[v].state = .shutting) (hd : s.valves[v].demand.map Demand.dir = some .toShut) :
    (s.offered v ⟨.toShut, .trip⟩).valves[v].state = .shutting ∧
      (s.offered v ⟨.toShut, .trip⟩).valves[v].demand = some ⟨.toShut, .trip⟩ := by
  obtain ⟨⟨dir, o⟩, hd, rfl⟩ := Option.map_eq_some_iff.1 hd
  unfold State.offered
  rw [State.offer_inFlight (d := ⟨.toShut, .trip⟩) nofun (by rw [hs]; rfl) hd]
  unfold State.offerInFlight
  rw [if_pos rfl]
  unfold State.joinOperation
  dsimp only
  cases o <;> exact ⟨by simp [Origin.rank]; exact hs, by simp [Origin.rank]⟩

theorem State.offered_trip_started (hs : s.valves[v].state ∈ [.unknown, .opened, .stuck]) :
    s.offered v ⟨.toShut, .trip⟩ = s.begun v s.valves[v] ⟨.toShut, .trip⟩ false := by
  refine State.offered_started (d := ⟨.toShut, .trip⟩) nofun ?_
  simp only [List.mem_cons, List.not_mem_nil, or_false] at hs
  rcases hs with hs | hs | hs <;> rw [hs] <;> rfl

theorem State.offered_trip_reverses (hs : s.valves[v].state = .opening) (hd : s.valves[v].demand.map Demand.dir = some .toOpen) :
    s.offered v ⟨.toShut, .trip⟩ = (s.notifyJoined v s.valves[v] false).begun v
      { s.valves[v] with answerTimer := none, travelTimer := none } ⟨.toShut, .trip⟩ false := by
  obtain ⟨old, hd, hdir⟩ := Option.map_eq_some_iff.1 hd
  exact State.offered_reversed (d := ⟨.toShut, .trip⟩) nofun (by rw [hs]; rfl) hd (by rw [hdir]; nofun) old.origin.rank_le_trip

end Offers

/-! ## What an operation begun leaves -/

section Begun

variable {s : State} {v : Fin 8} {r : ValveRec} {d : Demand} {j : Bool}

theorem State.begun_up (hl : s.loop.lost = false) : s.begun v r d j =
    { s with valves := upd s.valves v (r.starting d j), loop := s.loop.placeValve v false d.dir (r.tag + 1) (d.origin == .trip) } := by
  unfold State.begun
  rw [hl]
  rfl

theorem State.begun_lost (hl : s.loop.lost = true) : s.begun v r d j =
    { s with valves := upd s.valves v { r with
      state := if d.dir = .toOpen then .opening else .shutting, demand := some d, joined := j, phase := .idle, reissue := 0 } } := by
  unfold State.begun
  rw [hl]
  rfl

theorem State.begun_state (s : State) (v : Fin 8) (r : ValveRec) (d : Demand) (j : Bool) :
    (s.begun v r d j).valves[v].state = (if d.dir = .toOpen then .opening else .shutting) ∧
      (s.begun v r d j).valves[v].demand = some d := by
  cases hl : s.loop.lost with
  | true => rw [State.begun_lost hl]; simp
  | false => rw [State.begun_up hl]; simp [ValveRec.starting]

end Begun

@[simp] theorem State.notify_loop (s : State) (v : Fin 8) (d : Dir) (x : Bool) : (s.notify v d x).loop = s.loop := rfl
@[simp] theorem State.notifyJoined_loop (s : State) (v : Fin 8) (r : ValveRec) (x : Bool) : (s.notifyJoined v r x).loop = s.loop := by
  unfold State.notifyJoined
  split <;> rfl

/-- A trip that begins an operation, with the loop UP or LOST. -/
theorem State.offered_trip_begins {s : State} {v : Fin 8} (h : s.valves[v].state ∈ [.unknown, .opened, .stuck] ∨
      (s.valves[v].state = .opening ∧ s.valves[v].demand.map Demand.dir = some .toOpen)) :
    ∃ u r, s.offered v ⟨.toShut, .trip⟩ = State.begun u v r ⟨.toShut, .trip⟩ false ∧ u.loop = s.loop ∧ r.tag = s.valves[v].tag := by
  rcases h with hs | ⟨hs, hd⟩
  · exact ⟨s, s.valves[v], State.offered_trip_started hs, rfl, rfl⟩
  · exact ⟨_, _, State.offered_trip_reverses hs hd, s.notifyJoined_loop .., rfl⟩

/-! ## Withdrawals -/

variable {s t u : State} {h : Fin 4} {sd : Side} {c : PermCause} {n : Nat}

/-- R78, R80: the withdrawal of a GRANTED permission. -/
theorem State.withdraw_does (hg : s.perms[valveOf h sd].granted = true) (c : PermCause) (n : Nat) :
    s.Withdrawn (s.withdraw h sd c n) h sd c n := by
  rw [State.withdraw_granted hg]
  generalize hp : s.setPerm (valveOf h sd) ⟨false, some c, some n, some s.timebase⟩ = p
  have hvalve : p.valves = s.valves := by rw [← hp]; rfl
  have hloop : p.loop = s.loop := by rw [← hp]; rfl
  have frame := p.offered_atValve (valveOf h sd) ⟨.toShut, .trip⟩
  unfold State.Withdrawn
  dsimp only
  rw [State.raise_valves, State.raise_perms, State.raise_loop, frame.perms]
  refine ⟨?perm, ?raised, fun hs => ?shut, fun hs => ?kept, fun hs hd => ?joins, fun hs hl => ?up, fun hs hl => ?lost⟩
  case perm => rw [← hp]; exact upd_self ..
  case raised =>
    have hn : s.NotRaised (p.offered (valveOf h sd) ⟨.toShut, .trip⟩) (tripSource h sd) :=
      .of_items (by rw [frame.attn, ← hp]; rfl) _
    have hon : OnlyValves s (p.offered (valveOf h sd) ⟨.toShut, .trip⟩) := by
      rw [← hp]; exact (s.setPerm_only ..).trans (State.offered_only ..)
    exact State.Raised.before hn (State.raise_raised _ _) (congrArg _ hon.tables) (OnlyEvents.of_valves hon).now
  case shut => rw [State.offered_trip_shut (by rw [hvalve]; exact hs), hvalve]
  case kept =>
    rw [State.offered_trip_kept (by rw [hvalve]; exact hs)]
    simp [hvalve]
  case joins =>
    exact State.offered_trip_joins (s := p) (by rw [hvalve]; exact hs) (by rw [hvalve]; exact hd)
  case up =>
    obtain ⟨u, r, he, hul, htag⟩ := State.offered_trip_begins (s := p) (v := valveOf h sd) (by rw [hvalve]; exact hs)
    rw [hvalve] at htag
    rw [he, State.begun_up (by rw [hul, hloop]; exact hl)]
    simp only [upd_at]
    refine ⟨rfl, rfl, rfl, by rw [← htag]; rfl, ?_⟩
    rw [← htag]
    exact LoopPort.mem_placeValve ..
  case lost =>
    obtain ⟨u, r, he, hul, htag⟩ := State.offered_trip_begins (s := p) (v := valveOf h sd) (by rw [hvalve]; exact hs)
    rw [hvalve] at htag
    rw [he, State.begun_lost (by rw [hul, hloop]; exact hl)]
    dsimp only
    rw [upd_at]
    exact ⟨rfl, rfl, rfl, htag⟩

/-- A withdrawal stands whatever leaves its valve alone afterwards. -/
theorem State.Withdrawn.stands (k : s.Withdrawn t h sd c n) (l : TripStands h sd t u) : s.Withdrawn u h sd c n := by
  obtain ⟨hperm, hraised, hshut, hkept, hjoins, hup, hlost⟩ := k
  have valve (hr : t.valves[valveOf h sd].Tripped) : u.valves[valveOf h sd].state = t.valves[valveOf h sd].state ∧
      u.valves[valveOf h sd].demand = t.valves[valveOf h sd].demand ∧ u.valves[valveOf h sd].phase = t.valves[valveOf h sd].phase ∧
      u.valves[valveOf h sd].tag = t.valves[valveOf h sd].tag := by
    obtain ⟨j, hj⟩ := l.valve hr
    rw [hj]
    exact ⟨rfl, rfl, rfl, rfl⟩
  refine ⟨l.perm.trans hperm, hraised.after l.notRaised, fun hs => ?_, fun hs => ?_, fun hs hd => ?_, fun hs hl => ?_, fun hs hl => ?_⟩
  · have ht := hshut hs
    exact (l.shut (by rw [ht]; exact hs)).trans ht
  · obtain ⟨h1, h2⟩ := hkept hs
    obtain ⟨v1, v2, -⟩ := valve (.inr ⟨by rw [h1]; rcases hs with hs | hs <;> rw [hs] <;> decide, h2⟩)
    exact ⟨v1.trans h1, v2.trans h2⟩
  · obtain ⟨h1, h2⟩ := hjoins hs hd
    obtain ⟨v1, v2, -⟩ := valve (.inr ⟨by rw [h1]; decide, h2⟩)
    exact ⟨v1.trans h1, v2.trans h2⟩
  · obtain ⟨h1, h2, h3, h4, h5⟩ := hup hs hl
    have hr : t.valves[valveOf h sd].Tripped := .inr ⟨by rw [h1]; decide, h2⟩
    obtain ⟨v1, v2, v3, v4⟩ := valve hr
    exact ⟨v1.trans h1, v2.trans h2, v3.trans h3, v4.trans h4, l.commands hr _ h5 (decide_eq_true rfl)⟩
  · obtain ⟨h1, h2, h3, h4⟩ := hlost hs hl
    obtain ⟨v1, v2, v3, v4⟩ := valve (.inr ⟨by rw [h1]; decide, h2⟩)
    exact ⟨v1.trans h1, v2.trans h2, v3.trans h3, v4.trans h4⟩

/-- A withdrawal after steps that left its valve, its permission and its source as they were. -/
theorem State.Withdrawn.before (hv : t.valves[valveOf h sd] = s.valves[valveOf h sd]) (hn : s.NotRaised t (tripSource h sd))
    (only : OnlyEvents s t) (k : t.Withdrawn u h sd c n) : s.Withdrawn u h sd c n := by
  unfold State.Withdrawn at k ⊢
  dsimp only at k ⊢
  rw [hv, only.timebase, only.loop.lost] at k
  obtain ⟨hperm, hraised, rest⟩ := k
  exact ⟨hperm, hraised.before hn only.live only.now, rest⟩

/-- Events that do not withdraw the permission of a side leave it as it is, and do not raise its TRIP source. -/
theorem EventStep.untouched {p : Fin 4 → Side → Prop} (step : EventStep p s t) (hp : ¬p h sd) :
    t.perms[valveOf h sd] = s.perms[valveOf h sd] ∧ s.NotRaised t (tripSource h sd) := by
  cases step with
  | programme step =>
    cases step with
    | records p => exact ⟨rfl, .refl s _⟩
    | noCandidate sd' => exact ⟨by rw [State.raise_perms], s.raise_notRaised (source_ne_tripSource sd' h sd).symm⟩
    | demand w d =>
      have frame := s.offered_atValve w ⟨d, .programme⟩
      exact ⟨by rw [frame.perms], .of_items (congrArg _ frame.attn) _⟩
  | withdrawal k sd' c n hk =>
    have hne : ¬(k = h ∧ sd' = sd) := by rintro ⟨rfl, rfl⟩; exact hp hk
    exact ⟨s.withdraw_perms k sd' c n fun e => hne ⟨(valveOf_inj e).1.symm, (valveOf_inj e).2.symm⟩,
      s.withdraw_notRaised k sd' c n fun e => hne ⟨(tripSource_inj e).1.symm, (tripSource_inj e).2.symm⟩⟩
  | flag f => exact ⟨rfl, .refl s _⟩

theorem Steps.untouched {p : Fin 4 → Side → Prop} (steps : EventSteps p s t) (hp : ¬p h sd) :
    t.perms[valveOf h sd] = s.perms[valveOf h sd] ∧ s.NotRaised t (tripSource h sd) :=
  Steps.keeps (K := fun a b => b.perms[valveOf h sd] = a.perms[valveOf h sd] ∧ a.NotRaised b (tripSource h sd)) steps
    (fun a => ⟨rfl, .refl a _⟩) (fun ⟨hp, hn⟩ ⟨kp, kn⟩ => ⟨kp.trans hp, hn.trans kn⟩) fun step => step.untouched hp

/-! ## The trips of a holder change -/

theorem valveOf_holderOf (v : Fin 8) : valveOf (holderOf v) (sideOf v) = v := by
  revert v; decide

theorem exists_valveOf (v : Fin 8) : ∃ h sd, valveOf h sd = v := ⟨_, _, valveOf_holderOf v⟩

/-- R78: a holder change trips where the lowest or the highest count meets a stop, and otherwise keeps the permissions. -/
theorem State.holderChange_trips (s : State) (b : Bank) (h : Fin 4) (lo hi : Nat) : s.Trips (s.holderChange b h lo hi) b h lo hi := by
  have after (a : State) : EventSteps (fun _ _ => True) a (a.afterTrips b h lo hi) := a.afterTrips_events b h lo hi
  have whole {p : Fin 4 → Side → Prop} (ho : lo ≤ b.holders[h].lowStop → p h .outlet) (hi' : b.holders[h].highStop ≤ hi → p h .inlet) :
      EventSteps p s (s.holderChange b h lo hi) := s.holderChange_events b lo hi ho hi'
  rw [State.holderChange_split] at whole ⊢
  refine ⟨fun hg hlo => ?low, fun hg hhi => ?high, fun hno => ?lowKept, fun hno => ?highKept, fun v hv => ?others⟩
  case low =>
    have trip := State.withdraw_does hg .lowStop lo
    have hgone : (s.withdraw h .outlet .lowStop lo).perms[valveOf h .outlet].granted = false := by rw [trip.1]
    refine trip.stands (EventSteps.tripStands (p := fun _ _ => True) ?_ hgone)
    refine Steps.trans ?_ (after _)
    unfold State.evaluateTrips
    rw [if_pos hlo]
    exact .ite (State.withdraw_events _ _ _ trivial) (.refl _)
  case high =>
    have pre : ∃ a, s.evaluateTrips b.holders[h] h lo hi = State.withdraw a h .inlet .highStop hi ∧
        EventSteps (fun _ sd => sd = .outlet) s a ∧ a.valves[valveOf h .inlet] = s.valves[valveOf h .inlet] := by
      unfold State.evaluateTrips
      rw [if_pos hhi]
      refine ⟨_, rfl, .ite (s.withdraw_events _ _ rfl) (.refl s), ?_⟩
      split
      · exact s.withdraw_valves h .outlet _ _ fun e => nomatch (valveOf_inj e).2
      · rfl
    obtain ⟨a, ha, steps, hvalve⟩ := pre
    obtain ⟨hperm, hraised⟩ := Steps.untouched (h := h) (sd := .inlet) steps nofun
    have trip := State.withdraw_does (by rw [hperm]; exact hg) .highStop hi
    have hgone : (a.withdraw h .inlet .highStop hi).perms[valveOf h .inlet].granted = false := by rw [trip.1]
    rw [ha]
    exact (trip.before hvalve hraised steps.onlyEvents).stands ((after _).tripStands hgone)
  case lowKept =>
    rcases hno with hg | hlo
    · exact ((whole (p := fun _ _ => True) (fun _ => trivial) fun _ => trivial).tripStands hg).perm
    · exact (Steps.untouched (h := h) (sd := .outlet) (whole (p := fun _ sd => sd = .inlet) (fun k => absurd hlo (Nat.not_lt.2 k)) fun _ => rfl) nofun).1
  case highKept =>
    rcases hno with hg | hhi
    · exact ((whole (p := fun _ _ => True) (fun _ => trivial) fun _ => trivial).tripStands hg).perm
    · exact (Steps.untouched (h := h) (sd := .inlet) (whole (p := fun _ sd => sd = .outlet) (fun _ => rfl) fun k => absurd hhi (Nat.not_lt.2 k)) nofun).1
  case others =>
    obtain ⟨k, sd, rfl⟩ := exists_valveOf v
    rw [holderOf_valveOf] at hv
    exact (Steps.untouched (whole (p := fun k _ => k = h) (fun _ => rfl) fun _ => rfl) hv).1

end Sys2Proof.Machine

/-! # Directives of valves, permissions and lifts

VALVE (R64), PRESET LIFT (R13), SET PERMIT and WITHDRAW PERMIT (R80, R81). -/

namespace Sys2Proof.Machine

/-! ## Trips between states that differ in nothing a trip looks at -/

/-- Two states that a trip that starts in them finds alike. -/
structure SameBefore (s s' : State) : Prop where
  valves : s'.valves = s.valves
  perms : s'.perms = s.perms
  attn : s'.attn = s.attn
  live : s'.tables.live = s.tables.live
  now : s'.now = s.now
  timebase : s'.timebase = s.timebase
  lost : s'.loop.lost = s.loop.lost

/-- Two states that show a trip that has been made alike. -/
structure SameAfter (t t' : State) : Prop where
  valves : t'.valves = t.valves
  perms : t'.perms = t.perms
  attn : t'.attn = t.attn
  commands : t'.loop.commands = t.loop.commands

section Congr

variable {s s' t t' : State} (hs : SameBefore s s') (ht : SameAfter t t') {h : Fin 4} {sd : Side}
include hs ht

theorem State.Raised.congr {x : Fin 74} (k : s'.Raised t' x) : s.Raised t x := by
  unfold State.Raised State.NotRaised at k ⊢
  rwa [hs.attn, hs.live, hs.now, ht.attn] at k

theorem State.Withdrawn.congr {c : PermCause} {n : Nat} (k : s'.Withdrawn t' h sd c n) : s.Withdrawn t h sd c n := by
  unfold State.Withdrawn at k ⊢
  dsimp only at k ⊢
  obtain ⟨hperm, hraised, rest⟩ := k
  rw [ht.perms, hs.timebase] at hperm
  rw [hs.valves, hs.lost, ht.valves, ht.commands] at rest
  exact ⟨hperm, hraised.congr hs ht, rest⟩

theorem State.Trips.congr {b : Bank} {lo hi : Nat} (k : s'.Trips t' b h lo hi) : s.Trips t b h lo hi := by
  obtain ⟨hlow, hhigh, hlowKept, hhighKept, hothers⟩ := k
  rw [hs.perms] at hlow hhigh
  rw [hs.perms, ht.perms] at hlowKept hhighKept hothers
  exact ⟨fun hg hl => (hlow hg hl).congr hs ht, fun hg hl => (hhigh hg hl).congr hs ht, hlowKept, hhighKept, hothers⟩

end Congr

/-! ## Absorbed frames -/

variable {s : State} {v : Fin 8}

theorem State.absorb_before (s : State) : SameBefore s s.absorb := ⟨rfl, rfl, rfl, rfl, rfl, rfl, rfl⟩
theorem State.respond_after (t : State) (code ref : Byte) (r : Reply) : SameAfter (t.respond code ref r) t := ⟨rfl, rfl, rfl, rfl⟩

/-- An answer in one frame, written out. -/
theorem State.respond_one (t : State) (code ref : Byte) (data : List Byte) : t.respond code ref (one data) =
    { t with loop := { t.loop with responses := t.loop.responses ++ [[[code, ref, 0, 1, 1] ++ data]] }, drawn := t.drawn + 1 } := by
  simp [State.respond, Reply.frames, responseBody, one, b8]

theorem State.absorb_begun (s : State) (v : Fin 8) (r : ValveRec) (d : Demand) (j : Bool) :
    s.absorb.begun v r d j = (s.begun v r d j).absorb := by
  cases hl : s.loop.lost with
  | true => rw [State.begun_lost (s := s.absorb) hl, State.begun_lost hl]; rfl
  | false => rw [State.begun_up (s := s.absorb) hl, State.begun_up hl]; rfl

theorem State.begun_idle (h : s.ProgrammeIdle) (v : Fin 8) (r : ValveRec) (d : Demand) (j : Bool) : (s.begun v r d j).ProgrammeIdle := by
  cases hl : s.loop.lost with
  | true => rw [State.begun_lost hl]; exact h
  | false => rw [State.begun_up hl]; exact h

theorem State.absorb_idle (h : s.ProgrammeIdle) : s.absorb.ProgrammeIdle := h

/-! ## The VALVE directive (R64) -/

theorem Dir.ofCode_code (d : Dir) : Dir.ofCode (b8 d.code).toNat = some d := by cases d <;> rfl

theorem Dir.ofCode_none {n : Nat} (h : 1 < n) : Dir.ofCode n = none := by
  unfold Dir.ofCode
  split <;> first | omega | rfl

section Valve

variable {b : Bank} (hlive : s.live = some b) (hf : b.fitted (holderOf v) = true)
include hlive hf

theorem State.actValve_bad {x : Byte} (hx : 1 < x.toNat) :
    State.actOf 14 [b8 (v.val + 1), x] s = s.refuse .outOfRange := by
  show s.actValve (param [1, 1] [b8 (v.val + 1), x] 0) (param [1, 1] [b8 (v.val + 1), x] 1) = _
  rw [param_small _ (by omega), param_byte_next, param_byte]
  unfold State.actValve
  rw [State.withBank_live hlive, Bank.fittedValve_some hf, Dir.ofCode_none hx]

theorem State.actValve_eq (dir : Dir) : State.actOf 14 [b8 (v.val + 1), b8 dir.code] s =
    if s.inTransition v then s.refuse .inTransition else s.deskDemand v dir := by
  show s.actValve (param [1, 1] [b8 (v.val + 1), b8 dir.code] 0) (param [1, 1] [b8 (v.val + 1), b8 dir.code] 1) = _
  rw [param_small _ (by omega), param_byte_next, param_byte]
  unfold State.actValve
  rw [State.withBank_live hlive, Bank.fittedValve_some hf, Dir.ofCode_code]

end Valve

theorem State.inTransition_true {t : Transition} (h : s.prog.transition = some t) (hv : t.hasDemand v = true) : s.inTransition v = true := by
  unfold State.inTransition
  rw [h]
  exact hv

theorem State.inTransition_false (h : ∀ t, s.prog.transition = some t → t.hasDemand v = false) : s.inTransition v = false := by
  unfold State.inTransition
  cases ht : s.prog.transition with
  | none => rfl
  | some t => exact h t ht

section DeskDemand

variable {dir : Dir} (hp : dir = .toOpen → s.perms[v].granted = true)

theorem State.deskDemand_refused {u : State} (h : s.offer v ⟨dir, .desk⟩ = (u, .refused)) : s.deskDemand v dir = s.refuse .notPermitted := by
  unfold State.deskDemand
  rw [h]

theorem State.deskDemand_taken {u : State} {o : Offer} (h : s.offer v ⟨dir, .desk⟩ = (u, o)) (ho : o ≠ .refused) :
    s.deskDemand v dir = (u.settled, one (u.valveReply v)) := by
  unfold State.deskDemand
  rw [h]
  cases o <;> first | rfl | exact absurd rfl ho

/-- An OPEN demand without permission. -/
theorem State.deskDemand_unpermitted (ho : dir = .toOpen) (hg : s.perms[v].granted = false) : s.deskDemand v dir = s.refuse .notPermitted := by
  refine State.deskDemand_refused (u := s) ?_
  unfold State.offer
  rw [if_pos ⟨ho, hg⟩]
  rfl

include hp

theorem State.deskDemand_local (hs : s.valves[v].state = .noAnswer ∨ s.valves[v].state = .localHand) :
    s.deskDemand v dir = s.refuse .notPermitted := by
  refine State.deskDemand_refused (u := s) ?_
  rw [State.offer_atRest hp (by rcases hs with hs | hs <;> rw [hs] <;> rfl)]
  unfold State.offerAtRest
  rcases hs with hs | hs
  · rw [hs]; cases dir <;> rfl
  · rw [hs]; cases dir <;> rfl

theorem State.deskDemand_satisfied (hs : s.valves[v].state = dir.reachedState) :
    s.deskDemand v dir = (s.settled, one (s.valveReply v)) := by
  refine State.deskDemand_taken (o := .satisfied) ?_ nofun
  rw [State.offer_atRest hp (by rw [hs]; cases dir <;> rfl)]
  unfold State.offerAtRest
  rw [hs]
  cases dir <;> rfl

theorem State.deskDemand_started (hs : s.valves[v].state ≠ dir.reachedState) (hrest : s.valves[v].state ∈ [.unknown, .shut, .opened, .stuck]) :
    s.deskDemand v dir = ((s.begun v s.valves[v] ⟨dir, .desk⟩ false).settled,
      one ((s.begun v s.valves[v] ⟨dir, .desk⟩ false).valveReply v)) := by
  have hstart : table11 s.valves[v].state ⟨dir, .desk⟩ = .started := by
    simp only [List.mem_cons, List.not_mem_nil, or_false] at hrest
    rcases hrest with h | h | h | h <;> rw [h] at hs ⊢ <;> cases dir <;> first | rfl | exact absurd rfl hs
  have hflight : s.valves[v].state.inFlight = false := by
    cases h : s.valves[v].state <;> rw [h] at hstart <;> first | rfl | exact nomatch hstart
  refine State.deskDemand_taken (o := .started) ?_ nofun
  rw [State.offer_atRest hp hflight, State.offerAtRest_started hstart, State.startOperation_eq_begun]
  rfl

variable {old : Demand} (hd : s.valves[v].demand = some old) (hs : s.valves[v].state.inFlight = true)
include hd hs

theorem State.deskDemand_joined (hdir : old.dir = dir) :
    let t := s.setValve v { s.valves[v] with demand := some ⟨dir, if old.origin = .programme then .desk else old.origin⟩ }
    s.deskDemand v dir = (t.settled, one (t.valveReply v)) := by
  refine State.deskDemand_taken (o := .joined) ?_ nofun
  rw [State.offer_inFlight hp hs hd]
  unfold State.offerInFlight State.joinOperation
  have hjoined : (s.valves[v].joined || Origin.desk == Origin.programme) = s.valves[v].joined := Bool.or_false _
  obtain ⟨odir, origin⟩ := old
  subst hdir
  dsimp only
  rw [if_pos rfl, hjoined]
  cases origin <;> rfl

theorem State.deskDemand_reversed (hdir : old.dir ≠ dir) (ho : old.origin ≠ .trip) :
    let t := (s.notifyJoined v s.valves[v] false).begun v { s.valves[v] with answerTimer := none, travelTimer := none } ⟨dir, .desk⟩ false
    s.deskDemand v dir = (t.settled, one (t.valveReply v)) := by
  have hrank : old.origin.rank ≤ Origin.desk.rank := by cases h : old.origin <;> first | decide | exact absurd h ho
  refine State.deskDemand_taken (o := .reversed) ?_ nofun
  rw [State.offer_inFlight hp hs hd, State.offerInFlight_reversed hdir hrank, State.reverseOperation_eq_begun]
  rfl

theorem State.deskDemand_againstTrip (hdir : old.dir ≠ dir) (ho : old.origin = .trip) : s.deskDemand v dir = s.refuse .notPermitted := by
  refine State.deskDemand_refused (u := s) ?_
  rw [State.offer_inFlight hp hs hd]
  unfold State.offerInFlight
  rw [if_neg hdir, if_neg (by rw [ho]; exact Nat.not_succ_le_self 1)]
  rfl

end DeskDemand

theorem State.valveReply_begun (s : State) (v : Fin 8) (r : ValveRec) (dir : Dir) (j : Bool) :
    (s.begun v r ⟨dir, .desk⟩ j).valveReply v = [b8 (v.val + 1), (if dir = .toOpen then 2 else 4), 1, b8 dir.code, 1] := by
  obtain ⟨hstate, hdemand⟩ := s.begun_state v r ⟨dir, .desk⟩ j
  unfold State.valveReply
  rw [hstate, hdemand]
  cases dir <;> rfl

/-- Settles O54: a VALVE directive by the transition in flight, the permission, and the offer that the valve's state makes of its demand. -/
theorem valveDirective : Obligations.ValveDirective := by
  intro s b v dir ref hcan hlive hf ps want
  have hact := State.actValve_eq (s := s.absorb) hlive hf dir
  have refused {r : Reason} (h : State.actOf 14 ps s.absorb = s.absorb.refuse r) :
      exec (.valve ref ps) s = .next (s.refuses 14 ref (b8 r.code) []) := exec_directive_refused rfl hcan (by simp [ps]) rfl h
  have answered {t : State} {data : List Byte} (h : State.actOf 14 ps s.absorb = (t.absorb, one data)) :
      exec (.valve ref ps) s = .next (t.accepts 14 ref data) := exec_directive_answered rfl hcan (by simp [ps]) rfl h
  refine ⟨fun x hx => ?bad, fun t ht hv => ?inTransition, fun hno => ?free⟩
  case bad => exact exec_directive_refused (r := .outOfRange) rfl hcan (by simp) rfl (State.actValve_bad (s := s.absorb) hlive hf hx)
  case inTransition =>
    exact refused (r := .inTransition) (hact.trans (if_pos (State.inTransition_true (s := s.absorb) ht hv)))
  have hfree := hact.trans (if_neg (Bool.eq_false_iff.1 (State.inTransition_false (s := s.absorb) hno)))
  refine ⟨fun ho hg => ?unpermitted, fun hp => ?permitted⟩
  case unpermitted => exact refused (r := .notPermitted) (hfree.trans (State.deskDemand_unpermitted (s := s.absorb) ho hg))
  have hp : dir = .toOpen → s.perms[v].granted = true := fun ho => hp.resolve_left (by rw [ho]; nofun)
  have hwant : want = dir.reachedState := by cases dir <;> rfl
  refine ⟨fun hs => ?handLocal, fun hidle hs hd => ?satisfied, fun hidle hs hrest => ?started, fun old hd hs => ?inFlight⟩
  case handLocal => exact refused (r := .notPermitted) (hfree.trans (State.deskDemand_local (s := s.absorb) hp hs))
  case satisfied =>
    refine answered (t := s) (hfree.trans ((State.deskDemand_satisfied (s := s.absorb) hp (hs.trans hwant)).trans ?_))
    rw [State.settled_idle _ (State.absorb_idle hidle)]
    have hreply : s.absorb.valveReply v = [b8 (v.val + 1), b8 want.code, 0, 0, 0] := by
      show [b8 (v.val + 1), b8 s.valves[v].state.code] ++ putOpt 2 Demand.bytes s.valves[v].demand = _
      rw [hs, hd]
      rfl
    rw [hreply]
  case started =>
    refine answered (hfree.trans ((State.deskDemand_started (s := s.absorb) hp (hwant ▸ hs) hrest).trans ?_))
    rw [State.settled_idle _ (State.begun_idle (State.absorb_idle hidle) ..), State.valveReply_begun, State.absorb_begun]
    rfl
  case inFlight =>
    have hflight : s.valves[v].state.inFlight = true := by rcases hs with hs | hs <;> rw [hs] <;> rfl
    refine ⟨fun hidle hdir => ?joins, fun hdir ho => ?reverses, fun hdir ho => ?against⟩
    case joins =>
      refine answered (t := { s with valves := _ })
        (hfree.trans ((State.deskDemand_joined (s := s.absorb) hp hd hflight hdir).trans ?_))
      rw [State.settled_idle _ (by exact hidle)]
      refine Prod.ext rfl ?_
      show one (State.valveReply (State.setValve _ v _) v) = _
      unfold State.valveReply
      dsimp only [State.setValve]
      rw [upd_at]
      rcases hs with hs | hs
      · rw [show s.absorb.valves[v].state = .opening from hs, if_pos hs]; rfl
      · rw [show s.absorb.valves[v].state = .shutting from hs, if_neg (show ¬ s.valves[v].state = .opening by rw [hs]; nofun)]; rfl
    case against => exact refused (r := .notPermitted) (hfree.trans (State.deskDemand_againstTrip (s := s.absorb) hp hd hflight hdir ho))
    case reverses =>
      have hrev := hfree.trans (State.deskDemand_reversed (s := s.absorb) hp hd hflight hdir ho)
      intro u data
      refine ⟨fun hidle hj => ?alone, fun hj => ?joined⟩
      case alone =>
        have hnone : s.absorb.notifyJoined v s.absorb.valves[v] false = s.absorb := by
          unfold State.notifyJoined
          rw [show s.absorb.valves[v].joined = false from hj]
        refine answered (hrev.trans ?_)
        rw [hnone, State.settled_idle _ (State.begun_idle (State.absorb_idle hidle) ..), State.valveReply_begun, State.absorb_begun]
        rfl
      case joined =>
        have hnotice : s.absorb.notifyJoined v s.absorb.valves[v] false = s.absorb.notify v old.dir false := by
          unfold State.notifyJoined
          rw [show s.absorb.valves[v].joined = true from hj, show s.absorb.valves[v].demand = some old from hd]
        rw [hnotice, State.valveReply_begun] at hrev
        have hstart : (s.absorb.notify v old.dir false).begun v { s.valves[v] with answerTimer := none, travelTimer := none } ⟨dir, .desk⟩ false =
            { u with loop := { u.loop with lineQuiet := false },
                     prog := { s.prog with notices := s.prog.notices ++ [⟨v, old.dir, false⟩] } } := by
          cases hl : s.loop.lost with
          | true => rw [State.begun_lost (s := s.absorb.notify v old.dir false) hl, show u = _ from State.begun_lost hl]; rfl
          | false => rw [State.begun_up (s := s.absorb.notify v old.dir false) hl, show u = _ from State.begun_up hl]; rfl
        intro w
        rw [exec_directive_acts (ps := ps) rfl hcan (by simp [ps]) rfl, hrev]
        dsimp only
        rw [show s.absorb.valves[v] = s.valves[v] from rfl, hstart]
        exact congrArg _ (w.respond_one 14 ref data)

end Sys2Proof.Machine

/-! # Permissions and presets

SET PERMIT and WITHDRAW PERMIT (R80, R81), PRESET LIFT (R13), and what trips at them. -/

namespace Sys2Proof.Machine

variable {s t : State} {h : Fin 4} {sd : Side} {b : Bank}

/-! ## The programme at rest -/

theorem State.mayTake_congr (only : OnlyEvents s t) (hp : t.prog.transition = s.prog.transition) : t.mayTake = s.mayTake := by
  obtain ⟨f, h⟩ := only
  unfold State.mayTake State.running
  rw [hp, h.tables, h.clock, h.loop.lost]
  rfl

theorem State.ProgrammeIdle.congr (hi : s.ProgrammeIdle) (only : OnlyEvents s t) (hp : t.prog = s.prog) : t.ProgrammeIdle := by
  unfold State.ProgrammeIdle at hi ⊢
  rwa [State.mayTake_congr only (by rw [hp]), hp]

/-- A demand of TRIP origin leaves the programme as it is, but where it reverses an operation that the programme had joined. -/
theorem State.offered_trip_prog {v : Fin 8} (hj : s.valves[v].joined = false) (d : Dir) : (s.offered v ⟨d, .trip⟩).prog = s.prog := by
  have begun (u : State) (d : Dir) (x : Bool) : (u.beginExchange v d x).prog = u.prog := by
    unfold State.beginExchange
    dsimp only
    split <;> rfl
  have unjoined : s.notifyJoined v s.valves[v] false = s := by
    unfold State.notifyJoined
    rw [hj]
  unfold State.offered State.offer
  split
  · rfl
  · split
    · unfold State.offerInFlight
      split
      · unfold State.joinOperation
        dsimp only
        split <;> rfl
      · split
        · unfold State.reverseOperation
          rw [begun, unjoined]
          rfl
        · rfl
    · unfold State.offerAtRest
      split
      · exact begun ..
      · rfl
      · rfl
      · rfl

theorem State.withdraw_prog (hj : s.valves[valveOf h sd].joined = false) (c : PermCause) (n : Nat) : (s.withdraw h sd c n).prog = s.prog := by
  cases hg : s.perms[valveOf h sd].granted with
  | false => rw [State.withdraw_withdrawn hg]
  | true =>
    obtain ⟨a, ha⟩ := ((s.setPerm (valveOf h sd) ⟨false, some c, some n, some s.timebase⟩).offered (valveOf h sd)
      ⟨.toShut, .trip⟩).raise_eq_setAttn (tripSource h sd)
    rw [State.withdraw_granted hg, ha]
    exact State.offered_trip_prog (s := s.setPerm _ _) hj .toShut

/-- A withdrawal at a valve that stands SHUT or OPEN, with the loop UP. -/
theorem State.withdraw_atRest (hg : s.perms[valveOf h sd].granted = true) (hl : s.loop.lost = false)
    (hst : s.valves[valveOf h sd].state = .shut ∨ s.valves[valveOf h sd].state = .opened) (c : PermCause) (n : Nat) :
    let v := valveOf h sd
    ∃ a, s.withdraw h sd c n = { s with
      perms := upd s.perms v ⟨false, some c, some n, some s.timebase⟩
      valves := if s.valves[v].state = .shut then s.valves else upd s.valves v (s.valves[v].starting ⟨.toShut, .trip⟩ false)
      loop := if s.valves[v].state = .shut then s.loop else s.loop.placeValve v false .toShut (s.valves[v].tag + 1) true
      attn := a } := by
  intro v
  obtain ⟨a, ha⟩ := ((s.setPerm v ⟨false, some c, some n, some s.timebase⟩).offered v ⟨.toShut, .trip⟩).raise_eq_setAttn (tripSource h sd)
  refine ⟨a, ?_⟩
  rw [State.withdraw_granted hg, ha]
  rcases hst with hst | hst
  · rw [State.offered_trip_shut (s := s.setPerm _ _) hst, if_pos hst, if_pos hst]
    rfl
  · have hopen : ¬ s.valves[v].state = .shut := fun k => nomatch k.symm.trans hst
    rw [State.offered_trip_started (s := s.setPerm _ _) (by rw [show (s.setPerm _ _).valves[v].state = _ from hst]; decide),
      State.begun_up (s := s.setPerm _ _) hl, if_neg hopen, if_neg hopen]
    rfl

/-! ## SET PERMIT and WITHDRAW PERMIT -/

/-- The byte that names a side. -/
def Side.byte (sd : Side) : Byte := if sd = .inlet then 0 else 1

theorem Side.ofCode_byte (sd : Side) : Side.ofCode sd.byte.toNat = some sd := by cases sd <;> rfl

theorem Side.ofCode_none {n : Nat} (h : 1 < n) : Side.ofCode n = none := by
  unfold Side.ofCode
  split <;> first | omega | rfl

theorem State.permReply_eq (s : State) (h : Fin 4) (sd : Side) :
    s.permReply h sd = [b8 (h.val + 1), sd.byte] ++ s.perms[valveOf h sd].bytes := by
  cases sd <;> rfl

/-- R81: the conditions under which a permission is restored. -/
theorem State.permitHolds_iff (s : State) (b : Bank) (h : Fin 4) (sd : Side) : s.permitHolds b h sd = true ↔
    s.holders[h].certain = true ∧
      (if sd = .outlet then (b.holders[h].lowStop : Int) + b.holders[h].rePermit < s.holders[h].count
        else (s.holders[h].count : Int) < (b.holders[h].highStop : Int) - b.holders[h].rePermit) := by
  unfold State.permitHolds
  rw [Bool.and_eq_true]
  refine and_congr Iff.rfl ?_
  cases sd with
  | inlet => exact decide_eq_true_iff
  | outlet =>
    refine decide_eq_true_iff.trans ?_
    rw [if_pos rfl]
    omega

section Permit

variable (hlive : s.live = some b) (hf : b.fitted h = true)
include hlive hf

omit hlive hf in
theorem State.actPermit_params {x : Byte} : param [1, 1] [b8 (h.val + 1), x] 0 = h.val + 1 ∧ param [1, 1] [b8 (h.val + 1), x] 1 = x.toNat :=
  ⟨param_small _ (by omega) _, (param_byte_next ..).trans (param_byte ..)⟩

theorem State.actPermit_bad {x : Byte} (hx : 1 < x.toNat) :
    State.actOf 15 [b8 (h.val + 1), x] s = s.refuse .outOfRange ∧ State.actOf 16 [b8 (h.val + 1), x] s = s.refuse .outOfRange := by
  obtain ⟨h0, h1⟩ := State.actPermit_params (h := h) (x := x)
  constructor
  · show s.actSetPermit (param [1, 1] [b8 (h.val + 1), x] 0) (param [1, 1] [b8 (h.val + 1), x] 1) = _
    rw [h0, h1]
    unfold State.actSetPermit
    rw [State.withBank_live hlive, Bank.fittedHolder_some hf, Side.ofCode_none hx]
  · show s.actWithdrawPermit (param [1, 1] [b8 (h.val + 1), x] 0) (param [1, 1] [b8 (h.val + 1), x] 1) = _
    rw [h0, h1]
    unfold State.actWithdrawPermit
    rw [State.withBank_live hlive, Bank.fittedHolder_some hf, Side.ofCode_none hx]

theorem State.actSetPermit_eq (sd : Side) : State.actOf 15 [b8 (h.val + 1), sd.byte] s =
    if s.perms[valveOf h sd].granted then (s, one (s.permReply h sd))
    else if s.permitHolds b h sd then (s.permit h sd, one ((s.permit h sd).permReply h sd))
    else s.refuse .conditionPresent := by
  obtain ⟨h0, h1⟩ := State.actPermit_params (h := h) (x := sd.byte)
  show s.actSetPermit (param [1, 1] [b8 (h.val + 1), sd.byte] 0) (param [1, 1] [b8 (h.val + 1), sd.byte] 1) = _
  rw [h0, h1]
  unfold State.actSetPermit
  rw [State.withBank_live hlive, Bank.fittedHolder_some hf, Side.ofCode_byte]

theorem State.actWithdrawPermit_eq (sd : Side) : State.actOf 16 [b8 (h.val + 1), sd.byte] s =
    let u := (s.withdraw h sd .desk s.holders[h].count).settled
    (u, one (u.permReply h sd ++ [b8 u.valves[valveOf h sd].state.code])) := by
  obtain ⟨h0, h1⟩ := State.actPermit_params (h := h) (x := sd.byte)
  show s.actWithdrawPermit (param [1, 1] [b8 (h.val + 1), sd.byte] 0) (param [1, 1] [b8 (h.val + 1), sd.byte] 1) = _
  rw [h0, h1]
  unfold State.actWithdrawPermit
  rw [State.withBank_live hlive, Bank.fittedHolder_some hf, Side.ofCode_byte]

end Permit

theorem OnlyEvents.absorb (s : State) : s.Keeps s.absorb ∧ s.absorb.holders = s.holders ∧ s.absorb.districts = s.districts ∧
    s.absorb.accounts = s.accounts ∧ s.absorb.nv = s.nv := ⟨⟨rfl, rfl, rfl, rfl, rfl, rfl, rfl, rfl, rfl, rfl⟩, rfl, rfl, rfl, rfl⟩

theorem State.withdraw_settled_only (s : State) (h : Fin 4) (sd : Side) (c : PermCause) (n : Nat) :
    OnlyValves s (s.withdraw h sd c n).settled := (s.withdraw_only h sd c n).trans (State.settled_only _)

/-- R80: what WITHDRAW PERMIT leaves where the permission was GRANTED, whatever the programme then takes. -/
theorem State.withdraw_settled (hg : s.perms[valveOf h sd].granted = true) (c : PermCause) (n : Nat) :
    s.Withdrawn (s.withdraw h sd c n).settled h sd c n ∧
      ∀ w, w ≠ valveOf h sd → (s.withdraw h sd c n).settled.perms[w] = s.perms[w] := by
  have trip := State.withdraw_does hg c n
  have hgone : (s.withdraw h sd c n).perms[valveOf h sd].granted = false := by rw [trip.1]
  have after : EventSteps (fun _ _ => False) (s.withdraw h sd c n) (s.withdraw h sd c n).settled := (State.settled_steps _).events
  refine ⟨trip.stands (after.tripStands hgone), fun w hw => ?_⟩
  obtain ⟨k, sd', rfl⟩ := exists_valveOf w
  exact (after.untouched (h := k) (sd := sd') id).1.trans (s.withdraw_perms h sd c n hw)

/-- A restored permission, with no trigger that may be taken: the retake mark set and RE-EVALUATE entered. -/
theorem State.permit_idle (hn : s.prog.notices = []) (hm : s.mayTake = false) (h : Fin 4) (sd : Side) :
    s.permit h sd = { s with
      perms := upd s.perms (valveOf h sd) ⟨true, none, none, none⟩,
      prog := { s.prog with
        roles := upd s.prog.roles h { s.prog.roles[h] with retake := true },
        deferred := if Trigger.reEvaluate ∈ s.prog.deferred then s.prog.deferred else s.prog.deferred ++ [Trigger.reEvaluate] } } := by
  have hunsettled : (((s.setPerm (valveOf h sd) PermRec.initial).mapRole h fun r => { r with retake := true }).enterTrigger .reEvaluate) =
      { s with
        perms := upd s.perms (valveOf h sd) ⟨true, none, none, none⟩,
        prog := { s.prog with
          roles := upd s.prog.roles h { s.prog.roles[h] with retake := true },
          deferred := if Trigger.reEvaluate ∈ s.prog.deferred then s.prog.deferred else s.prog.deferred ++ [Trigger.reEvaluate] } } := by
    unfold State.enterTrigger
    by_cases hin : Trigger.reEvaluate ∈ s.prog.deferred
    · rw [if_pos (by exact hin), if_pos hin]
      rfl
    · rw [if_neg (by exact hin), if_neg hin]
      rfl
  unfold State.permit
  rw [hunsettled]
  exact State.settled_idle _ ⟨hn, .inr hm⟩

/-- Settles O55: the trips by the comparison of the stops, and the two directives by the permission. -/
theorem permits : Obligations.Permits := by
  refine ⟨State.holderChange_trips, fun s b h side ref hcan hlive hf => ?_⟩
  intro v e r sb ps met
  have hsb : sb = side.byte := rfl
  have hset := State.actSetPermit_eq (s := s.absorb) hlive hf side
  have hwithdraw := State.actWithdrawPermit_eq (s := s.absorb) hlive hf side
  have hmet : met ↔ s.absorb.permitHolds b h side = true := (s.absorb.permitHolds_iff b h side).symm
  have hlen : ps.length ≤ 198 := by simp [ps]
  have done (hg : s.perms[v].granted = true) : ∃ u, u = (s.absorb.withdraw h side .desk r.count).settled ∧
      exec (.withdrawPermit ref ps) s = .next (u.respond 16 ref (one (u.permReply h side ++ [b8 u.valves[v].state.code]))) :=
    ⟨_, rfl, by rw [exec_directive_acts (ps := ps) rfl hcan hlen rfl, show State.actOf 16 ps s.absorb = _ from hwithdraw]; rfl⟩
  refine ⟨fun x hx => ?bad, fun hg => ?granted, fun hg hno => ?notMet, fun hg hm hn hmay => ?restored, fun hg hidle => ?withdrawn,
    fun hg => ?trips, fun hg hidle hl hst => ?atRest⟩
  case bad =>
    obtain ⟨hs, hw⟩ := State.actPermit_bad (s := s.absorb) hlive hf hx
    exact ⟨exec_directive_refused (r := .outOfRange) rfl hcan (by simp) rfl hs,
      exec_directive_refused (r := .outOfRange) rfl hcan (by simp) rfl hw⟩
  case granted =>
    refine exec_directive_answered (t := s) rfl hcan hlen rfl (hset.trans ?_)
    rw [if_pos (show s.absorb.perms[valveOf h side].granted = true from hg), State.permReply_eq]
    rfl
  case notMet =>
    refine exec_directive_refused (r := .conditionPresent) rfl hcan hlen rfl (hset.trans ?_)
    rw [if_neg (show ¬ s.absorb.perms[valveOf h side].granted = true from Bool.eq_false_iff.1 hg), if_neg (fun k => hno (hmet.2 k))]
    rfl
  case restored =>
    refine exec_directive_answered (t := { s with perms := _, prog := _ }) rfl hcan hlen rfl (hset.trans ?_)
    rw [if_neg (show ¬ s.absorb.perms[valveOf h side].granted = true from Bool.eq_false_iff.1 hg), if_pos (hmet.1 hm),
      State.permit_idle (s := s.absorb) hn hmay, State.permReply_eq]
    dsimp only
    rw [upd_at]
    rfl
  case withdrawn =>
    refine exec_directive_answered (t := s) rfl hcan hlen rfl (hwithdraw.trans ?_)
    rw [State.withdraw_withdrawn (s := s.absorb) hg, State.settled_idle _ (State.absorb_idle hidle)]
    dsimp only
    rw [State.permReply_eq]
    rfl
  case trips =>
    obtain ⟨u, hu, hexec⟩ := done hg
    have only : OnlyValves s.absorb u := hu ▸ s.absorb.withdraw_settled_only h side .desk r.count
    have both := State.withdraw_settled (s := s.absorb) (h := h) (sd := side) hg .desk r.count
    rw [← hu] at both
    obtain ⟨htrip, hothers⟩ := both
    refine ⟨_, hexec, htrip.congr s.absorb_before (u.respond_after ..), hothers, ?_, ?_, only.holders, only.districts, only.accounts,
      only.nv, fun hidle hj => ?_⟩
    · rw [State.respond_one]
      show u.loop.responses ++ _ = _
      rw [only.loop.responses, State.permReply_eq, List.append_assoc]
      rfl
    · exact ⟨only.pending, only.power, only.own, only.timebase, only.clock, only.tables, only.channels, only.points, only.barometer,
        only.calorimeter⟩
    · have hprog := State.withdraw_prog (s := s.absorb) (h := h) (sd := side) hj .desk r.count
      have hidle' : (s.absorb.withdraw h side .desk r.count).ProgrammeIdle :=
        (State.absorb_idle hidle).congr (.of_valves (s.absorb.withdraw_only h side .desk r.count)) hprog
      rw [State.settled_idle _ hidle'] at hu
      subst hu
      exact ⟨hprog, fun w hw => s.absorb.withdraw_valves h side .desk r.count hw,
        fun src hsrc => s.absorb.withdraw_notRaised h side .desk r.count hsrc⟩
  case atRest =>
    obtain ⟨u, hu, hexec⟩ := done hg
    have only : OnlyValves s.absorb u := hu ▸ s.absorb.withdraw_settled_only h side .desk r.count
    obtain ⟨a, ha⟩ := State.withdraw_atRest (s := s.absorb) (h := h) (sd := side) hg hl hst .desk r.count
    have hidle' : (s.absorb.withdraw h side .desk r.count).ProgrammeIdle :=
      (State.absorb_idle hidle).congr (.of_valves (s.absorb.withdraw_only h side .desk r.count)) (by rw [ha])
    rw [State.settled_idle _ hidle'] at hu
    refine ⟨_, hexec, ?_, ?_, fun ho => ?_, ?_, only.holders, ?_, only.districts, only.accounts, only.nv⟩
    · show u.perms = _
      rw [hu, ha]
      rfl
    · show u.valves = _
      rw [hu, ha]
      rfl
    · show _ ∈ u.loop.commands
      rw [hu, ha]
      dsimp only
      rw [if_neg (show ¬ s.absorb.valves[valveOf h side].state = .shut by rw [show s.absorb.valves[valveOf h side].state = _ from ho]; nofun)]
      exact LoopPort.mem_placeValve ..
    · exact ⟨only.pending, only.power, only.own, only.timebase, only.clock, only.tables, only.channels, only.points, only.barometer,
        only.calorimeter⟩
    · show u.prog = _
      rw [hu, ha]
      rfl

/-! ## PRESET LIFT (R13) -/

theorem upd_upd {α : Type} {n : Nat} (v : Vector α n) (i : Fin n) (x y : α) : upd (upd v i x) i y = upd v i y := by
  unfold upd
  exact Vector.set_set ..

theorem State.saveHolder_eq (s : State) (h : Fin 4) (r : HolderRec) : (s.setHolder h r).saveHolder h = { s with
    holders := upd s.holders h { r with savedCertain := r.certain }
    nv := { s.nv with
      saves := upd s.nv.saves h (some ⟨r.count, r.certain⟩), savesBefore := upd s.nv.savesBefore h s.nv.saves[h] } } := by
  unfold State.saveHolder
  simp only [State.setHolder, State.setNv, upd_at, upd_upd]

theorem State.actPresetLift_eq (hlive : s.live = some b) (hf : b.fitted h = true) {n : Nat} (hn : n < 65536) :
    State.actOf 19 (b8 (h.val + 1) :: bytesOf 2 n) s =
      if n ≤ b.holders[h].travel then
        (s.preset b h n, one (b8 (h.val + 1) :: putN 2 s.holders[h].count ++ [if s.holders[h].certain then 0 else 1]))
      else s.refuse .outOfRange := by
  show s.actPresetLift (param [1, 2] (b8 (h.val + 1) :: bytesOf 2 n) 0) (param [1, 2] (b8 (h.val + 1) :: bytesOf 2 n) 1) = _
  rw [param_small _ (by omega), param_byte_next, ← List.append_nil (bytesOf 2 n), param_half _ hn]
  unfold State.actPresetLift
  rw [State.withBank_live hlive, Bank.fittedHolder_some hf]
  have hcode : b8 (certainCode s.holders[h].certain) = if s.holders[h].certain then 0 else 1 := by
    cases s.holders[h].certain <;> rfl
  dsimp only
  rw [hcode]
  rfl

/-- Settles O57: the record that the preset leaves, and the holder change that follows where it changes anything. -/
theorem presetLift : Obligations.PresetLift := by
  intro s b h ref n hcan hlive hf hn r ps before
  have hact := State.actPresetLift_eq (s := s.absorb) hlive hf hn
  have hlen : ps.length = 3 := by simp [ps, bytesOf_length]
  have hok : lengthOkOf 19 ps = true := by simp [lengthOkOf, paramCount, hlen]
  refine ⟨fun hover => ?refused, fun hle => ?preset⟩
  case refused =>
    exact exec_directive_refused (r := .outOfRange) rfl hcan (by omega) hok (hact.trans (if_neg (Nat.not_le.2 hover)))
  case preset =>
    have hexec := exec_directive_acts (ps := ps) (i := .presetLift ref ps) rfl hcan (by omega) hok
    rw [show State.actOf 19 ps s.absorb = _ from hact.trans (if_pos hle)] at hexec
    generalize hp : (s.absorb.setHolder h (HolderRec.placeAt b h { r with certain := true } n)).saveHolder h = p
    rw [State.saveHolder_eq] at hp
    have hpreset : s.absorb.preset b h n = if n = r.count ∧ r.certain then p else p.holderChange b h (min r.count n) (max r.count n) := by
      rw [← hp, ← State.saveHolder_eq]
      rfl
    generalize hu : s.absorb.preset b h n = u at hexec hpreset
    have only : OnlyEvents p u := by
      rw [hpreset]
      split
      · exact .refl p
      · exact p.holderChange_only ..
    have base : SameBefore s p := by rw [← hp]; exact ⟨rfl, rfl, rfl, rfl, rfl, rfl, rfl⟩
    have hkeeps : s.Keeps p := by rw [← hp]; exact ⟨rfl, rfl, rfl, rfl, rfl, rfl, rfl, rfl, rfl, rfl⟩
    refine ⟨_, hexec, ?_, ?_, ?_, ?_, ?_, ?_, ?_, ?_, fun hchange => ?_, fun heq hcert => ?_⟩
    · exact only.holders.trans (by rw [← hp]; rfl)
    · exact (congrArg Nonvolatile.saves only.nv).trans (by rw [← hp]; rfl)
    · exact (congrArg Nonvolatile.savesBefore only.nv).trans (by rw [← hp]; rfl)
    · exact (congrArg Nonvolatile.logs only.nv).trans (by rw [← hp]; rfl)
    · exact only.logs.trans (by rw [← hp]; rfl)
    · dsimp only
      rw [State.respond_one]
      show u.loop.responses ++ _ = _
      rw [only.loop.responses, ← hp]
      rfl
    · obtain ⟨k1, k2, k3, k4, k5, k6, k7, k8, k9, k10⟩ := hkeeps.trans only.keeps
      exact ⟨k1, k2, k3, k4, k5, k6, k7, k8, k9, k10⟩
    · exact only.districts.trans (by rw [← hp]; rfl)
    · have hne : ¬ (n = r.count ∧ r.certain = true) := by
        rintro ⟨hc, ht⟩
        rcases hchange with hc' | ht'
        · exact hc' hc
        · exact nomatch ht.symm.trans ht'
      rw [if_neg hne] at hpreset
      have trips := p.holderChange_trips b h (min r.count n) (max r.count n)
      rw [← hpreset] at trips
      exact trips.congr base (u.respond_after ..)
    · rw [if_pos ⟨heq, hcert⟩] at hpreset
      show u.perms = _ ∧ u.valves = _ ∧ u.prog = _ ∧ u.attn = _ ∧ u.accounts = _
      rw [hpreset, ← hp]
      exact ⟨rfl, rfl, rfl, rfl, rfl⟩

end Sys2Proof.Machine

/-! # Reading records

The five directives that read a record, and the bytes of Table 40 (R4, R38, R48, R83, R124). -/

namespace Sys2Proof.Machine

variable (s : State) (b : Bank)

/-! ## The lengths of fields -/

@[simp] theorem putOpt_length {α : Type} {w : Nat} {f : α → List Byte} (hf : ∀ x, (f x).length = w) (o : Option α) :
    (putOpt w f o).length = w + 1 := by
  cases o with
  | none => simp [putOpt]
  | some x => simp [putOpt, hf]

@[simp] theorem putTime_length (t : Nat) : (putTime t).length = 4 := bytesOf_length 4 t
@[simp] theorem putS_length (w : Nat) (i : Int) : (putS w i).length = w := by
  unfold putS
  split <;> exact bytesOf_length ..
@[simp] theorem putI_length (w : Nat) (i : Int) : (putI w i).length = w := by
  unfold putI
  split
  · exact putN_length ..
  · exact bytesOf_length ..
@[simp] theorem State.genBytes_length : s.genBytes.length = 2 := putN_length ..
@[simp] theorem remaining_length (t n : Nat) : (remaining t n).length = 4 := putN_length ..
@[simp] theorem PermRec.bytes_length (p : PermRec) : p.bytes.length = 11 := by simp [PermRec.bytes, putN_length]
@[simp] theorem LastAnswer.bytes_length (a : LastAnswer) : a.bytes.length = 8 := by simp [LastAnswer.bytes]
@[simp] theorem Demand.bytes_length (d : Demand) : d.bytes.length = 2 := rfl
@[simp] theorem State.failureBytes_length (f : LastFailure) : (s.failureBytes f).length = 7 := by
  unfold State.failureBytes
  split <;> simp
@[simp] theorem State.shareBytes_length (m : Fin 12) : (s.shareBytes b m).length = 23 := by
  unfold State.shareBytes
  split
  · simp [putN_length]
  · rfl
@[simp] theorem State.reviewBytes_length (r : Review) : (s.reviewBytes r).length = 23 := by simp [State.reviewBytes, putN_length]
@[simp] theorem PointRec.stateValue_length (r : PointRec) : r.stateValue.length = 3 := by simp [PointRec.stateValue]
@[simp] theorem State.namedPoint_length (p which : Nat) : (s.namedPoint p which).length = 3 := by
  unfold State.namedPoint
  split <;> simp [bytesOf_length]

/-! ## Quantities and codes -/

/-- A signed quantity that fits its two bytes. -/
theorem putS_two {x : Int} (hlo : -32768 ≤ x) (hhi : x ≤ 32767) : putS 2 x = bytesOf 2 (x % 65536).toNat := by
  unfold putS
  rw [if_pos (by omega)]
  rfl

theorem certainCode_eq (x : Bool) : b8 (certainCode x) = if !x then 1 else 0 := by cases x <;> rfl
theorem Position.code_eq (x : Position) : x.code = [Position.shut, .opened, .mid, .fault, .localHand].idxOf x := by cases x <;> rfl
theorem ValveState.code_eq (x : ValveState) :
    x.code = [ValveState.unknown, .shut, .opening, .opened, .shutting, .stuck, .noAnswer, .localHand].idxOf x := by cases x <;> rfl
theorem Origin.code_eq (x : Origin) : x.code = [Origin.trip, .desk, .programme].idxOf x := by cases x <;> rfl
theorem Phase.code_eq (x : Phase) : x.code = [Phase.idle, .selectSent, .operateSent].idxOf x := by cases x <;> rfl
theorem ChannelState.code_eq (x : ChannelState) : x.code = [ChannelState.waiting, .measuring, .stalled].idxOf x := by cases x <;> rfl
theorem Freshness.code_eq (x : Freshness) : x.code = [Freshness.absent, .fresh, .held].idxOf x := by cases x <;> rfl
theorem Quality.code_eq (x : Quality) : x.code = [Quality.good, .over, .under, .fault].idxOf x := by cases x <;> rfl
theorem Dir.code_eq (x : Dir) : b8 x.code = if x = .toOpen then 1 else 0 := by cases x <;> rfl

theorem cuppedBits_eq (cupped : List Nat) :
    cuppedBits cupped = (if 2 ∈ cupped then 1 else 0) + (if 3 ∈ cupped then 2 else 0) + if 4 ∈ cupped then 4 else 0 := by
  unfold cuppedBits
  by_cases h2 : 2 ∈ cupped <;> by_cases h3 : 3 ∈ cupped <;> by_cases h4 : 4 ∈ cupped <;> simp [h2, h3, h4, bitsOf]

/-! ## Holders -/

section Holder

variable (h : Fin 4)

theorem State.holderData_length : (s.holderData b h).length = 31 := by simp [State.holderData, putMark, putN_length]

theorem State.holderData_head (hgen : s.tables.generation < 65536) (hcount : s.holders[h].count < 65536)
    (hexp : s.holders[h].expected < 65536) (hvol : s.holders[h].geoVolume < 2 ^ 24) :
    (s.holderData b h).take 16 =
      [b8 (h.val + 1), if b.fitted h then 1 else 0] ++ bytesOf 2 s.tables.generation ++ bytesOf 2 s.holders[h].count ++
        [if !s.holders[h].certain then 1 else 0, b8 (cuppedBits s.holders[h].cupped)] ++ bytesOf 2 s.holders[h].expected ++
        bytesOf 3 s.holders[h].geoVolume ++
        [b8 s.holders[h].outRun, b8 s.holders[h].inRun, if s.holders[h].liftFault then 1 else 0] := by
  have h1 := putN_fits (w := 2) hcount
  have h2 := putN_fits (w := 2) hexp
  have h3 := putN_fits (w := 3) hvol
  have h4 := putN_fits (w := 2) hgen
  simp only [State.holderData, State.genBytes, h1, h2, h3, h4, certainCode_eq, putMark, List.append_assoc, List.take_append]
  simp [List.take_of_length_le, bytesOf_length]

theorem State.holderData_datum : ((s.holderData b h).drop 22).take 8 =
    putOpt 7 (fun (d : LastDatum) => [b8 d.number] ++ putS 2 d.slip ++ putTime d.time) s.holders[h].lastDatum := by
  simp only [State.holderData, putMark, List.append_assoc, List.drop_append, List.take_append]
  simp [List.drop_eq_nil_of_le, List.take_of_length_le, putN_length]

theorem State.holderData_last : (s.holderData b h).getLast? = some (if !s.holders[h].savedCertain then 1 else 0) := by
  rw [State.holderData, List.getLast?_append]
  rw [certainCode_eq]
  rfl

end Holder

/-! ## Valves -/

section Valve

variable (v : Fin 8)

theorem State.valveData_length : (s.valveData b v).length = 56 := by
  simp [State.valveData, putMark, putOpt_length Demand.bytes_length]

theorem State.valveData_head (hgen : s.tables.generation < 65536) : (s.valveData b v).take 5 =
    [b8 (v.val + 1), if b.fitted (holderOf v) then 1 else 0] ++ bytesOf 2 s.tables.generation ++
      [b8 ([ValveState.unknown, .shut, .opening, .opened, .shutting, .stuck, .noAnswer, .localHand].idxOf s.valves[v].state)] := by
  simp only [State.valveData, State.genBytes, putN_fits (w := 2) hgen, ValveState.code_eq, putMark, List.append_assoc, List.take_append]
  simp [List.take_of_length_le, bytesOf_length]

theorem State.valveData_reported : ((s.valveData b v).drop 5).take 6 =
    putOpt 5 (fun (p : Reported) => [b8 p.pos.code] ++ putTime p.time) s.valves[v].reported := by
  simp only [State.valveData, putMark, List.append_assoc, List.drop_append, List.take_append]
  simp [List.drop_eq_nil_of_le, List.take_of_length_le, putOpt_length Demand.bytes_length]

theorem State.valveData_demand : ((s.valveData b v).drop 11).take 6 = putOpt 2 Demand.bytes s.valves[v].demand ++
    [if s.valves[v].joined then 1 else 0, b8 s.valves[v].phase.code, s.valves[v].tag] := by
  simp only [State.valveData, putMark, List.append_assoc, List.drop_append, List.take_append]
  simp [List.drop_eq_nil_of_le, List.take_of_length_le, putOpt_length Demand.bytes_length]

theorem State.valveData_permission : ((s.valveData b v).drop 45).take 1 = [if !s.perms[v].granted then 1 else 0] := by
  have hmark : b8 (if s.perms[v].granted then 0 else 1) = if !s.perms[v].granted then 1 else 0 := by
    cases s.perms[v].granted <;> rfl
  simp only [State.valveData, PermRec.bytes, hmark, putMark, List.append_assoc, List.drop_append, List.take_append]
  simp [List.drop_eq_nil_of_le, List.take_of_length_le, putOpt_length Demand.bytes_length]

end Valve

/-! ## Channels -/

section Meter

variable (m : Fin 12)

theorem State.meterData_length : (s.meterData b m).length = 76 := by simp [State.meterData, putMark, putN_length]

theorem State.meterData_head (hgen : s.tables.generation < 65536) (hk : b.meters[m].k < 65536) : (s.meterData b m).take 8 =
    [b8 (m.val + 1), if b.meters[m].inUse then 1 else 0, b8 b.meters[m].role] ++ bytesOf 2 b.meters[m].k ++
      bytesOf 2 s.tables.generation ++ [b8 ([ChannelState.waiting, .measuring, .stalled].idxOf s.channels[m].state)] := by
  have h1 := putN_fits (w := 2) hk
  have h2 := putN_fits (w := 2) hgen
  simp only [State.meterData, State.genBytes, h1, h2, ChannelState.code_eq, putMark, List.append_assoc, List.take_append]
  simp [List.take_of_length_le, bytesOf_length]

theorem State.meterData_reference : ((s.meterData b m).drop 8).take 4 =
    putOpt 2 (putN 2) s.channels[m].reference ++ [if s.channels[m].waiver then 1 else 0] := by
  simp only [State.meterData, putMark, List.append_assoc, List.drop_append, List.take_append]
  simp [List.drop_eq_nil_of_le, List.take_of_length_le, putN_length]

theorem State.meterData_rate : ((s.meterData b m).drop 21).take 4 = putN 4 s.channels[m].rate := by
  simp only [State.meterData, putMark, List.append_assoc, List.drop_append, List.take_append]
  simp [List.drop_eq_nil_of_le, List.take_of_length_le, putN_length]

theorem State.meterData_share : (s.meterData b m).drop 53 = s.shareBytes b m := by
  simp only [State.meterData, putMark, List.append_assoc, List.drop_append]
  simp [List.drop_eq_nil_of_le, putN_length]

end Meter

/-! ## Districts -/

section District

variable (d : Fin 6)

theorem State.districtData_length : (s.districtData b d).length = 71 := by
  unfold State.districtData
  simp [putMark, putN_length]

theorem State.districtData_head (hgen : s.tables.generation < 65536) : (s.districtData b d).take 4 =
    [b8 (d.val + 1), if b.districts[d].used then 1 else 0] ++ bytesOf 2 s.tables.generation := by
  unfold State.districtData
  simp only [State.genBytes, putN_fits (w := 2) hgen, putMark, List.append_assoc, List.take_append]
  simp [List.take_of_length_le, bytesOf_length]

theorem State.districtData_state : ((s.districtData b d).drop 12).take 9 =
    putOpt 2 (putN 2) s.districts[d].lastSent ++ [if s.districts[d].sendDue then 1 else 0, b8 s.districts[d].refresh] ++
      putN 2 s.districts[d].trim ++ [b8 s.districts[d].lowRun, b8 s.districts[d].highRun] := by
  unfold State.districtData
  simp only [putMark, List.append_assoc, List.drop_append, List.take_append]
  simp [List.drop_eq_nil_of_le, List.take_of_length_le, putN_length]

theorem State.districtData_headroom : ((s.districtData b d).drop 50).take 1 = [if s.districts[d].headroom then 1 else 0] := by
  unfold State.districtData
  simp only [putMark, List.append_assoc, List.drop_append, List.take_append]
  simp [List.drop_eq_nil_of_le, List.take_of_length_le, putN_length]

theorem State.districtData_confirmed : ((s.districtData b d).drop 57).take 1 =
    [b8 (s.districts[d].confirmed b.districts[d].confirm).code] := by
  unfold State.districtData
  simp only [putMark, List.append_assoc, List.drop_append, List.take_append]
  simp [List.drop_eq_nil_of_le, List.take_of_length_le, putN_length]

theorem State.districtData_inlet : ((s.districtData b d).drop 58).take 3 = s.namedPoint b.districts[d].inletPoint 0 := by
  unfold State.districtData
  simp only [putMark, List.append_assoc, List.drop_append, List.take_append]
  simp [List.drop_eq_nil_of_le, List.take_of_length_le, putN_length]

theorem State.districtData_unsent : (s.districtData b d).drop 68 = putOpt 2 (putN 2) (s.loop.unsentSet d) := by
  unfold State.districtData
  simp only [putMark, List.append_assoc, List.drop_append]
  simp [List.drop_eq_nil_of_le, putN_length]

end District

/-! ## Points -/

section Point

variable (n : Nat) (r : PointRec)

theorem State.pointData_length : (s.pointData b n r).length = 30 := by
  by_cases hn : n = 26 <;> simp [State.pointData, hn, putN_length]

theorem State.pointData_head (hgen : s.tables.generation < 65536) : (s.pointData b n r).take 8 =
    [b8 n] ++ bytesOf 2 s.tables.generation ++ [b8 ([Freshness.absent, .fresh, .held].idxOf r.state)] ++ putOpt 2 (putS 2) r.value ++
      [b8 ([Quality.good, .over, .under, .fault].idxOf r.quality)] := by
  simp only [State.pointData, State.genBytes, putN_fits (w := 2) hgen, Freshness.code_eq, Quality.code_eq, List.append_assoc,
    List.take_append]
  simp [List.take_of_length_le, bytesOf_length]

theorem State.pointData_tail : (s.pointData b n r).drop 27 =
    if n = 26 then putN 2 (s.cvInForce b) ++ [if s.cvFresh then 0 else 1] else [0, 0, 0] := by
  generalize ht : (if n = 26 then putN 2 (s.cvInForce b) ++ [if s.cvFresh then 0 else 1] else [0, 0, 0] : List Byte) = tail
  simp only [State.pointData, ht, List.append_assoc, List.drop_append]
  simp [List.drop_eq_nil_of_le, putN_length]

end Point

/-! ## The directives that read -/

/-- A directive of one byte that reads the record that the byte names. -/
theorem exec_read_answered {s : State} {b : Bank} {i : Instr} {code : Nat} {ref n : Byte} {f : Bank → Act} {data : List Byte}
    (hcan : s.canAnswer) (hlive : s.live = some b) (hi : directiveOf i = some (code, ref, [n])) (hok : lengthOkOf code [n] = true)
    (hact : State.actOf code [n] s.absorb = s.absorb.withBank f) (hf : f b = (s.absorb, one data)) :
    exec i s = .next (s.accepts (b8 code) ref data) :=
  exec_directive_answered hi hcan (by simp) hok (hact.trans ((State.withBank_live (s := s.absorb) hlive f).trans hf))

theorem exec_read_refused {s : State} {b : Bank} {i : Instr} {code : Nat} {ref n : Byte} {f : Bank → Act}
    (hcan : s.canAnswer) (hlive : s.live = some b) (hi : directiveOf i = some (code, ref, [n])) (hok : lengthOkOf code [n] = true)
    (hact : State.actOf code [n] s.absorb = s.absorb.withBank f) (hf : f b = s.absorb.refuse .outOfRange) :
    exec i s = .next (s.refuses (b8 code) ref 2 []) :=
  exec_directive_refused (r := .outOfRange) hi hcan (by simp) hok
    (hact.trans ((State.withBank_live (s := s.absorb) hlive f).trans hf))

theorem State.pointNo_point (p : Fin 24) : s.pointNo (p.val + 1) = some s.points[p] := by
  have hp : pointPlace (p.val + 1) = some p := by
    unfold pointPlace
    rw [dif_pos (by omega)]
    rfl
  rw [State.pointNo, hp]

theorem State.pointNo_none {n : Nat} (h : n = 0 ∨ 26 < n) : s.pointNo n = none := by
  have hp : pointPlace n = none := by
    unfold pointPlace
    rw [dif_neg (by omega)]
  rw [State.pointNo, hp, if_neg (by omega), if_neg (by omega)]

theorem pointPlace_succ (p : Fin 24) : pointPlace (p.val + 1) = some p := by
  unfold pointPlace
  rw [dif_pos (by omega)]
  rfl

/-- A field of two bytes that may be absent, of a quantity that fits. -/
def twoOrNone : Option Nat → List Byte
  | some n => 1 :: bytesOf 2 n
  | none => [0, 0, 0]

theorem putOpt_two {o : Option Nat} (h : o.getD 0 < 65536) : putOpt 2 (putN 2) o = twoOrNone o := by
  cases o with
  | none => rfl
  | some n => exact congrArg (List.cons 1) (putN_fits (w := 2) h)

/-- A signed one. -/
def signedOrNone : Option Int → List Byte
  | some n => 1 :: bytesOf 2 (n % 65536).toNat
  | none => [0, 0, 0]

theorem putOpt_signed {o : Option Int} (hlo : -32768 ≤ o.getD 0) (hhi : o.getD 0 ≤ 32767) :
    putOpt 2 (putS 2) o = signedOrNone o := by
  cases o with
  | none => rfl
  | some n => exact congrArg (List.cons 1) (putS_two hlo hhi)

theorem DistrictRec.confirmed_code (r : DistrictRec) {m : Nat} (hm : 0 < m) :
    b8 (r.confirmed m).code = if r.lowRun = m then 1 else if r.highRun = m then 2 else 0 := by
  unfold DistrictRec.confirmed
  by_cases hl : r.lowRun = m
  · rw [if_pos ⟨hl, hm⟩, if_pos hl]
    rfl
  · rw [if_neg (fun h => hl h.1), if_neg hl]
    by_cases hh : r.highRun = m
    · rw [if_pos ⟨hh, hm⟩, if_pos hh]
      rfl
    · rw [if_neg (fun h => hh h.1), if_neg hh]
      rfl

theorem State.shareBytes_unused (m : Fin 12) (h : b.meters[m].inUse = false) : s.shareBytes b m = List.replicate 23 0 := by
  rw [State.shareBytes, h]

theorem State.shareBytes_used (m : Fin 12) {iv : OpenInterval} (h : b.meters[m].inUse = true) (hiv : s.accounts.interval = some iv)
    (hvol : iv.channels[m].volume < 2 ^ 64) (hen : iv.channels[m].energy < 2 ^ 64) :
    (s.shareBytes b m).take 16 = bytesOf 8 iv.channels[m].volume ++ bytesOf 8 iv.channels[m].energy := by
  rw [State.shareBytes, h, hiv]
  dsimp only
  rw [putN_fits hvol, putN_fits hen]
  simp [List.take_append, List.take_of_length_le, bytesOf_length]

/-- Settles O51: each directive answers with its record's data, whose fields stand where Table 40 puts them. -/
theorem readRecords : Obligations.ReadRecords := by
  intro s b ref hcan hlive
  refine ⟨fun h => ?_, fun v => ?_, fun m => ?_, fun d => ?_, fun p => ?_, ?_, ?_, fun n =>
      ⟨fun h => ?_, fun h => ?_, fun h => ?_, fun h => ?_, fun h => ?_⟩,
    fun hgen => ⟨fun h => ?holder, fun v => ?valve, fun m => ?meter, fun d => ?district, fun n r hn hlo hhi => ?point⟩⟩
  · refine exec_read_answered hcan hlive rfl rfl rfl ?_
    rw [param_small [] (by omega) [], placeOf_succ]
    rfl
  · refine exec_read_answered hcan hlive rfl rfl rfl ?_
    rw [param_small [] (by omega) [], placeOf_succ]
    rfl
  · refine exec_read_answered hcan hlive rfl rfl rfl ?_
    rw [param_small [] (by omega) [], placeOf_succ]
    rfl
  · refine exec_read_answered hcan hlive rfl rfl rfl ?_
    rw [param_small [] (by omega) [], placeOf_succ]
    rfl
  · refine exec_read_answered hcan hlive rfl rfl rfl ?_
    rw [param_small [] (by omega) [], State.pointNo_point]
    rfl
  · exact exec_read_answered hcan hlive rfl rfl rfl rfl
  · exact exec_read_answered hcan hlive rfl rfl rfl rfl
  · refine exec_read_refused hcan hlive rfl rfl rfl ?_
    rw [param_byte, placeOf_eq_none.2 h]
  · refine exec_read_refused hcan hlive rfl rfl rfl ?_
    rw [param_byte, placeOf_eq_none.2 h]
  · refine exec_read_refused hcan hlive rfl rfl rfl ?_
    rw [param_byte, placeOf_eq_none.2 h]
  · refine exec_read_refused hcan hlive rfl rfl rfl ?_
    rw [param_byte, placeOf_eq_none.2 h]
  · refine exec_read_refused hcan hlive rfl rfl rfl ?_
    rw [param_byte, State.pointNo_none _ h]
  case holder =>
    refine ⟨s.holderData_length b h, fun hcount hexp hvol => ?_, fun hn => ?_, fun x hx hlo hhi => ?_, s.holderData_last b h⟩
    · refine (s.holderData_head b h hgen hcount hexp hvol).trans ?_
      rw [cuppedBits_eq]
    · exact (s.holderData_datum b h).trans (congrArg _ hn)
    · refine (s.holderData_datum b h).trans ((congrArg _ hx).trans ?_)
      simp only [putOpt, putS_two hlo hhi]
      rfl
  case valve =>
    refine ⟨s.valveData_length b v, s.valveData_head b v hgen, (s.valveData_reported b v).trans ?_, (s.valveData_demand b v).trans ?_,
      s.valveData_permission b v⟩
    · cases s.valves[v].reported with
      | none => rfl
      | some x => simp only [putOpt, Position.code_eq]; rfl
    · cases s.valves[v].demand with
      | none => simp only [putOpt, Phase.code_eq]; rfl
      | some x => simp only [putOpt, Demand.bytes, Phase.code_eq, Dir.code_eq, Origin.code_eq, List.cons_append]
  case meter =>
    refine ⟨s.meterData_length b m, s.meterData_head b m hgen, fun href => ?_, fun hrate => ?_, fun hno => ?_, fun iv huse hiv hvol hen => ?_⟩
    · exact (s.meterData_reference b m).trans (by rw [putOpt_two href]; rfl)
    · exact (s.meterData_rate b m).trans (putN_fits hrate)
    · exact (s.meterData_share b m).trans (s.shareBytes_unused b m hno)
    · exact (congrArg (List.take 16) (s.meterData_share b m)).trans (s.shareBytes_used b m huse hiv hvol hen)
  case district =>
    refine ⟨s.districtData_length b d, s.districtData_head b d hgen, fun hl ht => ?_, s.districtData_headroom b d, fun hm => ?_,
      fun p hp hlo hhi => ?_, fun hu => ?_⟩
    · exact (s.districtData_state b d).trans (by rw [putOpt_two hl, putN_fits ht]; rfl)
    · exact (s.districtData_confirmed b d).trans (congrArg (fun x => [x]) (DistrictRec.confirmed_code _ hm))
    · refine (s.districtData_inlet b d).trans ?_
      rw [hp, State.namedPoint, pointPlace_succ]
      simp only [PointRec.stateValue, Freshness.code_eq, putS_two hlo hhi]
      rfl
    · exact (s.districtData_unsent b d).trans (putOpt_two hu)
  case point =>
    refine ⟨s.pointData_length b n r, ?_, fun h26 => ?_, fun h26 hcv => ?_⟩
    · exact (s.pointData_head b n r hgen).trans (by rw [putOpt_signed hlo hhi]; rfl)
    · exact (s.pointData_tail b n r).trans (if_neg h26)
    · refine (s.pointData_tail b n r).trans ?_
      rw [if_pos h26, putN_fits hcv]
      cases s.cvFresh <;> rfl

end Sys2Proof.Machine

/-! # Reports routed to a role, and expiries

How a report reaches its role (R163, R182), the reports that change one record only (R43, R44, R110), and the loss, stall and stale
timers (R33, R41, R44, R169). -/

namespace Sys2Proof.Machine

variable {s : State} {b : Bank}

/-! ## Routing -/

/-- A report of an address that resolves to a role is taken by that role in the state that its forwarding leaves. -/
theorem State.receiveReport_routed (hlive : s.live = some b) {src : Byte} {st : Station} (hres : b.resolve src.toNat = some st)
    (dest : Byte) (body : List Byte) :
    s.receiveReport dest src body = (s.passed dest src kindReport body).routeTo b st body := by
  show State.routeReport _ src body = _
  unfold State.routeReport
  rw [State.forward_live, hlive]
  dsimp only
  rw [hres]
  rfl

/-! ## The bodies of reports -/

/-- The two bytes of a half word, put together again. -/
theorem half_append (v : Half) : ((v >>> 8).truncate 8 ++ v.truncate 8 : Half) = v := by
  refine BitVec.eq_of_getLsbD_eq fun i hi => ?_
  rw [BitVec.getLsbD_append]
  by_cases h : i < 8
  · simp [h]
  · have hlow : i - 8 < 8 := by omega
    have hsum : 8 + (i - 8) = i := by omega
    simp [h, hlow, hsum]

theorem natOf_half (v : Half) : natOf (halfBytes v) = v.toNat := by
  have hhigh : ((v >>> 8).truncate 8 : Byte).toNat = v.toNat / 256 := by
    have := v.isLt
    simp [BitVec.toNat_ushiftRight, Nat.shiftRight_eq_div_pow]
    omega
  have hlow : (v.truncate 8 : Byte).toNat = v.toNat % 256 := by simp
  show (0 * 256 + _) * 256 + _ = v.toNat
  rw [hhigh, hlow]
  omega

theorem pointBody_half (v : Half) (code : Byte) :
    pointBody (halfBytes v ++ [code]) = (Quality.ofCode code.toNat).map fun q => (v.toInt, q) :=
  congrArg (fun w : Half => (Quality.ofCode code.toNat).map fun q => (w.toInt, q)) (half_append v)

theorem governorBody_half (v : Half) {code : Byte} (h : code.toNat ≤ 1) :
    governorBody (halfBytes v ++ [code]) = some (v.toNat, code == 1) := by
  have hcode : (code.toNat == 1) = (code == 1) := by
    rw [Bool.eq_iff_iff, beq_iff_eq, beq_iff_eq]
    exact ⟨fun h => BitVec.eq_of_toNat_eq h, fun h => congrArg BitVec.toNat h⟩
  show (if code.toNat ≤ 1 then some (natOf (halfBytes v), code.toNat == 1) else none) = _
  rw [if_pos h, natOf_half, hcode]

/-! ## Barometer, calorimeter and governor reports -/

theorem barometerUsable_iff {v : Int} {q : Quality} : barometerUsable v q = true ↔ q ≠ .fault ∧ 27000 ≤ v ∧ v ≤ 32000 := by
  simp [barometerUsable, and_assoc]
theorem calorimeterUsable_iff {v : Int} {q : Quality} : calorimeterUsable v q = true ↔ q = .good ∧ 3000 ≤ v ∧ v ≤ 6000 := by
  simp [calorimeterUsable, and_assoc]

theorem Option.or_some_getD {α : Type} (o : Option α) (x : α) : o.or (some x) = some (o.getD x) := by cases o <;> rfl

/-- Settles O36: each report changes its own record. -/
theorem gasAndGovernorReports : Obligations.GasAndGovernorReports := by
  intro s b dest src value code hon hlive
  dsimp only
  refine ⟨fun q hres hq => ?barometer, fun q hres hq => ?calorimeter, fun d hres hcode => ?governor⟩
  case barometer =>
    rw [exec_barometerReport hon, State.receiveReport_routed hlive hres]
    unfold State.routeTo
    rw [pointBody_half, hq]
    refine congrArg _ (congrArg (State.setBarometer _) ?_)
    exact ite_congr (propext barometerUsable_iff) (fun _ => rfl) fun _ => rfl
  case calorimeter =>
    rw [exec_calorimeterReport hon, State.receiveReport_routed hlive hres]
    unfold State.routeTo
    rw [pointBody_half, hq]
    refine congrArg _ (congrArg (State.setCalorimeter _) ?_)
    exact ite_congr (propext calorimeterUsable_iff) (fun _ => rfl) fun _ => rfl
  case governor =>
    rw [exec_governorReport hon, State.receiveReport_routed hlive hres]
    unfold State.routeTo
    rw [governorBody_half value hcode]
    refine congrArg _ (ite_congr (by simp) (fun _ => ?_) fun _ => rfl)
    dsimp only
    rw [Option.or_some_getD]
    rfl

/-! ## Expiries -/

theorem State.onTime_on (h : s.power = .on) (f : State → State) : s.onTime f = .next (f s) := congrArg _ (State.whenOn_on h)

theorem State.passTo_valid (t : Nat) : (s.passTo t).clock.valid = s.clock.valid := Clock.advance_valid ..

theorem PointRec.staleExpiry_fresh {r : PointRec} {u : Nat} (hf : r.state = .fresh) (hu : r.usable = some u) (stale : Nat) :
    r.staleExpiry stale = some (u + stale * 1000) := by
  unfold PointRec.staleExpiry
  rw [hf]
  dsimp only
  rw [hu]
  rfl

/-- Settles O42: each expiry by the record whose timer it is. -/
theorem stallAndStale : Obligations.StallAndStale := by
  intro s b hon hlive
  refine ⟨fun m x huse hm hup hx => ?stall, fun m h => ?resting, fun r hr u hf hu => ?point, fun u hf hu => ?barometer, fun u hf hu => ?cv⟩
  case stall =>
    have hexp : s.stallExpiry b m = some (x + b.meters[m].stall * 1000) := by
      unfold State.stallExpiry
      dsimp only
      rw [hm, huse, hup, hx]
      rfl
    refine (State.onTime_on hon _).trans (congrArg _ ?_)
    unfold State.stallExpired
    rw [hlive]
    dsimp only
    rw [hexp]
    rfl
  case resting =>
    have hexp (b : Bank) : s.stallExpiry b m = none := by
      unfold State.stallExpiry
      dsimp only
      rcases h with h | h
      · rw [beq_false_of_ne h]
        rfl
      · rw [h]
        simp
    refine (State.onTime_on hon _).trans (congrArg _ ?_)
    unfold State.stallExpired
    rw [hlive]
    dsimp only
    rw [hexp]
  case point =>
    have hrec : s.staleRec r = s.points[r.val] := dif_pos hr
    have hexp : (s.staleRec r).staleExpiry b.yard.pointStale = some (u + b.yard.pointStale * 1000) :=
      PointRec.staleExpiry_fresh (hrec ▸ hf) (hrec ▸ hu) _
    refine (State.onTime_on hon _).trans (congrArg _ ?_)
    unfold State.staleExpired
    rw [hlive]
    dsimp only
    rw [hexp]
    exact dif_pos hr
  case barometer =>
    refine (State.onTime_on hon _).trans (congrArg _ ?_)
    unfold State.staleExpired
    rw [hlive]
    dsimp only
    rw [show s.staleRec 24 = s.barometer from rfl, PointRec.staleExpiry_fresh hf hu]
    rfl
  case cv =>
    refine (State.onTime_on hon _).trans (congrArg _ ?_)
    unfold State.cvStaleExpired
    rw [hlive]
    dsimp only
    rw [PointRec.staleExpiry_fresh hf hu]
    rfl

/-! ## The loss of the loop -/

/-- The LOOP LOST flag entered in the open interval. -/
theorem State.yardFlag_lost_interval (s : State) : (s.yardFlag { YardFlags.none with loopLost := true }).accounts.interval =
    s.accounts.interval.map fun iv => { iv with yard := { iv.yard with loopLost := true } } := by
  have hunion (y : YardFlags) : y.union { YardFlags.none with loopLost := true } = { y with loopLost := true } := by
    simp [YardFlags.union, YardFlags.none]
  simp only [State.yardFlag, State.mapInterval, State.setAccounts, hunion]

/-- Withdrawing every valve command and every SET leaves no command. -/
theorem commands_withdrawn (l : List Command) : (l.filter fun c => !c.isAnyValve).filter (fun c => !c.isAnySet) = [] := by
  simp only [List.filter_filter, List.filter_eq_nil_iff]
  intro c _
  cases c <;> simp [Command.isAnyValve, Command.isAnySet]

/-- Settles O41, by the equation of the loss, block by block. -/
theorem lossExpiry : Obligations.LossExpiry := by
  intro s hon
  refine ⟨fun hlost => ?_, fun hup => ⟨(s.passTo s.loop.lossExpiry).becomeLost, ?_, ?_⟩⟩
  · refine (State.onTime_on hon _).trans (congrArg _ ?_)
    exact if_pos hlost
  · refine (State.onTime_on hon _).trans (congrArg _ ?_)
    exact if_neg (by simp [hup])
  · refine ⟨rfl, commands_withdrawn _, rfl, rfl, rfl, rfl, fun v => Vector.getElem_map .., rfl, rfl, State.yardFlag_lost_interval _, rfl,
      ?_, rfl, rfl, rfl, rfl, rfl, rfl, rfl, rfl, rfl, rfl, rfl⟩
    show s.timebase + (s.loop.lossExpiry - s.timebase) = max s.timebase s.loop.lossExpiry
    omega

end Sys2Proof.Machine

/-! # Ends of operations

What an operation's end leaves (R63, R66 to R70), and the answers and expiries that bring it. -/

namespace Sys2Proof.Machine

variable {s t : State} {b : Bank} {v : Fin 8} {r : ValveRec} {d : Demand}

/-! ## The notice of an end -/

theorem State.ProgrammeIdle.of_same (hi : s.ProgrammeIdle) (hp : t.prog = s.prog) (ht : t.tables = s.tables)
    (hc : t.clock.valid = s.clock.valid) (hl : t.loop.lost = s.loop.lost) : t.ProgrammeIdle := by
  unfold State.ProgrammeIdle State.mayTake State.running at hi ⊢
  rwa [hp, ht, hc, hl]

/-- An idle Programme Unit settles nothing in a state that differs elsewhere only. -/
theorem State.settled_same (hi : s.ProgrammeIdle) (hp : t.prog = s.prog) (ht : t.tables = s.tables)
    (hc : t.clock.valid = s.clock.valid) (hl : t.loop.lost = s.loop.lost) : t.settled = t :=
  t.settled_idle (hi.of_same hp ht hc hl)

theorem State.notifyJoined_unjoined (h : r.joined = false) (x : Bool) : s.notifyJoined v r x = s := by
  unfold State.notifyJoined
  rw [h]

theorem State.notifyJoined_joined (h : r.joined = true) (hd : r.demand = some d) (x : Bool) :
    s.notifyJoined v r x = { s with prog := { s.prog with notices := s.prog.notices ++ [⟨v, d.dir, x⟩] } } := by
  unfold State.notifyJoined
  rw [h, hd]
  rfl

/-! ## Ends -/

theorem State.setValve_at (s : State) (v : Fin 8) (r : ValveRec) : (s.setValve v r).valves[v] = r := upd_at ..
theorem State.setValve_setValve (s : State) (v : Fin 8) (x y : ValveRec) : (s.setValve v x).setValve v y = s.setValve v y :=
  congrArg (fun vs => { s with valves := vs }) (upd_upd s.valves v x y)

/-- R69: the record of a valve whose first answer is missed. -/
def ValveRec.again (r : ValveRec) : ValveRec := { r with reissue := 1, tag := r.tag + 1, phase := .selectSent, answerTimer := none }
/-- R69: the record of a valve that enters NO_ANSWER. -/
def ValveRec.silent (r : ValveRec) (d : Demand) (cause : FailCause) (time : Nat) : ValveRec :=
  { r with state := .noAnswer, phase := .idle, answerTimer := none, travelTimer := none, joined := false,
           demand := if d.origin = .trip then some d else none, lastFailure := some ⟨cause, some d, time⟩ }
/-- R70: the record of a valve whose operation ends as a match. -/
def ValveRec.matched (r : ValveRec) (d : Dir) : ValveRec :=
  { r with state := d.reachedState, demand := none, joined := false, phase := .idle, reissue := 0, answerTimer := none,
           travelTimer := none }
/-- R68, R70: the record of a valve whose operation ends in STUCK. -/
def ValveRec.stuck (r : ValveRec) (cause : FailCause) (time : Nat) : ValveRec :=
  { r with state := .stuck, demand := none, joined := false, phase := .idle, answerTimer := none, travelTimer := none,
           lastFailure := some ⟨cause, r.demand, time⟩ }
/-- R72: the record of a valve that enters LOCAL, with the demand and the joined mark it keeps. -/
def ValveRec.inLocal (r : ValveRec) (kept : Option Demand) (joined : Bool) : ValveRec :=
  { r with state := .localHand, demand := kept, joined := joined, phase := .idle,
           reissue := if r.state.inFlight then 0 else r.reissue, answerTimer := none, travelTimer := none }

theorem State.missedAnswer_first (hd : s.valves[v].demand = some d) (h0 : s.valves[v].reissue = 0) (hup : s.loop.lost = false)
    (c : FailCause) : s.missedAnswer v c =
      (s.setValve v s.valves[v].again).setLoop (s.loop.placeValve v false d.dir (s.valves[v].tag + 1) (d.origin == .trip)) := by
  unfold State.missedAnswer
  dsimp only
  split
  next hn => rw [hd] at hn; exact nomatch hn
  next e he =>
    obtain rfl : d = e := Option.some.inj (hd.symm.trans he)
    rw [if_pos h0]
    unfold State.beginExchange
    dsimp only
    rw [if_neg (by simp [hup]), s.setValve_at]
    exact congrArg (fun u : State => u.setLoop _) (s.setValve_setValve v _ _)

theorem State.missedAnswer_again (hd : s.valves[v].demand = some d) (h0 : s.valves[v].reissue ≠ 0) (c : FailCause) :
    s.missedAnswer v c =
      ((s.setValve v (s.valves[v].silent d c s.timebase)).raise (srcValveFault v)).notifyJoined v s.valves[v] false := by
  unfold State.missedAnswer
  dsimp only
  rw [hd]
  dsimp only
  rw [if_neg h0]
  rfl

theorem State.endMatch_eq (s : State) (v : Fin 8) (d : Dir) : s.endMatch v d =
    ((s.setValve v (s.valves[v].matched d)).setLoop (s.loop.withdraw (·.isValve v))).notifyJoined v s.valves[v] true := rfl

theorem State.endStuck_eq (s : State) (v : Fin 8) (c : FailCause) : s.endStuck v c =
    (((s.setValve v (s.valves[v].stuck c s.timebase)).setLoop (s.loop.withdraw (·.isValve v))).raise (srcValveFault v)).notifyJoined v
      s.valves[v] false := rfl

theorem State.enterLocal_trip (hd : s.valves[v].demand = some d) (htrip : d.origin = .trip) : s.enterLocal v =
    (s.setValve v (s.valves[v].inLocal (some d) s.valves[v].joined)).setLoop (s.loop.withdraw (·.isValve v)) := by
  have hkept : s.valves[v].hasTrip = true := by
    unfold ValveRec.hasTrip
    rw [hd]
    exact beq_iff_eq.2 htrip
  rw [s.enterLocal_eq, ValveRec.toLocal, hkept]
  exact congrArg (fun x => (s.setValve v (s.valves[v].inLocal x _)).setLoop _) hd

theorem State.enterLocal_other (h : ∀ d, s.valves[v].demand = some d → d.origin ≠ .trip) : s.enterLocal v =
    ((s.setValve v (s.valves[v].inLocal none false)).setLoop (s.loop.withdraw (·.isValve v))).notifyJoined v s.valves[v] false := by
  have hkept : s.valves[v].hasTrip = false := by
    unfold ValveRec.hasTrip
    split
    next d hd => exact beq_false_of_ne (h d hd)
    next => rfl
  rw [s.enterLocal_eq, ValveRec.toLocal, hkept]
  rfl

section Replaced

variable {r : ValveRec}

theorem State.setValve_missedAnswer_first (hd : r.demand = some d) (h0 : r.reissue = 0) (hup : s.loop.lost = false) (c : FailCause) :
    (s.setValve v r).missedAnswer v c =
      (s.setValve v r.again).setLoop (s.loop.placeValve v false d.dir (r.tag + 1) (d.origin == .trip)) := by
  have hv := s.setValve_at v r
  rw [State.missedAnswer_first (by rw [hv]; exact hd) (by rw [hv]; exact h0) (by exact hup), hv, s.setValve_setValve]
  rfl

theorem State.setValve_missedAnswer_again (hd : r.demand = some d) (h0 : r.reissue ≠ 0) (c : FailCause) :
    (s.setValve v r).missedAnswer v c =
      ((s.setValve v (r.silent d c s.timebase)).raise (srcValveFault v)).notifyJoined v r false := by
  have hv := s.setValve_at v r
  rw [State.missedAnswer_again (by rw [hv]; exact hd) (by rw [hv]; exact h0), hv, s.setValve_setValve]
  rfl

theorem State.setValve_endStuck (s : State) (v : Fin 8) (r : ValveRec) (c : FailCause) : (s.setValve v r).endStuck v c =
    (((s.setValve v (r.stuck c s.timebase)).setLoop (s.loop.withdraw (·.isValve v))).raise (srcValveFault v)).notifyJoined v r false := by
  rw [State.endStuck_eq, s.setValve_at, s.setValve_setValve]
  rfl

theorem State.setValve_enterLocal_trip (hd : r.demand = some d) (htrip : d.origin = .trip) : (s.setValve v r).enterLocal v =
    (s.setValve v (r.inLocal (some d) r.joined)).setLoop (s.loop.withdraw (·.isValve v)) := by
  have hv := s.setValve_at v r
  rw [State.enterLocal_trip (by rw [hv]; exact hd) htrip, hv, s.setValve_setValve]
  rfl

theorem State.setValve_enterLocal_other (h : ∀ d, r.demand = some d → d.origin ≠ .trip) : (s.setValve v r).enterLocal v =
    ((s.setValve v (r.inLocal none false)).setLoop (s.loop.withdraw (·.isValve v))).notifyJoined v r false := by
  have hv := s.setValve_at v r
  rw [State.enterLocal_other (by rw [hv]; exact h), hv, s.setValve_setValve]
  rfl

theorem State.setValve_endMatch (s : State) (v : Fin 8) (r : ValveRec) (d : Dir) : (s.setValve v r).endMatch v d =
    ((s.setValve v (r.matched d)).setLoop (s.loop.withdraw (·.isValve v))).notifyJoined v r true := by
  rw [State.endMatch_eq, s.setValve_at, s.setValve_setValve]
  rfl

end Replaced

/-! ## Expiries of the answer and travel timers -/

theorem State.answerExpired_running {e : Nat} (h : s.valves[v].answerTimer = some e) :
    s.answerExpired v = ((s.passTo e).missedAnswer v .noAnswer).settled := by
  unfold State.answerExpired
  rw [h]

theorem State.travelExpired_running {e : Nat} (h : s.valves[v].travelTimer = some e) :
    s.travelExpired v = ((s.passTo e).endStuck v .travelTimeout).settled := by
  unfold State.travelExpired
  rw [h]

theorem State.raise_prog (s : State) (x : Fin 74) : (s.raise x).prog = s.prog := by
  unfold State.raise State.raiseAt
  split <;> rfl
theorem State.raise_tables (s : State) (x : Fin 74) : (s.raise x).tables = s.tables := (s.raise_only x).tables
theorem State.raise_clock (s : State) (x : Fin 74) : (s.raise x).clock = s.clock := (s.raise_only x).clock
theorem State.raise_lost (s : State) (x : Fin 74) : (s.raise x).loop.lost = s.loop.lost := (s.raise_only x).loop.lost

/-- Settles O40: each timer by its expiry, the answer timer by the misses before it. -/
theorem valveTimers : Obligations.ValveTimers := by
  intro s v hon _ told
  refine ⟨fun hno => ?_, fun hno => ?_, fun e d hidle he hd h0 hup => ?first, fun e d he hd h0 => ?second, fun e he => ?travel⟩
  · refine (State.onTime_on hon _).trans (congrArg _ ?_)
    unfold State.answerExpired
    rw [hno]
  · refine (State.onTime_on hon _).trans (congrArg _ ?_)
    unfold State.travelExpired
    rw [hno]
  case first =>
    refine (State.onTime_on hon _).trans (congrArg _ ((State.answerExpired_running he).trans ?_))
    rw [State.missedAnswer_first (s := s.passTo e) hd h0 ((s.passTo_loop e).symm ▸ hup)]
    exact State.settled_same hidle rfl rfl (State.passTo_valid e) rfl
  case second =>
    have hact : exec (.answerTimerExpiry v) s = _ :=
      (State.onTime_on hon _).trans (congrArg _ ((State.answerExpired_running he).trans
        (congrArg State.settled (State.missedAnswer_again (s := s.passTo e) hd h0 .noAnswer))))
    refine ⟨fun hidle hj => hact.trans (congrArg _ ?_), fun hj => hact.trans (congrArg _ ?_)⟩
    · rw [State.notifyJoined_unjoined (by exact hj)]
      exact State.settled_same hidle (State.raise_prog ..) (State.raise_tables ..)
        ((congrArg Clock.valid (State.raise_clock ..)).trans (State.passTo_valid e)) (State.raise_lost ..)
    · rw [State.notifyJoined_joined (by exact hj) (by exact hd), State.raise_prog]
      rfl
  case travel =>
    have hact : exec (.travelTimerExpiry v) s = _ :=
      (State.onTime_on hon _).trans (congrArg _ ((State.travelExpired_running he).trans
        (congrArg State.settled ((s.passTo e).endStuck_eq v .travelTimeout))))
    refine ⟨fun hidle hj => hact.trans (congrArg _ ?_), fun d hj hd => hact.trans (congrArg _ ?_)⟩
    · rw [State.notifyJoined_unjoined (by exact hj)]
      exact State.settled_same hidle (State.raise_prog ..) (State.raise_tables ..)
        ((congrArg Clock.valid (State.raise_clock ..)).trans (State.passTo_valid e)) (State.raise_lost ..)
    · rw [State.notifyJoined_joined (by exact hj) (by exact hd), State.raise_prog]
      rfl

end Sys2Proof.Machine

/-! # Answers of the valve stations

SELECTED, DONE and REFUSED (R66 to R69). -/

namespace Sys2Proof.Machine

variable {s : State} {b : Bank} {v : Fin 8} {d : Demand}

/-! ## Routing -/

theorem exec_answerSelected (h : s.power = .on) (dest src tag code : Byte) :
    exec (.answerSelected dest src tag code) s = .next (s.receiveAnswer dest src [tag, 1, code]) := congrArg _ (State.whenOn_on h)
theorem exec_answerDone (h : s.power = .on) (dest src tag : Byte) :
    exec (.answerDone dest src tag) s = .next (s.receiveAnswer dest src [tag, 2, 0]) := congrArg _ (State.whenOn_on h)
theorem exec_answerRefused (h : s.power = .on) (dest src tag code : Byte) :
    exec (.answerRefused dest src tag code) s = .next (s.receiveAnswer dest src [tag, 3, code]) := congrArg _ (State.whenOn_on h)

theorem State.receiveAnswer_elsewhere {dest : Byte} (h : dest.toNat ≠ s.own) (src : Byte) (body : List Byte) :
    s.receiveAnswer dest src body = s.passed dest src kindAnswer body := if_neg h

theorem State.receiveAnswer_routed (hlive : s.live = some b) {dest src : Byte} (hown : dest.toNat = s.own)
    (hres : b.resolve src.toNat = some (.valve v)) {body : List Byte} {tag : Byte} {a : Answer} (hbody : answerBody body = some (tag, a)) :
    s.receiveAnswer dest src body = ((s.passed dest src kindAnswer body).valveAnswer b v tag a).settled := by
  refine (if_pos hown).trans ?_
  unfold State.routeAnswer
  rw [State.forward_live, hlive]
  dsimp only
  rw [hres, hbody]
  rfl

theorem answerBody_selected (tag : Byte) {code : Byte} {pos : Position} (h : Position.ofCode code.toNat = some pos) :
    answerBody [tag, 1, code] = some (tag, .selected pos) := by
  show (Position.ofCode code.toNat).map _ = _
  rw [h]
  rfl

theorem answerBody_refused (tag : Byte) {code : Byte} {x : RefuseReason} (h : RefuseReason.ofCode code.toNat = some x) :
    answerBody [tag, 3, code] = some (tag, .refused x) := by
  show (RefuseReason.ofCode code.toNat).map _ = _
  rw [h]
  rfl

/-! ## Whether an answer is acted on -/

/-- The record of a valve that an answer is recorded in. -/
def ValveRec.noted (r : ValveRec) (a : Answer) (tag : Byte) (time : Nat) (acted : Bool) : ValveRec :=
  { r with lastAnswer := some ⟨a, tag, time, acted⟩ }

theorem State.valveAnswer_ignored {tag : Byte} {a : Answer} (h : s.answerActed v a tag = false) :
    s.valveAnswer b v tag a = s.setValve v (s.valves[v].noted a tag s.timebase false) := by
  unfold State.valveAnswer
  dsimp only
  rw [h]
  rfl

theorem State.valveAnswer_selected {pos : Position} {tag : Byte} (h : s.answerActed v (.selected pos) tag = true) : s.valveAnswer b v tag (.selected pos) =
    (s.setValve v (s.valves[v].noted (.selected pos) tag s.timebase true)).actSelected v pos := by
  unfold State.valveAnswer
  dsimp only
  rw [h]
  rfl

theorem State.valveAnswer_finished {tag : Byte} (h : s.answerActed v .finished tag = true) : s.valveAnswer b v tag .finished =
    (s.setValve v (s.valves[v].noted .finished tag s.timebase true)).actDone b v := by
  unfold State.valveAnswer
  dsimp only
  rw [h]
  rfl

theorem State.valveAnswer_refused {x : RefuseReason} {tag : Byte} (h : s.answerActed v (.refused x) tag = true) : s.valveAnswer b v tag (.refused x) =
    (s.setValve v (s.valves[v].noted (.refused x) tag s.timebase true)).actRefused v x := by
  unfold State.valveAnswer
  dsimp only
  rw [h]
  rfl

theorem State.answerActed_selected {pos : Position} {tag : Byte} : s.answerActed v (.selected pos) tag = true ↔
    tag = s.valves[v].tag ∧ s.valves[v].phase = .selectSent ∧ s.loop.lost = false := by
  simp [State.answerActed, and_assoc, and_comm, and_left_comm]

theorem State.answerActed_finished {tag : Byte} : s.answerActed v .finished tag = true ↔
    tag = s.valves[v].tag ∧ s.valves[v].phase = .operateSent ∧ s.valves[v].answerTimer ≠ none ∧ s.loop.lost = false := by
  simp [State.answerActed, and_assoc, and_comm, and_left_comm, Option.isSome_iff_ne_none]

theorem State.answerActed_refused {x : RefuseReason} {tag : Byte} : s.answerActed v (.refused x) tag = true ↔
    tag = s.valves[v].tag ∧ s.valves[v].phase ≠ .idle ∧ s.loop.lost = false := by
  simp [State.answerActed, and_assoc, and_comm, and_left_comm]

/-! ## SELECTED -/

theorem Dir.matches_iff (d : Dir) (p : Position) : d.matches p = true ↔ p = if d = .toOpen then .opened else .shut := by
  cases d <;> cases p <;> simp [Dir.matches]

theorem Dir.reachedState_eq (d : Dir) : d.reachedState = if d = .toOpen then .opened else .shut := by cases d <;> rfl

/-- R66: a SELECTED that gives the position demanded ends the operation as a match. -/
theorem State.actSelected_matched {r : ValveRec} (hd : r.demand = some d) {pos : Position} (hm : d.dir.matches pos = true) :
    (s.setValve v r).actSelected v pos =
      ((s.setValve v ({ r with reported := some ⟨pos, s.timebase⟩ }.matched d.dir)).setLoop
        (s.loop.withdraw (·.isValve v))).notifyJoined v r true := by
  unfold State.actSelected
  dsimp only
  rw [s.setValve_at, s.setValve_setValve, hd]
  dsimp only
  rw [if_pos hm, State.endMatch_eq, s.setValve_at, s.setValve_setValve]
  unfold State.notifyJoined
  rw [hd]
  rfl

/-- R66: one that gives another places the OPERATE of the same tag. -/
theorem State.actSelected_operate {r : ValveRec} (hd : r.demand = some d) {pos : Position} (hm : d.dir.matches pos = false) :
    (s.setValve v r).actSelected v pos =
      (s.setValve v { r with answerTimer := none, reported := some ⟨pos, s.timebase⟩, phase := .operateSent }).setLoop
        (s.loop.placeValve v true d.dir r.tag (d.origin == .trip)) := by
  unfold State.actSelected
  dsimp only
  rw [s.setValve_at, s.setValve_setValve]
  split
  next hn => rw [hd] at hn; exact nomatch hn
  next e he =>
    obtain rfl : d = e := Option.some.inj (hd.symm.trans he)
    rw [hm, s.setValve_at]
    exact congrArg (fun u : State => u.setLoop _) (s.setValve_setValve v _ _)

/-- Settles O38, by whether the answer is to the part, and to the exchange in hand. -/
theorem answerSelected : Obligations.AnswerSelected := by
  intro s b v dest src tag code pos hon hlive hres hpos p noted
  have gives := exec_answerSelected hon dest src tag code
  have routed (hown : dest.toNat = s.own) : s.receiveAnswer dest src [tag, 1, code] = (p.valveAnswer b v tag (.selected pos)).settled :=
    State.receiveAnswer_routed hlive hown hres (answerBody_selected tag hpos)
  have hlost : p.loop.lost = s.loop.lost := State.forward_lost ..
  have hacts : p.answerActed v (.selected pos) tag = true ↔
      tag = s.valves[v].tag ∧ s.valves[v].phase = .selectSent ∧ s.loop.lost = false := by
    rw [State.answerActed_selected, hlost]
    rfl
  refine ⟨fun hown => ?other, fun hidle hown hno => ?ignored, fun d hown hup htag hphase hd hgoal => ?matched,
    fun d hidle hown hup htag hphase hd hopen hshut => ?operate⟩
  case other => rw [gives, State.receiveAnswer_elsewhere hown]
  case ignored =>
    have hnot : p.answerActed v (.selected pos) tag = false := by
      rw [← Bool.not_eq_true, hacts]
      rintro ⟨htag, hphase, hup⟩
      rcases hno with h | h | h
      · exact h htag
      · exact h hphase
      · exact nomatch hup.symm.trans h
    rw [gives, routed hown, State.valveAnswer_ignored hnot]
    exact congrArg _ (State.settled_same hidle rfl rfl rfl hlost)
  case matched =>
    intro ended
    have hm : d.dir.matches pos = true := (d.dir.matches_iff pos).2 hgoal
    have hend : p.valveAnswer b v tag (.selected pos) = ended.notifyJoined v (noted true) true := by
      rw [State.valveAnswer_selected (hacts.2 ⟨htag, hphase, hup⟩)]
      refine (State.actSelected_matched (r := noted true) hd hm).trans ?_
      unfold ValveRec.matched
      rw [Dir.reachedState_eq]
      rfl
    rw [gives, routed hown, hend]
    refine ⟨fun hj hidle => congrArg _ ?_, fun hj => congrArg _ ?_⟩
    · rw [State.notifyJoined_unjoined (by exact hj)]
      exact State.settled_same hidle rfl rfl rfl hlost
    · rw [State.notifyJoined_joined (by exact hj) (by exact hd)]
      rfl
  case operate =>
    have hm : d.dir.matches pos = false := by
      rw [← Bool.not_eq_true, Dir.matches_iff]
      cases hdir : d.dir with
      | toOpen => exact hopen hdir
      | toShut => exact hshut hdir
    rw [gives, routed hown, State.valveAnswer_selected (hacts.2 ⟨htag, hphase, hup⟩)]
    refine (congrArg (fun u : State => Host.Outcome.next u.settled) (State.actSelected_operate (s := p) (r := noted true) hd hm)).trans ?_
    rw [htag]
    exact congrArg _ (State.settled_same hidle rfl rfl rfl hlost)

/-! ## DONE and REFUSED -/

theorem Bank.travelTime_eq (b : Bank) (v : Fin 8) : b.travelTime v =
    if v.val % 2 = 0 then b.holders[holderOf v].inletTime else b.holders[holderOf v].outletTime := by
  unfold Bank.travelTime sideOf
  by_cases h : v.val % 2 = 0
  · rw [if_pos h, if_pos h]
  · rw [if_neg h, if_neg h]

theorem State.actRefused_notSelected (s : State) (v : Fin 8) (r : ValveRec) : (s.setValve v r).actRefused v .notSelected =
    (s.setValve v { r with answerTimer := none }).missedAnswer v .selectLapsed := by
  unfold State.actRefused
  dsimp only
  rw [s.setValve_at, s.setValve_setValve]

theorem State.actRefused_fault (s : State) (v : Fin 8) (r : ValveRec) : (s.setValve v r).actRefused v .fault =
    (s.setValve v { r with answerTimer := none, reported := some ⟨.fault, s.timebase⟩ }).endStuck v .refusedFault := by
  unfold State.actRefused
  dsimp only
  rw [s.setValve_at, s.setValve_setValve, s.setValve_at, s.setValve_setValve]
  rfl

theorem State.actRefused_localHand (s : State) (v : Fin 8) (r : ValveRec) : (s.setValve v r).actRefused v .localHand =
    (s.setValve v { r with answerTimer := none, reported := some ⟨.localHand, s.timebase⟩ }).enterLocal v := by
  unfold State.actRefused
  dsimp only
  rw [s.setValve_at, s.setValve_setValve, s.setValve_at, s.setValve_setValve]
  rfl

/-- Settles O39, by whether the answer is to the part, and then by its kind and reason. -/
theorem answerDoneRefused : Obligations.AnswerDoneRefused := by
  intro s b v src dest tag hon hlive hres p
  have lost (body : List Byte) : (p body).loop.lost = s.loop.lost := State.forward_lost ..
  refine ⟨fun hown => ?other, fun hown => ?own⟩
  case other =>
    refine ⟨?_, fun code => ?_⟩
    · rw [exec_answerDone hon, State.receiveAnswer_elsewhere hown]
    · rw [exec_answerRefused hon, State.receiveAnswer_elsewhere hown]
  case own =>
  intro noted told acted
  have routed {body : List Byte} {a : Answer} (hbody : answerBody body = some (tag, a)) :
      s.receiveAnswer dest src body = ((p body).valveAnswer b v tag a).settled := State.receiveAnswer_routed hlive hown hres hbody
  refine ⟨fun hidle hno => ?ignored, fun hidle htag hphase htimer hup => ?done, fun code x hx => ?refused⟩
  case ignored =>
    have hnot : (p [tag, 2, 0]).answerActed v .finished tag = false := by
      rw [← Bool.not_eq_true, State.answerActed_finished, lost]
      rintro ⟨htag, hphase, htimer, hup⟩
      rcases hno with h | h | h | h
      · exact h htag
      · exact h hphase
      · exact htimer h
      · exact nomatch hup.symm.trans h
    rw [exec_answerDone hon, routed rfl, State.valveAnswer_ignored hnot]
    exact congrArg _ (State.settled_same hidle rfl rfl rfl (lost _))
  case done =>
    have hdone (u : State) (r : ValveRec) : (u.setValve v r).actDone b v =
        u.setValve v { r with answerTimer := none, travelTimer := some (u.timebase + b.travelTime v * 1000) } := by
      unfold State.actDone
      rw [u.setValve_at, u.setValve_setValve]
      rfl
    rw [exec_answerDone hon, routed rfl, State.valveAnswer_finished ((State.answerActed_finished (s := p [tag, 2, 0])).2 ⟨htag, hphase, htimer, (lost _).trans hup⟩),
      hdone, Bank.travelTime_eq]
    exact congrArg _ (State.settled_same hidle rfl rfl rfl (lost _))
  case refused =>
  intro gives q
  have hq : q.loop.lost = s.loop.lost := lost _
  have hacts : q.answerActed v (.refused x) tag = true ↔ acted := by
    rw [State.answerActed_refused, hq]
    rfl
  have taken (h : acted) (t : State) (ht : (q.setValve v (noted (.refused x) true)).actRefused v x = t) :
      exec (.answerRefused dest src tag code) s = .next t.settled := by
    rw [exec_answerRefused hon, routed (answerBody_refused tag hx), State.valveAnswer_refused (hacts.2 h)]
    exact congrArg (fun u : State => Host.Outcome.next u.settled) ht
  refine ⟨fun hidle hnot => ?ignored, ?notSelected, ?fault, ?localHand⟩
  case ignored =>
    show exec _ _ = _
    rw [exec_answerRefused hon, routed (answerBody_refused tag hx),
      State.valveAnswer_ignored (Bool.eq_false_iff.2 fun h => hnot (hacts.1 h))]
    exact congrArg _ (State.settled_same hidle rfl rfl rfl hq)
  case notSelected =>
    rintro d rfl hacted hd silent
    let r : ValveRec := { noted (.refused .notSelected) true with answerTimer := none }
    have hmiss : exec (.answerRefused dest src tag code) s = .next (State.settled ((q.setValve v r).missedAnswer v .selectLapsed)) :=
      taken hacted _ (q.actRefused_notSelected v _)
    refine ⟨fun hidle h0 => hmiss.trans (congrArg _ ?_), fun hidle h0 hj => hmiss.trans (congrArg _ ?_),
      fun h0 hj => hmiss.trans (congrArg _ ?_)⟩
    · rw [State.setValve_missedAnswer_first (r := r) hd h0 (hq.trans hacted.2.2)]
      exact State.settled_same hidle rfl rfl rfl hq
    · rw [State.setValve_missedAnswer_again (r := r) hd h0, State.notifyJoined_unjoined (by exact hj)]
      exact State.settled_same hidle (State.raise_prog ..) (State.raise_tables ..) (congrArg Clock.valid (State.raise_clock ..))
        ((State.raise_lost ..).trans hq)
    · rw [State.setValve_missedAnswer_again (r := r) hd h0, State.notifyJoined_joined (by exact hj) (by exact hd), State.raise_prog]
      rfl
  case fault =>
    rintro rfl hacted stuck
    have hstuck : exec (.answerRefused dest src tag code) s = .next (State.settled (stuck.notifyJoined v s.valves[v] false)) :=
      taken hacted _ ((q.actRefused_fault v _).trans (q.setValve_endStuck v _ _))
    refine ⟨fun hidle hj => hstuck.trans (congrArg _ ?_), fun d hj hd => hstuck.trans (congrArg _ ?_)⟩
    · rw [State.notifyJoined_unjoined hj]
      exact State.settled_same hidle (State.raise_prog ..) (State.raise_tables ..) (congrArg Clock.valid (State.raise_clock ..))
        ((State.raise_lost ..).trans hq)
    · rw [State.notifyJoined_joined hj hd, State.raise_prog]
      rfl
  case localHand =>
    rintro d rfl hacted hd hmoving inLocal
    let r : ValveRec := { noted (.refused .localHand) true with answerTimer := none, reported := some ⟨.localHand, s.timebase⟩ }
    have hrec (kept : Option Demand) (joined : Bool) : (q.setValve v (r.inLocal kept joined)).setLoop (q.loop.withdraw (·.isValve v)) =
        inLocal kept joined := by
      unfold ValveRec.inLocal
      rw [if_pos (show r.state.inFlight = true from hmoving)]
      rfl
    have hentered : exec (.answerRefused dest src tag code) s = .next (State.settled ((q.setValve v r).enterLocal v)) :=
      taken hacted _ (q.actRefused_localHand v _)
    refine ⟨fun hidle htrip => hentered.trans (congrArg _ ?_), fun hidle hother hj => hentered.trans (congrArg _ ?_),
      fun hother hj => hentered.trans (congrArg _ ?_)⟩
    · rw [State.setValve_enterLocal_trip (r := r) hd htrip, hrec]
      exact State.settled_same hidle rfl rfl rfl hq
    · rw [State.setValve_enterLocal_other (r := r) fun e he => Option.some.inj (hd.symm.trans he) ▸ hother, hrec,
        State.notifyJoined_unjoined (by exact hj)]
      exact State.settled_same hidle rfl rfl rfl hq
    · rw [State.setValve_enterLocal_other (r := r) fun e he => Option.some.inj (hd.symm.trans he) ▸ hother, hrec,
        State.notifyJoined_joined (by exact hj) (by exact hd)]
      rfl

end Sys2Proof.Machine

/-! # Position reports of a valve

A valve in flight, at rest, and with a kept demand (R70 to R74). -/

namespace Sys2Proof.Machine

variable {s : State} {b : Bank} {v : Fin 8} {d : Demand} {r : ValveRec} {pos : Position}

/-! ## The parts of a report's effect -/

/-- R70: the record of a valve with a reported position. -/
def ValveRec.reporting (r : ValveRec) (pos : Position) (time : Nat) : ValveRec := { r with reported := some ⟨pos, time⟩ }

theorem ValveState.inFlight_iff {x : ValveState} : x.inFlight = true ↔ x = .opening ∨ x = .shutting := by
  cases x <;> simp [ValveState.inFlight]

/-- R70 to R74: what a report of the position `pos` makes of the state `u` that holds it, by the valve's state and its demand. -/
def State.reportFrom (u : State) (v : Fin 8) (pos : Position) (x : ValveState) (o : Option Demand) : State :=
  match x with
  | .opening | .shutting => match o with
    | none => u
    | some d =>
      if d.dir.matches pos then u.endMatch v d.dir
      else match pos with
        | .fault => u.endStuck v .faultReported
        | .localHand => u.enterLocal v
        | _ => u
  | .unknown | .shut | .opened | .noAnswer => u.followAndTake v pos
  | .stuck => if pos = .localHand then u.enterLocal v else u
  | .localHand => if pos = .localHand ∨ pos = .fault then u else u.followAndTake v pos

theorem State.positionReport_eq (s : State) (v : Fin 8) (pos : Position) : s.positionReport v pos =
    (s.setValve v (s.valves[v].reporting pos s.timebase)).reportFrom v pos s.valves[v].state s.valves[v].demand := by
  unfold State.positionReport State.reportFrom
  cases s.valves[v].state <;> cases s.valves[v].demand <;> cases pos <;> rfl

/-- R70: a valve in flight. -/
theorem State.reportFrom_moving (u : State) {x : ValveState} (hm : x.inFlight = true) (d : Demand) (pos : Position) :
    u.reportFrom v pos x (some d) =
      if d.dir.matches pos then u.endMatch v d.dir
      else if pos = .fault then u.endStuck v .faultReported
      else if pos = .localHand then u.enterLocal v
      else u := by
  rcases ValveState.inFlight_iff.1 hm with rfl | rfl <;> cases pos <;> rfl

/-- R71, R74: a valve that follows the report. -/
theorem State.reportFrom_following (u : State) {x : ValveState} {pos : Position} (o : Option Demand)
    (h : x ∈ [.unknown, .shut, .opened, .noAnswer] ∨ x = .localHand ∧ pos ≠ .localHand ∧ pos ≠ .fault) :
    u.reportFrom v pos x o = u.followAndTake v pos := by
  rcases h with h | ⟨rfl, hlocal, hfault⟩
  · simp only [List.mem_cons, List.not_mem_nil, or_false] at h
    rcases h with rfl | rfl | rfl | rfl <;> rfl
  · exact if_neg (by simp [hlocal, hfault])

theorem ValveState.mem_following {x : ValveState} (h : x ∈ [.unknown, .shut, .opened, .localHand, .noAnswer]) :
    x ∈ [.unknown, .shut, .opened, .noAnswer] ∨ x = .localHand := by
  cases x <;> first | exact .inl (by decide) | exact .inr rfl | exact absurd h (by decide)

/-- R71: the state that a position gives a valve that follows it. -/
def Position.leaves : Position → ValveState
  | .shut => .shut
  | .opened => .opened
  | _ => .unknown

theorem State.followPosition_leaves (s : State) (v : Fin 8) (r : ValveRec) {pos : Position} (hf : pos ≠ .fault) (hl : pos ≠ .localHand) :
    (s.setValve v r).followPosition v pos = s.setValve v { r with state := pos.leaves } := by
  have set (x : ValveState) : (s.setValve v r).setValve v { (s.setValve v r).valves[v] with state := x } = s.setValve v { r with state := x } := by
    rw [s.setValve_at, s.setValve_setValve]
  cases pos with
  | shut => exact set _
  | opened => exact set _
  | mid => exact set _
  | fault => exact absurd rfl hf
  | localHand => exact absurd rfl hl

theorem State.followPosition_fault (s : State) (v : Fin 8) (r : ValveRec) : (s.setValve v r).followPosition v .fault =
    (s.setValve v { r with state := .stuck, lastFailure := some ⟨.faultReported, r.demand, s.timebase⟩ }).raise (srcValveFault v) := by
  unfold State.followPosition
  dsimp only
  rw [s.setValve_at, s.setValve_setValve]
  rfl

theorem State.takeKept_none (h : s.valves[v].demand = none) : s.takeKept v = s := by
  unfold State.takeKept
  dsimp only
  rw [h]

/-- R72, R74: what a kept demand makes of a state, by what it meets there. -/
def State.keptMeets (s : State) (v : Fin 8) (d : Demand) : Offer → State
  | .started => s.startOperation v d s.valves[v].joined
  | .satisfied => (s.setValve v { s.valves[v] with demand := none, joined := false }).notifyJoined v s.valves[v] true
  | _ => s

theorem State.takeKept_some (h : s.valves[v].demand = some d) : s.takeKept v = s.keptMeets v d (table11 s.valves[v].state d) := by
  unfold State.takeKept
  dsimp only
  split
  next hn => rw [h] at hn; exact nomatch hn
  next e he =>
    obtain rfl : d = e := Option.some.inj (h.symm.trans he)
    cases table11 s.valves[v].state d <;> rfl

theorem State.setValve_begun (s : State) (v : Fin 8) (x r : ValveRec) (d : Demand) (j : Bool) :
    (s.setValve v x).begun v r d j = s.begun v r d j := by
  unfold State.begun
  refine ite_congr rfl (fun _ => ?_) fun _ => ?_
  · exact s.setValve_setValve v x _
  · exact congrArg (fun u : State => u.setLoop (s.loop.placeValve v false d.dir (r.tag + 1) (d.origin == .trip))) (s.setValve_setValve v x _)

theorem State.setValve_takeKept_started (hd : r.demand = some d) (ht : table11 r.state d = .started) :
    (s.setValve v r).takeKept v = s.begun v r d r.joined := by
  have hv := s.setValve_at v r
  rw [State.takeKept_some (s := s.setValve v r) ((congrArg ValveRec.demand hv).trans hd),
    (congrArg (fun x : ValveRec => table11 x.state d) hv).trans ht]
  unfold State.keptMeets
  dsimp only
  rw [State.startOperation_eq_begun, hv, s.setValve_begun]

theorem State.setValve_takeKept_satisfied (hd : r.demand = some d) (ht : table11 r.state d = .satisfied) :
    (s.setValve v r).takeKept v = (s.setValve v { r with demand := none, joined := false }).notifyJoined v r true := by
  have hv := s.setValve_at v r
  rw [State.takeKept_some (s := s.setValve v r) ((congrArg ValveRec.demand hv).trans hd),
    (congrArg (fun x : ValveRec => table11 x.state d) hv).trans ht]
  unfold State.keptMeets
  dsimp only
  rw [hv, s.setValve_setValve]

theorem State.setValve_takeKept_kept (hd : r.demand = some d) (ht : table11 r.state d = .kept) :
    (s.setValve v r).takeKept v = s.setValve v r := by
  have hv := s.setValve_at v r
  rw [State.takeKept_some (s := s.setValve v r) ((congrArg ValveRec.demand hv).trans hd),
    (congrArg (fun x : ValveRec => table11 x.state d) hv).trans ht]
  rfl

theorem State.shutIfWithdrawn_other (h : s.valves[v].state ≠ .opened ∨ s.perms[v].granted = true) : s.shutIfWithdrawn v = s := by
  unfold State.shutIfWithdrawn
  refine if_neg ?_
  rintro ⟨hs, hg⟩
  rcases h with h | h
  · exact h hs
  · exact nomatch hg.symm.trans h

/-! ## A valve that follows the report -/

theorem State.begun_restate (s : State) (v : Fin 8) (r : ValveRec) (x : ValveState) (d : Demand) (j : Bool) :
    s.begun v { r with state := x } d j = s.begun v r d j := rfl

/-- R71: an OPEN valve without permission shuts. -/
theorem State.setValve_shutIfWithdrawn (hs : r.state = .opened) (hg : s.perms[v].granted = false) :
    (s.setValve v r).shutIfWithdrawn v = s.begun v r ⟨.toShut, .trip⟩ false := by
  have hv := s.setValve_at v r
  have hs' : (s.setValve v r).valves[v].state = .opened := (congrArg ValveRec.state hv).trans hs
  unfold State.shutIfWithdrawn
  rw [if_pos ⟨hs', hg⟩, State.offered_started (d := ⟨.toShut, .trip⟩) nofun (by rw [hs']; rfl), hv, s.setValve_begun]
  rfl

theorem State.setValve_shutIfWithdrawn_other (h : r.state ≠ .opened) : (s.setValve v r).shutIfWithdrawn v = s.setValve v r :=
  State.shutIfWithdrawn_other (.inl (by rw [s.setValve_at]; exact h))

theorem Dir.begun_state (d : Dir) : (if d = .toOpen then ValveState.opening else .shutting) ≠ .opened := by cases d <;> nofun

theorem State.begun_not_opened (s : State) (v : Fin 8) (r : ValveRec) (d : Demand) (j : Bool) :
    (s.begun v r d j).shutIfWithdrawn v = s.begun v r d j :=
  State.shutIfWithdrawn_other (.inl (by rw [(s.begun_state v r d j).1]; exact d.dir.begun_state))

/-- R71: a valve with no demand follows a report of SHUT, OPEN or MID. -/
theorem State.follows_free (hd : r.demand = none) (hf : pos ≠ .fault) (hl : pos ≠ .localHand)
    (h : pos ≠ .opened ∨ s.perms[v].granted = true) :
    (s.setValve v r).followAndTake v pos = s.setValve v { r with state := pos.leaves } := by
  unfold State.followAndTake
  rw [s.followPosition_leaves v r hf hl, State.takeKept_none (by rw [s.setValve_at]; exact hd)]
  refine State.shutIfWithdrawn_other (h.imp (fun h => ?_) id)
  rw [s.setValve_at]
  cases pos <;> first | exact absurd rfl h | nofun

theorem State.follows_withdrawn (hd : r.demand = none) (hg : s.perms[v].granted = false) :
    (s.setValve v r).followAndTake v .opened = s.begun v r ⟨.toShut, .trip⟩ false := by
  unfold State.followAndTake
  rw [s.followPosition_leaves v r (pos := .opened) nofun nofun, State.takeKept_none (by rw [s.setValve_at]; exact hd),
    State.setValve_shutIfWithdrawn rfl hg, State.begun_restate]

/-- R71: FAULT at rest, with no demand. -/
theorem State.follows_fault (hd : r.demand = none) : (s.setValve v r).followAndTake v .fault =
    (s.setValve v { r with state := .stuck, lastFailure := some ⟨.faultReported, none, s.timebase⟩ }).raise (srcValveFault v) := by
  have hv := congrArg (fun vs => vs[v]) (State.raise_valves
    (s.setValve v { r with state := .stuck, lastFailure := some ⟨.faultReported, r.demand, s.timebase⟩ }) (srcValveFault v))
  have hat := hv.trans (s.setValve_at v _)
  unfold State.followAndTake
  rw [s.followPosition_fault v r, State.takeKept_none ((congrArg ValveRec.demand hat).trans hd),
    State.shutIfWithdrawn_other (.inl fun h => nomatch (congrArg ValveRec.state hat).symm.trans h), hd]

/-- R72: LOCAL from rest, with no demand. -/
theorem State.enterLocal_free (hd : r.demand = none) (hm : r.state.inFlight = false) : (s.setValve v r).enterLocal v =
    (s.setValve v { r with state := .localHand, joined := false, phase := .idle, answerTimer := none, travelTimer := none }).setLoop
      (s.loop.withdraw (·.isValve v)) := by
  rw [State.setValve_enterLocal_other (fun d h => nomatch hd.symm.trans h)]
  unfold State.notifyJoined ValveRec.inLocal
  rw [hm, hd]
  cases r.joined <;> rfl

theorem State.reportFrom_localHand (hd : r.demand = none) (hx : r.state ∈ [.unknown, .shut, .opened, .stuck, .noAnswer])
    (o : Option Demand) : (s.setValve v r).reportFrom v .localHand r.state o =
    (s.setValve v { r with state := .localHand, joined := false, phase := .idle, answerTimer := none, travelTimer := none }).setLoop
      (s.loop.withdraw (·.isValve v)) := by
  have hm : r.state.inFlight = false := by
    rw [Bool.eq_false_iff]
    intro hm
    rcases ValveState.inFlight_iff.1 hm with h | h <;> rw [h] at hx <;> exact absurd hx (by decide)
  rw [← State.enterLocal_free hd hm]
  by_cases hs : r.state = .stuck
  · rw [hs]
    rfl
  · rw [State.reportFrom_following _ o (.inl (by simp only [List.mem_cons, List.not_mem_nil, or_false] at hx ⊢; simp_all))]
    show (((s.setValve v r).enterLocal v).takeKept v).shutIfWithdrawn v = _
    have hv : ((s.setValve v
        { r with state := .localHand, joined := false, phase := .idle, answerTimer := none, travelTimer := none }).setLoop
          (s.loop.withdraw (·.isValve v))).valves[v] = _ := s.setValve_at v _
    rw [State.enterLocal_free hd hm, State.takeKept_none ((congrArg ValveRec.demand hv).trans hd)]
    exact State.shutIfWithdrawn_other (.inl fun h => nomatch (congrArg ValveRec.state hv).symm.trans h)

/-! ## A source raised among other changes -/

theorem State.raise_setAttn (s : State) (x : Fin 74) : s.raise x = s.setAttn (s.raise x).attn := by
  unfold State.raise State.raiseAt
  split <;> rfl

/-- What raising a source makes of the attention list depends on the list, the clock and the tables. -/
theorem State.raise_attn_congr {t : State} (ha : t.attn = s.attn) (hc : t.clock = s.clock) (ht : t.tables = s.tables) (x : Fin 74) :
    (t.raise x).attn = (s.raise x).attn := by
  unfold State.raise State.raiseAt State.now
  rw [ha, hc, ht]
  split <;> simp [State.setAttn, ha]

theorem State.setAttn_begun (s : State) (a : Attention) (v : Fin 8) (r : ValveRec) (d : Demand) (j : Bool) :
    (s.setAttn a).begun v r d j = (s.begun v r d j).setAttn a := by
  unfold State.begun
  show (if s.loop.lost = true then _ else _) = _
  split <;> rfl

theorem State.begun_same (s : State) (v : Fin 8) (r : ValveRec) (d : Demand) (j : Bool) :
    (s.begun v r d j).attn = s.attn ∧ (s.begun v r d j).clock = s.clock ∧ (s.begun v r d j).tables = s.tables := by
  unfold State.begun
  split <;> exact ⟨rfl, rfl, rfl⟩

theorem State.raise_begun (s : State) (x : Fin 74) (v : Fin 8) (r : ValveRec) (d : Demand) (j : Bool) :
    (s.raise x).begun v r d j = (s.begun v r d j).raise x := by
  obtain ⟨ha, hc, ht⟩ := s.begun_same v r d j
  rw [s.raise_setAttn, State.setAttn_begun, (s.begun v r d j).raise_setAttn, State.raise_attn_congr ha hc ht]

/-! ## A kept demand -/

/-- R72, R74: a kept demand that the report satisfies. -/
theorem State.follows_kept_shut (hd : r.demand = some ⟨.toShut, .trip⟩) : (s.setValve v r).followAndTake v .shut =
    (s.setValve v { r with state := .shut, demand := none, joined := false }).notifyJoined v r true := by
  unfold State.followAndTake
  rw [s.followPosition_leaves v r (pos := .shut) nofun nofun,
    State.setValve_takeKept_satisfied (r := { r with state := Position.shut.leaves }) hd rfl]
  refine (State.shutIfWithdrawn_other (.inl ?_)).trans rfl
  rw [State.notifyJoined_valves, s.setValve_at]
  nofun

/-- R72, R74: a kept demand whose operation starts. -/
theorem State.follows_kept_moves (hd : r.demand = some ⟨.toShut, .trip⟩) (h : pos = .opened ∨ pos = .mid) :
    (s.setValve v r).followAndTake v pos = s.begun v r ⟨.toShut, .trip⟩ r.joined := by
  have taken (x : ValveState) (hx : table11 x ⟨.toShut, .trip⟩ = .started) :
      ((s.setValve v { r with state := x }).takeKept v).shutIfWithdrawn v = s.begun v r ⟨.toShut, .trip⟩ r.joined := by
    rw [State.setValve_takeKept_started (r := { r with state := x }) hd hx, State.begun_not_opened, State.begun_restate]
  unfold State.followAndTake
  rcases h with rfl | rfl
  · rw [s.followPosition_leaves v r (pos := .opened) nofun nofun]
    exact taken _ rfl
  · rw [s.followPosition_leaves v r (pos := .mid) nofun nofun]
    exact taken _ rfl

/-- R74: a kept demand taken from STUCK, with VALVE FAULT raised. -/
theorem State.follows_kept_fault (hd : r.demand = some ⟨.toShut, .trip⟩) : (s.setValve v r).followAndTake v .fault =
    (s.begun v { r with state := .stuck, lastFailure := some ⟨.faultReported, some ⟨.toShut, .trip⟩, s.timebase⟩ } ⟨.toShut, .trip⟩
      r.joined).raise (srcValveFault v) := by
  have hv := (congrArg (fun vs => vs[v]) (State.raise_valves
    (s.setValve v { r with state := .stuck, lastFailure := some ⟨.faultReported, r.demand, s.timebase⟩ }) (srcValveFault v))).trans
    (s.setValve_at v _)
  unfold State.followAndTake
  rw [s.followPosition_fault v r, State.takeKept_some ((congrArg ValveRec.demand hv).trans hd),
    congrArg (fun x : ValveRec => table11 x.state ⟨.toShut, .trip⟩) hv]
  unfold State.keptMeets table11
  dsimp only
  rw [State.startOperation_eq_begun, hv, State.begun_not_opened, State.raise_begun, s.setValve_begun, hd]

/-- R72: LOCAL keeps the demand. -/
theorem State.follows_kept_localHand (hd : r.demand = some ⟨.toShut, .trip⟩) (hm : r.state.inFlight = false) :
    (s.setValve v r).followAndTake v .localHand =
      (s.setValve v { r with state := .localHand, phase := .idle, answerTimer := none, travelTimer := none }).setLoop
        (s.loop.withdraw (·.isValve v)) := by
  have hkept : r.inLocal (some ⟨.toShut, .trip⟩) r.joined =
      { r with state := .localHand, phase := .idle, answerTimer := none, travelTimer := none } := by
    unfold ValveRec.inLocal
    rw [hm, ← hd]
    rfl
  have hv : ((s.setValve v { r with state := .localHand, phase := .idle, answerTimer := none, travelTimer := none }).setLoop
      (s.loop.withdraw (·.isValve v))).valves[v] = _ := s.setValve_at v _
  unfold State.followAndTake State.followPosition
  dsimp only
  rw [State.setValve_enterLocal_trip hd rfl, hkept, State.takeKept_some ((congrArg ValveRec.demand hv).trans hd),
    congrArg (fun x : ValveRec => table11 x.state ⟨.toShut, .trip⟩) hv]
  refine State.shutIfWithdrawn_other (.inl fun h => ?_)
  exact nomatch (congrArg ValveRec.state hv).symm.trans h

/-! ## The reports -/

theorem positionBody_code {code : Byte} (h : Position.ofCode code.toNat = some pos) : positionBody [code] = some pos := h

/-- Settles O37: the reports in flight, at rest, STUCK, in LOCAL and in NO_ANSWER, each by its equation. -/
theorem valvePosition : Obligations.ValvePosition := by
  intro s b v dest src code pos hon hlive hres hpos p r gives told without faulted inLocal
  have hp : p.loop.lost = s.loop.lost := State.forward_lost ..
  have reported {t : State} (ht : (p.setValve v r).reportFrom v pos s.valves[v].state s.valves[v].demand = t) :
      exec (.valvePositionReport dest src code) s = .next t.settled := by
    rw [exec_valvePositionReport hon, State.receiveReport_routed hlive hres]
    unfold State.routeTo
    rw [positionBody_code hpos]
    exact congrArg (fun u : State => Host.Outcome.next u.settled) ((p.positionReport_eq v pos).trans ht)
  have quiet {t : State} (ht : (p.setValve v r).reportFrom v pos s.valves[v].state s.valves[v].demand = t) (hidle : s.ProgrammeIdle)
      (hprog : t.prog = s.prog) (htab : t.tables = s.tables) (hclock : t.clock = s.clock) (hlost : t.loop.lost = s.loop.lost) : gives t :=
    (reported ht).trans (congrArg _ (State.settled_same hidle hprog htab (congrArg Clock.valid hclock) hlost))
  have beginning {x : ValveRec} {d : Demand} {j : Bool} (hidle : s.ProgrammeIdle)
      (ht : (p.setValve v r).reportFrom v pos s.valves[v].state s.valves[v].demand = p.begun v x d j) : gives (p.begun v x d j) := by
    have hpidle : p.ProgrammeIdle := hidle.of_same rfl rfl rfl hp
    exact (reported ht).trans (congrArg _ (State.settled_idle _ (State.begun_idle hpidle v x d j)))
  have ends {u : State} {d : Demand} {x : Bool} (hd : s.valves[v].demand = some d)
      (ht : (p.setValve v r).reportFrom v pos s.valves[v].state s.valves[v].demand = u.notifyJoined v r x)
      (hprog : u.prog = s.prog) (htab : u.tables = s.tables) (hclock : u.clock = s.clock) (hlost : u.loop.lost = s.loop.lost) :
      (s.valves[v].joined = false → s.ProgrammeIdle → gives u) ∧ (s.valves[v].joined = true → gives (told u d.dir x)) := by
    refine ⟨fun hj hidle => ?_, fun hj => ?_⟩
    · exact quiet (ht.trans (State.notifyJoined_unjoined (r := r) hj x)) hidle hprog htab hclock hlost
    · refine (reported (ht.trans (State.notifyJoined_joined (r := r) hj hd x))).trans ?_
      rw [hprog]
  refine ⟨fun d hd hmove => ?moving, fun hidle hd => ?free, fun hidle hs hpos => ?stuck, fun hidle hs hpos => ?localHand,
    fun hd hs => ?kept⟩
  case moving =>
    intro goal ended stuck dropped
    have hm : s.valves[v].state.inFlight = true := by
      rcases hmove with ⟨-, h⟩ | ⟨-, h⟩ <;> rw [h] <;> rfl
    have hfrom := (congrArg ((p.setValve v r).reportFrom v pos s.valves[v].state) hd).trans
      ((p.setValve v r).reportFrom_moving hm d pos)
    have hgoal : d.dir.matches pos = true ↔ pos = goal := d.dir.matches_iff pos
    have hnot {x : Position} (h : pos = x) (hx : x ≠ .opened) (hx' : x ≠ .shut) : ¬d.dir.matches pos = true := by
      subst h
      rw [hgoal]
      show ¬pos = if d.dir = .toOpen then .opened else .shut
      split
      · exact hx
      · exact hx'
    refine ⟨fun h => ?matched, fun h => ?failed, fun h => ?toLocal, fun h hidle => ?other⟩
    case matched =>
      refine ends hd (hfrom.trans ((if_pos (hgoal.2 h)).trans ((p.setValve_endMatch v r d.dir).trans ?_))) rfl rfl rfl hp
      unfold ValveRec.matched
      rw [Dir.reachedState_eq]
      rfl
    case failed =>
      refine ends hd (hfrom.trans ((if_neg (hnot h nofun nofun)).trans ((if_pos h).trans ((p.setValve_endStuck v r _).trans ?_))))
        (State.raise_prog ..) (State.raise_tables ..) (State.raise_clock ..) ((State.raise_lost ..).trans hp)
      unfold ValveRec.stuck
      rw [show r.demand = some d from hd]
      rfl
    case toLocal =>
      have hfault : pos ≠ .fault := by
        rw [h]
        nofun
      have hloc := hfrom.trans ((if_neg (hnot h nofun nofun)).trans ((if_neg hfault).trans (if_pos h)))
      have hrec (kept : Option Demand) (j : Bool) : r.inLocal kept j =
          { inLocal with demand := kept, joined := j, reissue := 0, phase := .idle, answerTimer := none, travelTimer := none } := by
        unfold ValveRec.inLocal
        rw [if_pos (show r.state.inFlight = true from hm)]
      refine ⟨fun htrip hidle => ?_, fun hother hj hidle => ?_, fun hother hj => ?_⟩
      · refine quiet (hloc.trans ((State.setValve_enterLocal_trip (r := r) hd htrip).trans ?_)) hidle rfl rfl rfl hp
        rw [hrec, ← hd]
        rfl
      all_goals
        have hdrop := hloc.trans ((State.setValve_enterLocal_other (r := r)
          fun e he => Option.some.inj (hd.symm.trans he) ▸ hother).trans (congrArg (fun x =>
            ((p.setValve v x).setLoop (p.loop.withdraw (·.isValve v))).notifyJoined v r false) (hrec none false)))
      · exact (ends (u := dropped) hd hdrop rfl rfl rfl hp).1 hj hidle
      · exact (ends (u := dropped) hd hdrop rfl rfl rfl hp).2 hj
    case other =>
      simp only [List.mem_cons, List.not_mem_nil, or_false, not_or] at h
      obtain ⟨h1, h2, h3⟩ := h
      exact quiet (hfrom.trans ((if_neg fun hm => h1 (hgoal.1 hm)).trans ((if_neg h2).trans (if_neg h3)))) hidle rfl rfl rfl hp
  case free =>
    have hr : r.demand = none := hd
    have follows (hs : s.valves[v].state ∈ [.unknown, .shut, .opened, .localHand, .noAnswer]) {x : Position} (hx : pos = x)
        (hf : x ≠ .fault) (hl : x ≠ .localHand) :
        (p.setValve v r).reportFrom v pos s.valves[v].state s.valves[v].demand = (p.setValve v r).followAndTake v x := by
      subst hx
      exact State.reportFrom_following _ _ ((ValveState.mem_following hs).imp_right fun h => ⟨h, hl, hf⟩)
    refine ⟨fun hs => ⟨fun h => ?_, fun h hg => ?_, fun h hg => ?_, fun h => ?_⟩, fun hs h => ?_, fun hs h => ?_⟩
    · exact quiet ((follows hs h nofun nofun).trans (State.follows_free hr nofun nofun (.inl nofun))) hidle rfl rfl rfl hp
    · exact quiet ((follows hs h nofun nofun).trans (State.follows_free hr nofun nofun (.inr hg))) hidle rfl rfl rfl hp
    · exact beginning hidle ((follows hs h nofun nofun).trans (State.follows_withdrawn hr hg))
    · exact quiet ((follows hs h nofun nofun).trans (State.follows_free hr nofun nofun (.inl nofun))) hidle rfl rfl rfl hp
    · subst h
      exact quiet (((p.setValve v r).reportFrom_following _ (.inl hs)).trans (State.follows_fault hr)) hidle (State.raise_prog ..)
        (State.raise_tables ..) (State.raise_clock ..) ((State.raise_lost ..).trans hp)
    · subst h
      exact quiet (State.reportFrom_localHand hr hs _) hidle rfl rfl rfl hp
  case stuck =>
    refine quiet ?_ hidle rfl rfl rfl hp
    rw [hs]
    exact if_neg hpos
  case localHand =>
    refine quiet ?_ hidle rfl rfl rfl hp
    rw [hs]
    exact if_pos hpos
  case kept =>
    intro shut
    have hr : r.demand = some ⟨.toShut, .trip⟩ := hd
    have follows {x : Position} (hx : pos = x) (h : s.valves[v].state = .noAnswer ∨ x ≠ .fault ∧ x ≠ .localHand) :
        (p.setValve v r).reportFrom v pos s.valves[v].state s.valves[v].demand = (p.setValve v r).followAndTake v x := by
      subst hx
      have hmem (h : s.valves[v].state = .noAnswer) : s.valves[v].state ∈ [.unknown, .shut, .opened, .noAnswer] := by
        rw [h]
        decide
      refine State.reportFrom_following _ _ ?_
      rcases h with h | ⟨hf, hl⟩
      · exact .inl (hmem h)
      · exact hs.symm.imp hmem fun h => ⟨h, hl, hf⟩
    refine ⟨fun h => ?_, fun hidle h => ?_, fun hidle hno h => ?_, fun hidle hno h => ?_⟩
    · exact ends hd ((follows h (.inr ⟨nofun, nofun⟩)).trans (State.follows_kept_shut hr)) rfl rfl rfl hp
    · refine beginning hidle ((follows rfl (.inr ?_)).trans (State.follows_kept_moves hr h))
      rcases h with h | h <;> exact ⟨by rw [h]; nofun, by rw [h]; nofun⟩
    · have hbegun : (p.begun v (faulted (some ⟨.toShut, .trip⟩)) ⟨.toShut, .trip⟩ r.joined).ProgrammeIdle :=
        State.begun_idle (s := p) (hidle.of_same rfl rfl rfl hp) ..
      exact (reported ((follows h (.inl hno)).trans (State.follows_kept_fault hr))).trans (congrArg _
        (State.settled_same hbegun (State.raise_prog ..) (State.raise_tables ..) (congrArg Clock.valid (State.raise_clock ..))
          (State.raise_lost ..)))
    · have hm : r.state.inFlight = false := by
        rw [show r.state = .noAnswer from hno]
        rfl
      exact quiet ((follows h (.inl hno)).trans (State.follows_kept_localHand hr hm)) hidle rfl rfl rfl hp

end Sys2Proof.Machine

/-! # Reading the accounts

READ INTERVAL, READ NEXT and READ DAY, and the bytes of Tables 38 and 39 (R144 to R146). -/

namespace Sys2Proof.Machine

variable {s : State}

/-! ## Lists of places -/

theorem Vector.toList_places {α : Type} {n : Nat} (v : Vector α n) : v.toList = (List.finRange n).map fun i => v[i] := by
  refine List.ext_getElem (by simp) fun i h1 h2 => ?_
  simp

/-- The first six channels, and the last six. -/
theorem channels_first {α : Type} (v : Vector α 12) (f : α → List Byte) :
    (v.toList.take 6).flatMap f = ([0, 1, 2, 3, 4, 5] : List (Fin 12)).flatMap fun m => f v[m] := by
  rw [Vector.toList_places, ← List.map_take, show (List.finRange 12).take 6 = [0, 1, 2, 3, 4, 5] from rfl, List.flatMap_map]
theorem channels_last {α : Type} (v : Vector α 12) (f : α → List Byte) :
    (v.toList.drop 6).flatMap f = ([6, 7, 8, 9, 10, 11] : List (Fin 12)).flatMap fun m => f v[m] := by
  rw [Vector.toList_places, ← List.map_drop, show (List.finRange 12).drop 6 = [6, 7, 8, 9, 10, 11] from rfl, List.flatMap_map]

theorem flatMap_six_length {α : Type} {f : α → List Byte} {w : Nat} (hf : ∀ x, (f x).length = w) {l : List α} (hl : l.length = 6) :
    (l.flatMap f).length = 6 * w := by
  rw [List.length_flatMap, List.map_congr_left (g := fun _ => w) fun x _ => hf x, List.map_const', hl]
  simp
  omega

/-- A part of a list of parts of one width. -/
theorem flatMap_slice {α : Type} {f : α → List Byte} {w : Nat} (hf : ∀ x, (f x).length = w) {l : List α} {i : Nat} (hi : i < l.length) :
    ((l.flatMap f).drop (w * i)).take w = f l[i] := by
  induction l generalizing i with
  | nil => exact absurd hi (Nat.not_lt_zero i)
  | cons x xs ih =>
    rw [List.flatMap_cons]
    cases i with
    | zero => exact List.take_left' (hf x)
    | succ i =>
      rw [Nat.mul_succ, Nat.add_comm, ← List.drop_drop, List.drop_left' (hf x)]
      exact ih (Nat.lt_of_succ_lt_succ hi)

/-! ## Fields that fit -/

theorem putS_four {x : Int} (hlo : -2 ^ 31 ≤ x) (hhi : x < 2 ^ 31) : putS 4 x = bytesOf 4 (x % 2 ^ 32).toNat := by
  unfold putS
  rw [if_pos (by omega)]
  rfl

/-- An identity as Table 38 carries it. -/
def identityBytes : Option Identity → List Byte
  | some i => 1 :: bytesOf 2 i.gasDay ++ [b8 i.index]
  | none => [0, 0, 0, 0]

theorem putOpt_identity {x : Option Identity} (h : ∀ i, x = some i → i.gasDay < 2 ^ 16 ∧ i.index < 2 ^ 8) :
    putOpt 3 Identity.bytes x = identityBytes x := by
  cases x with
  | none => rfl
  | some i => exact congrArg (fun l => 1 :: (l ++ [b8 i.index])) (putN_fits (w := 2) (h i rfl).1)

/-- A wall time as Table 38 carries it. -/
def wallBytes : Option WallTime → List Byte
  | some w => 1 :: bytesOf 2 w.day ++ bytesOf 3 w.sec
  | none => [0, 0, 0, 0, 0, 0]

theorem putOpt_wall {x : Option WallTime} (h : ∀ w, x = some w → w.Fits) : putOpt 5 WallTime.bytes x = wallBytes x := by
  cases x with
  | none => rfl
  | some w =>
    show 1 :: (putN 2 w.day ++ putN 3 w.sec) = 1 :: (bytesOf 2 w.day ++ bytesOf 3 w.sec)
    rw [putN_fits (h w rfl).1, putN_fits (h w rfl).2]

theorem ChannelFlags.bits_eq (f : ChannelFlags) : f.bits = f.byTable := by
  obtain ⟨a, b, c, d, e⟩ := f
  cases a <;> cases b <;> cases c <;> cases d <;> cases e <;> rfl

theorem YardFlags.bits_eq (f : YardFlags) : f.bits = f.byTable := by
  unfold YardFlags.bits YardFlags.byTable
  simp only [bitsOf, Bool.toNat, Bool.cond_eq_ite]
  omega

theorem YardFlags.byTable_lt (f : YardFlags) : f.byTable < 2 ^ 16 := by
  unfold YardFlags.byTable
  have (x : Bool) : x.toNat ≤ 1 := Bool.toNat_le x
  have h1 := this f.cvDeclared; have h2 := this f.loopLost; have h3 := this f.clockInvalid; have h4 := this f.clockAdjusted
  have h5 := this f.clockStep; have h6 := this f.restart; have h7 := this f.gap; have h8 := this f.stockUncertain
  have h9 := this f.stockHeld
  omega

theorem putN_yard (f : YardFlags) : putN 2 f.bits = bytesOf 2 f.byTable := by rw [f.bits_eq, putN_fits f.byTable_lt]

theorem roleFlags_fits {role : Nat} (h : role < 4) (f : ChannelFlags) : roleFlags role f = b8 (role + 4 * f.byTable) := by
  rw [roleFlags, Nat.mod_eq_of_lt h, f.bits_eq]

/-! ## Interval records -/

theorem ChannelRecord.bytes_length (c : ChannelRecord) : c.bytes.length = 29 := by simp [ChannelRecord.bytes, putN_length]
theorem HolderStock.bytes_length (x : HolderStock) : x.bytes.length = 7 := by simp [HolderStock.bytes, putN_length]

theorem holders_bytes (v : Vector HolderStock 4) (f : HolderStock → List Byte) :
    v.toList.flatMap f = ([0, 1, 2, 3] : List (Fin 4)).flatMap fun h => f v[h] := by
  rw [Vector.toList_places, show List.finRange 4 = [0, 1, 2, 3] from rfl, List.flatMap_map]

theorem Identity.bytes_length (i : Identity) : i.bytes.length = 3 := by simp [Identity.bytes, putN_length]
theorem WallTime.bytes_length (w : WallTime) : w.bytes.length = 5 := by simp [WallTime.bytes, putN_length]

theorem IntervalRecord.head_length (r : IntervalRecord) : r.head.length = 82 := by
  simp [IntervalRecord.head, putN_length, putOpt_length Identity.bytes_length, putOpt_length WallTime.bytes_length, holders_bytes,
    HolderStock.bytes_length]

theorem IntervalRecord.parts_length (r : IntervalRecord) : r.parts.map List.length = [82, 174, 174] := by
  simp [IntervalRecord.parts, r.head_length, flatMap_six_length ChannelRecord.bytes_length]

theorem InputFlags.holder_bits (f : InputFlags) (certain : Bool) : certainCode certain + 2 * f.bits =
    markBit (!certain) 1 + markBit f.held 2 + markBit f.reference 4 + markBit f.clamped 8 := by
  obtain ⟨a, b, c⟩ := f
  cases certain <;> cases a <;> cases b <;> cases c <;> rfl

/-- A holder's part of a record whose stocks fit. -/
theorem HolderStock.bytes_fits {x : HolderStock} (h : x.stockOpen < 2 ^ 24 ∧ x.stockClose < 2 ^ 24) : x.bytes =
    bytesOf 3 x.stockOpen ++ bytesOf 3 x.stockClose ++
      [b8 (markBit (!x.certain) 1 + markBit x.flags.held 2 + markBit x.flags.reference 4 + markBit x.flags.clamped 8)] := by
  rw [HolderStock.bytes, putN_fits h.1, putN_fits h.2, InputFlags.holder_bits]

/-- A channel of a record whose quantities fit. -/
theorem ChannelRecord.bytes_fits {c : ChannelRecord} (h : c.role < 4 ∧ c.pulses < 2 ^ 32 ∧ c.raw < 2 ^ 32 ∧ c.corrected < 2 ^ 32 ∧
    c.energy < 2 ^ 32 ∧ c.volumeIn < 2 ^ 16 ∧ c.energyIn < 2 ^ 32 ∧ c.volumeOut < 2 ^ 16 ∧ c.energyOut < 2 ^ 32) : c.bytes =
    [b8 (c.role + 4 * c.flags.byTable)] ++ bytesOf 4 c.pulses ++ bytesOf 4 c.raw ++ bytesOf 4 c.corrected ++ bytesOf 4 c.energy ++
      bytesOf 2 c.volumeIn ++ bytesOf 4 c.energyIn ++ bytesOf 2 c.volumeOut ++ bytesOf 4 c.energyOut := by
  obtain ⟨hrole, hpulses, hraw, hcorrected, henergy, hvin, hein, hvout, heout⟩ := h
  rw [ChannelRecord.bytes, roleFlags_fits hrole, putN_fits hpulses, putN_fits hraw, putN_fits hcorrected, putN_fits henergy,
    putN_fits hvin, putN_fits hein, putN_fits hvout, putN_fits heout]

theorem IntervalRecord.head_fits {r : IntervalRecord} (h : r.Fits) : r.head =
    bytesOf 4 r.sequence ++ identityBytes r.identity ++ wallBytes r.openTime ++ wallBytes r.closeTime ++ bytesOf 2 r.generation ++
      bytesOf 2 r.yard.byTable ++ List.replicate 12 0 ++ bytesOf 3 r.totalOpen ++ bytesOf 3 r.totalClose ++ bytesOf 4 r.make ++
      bytesOf 4 r.send ++ bytesOf 4 (r.balance % 2 ^ 32).toNat ++
      ([0, 1, 2, 3] : List (Fin 4)).flatMap fun h => r.holders[h].bytes := by
  obtain ⟨hseq, hgen⟩ := h.numbers
  obtain ⟨hopen, hclose⟩ := h.times
  obtain ⟨htopen, htclose, hmake, hsend, hlo, hhi⟩ := h.totals
  rw [IntervalRecord.head, putN_fits hseq, putOpt_identity h.identity, putOpt_wall hopen, putOpt_wall hclose, putN_fits hgen, putN_yard,
    putN_fits htopen, putN_fits htclose, putN_fits hmake, putN_fits hsend, putS_four hlo hhi, holders_bytes]

/-! ## The open interval -/

theorem ChannelShare.bytes_length (c : ChannelShare) : c.bytes.length = 31 := by simp [ChannelShare.bytes, putN_length]

theorem ChannelShare.bytes_fits {c : ChannelShare} (h : c.role < 4 ∧ c.pulses < 2 ^ 32 ∧ c.raw < 2 ^ 32 ∧ c.volume < 2 ^ 64 ∧
    c.energy < 2 ^ 64 ∧ c.volumeIn < 2 ^ 16 ∧ c.energyIn < 2 ^ 32) : c.bytes =
    [b8 (c.role + 4 * c.flags.byTable)] ++ bytesOf 4 c.pulses ++ bytesOf 4 c.raw ++ bytesOf 8 c.volume ++ bytesOf 8 c.energy ++
      bytesOf 2 c.volumeIn ++ bytesOf 4 c.energyIn := by
  obtain ⟨hrole, hpulses, hraw, hvolume, henergy, hvin, hein⟩ := h
  rw [ChannelShare.bytes, roleFlags_fits hrole, putN_fits hpulses, putN_fits hraw, putN_fits hvolume, putN_fits henergy, putN_fits hvin,
    putN_fits hein]

/-- Table 38: what stands before the holders in frame 1 of the open interval. -/
def State.openFields (s : State) (iv : OpenInterval) : List Byte :=
  putN 4 0 ++ putOpt 3 Identity.bytes iv.identity ++ putOpt 5 WallTime.bytes iv.openTime ++ List.replicate 6 0 ++
    putN 2 iv.generation ++ putN 2 iv.yard.bits ++ putOpt 5 WallTime.bytes iv.nominalEnd ++ putOpt 3 (putN 3) (s.endRemaining iv) ++
    s.genBytes ++ putN 3 (stockTotal iv.stockOpen) ++ putN 3 0 ++ putN 4 0 ++ putN 4 0 ++ putN 4 0

theorem State.openHead_eq (s : State) (iv : OpenInterval) :
    s.openHead iv = s.openFields iv ++ (List.finRange 4).flatMap (s.openHolderBytes iv) := rfl

theorem State.openFields_length (s : State) (iv : OpenInterval) : (s.openFields iv).length = 54 := by
  simp [State.openFields, putN_length, putOpt_length Identity.bytes_length, putOpt_length WallTime.bytes_length,
    putOpt_length (putN_length 3)]

theorem State.openHolderBytes_length (s : State) (iv : OpenInterval) (h : Fin 4) : (s.openHolderBytes iv h).length = 7 := by
  simp [State.openHolderBytes, putN_length]

theorem State.openHead_length (s : State) (iv : OpenInterval) : (s.openHead iv).length = 82 := by
  rw [s.openHead_eq, List.length_append, s.openFields_length, show List.finRange 4 = [0, 1, 2, 3] from rfl]
  simp [s.openHolderBytes_length]

theorem State.openParts_length (s : State) (iv : OpenInterval) : (s.openParts iv).map List.length = [82, 186, 186] := by
  simp [State.openParts, s.openHead_length, flatMap_six_length ChannelShare.bytes_length]

/-- Table 38: the time remaining as it is carried. -/
def remainingBytes (now : Nat) : Option WallTime → List Byte
  | some e => 1 :: bytesOf 3 (e.total - now)
  | none => [0, 0, 0, 0]

theorem putOpt_remaining {x : Option WallTime} {now : Nat} (h : ∀ e, x = some e → e.total - now < 2 ^ 24) :
    putOpt 3 (putN 3) (x.map fun e => e.total - now) = remainingBytes now x := by
  cases x with
  | none => rfl
  | some e => exact congrArg (List.cons 1) (putN_fits (w := 3) (h e rfl))

theorem stockTotal_eq (v : Vector Nat 4) : stockTotal v = ((List.finRange 4).map fun h => v[h]).sum := by
  rw [stockTotal, Vector.toList_places]

theorem State.openFields_fits {iv : OpenInterval} (h : iv.Fits) (hgen : s.tables.generation < 2 ^ 16)
    (hend : ∀ e, iv.nominalEnd = some e → e.total - s.clock.totalSec < 2 ^ 24) : s.openFields iv =
    bytesOf 4 0 ++ identityBytes iv.identity ++ wallBytes iv.openTime ++ wallBytes none ++ bytesOf 2 iv.generation ++
      bytesOf 2 iv.yard.byTable ++ wallBytes iv.nominalEnd ++ remainingBytes s.clock.totalSec iv.nominalEnd ++
      bytesOf 2 s.tables.generation ++ bytesOf 3 ((List.finRange 4).map fun h => iv.stockOpen[h]).sum ++ List.replicate 15 0 := by
  obtain ⟨higen, hstock⟩ := h.numbers
  obtain ⟨hopen, hnom⟩ := h.times
  have hzeros : putN 3 0 ++ putN 4 0 ++ putN 4 0 ++ putN 4 0 = List.replicate 15 0 := rfl
  rw [State.openFields, putOpt_identity h.identity, putOpt_wall hopen, putN_fits (w := 2) higen, putN_yard, putOpt_wall hnom, State.endRemaining,
    putOpt_remaining hend, State.genBytes, putN_fits (w := 2) hgen, stockTotal_eq, putN_fits (w := 3) hstock, ← hzeros]
  simp only [List.append_assoc]
  rfl

/-- The part of the open interval that holds the holder `h`. -/
theorem State.openHead_holder (s : State) (iv : OpenInterval) (h : Fin 4) :
    ((s.openHead iv).drop (54 + 7 * h.val)).take 7 = s.openHolderBytes iv h := by
  have hi : h.val < (List.finRange 4).length := by simp
  rw [s.openHead_eq, List.drop_append, s.openFields_length, List.drop_eq_nil_of_le (by rw [s.openFields_length]; omega), List.nil_append,
    show 54 + 7 * h.val - 54 = 7 * h.val by omega, flatMap_slice (s.openHolderBytes_length iv) hi]
  simp

theorem State.openHolderBytes_fits {iv : OpenInterval} {h : Fin 4} (hs : iv.stockOpen[h] < 2 ^ 24) :
    ∃ certainty : Nat, certainty ≤ 1 ∧ s.openHolderBytes iv h = bytesOf 3 iv.stockOpen[h] ++
      [0, 0, 0, b8 (certainty + markBit iv.stockUncertainOpen 2 + markBit iv.stockHeldOpen 4)] := by
  refine ⟨s.free (.openCertainty h.val) % 2, Nat.le_of_lt_succ (Nat.mod_lt _ (by decide)), ?_⟩
  have hbits (a b : Bool) : 2 * bitsOf [a, b] = markBit a 2 + markBit b 4 := by cases a <;> cases b <;> rfl
  rw [State.openHolderBytes, putN_fits hs, hbits, ← Nat.add_assoc, List.append_assoc]
  rfl

/-! ## Day records -/

theorem DayChannel.bytes_length (c : DayChannel) : c.bytes.length = 9 := by simp [DayChannel.bytes, putN_length]

theorem DayRecord.bytes_length (d : DayRecord) (closed : Bool) : (d.bytes closed).length = 141 := by
  have hchannels : (d.channels.toList.flatMap DayChannel.bytes).length = 108 := by
    rw [List.length_flatMap, List.map_congr_left (g := fun _ => 9) fun x _ => x.bytes_length, List.map_const', Vector.length_toList]
    rfl
  simp only [DayRecord.bytes, List.length_append, putN_length, putS_length, hchannels, List.length_singleton]

theorem DayRecord.bytes_fits {d : DayRecord} (h : d.Fits) (closed : Bool) : d.bytes closed =
    [b8 (markBit closed 1)] ++ bytesOf 2 d.gasDay ++ bytesOf 4 d.firstSeq ++ bytesOf 4 d.lastSeq ++ bytesOf 2 d.intervals ++
      ((List.finRange 12).flatMap fun m =>
        bytesOf 4 d.channels[m].volume ++ bytesOf 4 d.channels[m].energy ++ [b8 d.channels[m].flags.byTable]) ++
      bytesOf 4 d.make ++ bytesOf 4 d.send ++ bytesOf 3 d.stockOpen ++ bytesOf 3 d.stockClose ++ bytesOf 4 (d.balance % 2 ^ 32).toNat ++
      bytesOf 2 d.yard.byTable := by
  obtain ⟨hday, hfirst, hlast, hints⟩ := h.numbers
  obtain ⟨hmake, hsend, hopen, hclose, hlo, hhi⟩ := h.totals
  have hchannels : d.channels.toList.flatMap DayChannel.bytes = (List.finRange 12).flatMap fun m =>
      bytesOf 4 d.channels[m].volume ++ bytesOf 4 d.channels[m].energy ++ [b8 d.channels[m].flags.byTable] := by
    rw [Vector.toList_places, List.flatMap_map]
    refine congrArg (fun f => List.flatMap f (List.finRange 12)) (funext fun m => ?_)
    rw [DayChannel.bytes, putN_fits (h.channels m).1, putN_fits (h.channels m).2, ChannelFlags.bits_eq]
  have hmark : ([if closed then 1 else 0] : List Byte) = [b8 (markBit closed 1)] := by cases closed <;> rfl
  rw [DayRecord.bytes, hmark, putN_fits hday, putN_fits hfirst, putN_fits hlast, putN_fits hints, hchannels, putN_fits hmake,
    putN_fits hsend, putN_fits hopen, putN_fits hclose, putS_four hlo hhi, putN_yard]

end Sys2Proof.Machine

/-! # The directives that read the accounts

READ INTERVAL, READ NEXT and READ DAY as directives (R144 to R146). -/

namespace Sys2Proof.Machine

variable {s : State}

theorem State.absorb_parts (t : State) (code ref : Byte) (parts : List (List Byte)) : t.absorb.respond code ref (.accepted parts) =
    t.replied ((parts.zipIdx 1).map fun x => [code, ref, 0, b8 x.2, b8 parts.length] ++ x.1) := by
  simp [State.respond, State.absorb, State.replied, Reply.frames, responseBody, State.setLoop, b8]

/-- A directive answered in several frames, that leaves the state `t` but for the response. -/
theorem exec_directive_parts {i : Instr} {code : Nat} {ref : Byte} {ps : List Byte} {t : State} {parts : List (List Byte)}
    (hi : directiveOf i = some (code, ref, ps)) (hcan : s.canAnswer) (hlen : ps.length ≤ 198) (hok : lengthOkOf code ps = true)
    (hact : State.actOf code ps s.absorb = (t.absorb, .accepted parts)) :
    exec i s = .next (t.replied ((parts.zipIdx 1).map fun x => [b8 code, ref, 0, b8 x.2, b8 parts.length] ++ x.1)) := by
  rw [exec_directive_acts hi hcan hlen hok, hact]
  exact congrArg _ (t.absorb_parts _ ref parts)

theorem param_whole (n : Nat) (ps : List Byte) (h : ps.length = n) : param [n] ps 0 = natOf ps := by
  unfold param fieldsOf
  rw [List.take_of_length_le (Nat.le_of_eq h)]
  rfl

theorem natOf_bytesOf_four {n : Nat} (h : n < 2 ^ 32) : natOf (bytesOf 4 n) = n := by
  simp [natOf, bytesOf]
  omega

theorem param_four {n : Nat} (h : n < 2 ^ 32) : param [4] (bytesOf 4 n) 0 = n :=
  (param_whole 4 _ (bytesOf_length 4 n)).trans (natOf_bytesOf_four h)

theorem param_two_bytes {n : Nat} (h : n < 65536) : param [2] (bytesOf 2 n) 0 = n :=
  (param_whole 2 _ (bytesOf_length 2 n)).trans (natOf_bytesOf_two n h)

/-! ## What each reads -/

/-- R144: a record that the log holds. -/
theorem State.actReadInterval_held {q : Nat} {r : IntervalRecord} (hq : 0 < q) (h : s.accounts.logs.find q = some r) :
    s.actReadInterval q = s.readRecord r := by
  unfold State.actReadInterval
  rw [if_neg (Nat.ne_of_gt hq), h]

/-- R144: a number that the log does not hold. -/
theorem State.actReadInterval_gone {q : Nat} (hq : 0 < q) (h : s.accounts.logs.find q = none) :
    s.actReadInterval q = if s.accounts.logs.lastSeq < q then s.refuse .outOfRange
      else (s, .refused .gone (putN 4 s.oldestSeq ++ putN 4 s.newestSeq)) := by
  unfold State.actReadInterval
  rw [if_neg (Nat.ne_of_gt hq), h]

/-- R144: the open interval. -/
theorem State.actReadInterval_open {b : Bank} {iv : OpenInterval} (hlive : s.live = some b) (hiv : s.accounts.interval = some iv) :
    s.actReadInterval 0 = (s, .accepted (s.openParts iv)) := by
  unfold State.actReadInterval
  rw [if_pos rfl, hlive, hiv]

/-- R145: the record after the read cursor. -/
theorem State.actReadNext_at {c : Nat} (hc : s.accounts.cursor = some c) : s.actReadNext =
    match s.accounts.logs.find (c + 1) with
    | some r => s.readRecord r
    | none =>
      if s.accounts.logs.log = [] ∨ s.accounts.logs.lastSeq ≤ c then s.refuse .outOfRange else (s, .refused .gone (putN 4 s.oldestSeq)) := by
  unfold State.actReadNext
  dsimp only
  rw [hc] <;> rfl

theorem State.actReadNext_first {r : IntervalRecord} (hc : s.accounts.cursor = none) (h : s.accounts.logs.log.head? = some r) :
    s.actReadNext = s.readRecord r := by
  unfold State.actReadNext
  dsimp only
  rw [hc]
  obtain ⟨rest, hrest⟩ := List.head?_eq_some_iff.1 h
  rw [hrest]

theorem State.actReadNext_empty (h : s.accounts.logs.log = []) : s.actReadNext = s.refuse .outOfRange := by
  cases hc : s.accounts.cursor with
  | none =>
    unfold State.actReadNext
    dsimp only
    rw [hc, h]
  | some c =>
    have hfind : s.accounts.logs.find (c + 1) = none := by
      unfold Logs.find
      rw [h]
      rfl
    rw [State.actReadNext_at hc, hfind]
    exact if_pos (.inl h)

/-- R146: the open day, or else the newest closed day. -/
theorem State.actReadDay_open {g : Nat} {d : DayRecord} (h : s.accounts.logs.openDay = some d) (hg : d.gasDay = g) :
    s.actReadDay g = (s, one (d.bytes false)) := by
  have hfilter : (s.accounts.logs.openDay.filter fun d => d.gasDay == g) = some d := by
    rw [h]
    exact if_pos (beq_iff_eq.2 hg)
  unfold State.actReadDay
  dsimp only
  rw [hfilter]

theorem State.actReadDay_closed {g : Nat} (h : ∀ o, s.accounts.logs.openDay = some o → o.gasDay ≠ g) : s.actReadDay g =
    match s.accounts.logs.closedDay g with
    | some d => (s, one (d.bytes true))
    | none => (s, .refused .gone
        (putN 2 ((s.accounts.logs.daily.head?.map DayRecord.gasDay).getD (s.free .goneOldestDay)) ++
          putN 2 ((s.accounts.logs.daily.getLast?.map DayRecord.gasDay).getD (s.free .goneNewestDay)))) := by
  have hfilter : (s.accounts.logs.openDay.filter fun d => d.gasDay == g) = none := by
    rw [Option.filter_eq_none_iff]
    intro d hd hg
    exact h d hd (beq_iff_eq.1 hg)
  unfold State.actReadDay
  dsimp only
  rw [hfilter] <;> rfl

theorem State.oldestSeq_head {r : IntervalRecord} (h : s.accounts.logs.log.head? = some r) : s.oldestSeq = r.sequence := by
  rw [State.oldestSeq, h]
  rfl
theorem State.newestSeq_last {r : IntervalRecord} (h : s.accounts.logs.log.getLast? = some r) : s.newestSeq = r.sequence := by
  rw [State.newestSeq, h]
  rfl

/-- Settles O52: each directive by what the logs hold, and the records by their bytes. -/
theorem readAccounts : Obligations.ReadAccounts := by
  intro s ref hcan l frames bit signed identity wall
  have q32 {q : Nat} (hq : q < 2 ^ 32) (a : State) : State.actOf 5 (bytesOf 4 q) a = a.actReadInterval q :=
    congrArg a.actReadInterval (param_four hq)
  have g16 {g : Nat} (hg : g < 65536) (a : State) : State.actOf 7 (bytesOf 2 g) a = a.actReadDay g :=
    congrArg a.actReadDay (param_two_bytes hg)
  have recorded (t : State) (r : IntervalRecord) :
      t.absorb.readRecord r = (State.absorb { t with accounts := { t.accounts with cursor := some r.sequence } }, .accepted r.parts) := rfl
  refine ⟨fun r => ⟨r.parts_length, fun h => ?record⟩, fun iv => ⟨s.openParts_length iv, fun h hgen hend => ?openInterval⟩,
    fun d closed => ⟨d.bytes_length closed, fun h => d.bytes_fits h closed⟩, fun r q h hq hlt => ?held, fun q h hlast hq hlt => ?past,
    fun q first last h hle hq hlt hfirst hlast => ?gone, fun b iv hlive hiv => ?current, fun r hc h => ?first, fun c r hc h => ?next,
    fun h => ?empty, fun c first hc h hlt hfirst => ?nextGone, fun c hc h hle => ?newest, fun g d hg ho hd => ?openDay,
    fun g d hg ho hd => ?closedDay, fun g first last hg ho hno hfirst hlast => ?noDay⟩
  case record =>
    intro channel holder
    show [r.head, _, _] = _
    have hch (m : Fin 12) : r.channels[m].bytes = channel m := ChannelRecord.bytes_fits (h.channels m)
    have hho (x : Fin 4) : r.holders[x].bytes = holder x := HolderStock.bytes_fits (h.holders x)
    rw [IntervalRecord.head_fits h, channels_first, channels_last]
    simp only [hch, hho]
    rfl
  case openInterval =>
    intro channel
    have hch (m : Fin 12) : iv.channels[m].bytes = channel m := ChannelShare.bytes_fits (h.channels m)
    refine ⟨s.openHead iv, ?_, ?_, fun x hx => ?_⟩
    · show [_, _, _] = _
      rw [channels_first, channels_last]
      simp only [hch]
    · rw [s.openHead_eq, List.take_left' (s.openFields_length iv), State.openFields_fits h hgen hend]
      rfl
    · rw [s.openHead_holder]
      exact State.openHolderBytes_fits hx
  case held =>
    refine exec_directive_parts (t := { s with accounts := _ }) rfl hcan (by simp [bytesOf_length]) (by simp [lengthOkOf, paramCount, bytesOf_length]) ?_
    rw [q32 hlt, State.actReadInterval_held (s := s.absorb) hq h]
    exact recorded s r
  case past =>
    refine exec_directive_refused (r := .outOfRange) rfl hcan (by simp [bytesOf_length]) (by simp [lengthOkOf, paramCount, bytesOf_length]) ?_
    rw [q32 hlt, State.actReadInterval_gone (s := s.absorb) hq h]
    exact if_pos hlast
  case gone =>
    refine exec_directive_refused (r := .gone) rfl hcan (by simp [bytesOf_length]) (by simp [lengthOkOf, paramCount, bytesOf_length]) ?_
    rw [q32 hlt, State.actReadInterval_gone (s := s.absorb) hq h]
    refine (if_neg (Nat.not_lt.2 hle)).trans ?_
    rw [State.oldestSeq_head (s := s.absorb) hfirst, State.newestSeq_last (s := s.absorb) hlast]
  case current =>
    exact exec_directive_parts (t := s) rfl hcan (by simp) rfl (State.actReadInterval_open (s := s.absorb) hlive hiv)
  case first =>
    refine exec_directive_parts (t := { s with accounts := _ }) rfl hcan (by simp) rfl ?_
    exact (State.actReadNext_first (s := s.absorb) hc h).trans (recorded s r)
  case next =>
    refine exec_directive_parts (t := { s with accounts := _ }) rfl hcan (by simp) rfl ?_
    refine (State.actReadNext_at (s := s.absorb) hc).trans ?_
    rw [show s.absorb.accounts.logs.find (c + 1) = some r from h]
    exact recorded s r
  case empty =>
    exact exec_directive_refused (r := .outOfRange) rfl hcan (by simp) rfl (State.actReadNext_empty (s := s.absorb) h)
  case nextGone =>
    refine exec_directive_refused (r := .gone) rfl hcan (by simp) rfl ?_
    refine (State.actReadNext_at (s := s.absorb) hc).trans ?_
    have hne : ¬(s.absorb.accounts.logs.log = [] ∨ s.absorb.accounts.logs.lastSeq ≤ c) := by
      rintro (h | h)
      · exact nomatch hfirst.symm.trans (congrArg List.head? h)
      · exact absurd hlt (Nat.not_lt.2 h)
    rw [show s.absorb.accounts.logs.find (c + 1) = none from h]
    dsimp only
    rw [if_neg hne, State.oldestSeq_head (s := s.absorb) hfirst]
  case newest =>
    refine exec_directive_refused (r := .outOfRange) rfl hcan (by simp) rfl ?_
    refine (State.actReadNext_at (s := s.absorb) hc).trans ?_
    rw [show s.absorb.accounts.logs.find (c + 1) = none from h]
    exact if_pos (.inr hle)
  case openDay =>
    refine exec_directive_answered (t := s) rfl hcan (by simp [bytesOf_length]) (by simp [lengthOkOf, paramCount, bytesOf_length]) ?_
    rw [g16 hg]
    exact State.actReadDay_open (s := s.absorb) ho hd
  case closedDay =>
    refine exec_directive_answered (t := s) rfl hcan (by simp [bytesOf_length]) (by simp [lengthOkOf, paramCount, bytesOf_length]) ?_
    rw [g16 hg]
    refine (State.actReadDay_closed (s := s.absorb) ho).trans ?_
    rw [show s.absorb.accounts.logs.closedDay g = some d from hd]
  case noDay =>
    have hnone : s.absorb.accounts.logs.closedDay g = none := by
      unfold Logs.closedDay
      rw [List.find?_eq_none]
      intro x hx hxg
      exact hno x (List.mem_reverse.1 hx) (beq_iff_eq.1 hxg)
    refine exec_directive_refused (r := .gone) rfl hcan (by simp [bytesOf_length]) (by simp [lengthOkOf, paramCount, bytesOf_length]) ?_
    rw [g16 hg]
    refine (State.actReadDay_closed (s := s.absorb) ho).trans ?_
    rw [hnone, show s.absorb.accounts.logs.daily.head? = some first from hfirst,
      show s.absorb.accounts.logs.daily.getLast? = some last from hlast]
    rfl

end Sys2Proof.Machine

/-! # Occurrences in number, and holder changes

How often a source is raised between two states (R176), and what a holder change raises, flags and trips (R78, R130). -/

namespace Sys2Proof.Machine

variable {s t u : State} {x : Fin 74} {n : Nat}

/-! ## Occurrences in number -/

/-- Two states in which a source raised has the same effect: the map in force and the clock. -/
structure SameTimes (s t : State) : Prop where
  live : t.tables.live = s.tables.live
  now : t.now = s.now

theorem SameTimes.trans (h : SameTimes s t) (k : SameTimes t u) : SameTimes s u := ⟨k.live.trans h.live, k.now.trans h.now⟩
theorem SameTimes.raise (s : State) (x : Fin 74) : SameTimes s (s.raise x) := by
  rw [s.raise_setAttn]
  exact ⟨rfl, rfl⟩
theorem OnlyEvents.sameTimes (h : OnlyEvents s t) : SameTimes s t := ⟨h.live, h.now⟩

theorem State.RaisedTimes.zero (h : s.NotRaised t x) : s.RaisedTimes t x 0 := ⟨fun _ => h, fun h => absurd h (Nat.lt_irrefl 0)⟩

theorem State.RaisedTimes.notRaised (h : s.RaisedTimes t x 0) : s.NotRaised t x := h.1 (.inl rfl)

theorem State.RaisedTimes.after (h : s.RaisedTimes t x n) (k : t.NotRaised u x) : s.RaisedTimes u x n := by
  obtain ⟨hoff, hon⟩ := h
  refine ⟨fun hn => (hoff hn).trans k, fun hn hm => ?_⟩
  obtain ⟨hnew, hold⟩ := hon hn hm
  refine ⟨fun hx => ?_, fun e he hx => ?_⟩
  · obtain ⟨e, he, hs, hcount, hfirst⟩ := hnew hx
    exact ⟨e, (k e hs).2 he, hs, hcount, hfirst⟩
  · obtain ⟨e', he', hs, hcount, hfirst⟩ := hold e he hx
    exact ⟨e', (k e' hs).2 he', hs, hcount, hfirst⟩

theorem State.RaisedTimes.before (h : s.NotRaised t x) (same : SameTimes s t) (k : t.RaisedTimes u x n) : s.RaisedTimes u x n := by
  obtain ⟨hoff, hon⟩ := k
  rw [same.live] at hoff hon
  refine ⟨fun hn => h.trans (hoff hn), fun hn hm => ?_⟩
  obtain ⟨hnew, hold⟩ := hon hn hm
  rw [same.now] at hnew
  exact ⟨fun hx => hnew fun hx' => hx (h.mem_source.1 hx'), fun e he hx => hold e ((h e hx).2 he) hx⟩

/-- A source raised once more, before. -/
theorem State.RaisedTimes.succ (h : s.Raised t x) (same : SameTimes s t) (k : t.RaisedTimes u x n) : s.RaisedTimes u x (n + 1) := by
  obtain ⟨hon, hoff⟩ := h
  refine ⟨fun hn => ?_, fun _ hm => ?_⟩
  · have hm : (attnMap s.tables.live x).1 = false := hn.resolve_left (Nat.succ_ne_zero n)
    exact (hoff hm).trans (k.1 (.inr (by rw [same.live]; exact hm)))
  · obtain ⟨hnew, hold⟩ := hon hm
    have further (e : AttnItem) (he : e ∈ t.attn.items) (hx : e.source = x) :
        ∃ e' ∈ u.attn.items, e'.source = x ∧ e'.count = (if n = 0 then e.count else min 255 (e.count + n)) ∧ e'.first = e.first := by
      by_cases h0 : n = 0
      · subst h0
        exact ⟨e, (k.notRaised e hx).2 he, hx, rfl, rfl⟩
      · rw [if_neg h0]
        exact (k.2 (Nat.pos_of_ne_zero h0) (by rw [same.live]; exact hm)).2 e he hx
    refine ⟨fun hx => ?_, fun e he hx => ?_⟩
    · obtain ⟨e, he, hs, hcount, hfirst⟩ := hnew hx
      obtain ⟨e', he', hs', hcount', hfirst'⟩ := further e he hs
      refine ⟨e', he', hs', ?_, hfirst'.trans hfirst⟩
      rw [hcount', hcount]
      split <;> omega
    · obtain ⟨e1, he1, hs1, hcount1, hfirst1⟩ := hold e he hx
      obtain ⟨e', he', hs', hcount', hfirst'⟩ := further e1 he1 hs1
      refine ⟨e', he', hs', ?_, hfirst'.trans hfirst1⟩
      rw [hcount', hcount1]
      split <;> omega

/-- A source raised once. -/
theorem State.RaisedTimes.one (h : s.RaisedTimes t x 1) : s.Raised t x := by
  obtain ⟨hoff, hon⟩ := h
  exact ⟨fun hm => hon Nat.one_pos hm, fun hm => hoff (.inr hm)⟩

/-! ## Sources raised in turn -/

theorem State.raiseAll_cons (s : State) (x : Fin 74) (l : List (Fin 74)) : s.raiseAll (x :: l) = (s.raise x).raiseAll l := rfl

theorem State.raiseAll_times (s : State) (l : List (Fin 74)) (x : Fin 74) : s.RaisedTimes (s.raiseAll l) x (l.count x) := by
  induction l generalizing s with
  | nil => exact .zero (.refl s x)
  | cons y l ih =>
    rw [State.raiseAll_cons]
    by_cases h : y = x
    · subst h
      rw [List.count_cons_self]
      exact .succ (s.raise_raised y) (.raise s y) (ih _)
    · rw [List.count_cons_of_ne h]
      exact .before (s.raise_notRaised (Ne.symm h)) (.raise s y) (ih _)

theorem State.raiseAll_setAttn (s : State) (l : List (Fin 74)) : s.raiseAll l = s.setAttn (s.raiseAll l).attn := by
  induction l generalizing s with
  | nil => rfl
  | cons y l ih =>
    rw [State.raiseAll_cons, ih, s.raise_setAttn]
    rfl

theorem State.raiseAll_deferred (s : State) (l : List (Fin 74)) : (s.raiseAll l).attn.deferred = s.attn.deferred := by
  induction l generalizing s with
  | nil => rfl
  | cons y l ih => exact (ih _).trans (s.raise_only y).deferred

/-! ## What a holder change raises and flags -/

/-- Events raise the sources of a side without a candidate, and the TRIP sources of the sides they withdraw. -/
theorem EventStep.notRaised {p : Fin 4 → Side → Prop} (step : EventStep p s t) (hside : ∀ sd : Side, x ≠ sd.source)
    (htrip : ∀ h sd, x ≠ tripSource h sd) : s.NotRaised t x := by
  cases step with
  | programme step =>
    cases step with
    | records p => exact .refl s x
    | noCandidate sd => exact s.raise_notRaised (hside sd)
    | demand v d => exact .of_items (by rw [(s.offered_atValve v ⟨d, .programme⟩).attn]) x
  | withdrawal h sd c n hp => exact State.withdraw_notRaised _ h sd c n (htrip h sd)
  | flag f => exact .refl s x

theorem Steps.notRaised {p : Fin 4 → Side → Prop} (steps : EventSteps p s t) (hside : ∀ sd : Side, x ≠ sd.source)
    (htrip : ∀ h sd, x ≠ tripSource h sd) : s.NotRaised t x := by
  induction steps with
  | refl => exact .refl s x
  | tail _ step ih => exact ih.trans (step.notRaised hside htrip)

/-- A holder change raises neither UNCERTAIN, SLIP nor LIFT FAULT of any holder. -/
theorem State.holderChange_notRaised (s : State) (b : Bank) (h k : Fin 4) (lo hi : Nat)
    (hx : x = srcUncertain k ∨ x = srcSlip k ∨ x = srcLiftFault k) : s.NotRaised (s.holderChange b h lo hi) x := by
  refine Steps.notRaised (s.holderChange_events (p := fun _ _ => True) b lo hi (fun _ => trivial) fun _ => trivial) (fun sd e => ?_)
    fun h sd e => ?_
  · have hv := congrArg Fin.val e
    rcases hx with rfl | rfl | rfl <;> cases sd <;> simp [Side.source, srcNoSend, srcNoFill, srcUncertain, srcSlip, srcLiftFault] at hv <;>
      omega
  · have hv := congrArg Fin.val e
    rcases hx with rfl | rfl | rfl <;> cases sd <;>
      simp [tripSource, srcLowTrip, srcHighTrip, srcUncertain, srcSlip, srcLiftFault] at hv <;> omega

/-- R130: a change of an UNCERTAIN holder flags the open interval, and that is all it does to the accounts. -/
theorem State.holderChange_accounts (s : State) (b : Bank) (h : Fin 4) (lo hi : Nat) : (s.holderChange b h lo hi).accounts =
    if s.holders[h].certain then s.accounts else (s.yardFlag { YardFlags.none with stockUncertain := true }).accounts := by
  have k : OnlyValves s ((((((s.evaluateTrips b.holders[h] h lo hi).settled).markSide b.holders[h] h .outlet lo hi).markSide
      b.holders[h] h .inlet lo hi).giveUp b h).settled) :=
    ((((((s.evaluateTrips_only ..).trans (State.settled_only _)).trans (State.markSide_only ..)).trans (State.markSide_only ..)).trans
      (State.giveUp_only ..)).trans (State.settled_only _))
  unfold State.holderChange
  dsimp only
  rw [k.holders]
  split
  · exact k.accounts
  · unfold State.yardFlag State.mapInterval
    rw [k.accounts]
    rfl

theorem State.yardFlag_uncertain_interval (s : State) : (s.yardFlag { YardFlags.none with stockUncertain := true }).accounts.interval =
    s.accounts.interval.map fun iv => { iv with yard := { iv.yard with stockUncertain := true } } := by
  have hunion (y : YardFlags) : y.union { YardFlags.none with stockUncertain := true } = { y with stockUncertain := true } := by
    simp [YardFlags.union, YardFlags.none]
  simp only [State.yardFlag, State.mapInterval, State.setAccounts, hunion]

/-! ## Trips after other sources were raised -/

/-- A state from which trips follow as they do from another: the valves, permissions and TRIP sources are as there. -/
structure TripsAlike (s t : State) : Prop where
  valves : t.valves = s.valves
  perms : t.perms = s.perms
  trips : ∀ h sd, s.NotRaised t (tripSource h sd)
  same : SameTimes s t
  timebase : t.timebase = s.timebase
  lost : t.loop.lost = s.loop.lost

theorem TripsAlike.withdrawn (a : TripsAlike s t) {h : Fin 4} {sd : Side} {c : PermCause} (k : t.Withdrawn u h sd c n) :
    s.Withdrawn u h sd c n := by
  unfold State.Withdrawn at k ⊢
  dsimp only at k ⊢
  rw [a.valves, a.timebase, a.lost] at k
  obtain ⟨hperm, hraised, rest⟩ := k
  exact ⟨hperm, hraised.before (a.trips h sd) a.same.live a.same.now, rest⟩

theorem TripsAlike.trips_from (a : TripsAlike s t) {b : Bank} {h : Fin 4} {lo hi : Nat} (k : t.Trips u b h lo hi) : s.Trips u b h lo hi := by
  obtain ⟨hlow, hhigh, hlowKept, hhighKept, hothers⟩ := k
  rw [a.perms] at hlow hhigh hlowKept hhighKept hothers
  exact ⟨fun hg hl => a.withdrawn (hlow hg hl), fun hg hl => a.withdrawn (hhigh hg hl), hlowKept, hhighKept, hothers⟩

end Sys2Proof.Machine

/-! # The samples of a lift report

What the samples of a report make of a run (R5 to R7), in the terms of `reckon`. -/

namespace Sys2Proof.Machine

variable {e : HolderEntry} {h : Fin 4} {t : Nat} {u : LiftRun}

/-! ## One sample -/

theorem trackStep_cases (r x : Track) : trackStep r x = none ∨ trackStep r x = some 0 ∨ trackStep r x = some 1 ∨ trackStep r x = some (-1) := by
  obtain ⟨a, b⟩ := r
  obtain ⟨c, d⟩ := x
  cases a <;> cases b <;> cases c <;> cases d <;> decide

/-- R5 to R7: the count that one sample leads to, and the doubt that it leaves, if any. -/
def stepReckon (travel : Nat) (r : Track) (n : Nat) (x : Track) : Nat × List NoteKind :=
  match trackStep r x with
  | none => (n, [.skip])
  | some 1 => if n < travel then (n + 1, []) else (n, [.highLimit])
  | some (-1) => if 0 < n then (n - 1, []) else (n, [.lowLimit])
  | some _ => (n, [])

theorem reckon_cons (travel : Nat) (r : Track) (n : Nat) (x : Track) (xs : List Track) : reckon travel r n (x :: xs) =
    ((reckon travel x (stepReckon travel r n x).1 xs).1, (stepReckon travel r n x).2 ++ (reckon travel x (stepReckon travel r n x).1 xs).2) := by
  unfold stepReckon
  rcases trackStep_cases r x with hs | hs | hs | hs
  · simp only [reckon, hs]
  · simp only [reckon, hs, List.nil_append]
  · simp only [reckon, hs]
    split <;> rfl
  · simp only [reckon, hs]
    by_cases hn : 0 < n
    · rw [if_pos hn, if_pos hn]
    · rw [if_neg hn, if_neg hn, show n - 1 = n by omega]

/-- The note that doubts leave: that of the last. -/
def doubtNote (t : Nat) (ks : List NoteKind) (old : Option Note) : Option Note :=
  (ks.getLast?.map fun k => (⟨k, none, t⟩ : Note)).or old

theorem doubtNote_append (t : Nat) (ks js : List NoteKind) (old : Option Note) :
    doubtNote t js (doubtNote t ks old) = doubtNote t (ks ++ js) old := by
  unfold doubtNote
  rw [List.getLast?_append]
  cases js.getLast? <;> rfl

/-- R5 to R7: the run after samples that lead to the count `n`, leave the doubts `ks` and the reference sample `x`, where the run has held
the counts from `lo` to `hi`. -/
def LiftRun.after (u : LiftRun) (h : Fin 4) (t : Nat) (x : Track) (n : Nat) (ks : List NoteKind) (lo hi : Nat) : LiftRun :=
  { u with
    count := n, certain := u.certain && ks.isEmpty, ref := x, lo := min u.lo lo, hi := max u.hi hi,
    changed := u.changed || decide (lo < hi) || (u.certain && !ks.isEmpty), note := doubtNote t ks u.note,
    raised := u.raised ++ List.replicate ks.length (srcUncertain h) }

/-- The run holds its count between its lowest and its highest. -/
def LiftRun.Spread (u : LiftRun) : Prop := u.lo ≤ u.count ∧ u.count ≤ u.hi

theorem LiftRun.doubt_eq (hu : u.Spread) (k : NoteKind) (x : Track) : { u.doubt h k t with ref := x } =
    u.after h t x u.count [k] (min u.count u.count) (max u.count u.count) := by
  obtain ⟨hlo, hhi⟩ := hu
  unfold LiftRun.doubt LiftRun.after
  rw [Nat.min_self, Nat.max_self, Nat.min_eq_left hlo, Nat.max_eq_left hhi, decide_eq_false (Nat.lt_irrefl _)]
  cases u.certain <;> simp [doubtNote]

theorem LiftRun.still_eq (hu : u.Spread) (x : Track) : { u with ref := x } =
    u.after h t x u.count [] (min u.count u.count) (max u.count u.count) := by
  obtain ⟨hlo, hhi⟩ := hu
  unfold LiftRun.after
  rw [Nat.min_self, Nat.max_self, Nat.min_eq_left hlo, Nat.max_eq_left hhi, decide_eq_false (Nat.lt_irrefl _)]
  cases u.certain <;> simp [doubtNote]

theorem LiftRun.moveTo_eq (hu : u.Spread) {c : Nat} (hc : c ≠ u.count) (x : Track) : { u.moveTo c with ref := x } =
    u.after h t x c [] (min u.count c) (max u.count c) := by
  obtain ⟨hlo, hhi⟩ := hu
  have hlt : min u.count c < max u.count c := by omega
  unfold LiftRun.moveTo LiftRun.after
  rw [show min u.lo (min u.count c) = min u.lo c by omega, show max u.hi (max u.count c) = max u.hi c by omega, decide_eq_true hlt]
  cases u.certain <;> simp [doubtNote, bne_iff_ne.2 hc]

theorem LiftRun.sample_eq (hu : u.Spread) (x : Track) : u.sample e h t x =
    u.after h t x (stepReckon e.travel u.ref u.count x).1 (stepReckon e.travel u.ref u.count x).2
      (min u.count (stepReckon e.travel u.ref u.count x).1) (max u.count (stepReckon e.travel u.ref u.count x).1) := by
  unfold LiftRun.sample stepReckon
  rcases trackStep_cases u.ref x with hs | hs | hs | hs
  · rw [hs]
    exact LiftRun.doubt_eq hu _ x
  · rw [hs]
    exact LiftRun.still_eq hu x
  · rw [hs]
    by_cases hn : u.count < e.travel
    · simp only [if_pos hn]
      exact LiftRun.moveTo_eq hu (by omega) x
    · simp only [if_neg hn]
      exact LiftRun.doubt_eq hu _ x
  · rw [hs]
    by_cases hn : 0 < u.count
    · simp only [if_pos hn]
      exact LiftRun.moveTo_eq hu (by omega) x
    · simp only [if_neg hn]
      exact LiftRun.doubt_eq hu _ x

/-! ## The samples between two passages -/

/-- R5: samples without a datum passage. -/
def LiftRun.plain (e : HolderEntry) (h : Fin 4) (t : Nat) (u : LiftRun) (xs : List Track) : LiftRun :=
  xs.foldl (fun u x => u.sample e h t x) u

/-- The counts that samples hold, from a count and a reference sample on. -/
def Held (travel : Nat) (r : Track) (n : Nat) (xs : List Track) (c : Nat) : Prop := ∃ k, (reckon travel r n (xs.take k)).1 = c

theorem Held.start (travel : Nat) (r : Track) (n : Nat) (xs : List Track) : Held travel r n xs n := ⟨0, rfl⟩

theorem held_cons {travel : Nat} {r : Track} {n : Nat} {x : Track} {xs : List Track} {c : Nat} : Held travel r n (x :: xs) c ↔
    c = n ∨ Held travel x (stepReckon travel r n x).1 xs c := by
  constructor
  · rintro ⟨k, hk⟩
    cases k with
    | zero => exact .inl hk.symm
    | succ k => exact .inr ⟨k, by rw [List.take_succ_cons, reckon_cons] at hk; exact hk⟩
  · rintro (rfl | ⟨k, hk⟩)
    · exact .start ..
    · exact ⟨k + 1, by rw [List.take_succ_cons, reckon_cons]; exact hk⟩

theorem Spans.unique {p : Nat → Prop} {lo hi lo' hi' : Nat} (h : Spans p lo hi) (k : Spans p lo' hi') : lo = lo' ∧ hi = hi' := by
  obtain ⟨hl, hh, hall⟩ := h
  obtain ⟨kl, kh, kall⟩ := k
  have h1 := hall _ kl; have h2 := hall _ kh; have k1 := kall _ hl; have k2 := kall _ hh
  omega

theorem Spans.congr {p q : Nat → Prop} {lo hi : Nat} (h : Spans p lo hi) (hpq : ∀ c, q c ↔ p c) : Spans q lo hi :=
  ⟨(hpq lo).2 h.1, (hpq hi).2 h.2.1, fun n hn => h.2.2 n ((hpq n).1 hn)⟩

/-- The counts of two lists of them together. -/
theorem Spans.or {p q : Nat → Prop} {lo hi lo' hi' : Nat} (h : Spans p lo hi) (k : Spans q lo' hi') :
    Spans (fun c => p c ∨ q c) (min lo lo') (max hi hi') := by
  obtain ⟨hl, hh, hall⟩ := h
  obtain ⟨kl, kh, kall⟩ := k
  refine ⟨?_, ?_, fun n hn => ?_⟩
  · rcases Nat.le_total lo lo' with hle | hle
    · rw [Nat.min_eq_left hle]; exact .inl hl
    · rw [Nat.min_eq_right hle]; exact .inr kl
  · rcases Nat.le_total hi hi' with hle | hle
    · rw [Nat.max_eq_right hle]; exact .inr kh
    · rw [Nat.max_eq_left hle]; exact .inl hh
  · rcases hn with hn | hn
    · have := hall n hn
      omega
    · have := kall n hn
      omega

theorem Spans.singleton (n : Nat) : Spans (fun c => c = n) n n := ⟨rfl, rfl, fun c hc => by omega⟩

/-- R5 to R7: what samples without a datum passage make of a run. -/
theorem LiftRun.plain_eq (hu : u.Spread) (xs : List Track) : ∃ lo hi, Spans (Held e.travel u.ref u.count xs) lo hi ∧
    u.plain e h t xs = u.after h t (xs.getLast?.getD u.ref) (reckon e.travel u.ref u.count xs).1 (reckon e.travel u.ref u.count xs).2 lo hi := by
  induction xs generalizing u with
  | nil =>
    refine ⟨u.count, u.count, ⟨⟨0, rfl⟩, ⟨0, rfl⟩, ?_⟩, ?_⟩
    · rintro c ⟨k, rfl⟩
      simp [reckon]
    · exact (LiftRun.still_eq hu u.ref).trans (by rw [Nat.min_self, Nat.max_self]; rfl)
  | cons x xs ih =>
    have hs := LiftRun.sample_eq (e := e) (h := h) (t := t) hu x
    generalize hst : stepReckon e.travel u.ref u.count x = st at hs
    obtain ⟨m, ds⟩ := st
    dsimp only at hs
    obtain ⟨hlo, hhi⟩ := hu
    obtain ⟨lo, hi, hspan, hplain⟩ := ih (u := u.after h t x m ds (min u.count m) (max u.count m))
      ⟨show min u.lo (min u.count m) ≤ m by omega, show m ≤ max u.hi (max u.count m) by omega⟩
    obtain ⟨hml, hmh⟩ := hspan.2.2 m (Held.start ..)
    refine ⟨min u.count lo, max u.count hi, ((Spans.singleton u.count).or hspan).congr fun c => ?_, ?_⟩
    · rw [held_cons, hst]
      rfl
    · show (u.sample e h t x).plain e h t xs = _
      have hrest : (u.after h t x m ds (min u.count m) (max u.count m)).plain e h t xs =
          (u.after h t x m ds (min u.count m) (max u.count m)).after h t (xs.getLast?.getD x) (reckon e.travel x m xs).1
            (reckon e.travel x m xs).2 lo hi := hplain
      rw [hs, hrest, reckon_cons, hst]
      generalize reckon e.travel x m xs = rest
      obtain ⟨n, ks⟩ := rest
      have hmove : (decide (min u.count m < max u.count m) || decide (lo < hi)) = decide (min u.count lo < max u.count hi) := by
        rw [← Bool.decide_or, decide_eq_decide]
        omega
      have hlast : (x :: xs).getLast?.getD u.ref = xs.getLast?.getD x := by
        rw [List.getLast?_cons]
        rfl
      unfold LiftRun.after
      rw [doubtNote_append, hlast, ← hmove]
      simp only [LiftRun.mk.injEq, true_and]
      refine ⟨?_, ?_, ?_, ?_, ?_⟩
      · cases u.certain <;> cases ds <;> cases ks <;> rfl
      · omega
      · omega
      · cases u.certain <;> cases ds <;> cases ks <;> cases u.changed <;> simp
      · rw [List.append_assoc, List.replicate_append_replicate, List.length_append]

end Sys2Proof.Machine

/-! # Lift reports

What a lift report leaves (R5 to R8), and the reports whose samples alone act: steps that count, and doubts (R5 to R7, R78). -/

namespace Sys2Proof.Machine

variable {s t : State} {b : Bank} {h : Fin 4}

/-! ## The state that a run leaves -/

/-- R5 to R11: a run taken into the records: the holder, its occurrences, and the save after a datum. -/
def State.runTaken (s : State) (b : Bank) (h : Fin 4) (u : LiftRun) : State :=
  let s1 := (s.setHolder h (u.record b h s.holders[h])).raiseAll u.raised
  if u.datum.isSome then s1.saveHolder h else s1

/-- The record that a run leaves, saved where a datum was passed. -/
def LiftRun.left (u : LiftRun) (b : Bank) (h : Fin 4) (r : HolderRec) : HolderRec :=
  if u.datum.isSome then { u.record b h r with savedCertain := u.certain } else u.record b h r

theorem LiftRun.record_certain (u : LiftRun) (b : Bank) (h : Fin 4) (r : HolderRec) : (u.record b h r).certain = u.certain := rfl
theorem LiftRun.record_count (u : LiftRun) (b : Bank) (h : Fin 4) (r : HolderRec) : (u.record b h r).count = u.count := rfl

/-- R19: the store after a run. -/
def Nonvolatile.afterRun (n : Nonvolatile) (h : Fin 4) (u : LiftRun) : Nonvolatile :=
  if u.datum.isSome then
    { n with saves := upd n.saves h (some ⟨u.count, u.certain⟩), savesBefore := upd n.savesBefore h n.saves[h] }
  else n

theorem State.runTaken_eq (s : State) (b : Bank) (h : Fin 4) (u : LiftRun) : s.runTaken b h u =
    { s with
      holders := upd s.holders h (u.left b h s.holders[h])
      nv := s.nv.afterRun h u
      attn := (s.raiseAll u.raised).attn } := by
  have hraise : (s.setHolder h (u.record b h s.holders[h])).raiseAll u.raised =
      (s.setAttn (s.raiseAll u.raised).attn).setHolder h (u.record b h s.holders[h]) := by
    generalize u.record b h s.holders[h] = r
    have same (l : List (Fin 74)) (s : State) : ((s.setHolder h r).raiseAll l) = (s.raiseAll l).setHolder h r := by
      induction l generalizing s with
      | nil => rfl
      | cons x l ih =>
        have hone : (s.setHolder h r).raise x = (s.raise x).setHolder h r := by
          rw [State.raise_setAttn, s.raise_setAttn]
          exact congrArg (s.setHolder h r).setAttn (State.raise_attn_congr (s := s) (t := s.setHolder h r) rfl rfl rfl x)
        rw [State.raiseAll_cons, hone, ih]
        rfl
    rw [same, s.raiseAll_setAttn]
    rfl
  unfold State.runTaken LiftRun.left Nonvolatile.afterRun
  rw [hraise]
  dsimp only
  cases u.datum.isSome with
  | false => rfl
  | true =>
    simp only [if_true]
    rw [State.saveHolder_eq]
    rfl

theorem State.takeLift_run {body : LiftBody} (hf : b.fitted h = true) (hne : body.samples ≠ []) (hlen : body.samples.length ≤ 16)
    {r : Track} (href : s.holders[h].ref = some r) : s.takeLift b h body =
    let u := liftRun b.holders[h] h s.holders[h] r body s.timebase
    if u.changed then (s.runTaken b h u).holderChange b h u.lo u.hi else s.runTaken b h u := by
  unfold State.takeLift
  rw [if_neg (by simp [hf, hne]; omega)]
  dsimp only
  rw [href]
  rfl

/-- R5 to R11, R78: what a run of a lift report leaves. -/
structure State.RunLeft (s t : State) (b : Bank) (h : Fin 4) (u : LiftRun) : Prop where
  holders : t.holders = upd s.holders h (u.left b h s.holders[h])
  nv : t.nv = s.nv.afterRun h u
  keeps : s.Keeps t
  districts : t.districts = s.districts
  logs : t.accounts.logs = s.accounts.logs
  times : ∀ x, x = srcUncertain h ∨ x = srcSlip h → s.RaisedTimes t x (u.raised.count x)
  trips : u.changed = true → (∀ x ∈ u.raised, ∀ k sd, x ≠ tripSource k sd) → s.Trips t b h u.lo u.hi
  interval : t.accounts.interval = if u.changed = true ∧ u.certain = false then
    s.accounts.interval.map fun iv => { iv with yard := { iv.yard with stockUncertain := true } } else s.accounts.interval

theorem LiftRun.left_certain (u : LiftRun) (b : Bank) (h : Fin 4) (r : HolderRec) : (u.left b h r).certain = u.certain := by
  unfold LiftRun.left
  split <;> rfl

/-- The state that a run has been taken into, seen from before it. -/
theorem State.runTaken_alike (s : State) (b : Bank) (h : Fin 4) (u : LiftRun) (hr : ∀ x ∈ u.raised, ∀ k sd, x ≠ tripSource k sd) :
    TripsAlike s (s.runTaken b h u) := by
  rw [State.runTaken_eq]
  refine ⟨rfl, rfl, fun k sd => ?_, ⟨rfl, rfl⟩, rfl, rfl⟩
  have htimes := s.raiseAll_times u.raised (tripSource k sd)
  rw [List.count_eq_zero.2 fun hmem => hr _ hmem k sd rfl] at htimes
  exact htimes.notRaised

theorem State.takeLift_left {body : LiftBody} (hf : b.fitted h = true) (hne : body.samples ≠ []) (hlen : body.samples.length ≤ 16)
    {r : Track} (href : s.holders[h].ref = some r) :
    s.RunLeft (s.takeLift b h body) b h (liftRun b.holders[h] h s.holders[h] r body s.timebase) := by
  rw [State.takeLift_run hf hne hlen href]
  generalize liftRun b.holders[h] h s.holders[h] r body s.timebase = u
  dsimp only
  have hp := s.runTaken_eq b h u
  have htimes (x : Fin 74) : s.RaisedTimes (s.runTaken b h u) x (u.raised.count x) := by
    rw [hp]
    exact s.raiseAll_times u.raised x
  cases hc : u.changed with
  | false =>
    rw [if_neg (by simp)]
    have hkeeps : s.Keeps (s.runTaken b h u) := by
      rw [hp]
      exact ⟨rfl, rfl, rfl, rfl, rfl, rfl, rfl, rfl, rfl, rfl⟩
    exact ⟨by rw [hp], by rw [hp], hkeeps, by rw [hp], by rw [hp], fun x _ => htimes x,
      fun h => absurd (hc.symm.trans h) nofun, by rw [hp, if_neg (by simp [hc])]⟩
  | true =>
    rw [if_pos rfl]
    have only := (s.runTaken b h u).holderChange_only b h u.lo u.hi
    have hkeeps : s.Keeps (s.runTaken b h u) := by
      rw [hp]
      exact ⟨rfl, rfl, rfl, rfl, rfl, rfl, rfl, rfl, rfl, rfl⟩
    refine ⟨only.holders.trans (by rw [hp]), only.nv.trans (by rw [hp]), hkeeps.trans only.keeps, only.districts.trans (by rw [hp]),
      only.logs.trans (by rw [hp]), fun x hx => (htimes x).after ((s.runTaken b h u).holderChange_notRaised b h h u.lo u.hi ?_),
      fun _ hr => (s.runTaken_alike b h u hr).trips_from ((s.runTaken b h u).holderChange_trips b h u.lo u.hi), ?_⟩
    · exact hx.imp_right .inl
    · have hcert : (s.runTaken b h u).holders[h].certain = u.certain := by
        rw [hp]
        exact (congrArg HolderRec.certain (upd_at ..)).trans (u.left_certain b h _)
      rw [State.holderChange_accounts, hcert]
      cases hcu : u.certain with
      | true =>
        simp only [if_true, hc]
        rw [hp]
        rfl
      | false =>
        simp only [hc]
        rw [if_neg nofun, State.yardFlag_uncertain_interval, hp]
        rfl

/-- A run that changes neither count nor certainty leaves nothing else. -/
theorem State.takeLift_quiet {body : LiftBody} (hf : b.fitted h = true) (hne : body.samples ≠ []) (hlen : body.samples.length ≤ 16)
    {r : Track} (href : s.holders[h].ref = some r) (hc : (liftRun b.holders[h] h s.holders[h] r body s.timebase).changed = false) :
    s.takeLift b h body = s.runTaken b h (liftRun b.holders[h] h s.holders[h] r body s.timebase) := by
  rw [State.takeLift_run hf hne hlen href]
  dsimp only
  exact if_neg fun h => Bool.false_ne_true (hc.symm.trans h)

/-- What no lift report changes of the line. -/
theorem State.takeLift_loop {body : LiftBody} (hf : b.fitted h = true) (hne : body.samples ≠ []) (hlen : body.samples.length ≤ 16)
    {r : Track} (href : s.holders[h].ref = some r) : OnlyCommands s.loop (s.takeLift b h body).loop := by
  rw [State.takeLift_run hf hne hlen href]
  generalize liftRun b.holders[h] h s.holders[h] r body s.timebase = u
  have hl : (s.runTaken b h u).loop = s.loop := by rw [s.runTaken_eq b h u]
  dsimp only
  split
  · exact hl ▸ ((s.runTaken b h u).holderChange_only b h u.lo u.hi).loop
  · exact hl ▸ .refl _

/-! ## Reports routed to a holder -/

/-- A frame that has passed leaves everything alike that a trip looks at. -/
theorem State.passed_alike (s : State) (dest src kind : Byte) (body : List Byte) : TripsAlike s (s.passed dest src kind body) :=
  ⟨rfl, rfl, fun _ _ => .refl s _, ⟨rfl, rfl⟩, rfl, State.forward_lost ..⟩

theorem State.passed_keeps (s : State) (dest src kind : Byte) (body : List Byte) : s.Keeps (s.passed dest src kind body) :=
  ⟨rfl, rfl, rfl, rfl, rfl, rfl, rfl, rfl, rfl, rfl⟩

/-- What a run leaves, seen from before the frame passed. -/
theorem State.RunLeft.passed {dest src kind : Byte} {body : List Byte} {u : LiftRun}
    (k : (s.passed dest src kind body).RunLeft t b h u) : s.RunLeft t b h u :=
  ⟨k.holders, k.nv, (s.passed_keeps ..).trans k.keeps, k.districts, k.logs,
    fun x hx => .before (.refl s x) ⟨rfl, rfl⟩ (k.times x hx), fun hc hr => (s.passed_alike ..).trips_from (k.trips hc hr), k.interval⟩

theorem liftBody_samples (datum index : Byte) {xs : List Byte} (hx : xs.length ≤ 197) :
    liftBody (b8 xs.length :: datum :: index :: xs) = some ⟨datum.toNat, index.toNat, xs.map trackOf⟩ :=
  if_pos (toNat_b8 (by omega)).symm

theorem exec_liftReport_routed (hon : s.power = .on) (hlive : s.live = some b) {src : Byte} (hres : b.resolve src.toNat = some (.lift h))
    (dest datum index : Byte) {xs : List Byte} (hx : xs.length ≤ 197) : exec (.liftReport dest src datum index xs) s =
      .next ((s.passed dest src kindReport (b8 xs.length :: datum :: index :: xs)).takeLift b h
        ⟨datum.toNat, index.toNat, xs.map trackOf⟩) := by
  rw [exec_liftReport hon _ _ _ _ hx, State.receiveReport_routed hlive hres]
  unfold State.routeTo
  rw [liftBody_samples datum index hx]

/-! ## Runs without a datum passage -/

/-- The run of a report before its first sample. -/
def LiftRun.start (r : HolderRec) (ref : Track) : LiftRun := ⟨r.count, r.certain, ref, r.count, r.count, false, none, none, none, []⟩

theorem LiftRun.start_spread (r : HolderRec) (ref : Track) : (LiftRun.start r ref).Spread := ⟨Nat.le_refl _, Nat.le_refl _⟩

theorem LiftRun.samples_none (e : HolderEntry) (h : Fin 4) (t i : Nat) (xs : List Track) (u : LiftRun) :
    LiftRun.samples e h t none i xs u = u.plain e h t xs := by
  induction xs generalizing i u with
  | nil => rfl
  | cons x xs ih => exact ih ..

/-- R182: datum number 0 is no passage. -/
theorem liftRun_plain (e : HolderEntry) (h : Fin 4) (r : HolderRec) (ref : Track) (index : Nat) (xs : List Track) (t : Nat) :
    liftRun e h r ref ⟨0, index, xs⟩ t = (LiftRun.start r ref).plain e h t xs := by
  have hpass : LiftBody.passage ⟨0, index, xs⟩ e = none := rfl
  unfold liftRun
  rw [hpass, LiftRun.samples_none]
  rfl

/-- The run of samples alone, from a record: they lead to the count `n`, leave the doubts `ks` and the reference sample `x`, and hold the
counts from `lo` to `hi`. -/
def LiftRun.counted (r : HolderRec) (h : Fin 4) (t : Nat) (x : Track) (n : Nat) (ks : List NoteKind) (lo hi : Nat) : LiftRun :=
  { count := n, certain := r.certain && ks.isEmpty, ref := x, lo := lo, hi := hi,
    changed := decide (lo < hi) || (r.certain && !ks.isEmpty), note := doubtNote t ks none, datum := none, placed := none,
    raised := List.replicate ks.length (srcUncertain h) }

/-- The run of a report without a datum passage, in the terms of `reckon`. -/
theorem liftRun_after (e : HolderEntry) (h : Fin 4) (r : HolderRec) (ref : Track) (index : Nat) {xs : List Track} (hne : xs ≠ []) (t : Nat)
    {n : Nat} {ks : List NoteKind} (hk : reckon e.travel ref r.count xs = (n, ks)) :
    ∃ lo hi, Spans (Held e.travel ref r.count xs) lo hi ∧ liftRun e h r ref ⟨0, index, xs⟩ t =
      .counted r h t (xs.getLast hne) n ks lo hi := by
  obtain ⟨lo, hi, hspan, hplain⟩ := LiftRun.plain_eq (e := e) (h := h) (t := t) (LiftRun.start_spread r ref) xs
  refine ⟨lo, hi, hspan, ?_⟩
  obtain ⟨hlo, hhi⟩ := hspan.2.2 r.count (Held.start ..)
  rw [liftRun_plain, hplain, show reckon e.travel (LiftRun.start r ref).ref (LiftRun.start r ref).count xs = (n, ks) from hk,
    List.getLast?_eq_some_getLast hne]
  unfold LiftRun.after LiftRun.start
  rw [Nat.min_eq_right hlo, Nat.max_eq_right hhi]
  rfl

theorem srcUncertain_ne_tripSource (h k : Fin 4) (sd : Side) : srcUncertain h ≠ tripSource k sd := by
  intro e
  have hv := congrArg Fin.val e
  cases sd <;> simp [tripSource, srcLowTrip, srcHighTrip, srcUncertain] at hv <;> omega

/-- R5 to R12: a report of a fitted holder that has a reference sample. -/
theorem exec_liftReport_left (hon : s.power = .on) (hlive : s.live = some b) {src : Byte} (hres : b.resolve src.toNat = some (.lift h))
    (hf : b.fitted h = true) (dest datum index : Byte) {xs : List Byte} (hne : xs ≠ []) (hlen : xs.length ≤ 16) {r : Track}
    (href : s.holders[h].ref = some r) {u : LiftRun}
    (hu : liftRun b.holders[h] h s.holders[h] r ⟨datum.toNat, index.toNat, xs.map trackOf⟩ s.timebase = u) :
    ∃ t, exec (.liftReport dest src datum index xs) s = .next t ∧
      OnlyCommands (s.passed dest src kindReport (b8 xs.length :: datum :: index :: xs)).loop t.loop ∧ s.RunLeft t b h u ∧
      (u.changed = false → t = (s.passed dest src kindReport (b8 xs.length :: datum :: index :: xs)).runTaken b h u) := by
  subst hu
  have hmap : xs.map trackOf ≠ [] := by simpa using hne
  have hmlen : (xs.map trackOf).length ≤ 16 := by simpa using hlen
  have hpref : (s.passed dest src kindReport (b8 xs.length :: datum :: index :: xs)).holders[h].ref = some r := href
  exact ⟨_, exec_liftReport_routed hon hlive hres dest datum index (by omega), State.takeLift_loop (body := ⟨_, _, _⟩) hf hmap hmlen hpref,
    .passed (State.takeLift_left (body := ⟨_, _, _⟩) hf hmap hmlen hpref),
    State.takeLift_quiet (body := ⟨_, _, _⟩) hf hmap hmlen hpref⟩

/-- The record that samples alone leave. -/
theorem LiftRun.counted_record (r : HolderRec) (b : Bank) (h : Fin 4) (t : Nat) (x : Track) (n : Nat) (ks : List NoteKind) (lo hi : Nat) :
    (counted r h t x n ks lo hi).record b h r = HolderRec.placeAt b h
      { r with certain := r.certain && ks.isEmpty, ref := some x, note := (doubtNote t ks none).getD r.note } n := rfl

theorem LiftRun.counted_left (r : HolderRec) (b : Bank) (h : Fin 4) (t : Nat) (x : Track) (n : Nat) (ks : List NoteKind) (lo hi : Nat) :
    (counted r h t x n ks lo hi).left b h r = HolderRec.placeAt b h
      { r with certain := r.certain && ks.isEmpty, ref := some x, note := (doubtNote t ks none).getD r.note } n := rfl

/-- Samples alone put no datum in the store. -/
theorem State.runTaken_counted (s : State) (b : Bank) (h : Fin 4) (t : Nat) (x : Track) (n : Nat) (ks : List NoteKind) (lo hi : Nat) :
    s.runTaken b h (.counted s.holders[h] h t x n ks lo hi) = (s.setHolder h (HolderRec.placeAt b h
      { s.holders[h] with certain := s.holders[h].certain && ks.isEmpty, ref := some x,
                          note := (doubtNote t ks none).getD s.holders[h].note } n)).raiseAll
      (List.replicate ks.length (srcUncertain h)) := rfl

theorem Nonvolatile.afterRun_plain (n : Nonvolatile) (h : Fin 4) {u : LiftRun} (hd : u.datum = none) : n.afterRun h u = n := by
  unfold Nonvolatile.afterRun
  rw [hd]
  rfl

theorem doubtNote_last (t : Nat) (ks : List NoteKind) (k : NoteKind) (old : Option Note) : doubtNote t (ks ++ [k]) old = some ⟨k, none, t⟩ := by
  unfold doubtNote
  rw [List.getLast?_append]
  rfl

/-! ## The reports of LiftSample -/

/-- R5: a report of no samples, or of more than 16, is not taken. -/
theorem exec_liftReport_untaken (hon : s.power = .on) (hlive : s.live = some b) {src : Byte} (hres : b.resolve src.toNat = some (.lift h))
    (dest datum index : Byte) {xs : List Byte} (hx : xs = [] ∨ (16 < xs.length ∧ xs.length ≤ 197)) :
    exec (.liftReport dest src datum index xs) s = .next (s.passed dest src kindReport (b8 xs.length :: datum :: index :: xs)) := by
  have hlen : xs.length ≤ 197 := by
    rcases hx with rfl | ⟨_, hlen⟩
    · exact Nat.zero_le _
    · exact hlen
  rw [exec_liftReport_routed hon hlive hres dest datum index hlen]
  unfold State.takeLift
  rw [if_pos]
  rcases hx with rfl | ⟨hlong, _⟩
  · exact .inr (.inl rfl)
  · exact .inr (.inr (by simpa using hlong))

/-- R5: the first report of a holder sets its reference sample. -/
theorem exec_liftReport_first (hon : s.power = .on) (hlive : s.live = some b) {src : Byte} (hres : b.resolve src.toNat = some (.lift h))
    (hf : b.fitted h = true) (dest datum index x : Byte) {xs : List Byte} (hlen : xs.length ≤ 15) (href : s.holders[h].ref = none) :
    exec (.liftReport dest src datum index (xs ++ [x])) s =
      .next ((s.passed dest src kindReport (b8 (xs.length + 1) :: datum :: index :: (xs ++ [x]))).setHolder h
        { s.holders[h] with ref := some (trackOf x) }) := by
  have hl : (xs ++ [x]).length = xs.length + 1 := by simp
  rw [exec_liftReport_routed hon hlive hres dest datum index (by omega), hl]
  unfold State.takeLift
  rw [if_neg (by simp [hf]; omega)]
  dsimp only
  rw [show (s.passed dest src kindReport (b8 (xs.length + 1) :: datum :: index :: (xs ++ [x]))).holders[h].ref = none from href,
    List.map_append, List.map_singleton, List.getLast?_concat]
  rfl

/-- R6, R7: a report of samples with doubts among them. -/
theorem exec_liftReport_doubts (hon : s.power = .on) (hlive : s.live = some b) {src : Byte} (hres : b.resolve src.toNat = some (.lift h))
    (hf : b.fitted h = true) (dest index : Byte) {xs : List Byte} (hlen : xs.length ≤ 16) {r : Track}
    (href : s.holders[h].ref = some r) {n : Nat} {ks : List NoteKind} {kind : NoteKind}
    (hk : reckon b.holders[h].travel r s.holders[h].count (xs.map trackOf) = (n, ks ++ [kind])) :
    ∃ lo hi t, Spans (Held b.holders[h].travel r s.holders[h].count (xs.map trackOf)) lo hi ∧
      exec (.liftReport dest src 0 index xs) s = .next t ∧
      OnlyCommands (s.passed dest src kindReport (b8 xs.length :: 0 :: index :: xs)).loop t.loop ∧
      t.holders = upd s.holders h (HolderRec.placeAt b h { s.holders[h] with
        certain := false, ref := (xs.map trackOf).getLast?, note := ⟨kind, none, s.timebase⟩ } n) ∧
      s.RaisedTimes t (srcUncertain h) (ks.length + 1) ∧ s.Keeps t ∧ t.districts = s.districts ∧ t.nv = s.nv ∧
      t.accounts.logs = s.accounts.logs ∧
      (lo < hi ∨ s.holders[h].certain = true → s.Trips t b h lo hi ∧
        t.accounts.interval = s.accounts.interval.map fun iv => { iv with yard := { iv.yard with stockUncertain := true } }) ∧
      (lo = hi → s.holders[h].certain = false → t =
        ((s.passed dest src kindReport (b8 xs.length :: 0 :: index :: xs)).setHolder h (HolderRec.placeAt b h { s.holders[h] with
          certain := false, ref := (xs.map trackOf).getLast?, note := ⟨kind, none, s.timebase⟩ } n)).raiseAll
          (List.replicate (ks.length + 1) (srcUncertain h))) := by
  have hmap : xs.map trackOf ≠ [] := by
    intro hnil
    rw [hnil] at hk
    exact absurd (congrArg (fun p => p.2.length) hk) (by simp [reckon])
  have hne : xs ≠ [] := by simpa using hmap
  obtain ⟨lo, hi, hspan, hrun⟩ := liftRun_after b.holders[h] h s.holders[h] r index.toNat hmap s.timebase hk
  obtain ⟨t, ht, hloop, left, hquiet⟩ := exec_liftReport_left hon hlive hres hf dest 0 index hne hlen href hrun
  obtain ⟨hholders, hnv, hkeeps, hdistricts, hlogs, htimes, htrips, hinterval⟩ := left
  have hcertain : (s.holders[h].certain && (ks ++ [kind]).isEmpty) = false := by simp
  have hlast := List.getLast?_eq_some_getLast hmap
  rw [LiftRun.counted_left, doubtNote_last, ← hlast, hcertain] at hholders
  have htimes := htimes _ (.inl rfl)
  unfold LiftRun.counted at htimes
  rw [List.count_replicate_self, List.length_append] at htimes
  have hmoved : lo < hi ∨ s.holders[h].certain = true →
      (decide (lo < hi) || (s.holders[h].certain && !(ks ++ [kind]).isEmpty)) = true := by simp
  refine ⟨lo, hi, t, hspan, ht, hloop, hholders, htimes, hkeeps, hdistricts, hnv.trans (Nonvolatile.afterRun_plain _ _ rfl), hlogs,
    fun hm => ⟨?_, ?_⟩, fun heq hc => ?_⟩
  · refine htrips (hmoved hm) fun x hx k sd => ?_
    rw [List.eq_of_mem_replicate hx]
    exact srcUncertain_ne_tripSource h k sd
  · rw [hinterval, if_pos ⟨hmoved hm, hcertain⟩]
  · rw [hquiet (show (decide (lo < hi) || (s.holders[h].certain && !(ks ++ [kind]).isEmpty)) = false by
      rw [hc, heq, decide_eq_false (Nat.lt_irrefl _)]; rfl)]
    have htaken := (s.passed dest src kindReport (b8 xs.length :: 0 :: index :: xs)).runTaken_counted b h s.timebase
      ((xs.map trackOf).getLast hmap) n (ks ++ [kind]) lo hi
    rw [List.length_append, doubtNote_last, ← hlast] at htaken
    refine htaken.trans ?_
    rw [show ((s.passed dest src kindReport (b8 xs.length :: 0 :: index :: xs)).holders[h].certain && (ks ++ [kind]).isEmpty) = false from
      hcertain]
    rfl

end Sys2Proof.Machine

/-! # Settled: LiftSample and LiftCount

The reports whose samples alone act (R5 to R7, R78). -/

namespace Sys2Proof.Machine

variable {s t : State} {b : Bank} {h : Fin 4}

/-! ## Samples that count, and samples that stand still -/

theorem walk_cons (travel : Nat) (r : Track) (n : Nat) (x : Track) (xs : List Track) : walk travel r n (x :: xs) =
    if (stepReckon travel r n x).2 = [] then walk travel x (stepReckon travel r n x).1 xs else none := by
  unfold stepReckon
  rcases trackStep_cases r x with hs | hs | hs | hs
  · simp only [walk, hs]
    rfl
  · simp only [walk, hs]
    rfl
  · simp only [walk, hs]
    split <;> rfl
  · simp only [walk, hs]
    split <;> rfl

/-- Samples walk to a count exactly where they lead there without a doubt. -/
theorem walk_eq_some {travel : Nat} {r : Track} {n m : Nat} {xs : List Track} : walk travel r n xs = some m ↔ reckon travel r n xs = (m, []) := by
  induction xs generalizing r n with
  | nil => simp [walk, reckon]
  | cons x xs ih =>
    rw [walk_cons, reckon_cons, Prod.mk.injEq, List.append_eq_nil_iff]
    split
    next hd => rw [ih, Prod.ext_iff]; exact and_congr_right fun _ => (and_iff_right hd).symm
    next hd => exact iff_of_false nofun fun h => hd h.2.1

/-- The first samples of those that leave no doubt leave none. -/
theorem reckon_take_certain {travel : Nat} {r : Track} {n : Nat} {xs : List Track} (h : (reckon travel r n xs).2 = []) (k : Nat) :
    (reckon travel r n (xs.take k)).2 = [] := by
  induction xs generalizing r n k with
  | nil => rw [List.take_nil]; rfl
  | cons x xs ih =>
    cases k with
    | zero => rfl
    | succ k =>
      rw [reckon_cons, List.append_eq_nil_iff] at h
      rw [List.take_succ_cons, reckon_cons, List.append_eq_nil_iff]
      exact ⟨h.1, ih h.2 k⟩

theorem trackStep_self (r : Track) : trackStep r r = some 0 := by
  obtain ⟨a, b⟩ := r
  cases a <;> cases b <;> rfl

/-- R5: samples that equal the reference sample leave the count. -/
theorem reckon_still {travel : Nat} {r : Track} {n : Nat} {xs : List Track} (h : ∀ x ∈ xs, x = r) : reckon travel r n xs = (n, []) := by
  induction xs with
  | nil => rfl
  | cons x xs ih =>
    obtain rfl := h x (.head _)
    rw [reckon_cons, show stepReckon travel x n x = (n, []) by unfold stepReckon; rw [trackStep_self]; rfl,
      ih fun y hy => h y (.tail _ hy)]
    rfl

theorem held_still {travel : Nat} {r : Track} {n c : Nat} {xs : List Track} (h : ∀ x ∈ xs, x = r) : Held travel r n xs c ↔ c = n := by
  refine ⟨?_, fun hc => hc ▸ .start ..⟩
  rintro ⟨k, rfl⟩
  rw [reckon_still fun x hx => h x (List.mem_of_mem_take hx)]

theorem held_single {travel : Nat} {r x : Track} {n c : Nat} : Held travel r n [x] c ↔ c = n ∨ c = (stepReckon travel r n x).1 := by
  rw [held_cons]
  exact or_congr_right (held_still nofun)

theorem reckon_single (travel : Nat) (r : Track) (n : Nat) (x : Track) : reckon travel r n [x] = stepReckon travel r n x := by
  rw [reckon_cons]
  exact Prod.ext rfl (List.append_nil _)

/-- The samples of a report in characters, and in tracks. -/
theorem held_map {travel : Nat} {r : Track} {n : Nat} {xs : List Byte} {c : Nat} : Held travel r n (xs.map trackOf) c ↔
    ∃ k, (reckon travel r n ((xs.take k).map trackOf)).1 = c := by
  unfold Held
  simp only [List.map_take]

theorem min_lt_max_of_ne {a c : Nat} (h : c ≠ a) : min a c < max a c := by omega

/-! ## The obligations -/

/-- Settles O30, by what the reckoning of the samples leaves, one doubt or several. -/
theorem liftSample : Obligations.LiftSample := by
  intro s b h dest src index x hon hlive hres hf
  refine ⟨fun datum xs hx => exec_liftReport_untaken hon hlive hres dest datum index hx,
    fun datum xs hlen href => exec_liftReport_first hon hlive hres hf dest datum index x hlen href, ?_, ?_⟩
  · intro r kind href hkind left p
    have hk : reckon b.holders[h].travel r s.holders[h].count ([x].map trackOf) = (s.holders[h].count, [] ++ [kind]) := by
      rw [List.map_singleton, reckon_single]
      unfold stepReckon
      rcases hkind with ⟨rfl, hs⟩ | ⟨rfl, hs, hn⟩ | ⟨rfl, hs, hn⟩
      · rw [hs]
        rfl
      · rw [hs]
        exact if_neg (Nat.not_lt.2 hn)
      · rw [hs]
        exact if_neg (by rw [hn]; exact Nat.lt_irrefl 0)
    obtain ⟨lo, hi, t, hspan, ht, hloop, hholders, htimes, hkeeps, hdistricts, hnv, hlogs, hmoved, hstill⟩ :=
      exec_liftReport_doubts hon hlive hres hf dest index (xs := [x]) (Nat.le_of_ble_eq_true rfl) href hk
    have hends : lo = s.holders[h].count ∧ hi = s.holders[h].count := by
      refine hspan.unique ((Spans.singleton _).congr fun c => ?_)
      rw [List.map_singleton, held_single, ← reckon_single, show [trackOf x] = [x].map trackOf from rfl, hk, or_self]
    obtain ⟨rfl, rfl⟩ := hends
    exact ⟨fun hc => ht.trans (congrArg Host.Outcome.next (hstill rfl hc)), t, ht, hholders, hkeeps, hdistricts, hnv, hlogs, hloop.buffer,
      htimes.one, fun hc => hmoved (.inr hc)⟩
  · intro r xs ks kind n hlen href hk held
    obtain ⟨lo, hi, t, hspan, ht, hloop, hholders, htimes, hkeeps, hdistricts, hnv, hlogs, hmoved, hstill⟩ :=
      exec_liftReport_doubts hon hlive hres hf dest index hlen href hk
    refine ⟨t, ht, hholders, htimes, hkeeps, hdistricts, hnv, hlogs, fun lo' hi' hspan' => ?_⟩
    obtain ⟨rfl, rfl⟩ := (hspan.congr fun c => held_map.symm).unique hspan'
    refine ⟨hmoved, fun heq hc => ?_⟩
    rw [hstill heq hc, State.raiseAll_setAttn]
    exact ⟨rfl, rfl, rfl, rfl⟩

/-- Settles O31, by the run over steps that all count, and the span of its counts. -/
theorem liftCount : Obligations.LiftCount := by
  intro s b h dest src index xs r n hon hlive hres hf hpos hlen href hwalk
  have hk := walk_eq_some.1 hwalk
  have hne : xs ≠ [] := List.ne_nil_of_length_pos hpos
  have hmap : xs.map trackOf ≠ [] := by simpa using hne
  obtain ⟨lo, hi, hspan, hrun⟩ := liftRun_after b.holders[h] h s.holders[h] r index.toNat hmap s.timebase hk
  obtain ⟨t, ht, hloop, left, hquiet⟩ := exec_liftReport_left hon hlive hres hf dest 0 index hne hlen href hrun
  obtain ⟨hholders, hnv, hkeeps, hdistricts, hlogs, htimes, htrips, hinterval⟩ := left
  rw [LiftRun.counted_left, ← List.getLast?_eq_some_getLast hmap] at hholders
  have hcross (hlt : lo < hi) : s.Trips t b h lo hi :=
    htrips (by simp [LiftRun.counted, hlt]) fun x hx => absurd hx List.not_mem_nil
  refine ⟨t, ht, hholders.trans (by simp [doubtNote]), hkeeps, hdistricts, hnv.trans (Nonvolatile.afterRun_plain _ _ rfl), hlogs, ?_, ?_, ?_⟩
  · rintro x rfl hn
    have hends : lo = min s.holders[h].count n ∧ hi = max s.holders[h].count n := by
      refine hspan.unique (((Spans.singleton _).or (Spans.singleton _)).congr fun c => ?_)
      rw [List.map_singleton, held_single, ← reckon_single, show [trackOf x] = [x].map trackOf from rfl, hk]
    obtain ⟨rfl, rfl⟩ := hends
    exact hcross (min_lt_max_of_ne hn)
  · intro lo' hi' hspan' hlt
    have hends := hspan.unique (hspan'.congr fun c => held_map.trans (exists_congr fun k => ?_))
    · obtain ⟨rfl, rfl⟩ := hends
      exact hcross hlt
    · have hcertain := reckon_take_certain (congrArg Prod.snd hk) k
      rw [← List.map_take] at hcertain
      rw [walk_eq_some, Prod.ext_iff]
      exact (and_iff_left hcertain).symm
  · intro hc hn hstill
    have hends : lo = s.holders[h].count ∧ hi = s.holders[h].count :=
      hspan.unique ((Spans.singleton _).congr fun c => held_still (by simpa using hstill))
    obtain ⟨rfl, rfl⟩ := hends
    rw [hquiet (by simp [LiftRun.counted])]
    exact ⟨rfl, rfl, rfl, rfl⟩

end Sys2Proof.Machine

/-! # Settled: LiftDatum

Reports with a datum passage (R10 to R12), applied or set aside. -/

namespace Sys2Proof.Machine

variable {s t : State} {b : Bank} {h : Fin 4} {e : HolderEntry}

/-! ## The samples on either side of a passage -/

theorem LiftRun.samples_past {d : Passage} {i : Nat} (hi : d.index < i) (e : HolderEntry) (h : Fin 4) (t : Nat) (xs : List Track)
    (u : LiftRun) : LiftRun.samples e h t (some d) i xs u = u.plain e h t xs := by
  induction xs generalizing i u with
  | nil => rfl
  | cons x xs ih =>
    unfold LiftRun.samples
    dsimp only
    rw [if_neg (by omega), ih (by omega)]
    rfl

/-- R10: a passage is applied after the samples up to its index, and the samples after it go on from there. -/
theorem LiftRun.samples_passage {d : Passage} {i k : Nat} (hd : d.index = i + k) (e : HolderEntry) (h : Fin 4) (t : Nat) {xs : List Track}
    (hk : k < xs.length) (u : LiftRun) : LiftRun.samples e h t (some d) i xs u =
      ((u.plain e h t (xs.take (k + 1))).passDatum e h t d.number d.height).plain e h t (xs.drop (k + 1)) := by
  induction xs generalizing i k u with
  | nil => exact absurd hk (Nat.not_lt_zero k)
  | cons x xs ih =>
    unfold LiftRun.samples
    dsimp only
    cases k with
    | zero =>
      rw [if_pos (by omega), LiftRun.samples_past (by omega)]
      rfl
    | succ k =>
      rw [if_neg (by omega), ih (by omega) (Nat.lt_of_succ_lt_succ hk)]
      rfl

theorem LiftBody.indexGood_iff (body : LiftBody) : body.indexGood = true ↔ 1 ≤ body.index ∧ body.index ≤ body.samples.length := by
  simp [LiftBody.indexGood]

/-- R10: a report whose passage names a mark, at the index of a sample. -/
theorem liftRun_passage {body : LiftBody} {height : Nat} (hheight : e.datumHeight body.datum = some height) (hpos : 1 ≤ body.index)
    (hlen : body.index ≤ body.samples.length) (h : Fin 4) (r : HolderRec) (ref : Track) (t : Nat) : liftRun e h r ref body t =
      (((LiftRun.start r ref).plain e h t (body.samples.take body.index)).passDatum e h t body.datum height).plain e h t
        (body.samples.drop body.index) := by
  have hgood := body.indexGood_iff.2 ⟨hpos, hlen⟩
  have haside : body.asideNote e = none := by
    unfold LiftBody.asideNote
    rw [hheight, hgood]
    exact ite_self _
  have hpassage : body.passage e = some ⟨body.datum, body.index, height⟩ := by
    unfold LiftBody.passage
    rw [hheight]
    exact if_pos hgood
  unfold liftRun
  rw [haside, hpassage]
  dsimp only
  obtain ⟨k, hk⟩ := Nat.exists_eq_add_of_le hpos
  rw [LiftRun.samples_passage (k := k) (show body.index = 1 + k from hk) _ _ _ (by omega), show k + 1 = body.index by omega]
  rfl

/-- A run whose passage is set aside, with the note of that. -/
def LiftRun.aside (u : LiftRun) (h : Fin 4) (t number : Nat) (kind : NoteKind) : LiftRun :=
  { u with note := some ⟨kind, some number, t⟩, raised := u.raised ++ [srcUncertain h] }

/-- R12: a passage that names no mark, or whose index is no sample's, is set aside after the samples. -/
theorem liftRun_aside {body : LiftBody} (hdatum : body.datum ≠ 0)
    (hbad : e.datumHeight body.datum = none ∨ body.index = 0 ∨ body.samples.length < body.index) (h : Fin 4) (r : HolderRec) (ref : Track)
    (t : Nat) : ∃ kind, (kind = .unknownDatum ∧ e.datumHeight body.datum = none ∨
        kind = .datumIndex ∧ (body.index = 0 ∨ body.samples.length < body.index)) ∧
      liftRun e h r ref body t = (liftRun e h r ref ⟨0, body.index, body.samples⟩ t).aside h t body.datum kind := by
  have hindex : body.indexGood = false ↔ body.index = 0 ∨ body.samples.length < body.index := by
    rw [← Bool.not_eq_true, body.indexGood_iff]
    omega
  have hpassage : body.passage e = none := by
    unfold LiftBody.passage
    split
    next hh =>
      rw [hh] at hbad
      exact if_neg (by rw [hindex.2 (hbad.resolve_left nofun)]; nofun)
    next => rfl
  have hnote : ∃ kind, (kind = .unknownDatum ∧ e.datumHeight body.datum = none ∨
      kind = .datumIndex ∧ (body.index = 0 ∨ body.samples.length < body.index)) ∧ body.asideNote e = some kind := by
    unfold LiftBody.asideNote
    rw [if_neg hdatum]
    cases hh : e.datumHeight body.datum with
    | some height =>
      rw [hh] at hbad
      have hi := hbad.resolve_left nofun
      rw [hindex.2 hi]
      exact ⟨_, .inr ⟨rfl, hi⟩, rfl⟩
    | none =>
      cases hg : body.indexGood with
      | true => exact ⟨_, .inl ⟨rfl, rfl⟩, rfl⟩
      | false =>
        refine ⟨_, ?_, rfl⟩
        split
        · exact .inl ⟨rfl, rfl⟩
        · exact .inr ⟨rfl, hindex.1 hg⟩
  obtain ⟨kind, hkind, haside⟩ := hnote
  refine ⟨kind, hkind, ?_⟩
  rw [liftRun_plain]
  unfold liftRun
  rw [hpassage, haside, LiftRun.samples_none]
  rfl

/-! ## The run of a passage, in the terms of `reckon` -/

/-- The run of samples with a passage among them: those up to it lead to `n` with the doubts `ks`, those after it to `m` with `js`. -/
def LiftRun.passed (e : HolderEntry) (r : HolderRec) (h : Fin 4) (t number height : Nat) (x : Track) (n m : Nat) (ks js : List NoteKind)
    (lo hi lo' hi' : Nat) : LiftRun :=
  { count := m, certain := js.isEmpty, ref := x, lo := min lo lo', hi := max hi hi',
    changed := decide (lo < hi) || (r.certain && !ks.isEmpty) || height != n || !(r.certain && ks.isEmpty) || decide (lo' < hi') ||
      !js.isEmpty,
    note := doubtNote t (ks ++ js) none, datum := some ⟨number, (n : Int) - height, t⟩, placed := some height,
    raised := (if (r.certain && ks.isEmpty) = true ∧ e.slipTol < ((n : Int) - height).natAbs then
        List.replicate ks.length (srcUncertain h) ++ [srcSlip h] else List.replicate ks.length (srcUncertain h)) ++
      List.replicate js.length (srcUncertain h) }

theorem liftRun_passed {r : HolderRec} {ref q : Track} {xs ys : List Track} {height n m : Nat} {ks js : List NoteKind}
    (hq : xs.getLast? = some q) (hk : reckon e.travel ref r.count xs = (n, ks)) (hj : reckon e.travel q height ys = (m, js))
    (h : Fin 4) (t number : Nat) :
    ∃ lo hi lo' hi', Spans (Held e.travel ref r.count xs) lo hi ∧ Spans (Held e.travel q height ys) lo' hi' ∧
      (((LiftRun.start r ref).plain e h t xs).passDatum e h t number height).plain e h t ys =
        .passed e r h t number height (ys.getLast?.getD q) n m ks js lo hi lo' hi' := by
  obtain ⟨lo, hi, hspan, hplain⟩ := LiftRun.plain_eq (e := e) (h := h) (t := t) (LiftRun.start_spread r ref) xs
  obtain ⟨hlo, hhi⟩ := hspan.2.2 r.count (Held.start ..)
  have hfirst : (LiftRun.start r ref).plain e h t xs = .counted r h t q n ks lo hi := by
    rw [hplain, show reckon e.travel (LiftRun.start r ref).ref (LiftRun.start r ref).count xs = (n, ks) from hk, hq]
    unfold LiftRun.after LiftRun.start
    rw [Nat.min_eq_right hlo, Nat.max_eq_right hhi]
    rfl
  have hspread : ((LiftRun.counted r h t q n ks lo hi).passDatum e h t number height).Spread := ⟨Nat.min_le_right .., Nat.le_max_right ..⟩
  obtain ⟨lo', hi', hspan', hplain'⟩ := LiftRun.plain_eq (e := e) (h := h) (t := t) hspread ys
  have hspan' : Spans (Held e.travel q height ys) lo' hi' := hspan'
  obtain ⟨hlo', hhi'⟩ := hspan'.2.2 height (Held.start ..)
  refine ⟨lo, hi, lo', hi', hspan, hspan', ?_⟩
  rw [hfirst, hplain']
  have hrest : reckon e.travel ((LiftRun.counted r h t q n ks lo hi).passDatum e h t number height).ref
      ((LiftRun.counted r h t q n ks lo hi).passDatum e h t number height).count ys = (m, js) := hj
  rw [hrest]
  unfold LiftRun.after LiftRun.passed
  simp only [LiftRun.mk.injEq]
  refine ⟨trivial, Bool.true_and _, rfl, ?_, ?_, ?_, doubtNote_append .., rfl, rfl, rfl⟩
  · show min (min lo height) lo' = min lo lo'
    omega
  · show max (max hi height) hi' = max hi hi'
    omega
  · rfl

theorem srcUncertain_ne_srcSlip (h k : Fin 4) : srcUncertain h ≠ srcSlip k := by
  intro e
  have hv := congrArg Fin.val e
  simp [srcUncertain, srcSlip] at hv
  omega

theorem srcSlip_ne_tripSource (h k : Fin 4) (sd : Side) : srcSlip h ≠ tripSource k sd := by
  intro e
  have hv := congrArg Fin.val e
  cases sd <;> simp [tripSource, srcLowTrip, srcHighTrip, srcSlip] at hv <;> omega

section
variable {r : HolderRec} {t number height n m lo hi lo' hi' : Nat} {x : Track} {ks js : List NoteKind}

/-- R3: the run of a passage issues a holder change where the count or the certainty has changed on the way. -/
theorem LiftRun.passed_changed {p q : Nat → Prop} (hp : Spans p lo hi) (hq : Spans q lo' hi') (hn : p n) (hheight : q height)
    (h : min lo lo' < max hi hi' ∨ ¬(r.certain = true ∧ ks = []) ∨ js ≠ []) :
    (passed e r k t number height x n m ks js lo hi lo' hi').changed = true := by
  unfold LiftRun.passed
  simp only [Bool.or_eq_true, decide_eq_true_eq, Bool.not_eq_true', List.isEmpty_eq_false_iff, bne_iff_ne, Bool.and_eq_false_iff]
  rcases h with h | h | h
  · have h1 := hp.2.2 n hn
    have h2 := hq.2.2 height hheight
    by_cases heq : height = n
    · subst heq
      by_cases h3 : lo < hi
      · exact .inl (.inl (.inl (.inl (.inl h3))))
      · exact .inl (.inr (by omega))
    · exact .inl (.inl (.inl (.inr heq)))
  · refine .inl (.inl (.inr ?_))
    cases hc : r.certain with
    | false => exact .inl rfl
    | true => exact .inr fun hks => h ⟨hc, hks⟩
  · exact .inr h

theorem LiftRun.passed_uncertain (k : Fin 4) :
    (passed e r k t number height x n m ks js lo hi lo' hi').raised.count (srcUncertain k) = ks.length + js.length := by
  have hne : (srcSlip k == srcUncertain k) = false := beq_false_of_ne (srcUncertain_ne_srcSlip k k).symm
  unfold LiftRun.passed
  split <;> simp [List.count_append, List.count_cons, hne]

theorem LiftRun.passed_slip (k : Fin 4) :
    (passed e r k t number height x n m ks js lo hi lo' hi').raised.count (srcSlip k) =
      if (r.certain && ks.isEmpty) = true ∧ e.slipTol < ((n : Int) - height).natAbs then 1 else 0 := by
  have hne : (srcUncertain k == srcSlip k) = false := beq_false_of_ne (srcUncertain_ne_srcSlip k k)
  unfold LiftRun.passed
  split <;> simp [List.count_append, hne, List.count_replicate]

theorem LiftRun.passed_raised {k : Fin 4} {y : Fin 74} (hy : y ∈ (passed e r k t number height x n m ks js lo hi lo' hi').raised)
    (i : Fin 4) (sd : Side) : y ≠ tripSource i sd := by
  have hy : y = srcUncertain k ∨ y = srcSlip k := by
    unfold LiftRun.passed at hy
    split at hy
    · simp only [List.mem_append, List.mem_replicate, List.mem_singleton] at hy
      rcases hy with (⟨_, rfl⟩ | rfl) | ⟨_, rfl⟩
      · exact .inl rfl
      · exact .inr rfl
      · exact .inl rfl
    · simp only [List.mem_append, List.mem_replicate] at hy
      exact .inl (hy.elim And.right And.right)
  rcases hy with rfl | rfl
  · exact srcUncertain_ne_tripSource k i sd
  · exact srcSlip_ne_tripSource k i sd

end

/-! ## The obligation -/

/-- R10: what a run with a passage leaves of the holder. -/
theorem LiftRun.passed_left {r : HolderRec} {t number height n m lo hi lo' hi' : Nat} {x : Track} {ks js : List NoteKind} {l : HolderRec}
    (hl : l = (passed b.holders[h] r h t number height x n m ks js lo hi lo' hi').left b h r) :
    l.count = m ∧ l.certain = js.isEmpty ∧ l.savedCertain = js.isEmpty ∧ l.ref = some x ∧
      l.lastDatum = some ⟨number, (n : Int) - height, t⟩ ∧
      l.note = ((ks ++ js).getLast?.map fun k => (⟨k, none, t⟩ : Note)).getD r.note ∧
      l.cupped = b.holders[h].cuppedAt m ∧ l.expected = b.holders[h].expectedAt m ∧
      (r.cupped = b.holders[h].cuppedAt height → b.holders[h].cuppedAt height = b.holders[h].cuppedAt m →
        l.outRun = r.outRun ∧ l.inRun = r.inRun) ∧
      (r.cupped ≠ b.holders[h].cuppedAt height ∨ b.holders[h].cuppedAt height ≠ b.holders[h].cuppedAt m →
        l.outRun = 0 ∧ l.inRun = 0) ∧ l.liftFault = r.liftFault ∧ l.geoVolume = volumeAt (b.breakpoints h) m := by
  have hout : l.outRun = if b.holders[h].cuppedAt m = b.holders[h].cuppedAt height then
      (if b.holders[h].cuppedAt height = r.cupped then r.outRun else 0) else 0 := by rw [hl]; rfl
  have hin : l.inRun = if b.holders[h].cuppedAt m = b.holders[h].cuppedAt height then
      (if b.holders[h].cuppedAt height = r.cupped then r.inRun else 0) else 0 := by rw [hl]; rfl
  refine ⟨by rw [hl]; rfl, by rw [hl]; rfl, by rw [hl]; rfl, by rw [hl]; rfl, by rw [hl]; rfl, ?_, by rw [hl]; rfl, by rw [hl]; rfl, ?_, ?_,
    by rw [hl]; rfl, by rw [hl]; rfl⟩
  · rw [hl]
    show (doubtNote t (ks ++ js) none).getD r.note = _
    rw [doubtNote, Option.or_none]
  · intro h1 h2
    rw [hout, hin, if_pos h2.symm, if_pos h1.symm, if_pos h2.symm, if_pos h1.symm]
    exact ⟨rfl, rfl⟩
  · rintro h1
    rw [hout, hin]
    by_cases h2 : b.holders[h].cuppedAt m = b.holders[h].cuppedAt height
    · rw [if_pos h2, if_pos h2, if_neg fun h3 => h1.elim (· h3.symm) (· h2.symm), if_neg fun h3 => h1.elim (· h3.symm) (· h2.symm)]
      exact ⟨rfl, rfl⟩
    · rw [if_neg h2, if_neg h2]
      exact ⟨rfl, rfl⟩

/-- The counts held up to a sample. -/
theorem held_map_take {travel : Nat} {r : Track} {n i : Nat} {xs : List Byte} {c : Nat} :
    Held travel r n ((xs.map trackOf).take i) c ↔ ∃ k, k ≤ i ∧ (reckon travel r n ((xs.take k).map trackOf)).1 = c := by
  unfold Held
  simp only [List.take_take, List.map_take]
  constructor
  · rintro ⟨k, hk⟩
    exact ⟨min k i, Nat.min_le_right .., hk⟩
  · rintro ⟨k, hle, hk⟩
    exact ⟨k, by rwa [Nat.min_eq_left hle]⟩

/-- Settles O32: a passage applied divides the run in two; one set aside comes after all the samples. -/
theorem liftDatum : Obligations.LiftDatum := by
  intro s b h dest src datum index xs r hon hlive hres hf hpos hlen href upTo
  have hne : xs ≠ [] := List.ne_nil_of_length_pos hpos
  have hmap : xs.map trackOf ≠ [] := by simpa using hne
  constructor
  · intro n ks hk hdatum hbad
    obtain ⟨kind, hkind, haside⟩ := liftRun_aside (body := ⟨datum.toNat, index.toNat, xs.map trackOf⟩) (e := b.holders[h])
      (fun h0 => hdatum (BitVec.eq_of_toNat_eq h0)) (by simpa using hbad) h s.holders[h] r s.timebase
    obtain ⟨lo, hi, hspan, hrun⟩ := liftRun_after b.holders[h] h s.holders[h] r index.toNat hmap s.timebase hk
    rw [hrun] at haside
    obtain ⟨t, ht, hloop, left, hquiet⟩ := exec_liftReport_left hon hlive hres hf dest datum index hne hlen href haside
    obtain ⟨hholders, hnv, hkeeps, hdistricts, hlogs, htimes, htrips, hinterval⟩ := left
    have hlast := List.getLast?_eq_some_getLast hmap
    refine ⟨t, ht, kind, by simpa using hkind, ?_, ?_, ?_, ?_, hnv.trans (Nonvolatile.afterRun_plain _ _ rfl), hkeeps, hdistricts⟩
    · rw [hlast]
      exact hholders
    · intro lo' hi' hspan' hch
      obtain ⟨rfl, rfl⟩ := hspan.unique (hspan'.congr fun c => held_map)
      refine htrips ?_ fun x hx k sd => ?_
      · show (decide (lo < hi) || (s.holders[h].certain && !ks.isEmpty)) = true
        rw [Bool.or_eq_true, decide_eq_true_eq, Bool.and_eq_true, Bool.not_eq_true', List.isEmpty_eq_false_iff]
        exact hch
      · have hx : x = srcUncertain h := by
          rcases List.mem_append.1 hx with hx | hx
          · exact List.eq_of_mem_replicate hx
          · exact List.mem_singleton.1 hx
        rw [hx]
        exact srcUncertain_ne_tripSource h k sd
    · intro hstill
      have hstill : ∀ x ∈ xs.map trackOf, x = r := by simpa using hstill
      obtain ⟨rfl, rfl⟩ := hspan.unique ((Spans.singleton _).congr fun c => held_still hstill)
      obtain ⟨rfl, rfl⟩ := Prod.mk.inj ((reckon_still hstill).symm.trans hk)
      rw [hquiet (by simp [LiftRun.counted, LiftRun.aside]), State.runTaken_eq]
      exact ⟨rfl, rfl, rfl, rfl⟩
    · have hcount : (((LiftRun.counted s.holders[h] h s.timebase ((xs.map trackOf).getLast hmap) n ks lo hi).aside h s.timebase
          datum.toNat kind).raised.count (srcUncertain h)) = ks.length + 1 := by
        unfold LiftRun.aside LiftRun.counted
        simp [List.count_append]
      exact hcount ▸ htimes _ (.inl rfl)
  · intro height n m ks js q hindex hheight hk hq after hj stood
    have hk : reckon b.holders[h].travel r s.holders[h].count ((xs.map trackOf).take index.toNat) = (n, ks) := by
      rw [← List.map_take]
      exact hk
    have hj : reckon b.holders[h].travel q height ((xs.map trackOf).drop index.toNat) = (m, js) := by
      rw [← List.map_drop, ← List.take_of_length_le (l := xs.drop index.toNat) (i := xs.length) (by simp)]
      exact hj
    have hinside : index.toNat ≤ (xs.map trackOf).length := by
      have := (List.getElem?_eq_some_iff.1 hq).1
      omega
    have hqlast : ((xs.map trackOf).take index.toNat).getLast? = some q := by
      rw [List.getLast?_eq_getElem?, List.length_take, Nat.min_eq_left hinside, List.getElem?_take_of_lt (by omega)]
      exact hq
    have hend : (((xs.map trackOf).drop index.toNat).getLast?.getD q) = (xs.map trackOf).getLast hmap := by
      rw [List.getLast?_drop]
      split
      next hle =>
        have hall : index.toNat = (xs.map trackOf).length := Nat.le_antisymm hinside hle
        rw [hall, List.take_length, List.getLast?_eq_some_getLast hmap] at hqlast
        exact (Option.some.inj hqlast).symm
      next => rw [List.getLast?_eq_some_getLast hmap]; rfl
    obtain ⟨lo, hi, lo', hi', hspan, hspan', hrun⟩ := liftRun_passed hqlast hk hj h s.timebase datum.toNat
    rw [hend] at hrun
    have hrun := (liftRun_passage (body := ⟨datum.toNat, index.toNat, xs.map trackOf⟩) hheight hindex hinside h s.holders[h] r
      s.timebase).trans hrun
    obtain ⟨t, ht, hloop, left, -⟩ := exec_liftReport_left hon hlive hres hf dest datum index hne hlen href hrun
    obtain ⟨hholders, hnv, hkeeps, hdistricts, hlogs, htimes, htrips, hinterval⟩ := left
    have hself : t.holders[h] = (LiftRun.passed b.holders[h] s.holders[h] h s.timebase datum.toNat height ((xs.map trackOf).getLast hmap) n m
        ks js lo hi lo' hi').left b h s.holders[h] := by
      rw [hholders]
      exact upd_at ..
    obtain ⟨hcount, hcertain, hsaved, hlastRef, hdatum, hnote, hcupped, hexpected, hruns, hcleared, hfault, hvolume⟩ :=
      LiftRun.passed_left hself
    have hslip := htimes _ (.inr rfl)
    have huncertain := htimes _ (.inl rfl)
    rw [LiftRun.passed_slip] at hslip
    rw [LiftRun.passed_uncertain] at huncertain
    have hstood : (s.holders[h].certain && ks.isEmpty) = true ↔ stood := by
      rw [Bool.and_eq_true, List.isEmpty_iff]
    refine ⟨t, ht, ?_, fun hst htol => ?_, fun hno => ?_, huncertain, hcount, hcertain, hsaved, ?_, hdatum, hnote, hcupped, hexpected, hruns,
      hcleared, hfault, hvolume, ?_, ?_, hlogs, ?_, ?_, hkeeps, hdistricts⟩
    · intro l u hboth hch
      rw [← List.map_drop] at hspan'
      obtain ⟨rfl, rfl⟩ := (hspan.or hspan').unique (hboth.congr fun c => or_congr held_map_take held_map)
      exact htrips (LiftRun.passed_changed hspan hspan' ⟨_, by rw [List.take_length, hk]⟩ (Held.start ..) hch) fun x hx =>
        LiftRun.passed_raised hx
    · rw [if_pos ⟨hstood.2 hst, htol⟩] at hslip
      exact hslip.one
    · rw [if_neg fun h => hno.elim (· (hstood.1 h.1)) fun hle => Nat.not_lt.2 hle h.2] at hslip
      exact hslip.notRaised
    · rw [hlastRef, List.getLast?_eq_some_getLast hmap]
    · rw [hnv]
      rfl
    · rw [hnv]
      rfl
    · rw [hinterval]
      cases js with
      | nil =>
        rw [if_neg fun h => nomatch h.2]
        simp
      | cons j js =>
        rw [if_pos ⟨by simp [LiftRun.passed], rfl⟩]
        rfl
    · intro k hk
      rw [hholders]
      exact upd_other _ _ _ _ hk.symm

end Sys2Proof.Machine

/-! # The stops compared, whatever happens beside it

What events that do not withdraw the permission of a side keep of that side, and the comparison of its stop (R78) between such events. -/

namespace Sys2Proof.Machine

variable {s t u : State} {h : Fin 4} {sd : Side} {b : Bank} {n : Nat}

/-! ## Valves whose flight carries a demand of its direction -/

/-- Section 4.2: a valve in flight carries a demand of the direction that it moves in. -/
def ValveRec.Flies (r : ValveRec) : Prop :=
  (r.state = .opening → r.demand.map Demand.dir = some .toOpen) ∧ (r.state = .shutting → r.demand.map Demand.dir = some .toShut)

theorem ValveRec.Flies.same {r r' : ValveRec} (hf : r.Flies) (hs : r'.state = r.state)
    (hd : r'.demand.map Demand.dir = r.demand.map Demand.dir) : r'.Flies := by
  unfold ValveRec.Flies
  rw [hs, hd]
  exact hf

theorem ValveRec.flies_moving {r : ValveRec} {d : Demand} (hs : r.state = d.dir.moving) (hd : r.demand = some d) : r.Flies := by
  unfold ValveRec.Flies
  rw [hs, hd]
  obtain ⟨dir, o⟩ := d
  cases dir
  · exact ⟨nofun, fun _ => rfl⟩
  · exact ⟨fun _ => rfl, nofun⟩

section
variable {v : Fin 8} {d : Demand}

theorem State.refuseDemand_valves (s : State) (v : Fin 8) (d : Demand) : (s.refuseDemand v d).valves = s.valves := by
  unfold State.refuseDemand
  split <;> rfl

theorem State.satisfyDemand_valves (s : State) (v : Fin 8) (d : Demand) : (s.satisfyDemand v d).valves = s.valves := by
  unfold State.satisfyDemand
  split <;> rfl

theorem State.beginExchange_flies (d : Dir) (x : Bool) (hf : s.valves[v].Flies) : (s.beginExchange v d x).valves[v].Flies := by
  unfold State.beginExchange
  split
  · exact (State.setValve_at ..).symm ▸ hf.same rfl rfl
  · exact (State.setValve_at (s := s) ..).symm ▸ hf.same rfl rfl

/-- R61, R62: a demand offered leaves a valve in flight with a demand of its direction. -/
theorem State.offered_flies (hf : s.valves[v].Flies) (d : Demand) : (s.offered v d).valves[v].Flies := by
  have refused : (s.refuseDemand v d).valves[v].Flies := by rw [s.refuseDemand_valves]; exact hf
  have atRest : (s.offerAtRest v d).1.valves[v].Flies := by
    unfold State.offerAtRest
    split
    · exact State.beginExchange_flies _ _ ((State.setValve_at ..).symm ▸ ValveRec.flies_moving rfl rfl)
    · rw [s.satisfyDemand_valves]; exact hf
    · next hk =>
      have hs : s.valves[v].state = .noAnswer ∨ s.valves[v].state = .localHand := by
        cases hs : s.valves[v].state <;> rw [hs] at hk <;> revert hk <;> obtain ⟨dir, o⟩ := d <;> cases dir <;> cases o <;> decide
      refine (State.setValve_at ..).symm ▸ ⟨fun h => ?_, fun h => ?_⟩
      · exact absurd (show s.valves[v].state = .opening from h) (by rcases hs with hs | hs <;> rw [hs] <;> nofun)
      · exact absurd (show s.valves[v].state = .shutting from h) (by rcases hs with hs | hs <;> rw [hs] <;> nofun)
    · exact refused
  have inFlight (old : Demand) (ho : s.valves[v].demand = some old) : (s.offerInFlight v old d).1.valves[v].Flies := by
    unfold State.offerInFlight
    split
    · unfold State.joinOperation
      dsimp only
      split
      all_goals exact (State.setValve_at (s := s) ..).symm ▸ hf.same rfl (by rw [ho]; rfl)
    · split
      · exact State.beginExchange_flies _ _ ((State.setValve_at ..).symm ▸ ValveRec.flies_moving rfl rfl)
      · exact refused
  unfold State.offered State.offer
  split
  · exact refused
  · split
    · next ho => exact inFlight _ ho
    · exact atRest

end

/-! ## What is kept of a side -/

/-- What is kept of a side of a holder by events that do not withdraw its permission, or that find it WITHDRAWN. -/
structure SideKept (h : Fin 4) (sd : Side) (s t : State) : Prop where
  perm : t.perms[valveOf h sd] = s.perms[valveOf h sd]
  notRaised : s.NotRaised t (tripSource h sd)
  flies : s.valves[valveOf h sd].Flies → t.valves[valveOf h sd].Flies
  same : SameTimes s t
  timebase : t.timebase = s.timebase
  stands : s.perms[valveOf h sd].granted = false → TripStands h sd s t

namespace SideKept

theorem refl (s : State) : SideKept h sd s s := ⟨rfl, .refl s _, id, ⟨rfl, rfl⟩, rfl, fun _ => .refl s⟩

theorem trans (k : SideKept h sd s t) (l : SideKept h sd t u) : SideKept h sd s u :=
  ⟨l.perm.trans k.perm, k.notRaised.trans l.notRaised, l.flies ∘ k.flies, k.same.trans l.same, l.timebase.trans k.timebase,
    fun hg => (k.stands hg).trans (l.stands (by rw [k.perm]; exact hg))⟩

/-- What leaves the valve, its commands, its permission and its source as they are. -/
theorem of_same (hv : t.valves[valveOf h sd] = s.valves[valveOf h sd]) (hp : t.perms[valveOf h sd] = s.perms[valveOf h sd])
    (hn : s.NotRaised t (tripSource h sd)) (hc : ∀ c ∈ s.loop.commands, c.isValve (valveOf h sd) = true → c ∈ t.loop.commands)
    (same : SameTimes s t) (ht : t.timebase = s.timebase) : SideKept h sd s t :=
  ⟨hp, hn, fun hf => hv ▸ hf, same, ht, fun _ => .of_same hv hp hn hc⟩

end SideKept

theorem State.raise_sideKept (s : State) {x : Fin 74} (hx : x ≠ tripSource h sd) : SideKept h sd s (s.raise x) :=
  .of_same (by rw [State.raise_valves]) (by rw [State.raise_perms]) (s.raise_notRaised hx.symm) (fun _ hc _ => by rwa [State.raise_loop])
    (.raise s x) (by rw [s.raise_setAttn]; rfl)

theorem EventStep.sideKept {p : Fin 4 → Side → Prop} (step : EventStep p s t) (hp : ¬p h sd) : SideKept h sd s t := by
  obtain ⟨hperm, hraised⟩ := step.untouched hp
  refine ⟨hperm, hraised, fun hf => ?_, step.only.sameTimes, step.only.timebase, step.tripStands⟩
  cases step with
  | programme step =>
    cases step with
    | records p => exact hf
    | noCandidate sd' => rw [State.raise_valves]; exact hf
    | demand w d =>
      by_cases hw : w = valveOf h sd
      · subst hw
        exact State.offered_flies hf _
      · rw [(s.offered_atValve w ⟨d, .programme⟩).valves _ (Ne.symm hw)]
        exact hf
  | withdrawal k sd' c n hk =>
    have hne : valveOf h sd ≠ valveOf k sd' := fun e => hp (by obtain ⟨rfl, rfl⟩ := valveOf_inj e; exact hk)
    rw [s.withdraw_valves k sd' c n hne]
    exact hf
  | flag f => exact hf

theorem Steps.sideKept {p : Fin 4 → Side → Prop} (steps : EventSteps p s t) (hp : ¬p h sd) : SideKept h sd s t :=
  steps.keeps SideKept.refl SideKept.trans fun step => step.sideKept hp

/-- Events that find a permission WITHDRAWN keep what the side is. -/
theorem Steps.sideKept_withdrawn {p : Fin 4 → Side → Prop} (steps : EventSteps p s t) (hg : s.perms[valveOf h sd].granted = false)
    (hf : s.valves[valveOf h sd].Flies → t.valves[valveOf h sd].Flies) : SideKept h sd s t :=
  have stands := steps.tripStands hg
  ⟨stands.perm, stands.notRaised, hf, steps.onlyEvents.sameTimes, steps.onlyEvents.timebase, fun _ => stands⟩

/-! ## One stop compared -/

/-- R78: the cause of a trip of a side. -/
def Side.cause (sd : Side) : PermCause := if sd = .outlet then .lowStop else .highStop

/-- R78: a withdrawal leaves the valve SHUT, or with a SHUT demand of TRIP origin. -/
theorem State.Withdrawn.tripped {c : PermCause} (k : s.Withdrawn t h sd c n) (hf : s.valves[valveOf h sd].Flies) :
    t.valves[valveOf h sd].Tripped := by
  obtain ⟨-, -, hshut, hkept, hjoins, hup, hlost⟩ := k
  obtain ⟨hopening, hshutting⟩ := hf
  have begins (hs : s.valves[valveOf h sd].state ∈ [.unknown, .opened, .stuck] ∨
      (s.valves[valveOf h sd].state = .opening ∧ s.valves[valveOf h sd].demand.map Demand.dir = some .toOpen)) :
      t.valves[valveOf h sd].Tripped := by
    cases hl : s.loop.lost with
    | false =>
      obtain ⟨h1, h2, -⟩ := hup hs hl
      exact .inr ⟨by rw [h1]; decide, h2⟩
    | true =>
      obtain ⟨h1, h2, -⟩ := hlost hs hl
      exact .inr ⟨by rw [h1]; decide, h2⟩
  cases hs : s.valves[valveOf h sd].state with
  | shut => exact .inl (by rw [hshut hs]; exact hs)
  | noAnswer =>
    obtain ⟨h1, h2⟩ := hkept (.inl hs)
    exact .inr ⟨by rw [h1, hs]; decide, h2⟩
  | localHand =>
    obtain ⟨h1, h2⟩ := hkept (.inr hs)
    exact .inr ⟨by rw [h1, hs]; decide, h2⟩
  | shutting =>
    obtain ⟨h1, h2⟩ := hjoins hs (hshutting hs)
    exact .inr ⟨by rw [h1]; decide, h2⟩
  | opening => exact begins (.inr ⟨hs, hopening hs⟩)
  | unknown => exact begins (.inl (by rw [hs]; decide))
  | opened => exact begins (.inl (by rw [hs]; decide))
  | stuck => exact begins (.inl (by rw [hs]; decide))

namespace State.StopCompared

/-- A stop that is met, its permission GRANTED. -/
theorem of_withdrawal (pre : SideKept h sd s t) (hg : s.perms[valveOf h sd].granted = true) (hm : b.MeetsStop h sd n)
    (post : TripStands h sd (t.withdraw h sd sd.cause n) u) : s.StopCompared u b h sd n := by
  have k := (State.withdraw_does (by rw [pre.perm]; exact hg) sd.cause n).stands post
  refine ⟨fun _ _ => ⟨?_, k.2.1.before pre.notRaised pre.same.live pre.same.now, fun h1 h2 => k.tripped (pre.flies ⟨h1, h2⟩)⟩, fun hno => ?_⟩
  · rw [k.1, pre.timebase]
    rfl
  · exact absurd hno fun hno => hno.elim (fun hno => Bool.false_ne_true (hno.symm.trans hg)) (· hm)

/-- A stop that is not met, or whose permission is WITHDRAWN already. -/
theorem of_kept (kept : SideKept h sd s t) (hno : s.perms[valveOf h sd].granted = false ∨ ¬b.MeetsStop h sd n) :
    s.StopCompared t b h sd n :=
  ⟨fun hg hm => absurd hno fun hno => hno.elim (fun hno => Bool.false_ne_true (hno.symm.trans hg)) (· hm),
    fun _ => ⟨kept.perm, kept.notRaised⟩⟩

theorem before (k : t.StopCompared u b h sd n) (pre : SideKept h sd s t) : s.StopCompared u b h sd n := by
  obtain ⟨htrip, hkept⟩ := k
  rw [pre.perm] at htrip hkept
  refine ⟨fun hg hm => ?_, fun hno => ?_⟩
  · obtain ⟨hperm, hraised, hvalve⟩ := htrip hg hm
    refine ⟨?_, hraised.before pre.notRaised pre.same.live pre.same.now, fun h1 h2 => ?_⟩
    · rw [hperm, pre.timebase]
    · obtain ⟨f1, f2⟩ := pre.flies ⟨h1, h2⟩
      exact hvalve f1 f2
  · obtain ⟨hperm, hraised⟩ := hkept hno
    exact ⟨hperm, pre.notRaised.trans hraised⟩

theorem after (k : s.StopCompared t b h sd n) (post : SideKept h sd t u) : s.StopCompared u b h sd n := by
  obtain ⟨htrip, hkept⟩ := k
  refine ⟨fun hg hm => ?_, fun hno => ?_⟩
  · obtain ⟨hperm, hraised, hvalve⟩ := htrip hg hm
    have stands := post.stands (by rw [hperm])
    refine ⟨post.perm.trans hperm, hraised.after post.notRaised, fun h1 h2 => ?_⟩
    have hr : t.valves[valveOf h sd].Tripped := hvalve h1 h2
    obtain ⟨j, hj⟩ := stands.valve hr
    rw [hj]
    exact hr.joined j
  · obtain ⟨hperm, hraised⟩ := hkept hno
    exact ⟨post.perm.trans hperm, hraised.trans post.notRaised⟩

end State.StopCompared

/-! ## The stops of a holder change -/

/-- The count that the stop of a side is compared with at a holder change. -/
def Side.of (sd : Side) (lo hi : Nat) : Nat := if sd = .outlet then lo else hi

theorem Bank.meetsStop_outlet : b.MeetsStop h .outlet n ↔ n ≤ b.holders[h].lowStop := iff_of_eq (if_pos rfl)
theorem Bank.meetsStop_inlet : b.MeetsStop h .inlet n ↔ b.holders[h].highStop ≤ n := iff_of_eq (if_neg nofun)

/-- R78: a stop met withdraws its side, before or after the other side. -/
theorem State.evaluateTrips_withdraws (s : State) (b : Bank) (h : Fin 4) (sd : Side) (lo hi : Nat) (hm : b.MeetsStop h sd (sd.of lo hi)) :
    ∃ a, SideKept h sd s a ∧
      EventSteps (fun _ _ => True) (a.withdraw h sd sd.cause (sd.of lo hi)) (s.evaluateTrips b.holders[h] h lo hi) := by
  unfold State.evaluateTrips
  dsimp only
  cases sd with
  | outlet =>
    have hlo : lo ≤ b.holders[h].lowStop := Bank.meetsStop_outlet.1 hm
    rw [if_pos hlo]
    exact ⟨s, .refl s, .ite (State.withdraw_events _ _ _ trivial) (.refl _)⟩
  | inlet =>
    have hhi : b.holders[h].highStop ≤ hi := Bank.meetsStop_inlet.1 hm
    rw [if_pos hhi]
    refine ⟨_, Steps.sideKept (p := fun _ sd => sd = .outlet) ?_ nofun, .refl _⟩
    exact .ite (s.withdraw_events _ _ rfl) (.refl s)

/-- R78: a stop not met does not withdraw its side. -/
theorem State.evaluateTrips_passes (s : State) (b : Bank) (h : Fin 4) (sd : Side) (lo hi : Nat) (hm : ¬b.MeetsStop h sd (sd.of lo hi)) :
    EventSteps (fun k sd' => ¬(k = h ∧ sd' = sd)) s (s.evaluateTrips b.holders[h] h lo hi) := by
  refine s.evaluateTrips_events _ lo hi (fun hlo => ?_) fun hhi => ?_
  · rintro ⟨-, rfl⟩
    exact hm (Bank.meetsStop_outlet.2 hlo)
  · rintro ⟨-, rfl⟩
    exact hm (Bank.meetsStop_inlet.2 hhi)

/-- R78: the stop of a side, compared by `evaluateTrips` and followed by events of the programme. -/
theorem State.evaluateTrips_stop (s : State) (b : Bank) (h : Fin 4) (sd : Side) (lo hi : Nat)
    (after : EventSteps (fun _ _ => False) (s.evaluateTrips b.holders[h] h lo hi) t) : s.StopCompared t b h sd (sd.of lo hi) := by
  by_cases hm : b.MeetsStop h sd (sd.of lo hi)
  · obtain ⟨a, pre, rest⟩ := s.evaluateTrips_withdraws b h sd lo hi hm
    have post : EventSteps (fun _ _ => True) (a.withdraw h sd sd.cause (sd.of lo hi)) t := rest.trans (EventSteps.weaken after fun _ _ => False.elim)
    cases hg : s.perms[valveOf h sd].granted with
    | true =>
      refine .of_withdrawal pre hg hm (post.tripStands ?_)
      rw [(State.withdraw_does (by rw [pre.perm]; exact hg) sd.cause _).1]
    | false =>
      rw [State.withdraw_withdrawn (by rw [pre.perm]; exact hg)] at post
      have stands := (pre.stands hg).trans (post.tripStands (by rw [pre.perm]; exact hg))
      exact ⟨fun hg' => absurd (hg.symm.trans hg') nofun, fun _ => ⟨stands.perm, stands.notRaised⟩⟩
  · refine .of_kept (Steps.sideKept (p := fun k sd' => ¬(k = h ∧ sd' = sd)) ?_ fun hp => hp ⟨rfl, rfl⟩) (.inr hm)
    exact (s.evaluateTrips_passes b h sd lo hi hm).trans (EventSteps.weaken after fun _ _ => False.elim)

/-- R78: a holder change compares both stops. -/
theorem State.holderChange_stop (s : State) (b : Bank) (h : Fin 4) (sd : Side) (lo hi : Nat) :
    s.StopCompared (s.holderChange b h lo hi) b h sd (sd.of lo hi) := by
  rw [State.holderChange_split]
  exact State.evaluateTrips_stop s b h sd lo hi (State.afterTrips_events ..)

end Sys2Proof.Machine

/-! # Cup checks

The readings of a point by the holders that name it (R16), and what the readings of the others keep of one of them. -/

namespace Sys2Proof.Machine

variable {s t u : State} {b : Bank} {h k : Fin 4} {sd : Side} {v : Int} {q r : Fin 4 → Prop}

/-! ## What readings do -/

/-- One step of cup checks: the record of a holder that `q` names, and, of one that `r` names, its LIFT FAULT or an event. -/
inductive CupStep (q r : Fin 4 → Prop) : State → State → Prop where
  | record (s : State) (h : Fin 4) (x : HolderRec) : q h → CupStep q r s (s.setHolder h x)
  | fault (s : State) (h : Fin 4) : r h → CupStep q r s (s.raise (srcLiftFault h))
  | event {s t : State} {h : Fin 4} : r h → EventStep (fun h _ => r h) s t → CupStep q r s t

abbrev CupSteps (q r : Fin 4 → Prop) : State → State → Prop := Steps (CupStep q r)

theorem CupSteps.weaken {q' r' : Fin 4 → Prop} (steps : CupSteps q r s t) (hq : ∀ k, q k → q' k) (hr : ∀ k, r k → r' k) :
    CupSteps q' r' s t := by
  refine steps.mono fun step => ?_
  cases step with
  | record h x hh => exact .record _ h x (hq h hh)
  | fault h hh => exact .fault _ h (hr h hh)
  | event hh step =>
    cases step with
    | programme step => exact .event (hr _ hh) (.programme step)
    | withdrawal k sd c n hk => exact .event (hr _ hh) (.withdrawal _ k sd c n (hr k hk))
    | flag f => exact .event (hr _ hh) (.flag _ f)

theorem CupSteps.events (hh : r h) (steps : EventSteps (fun h _ => r h) s t) : CupSteps q r s t := steps.mono (.event hh)

theorem srcLiftFault_ne_tripSource (h k : Fin 4) (sd : Side) : srcLiftFault h ≠ tripSource k sd := by
  intro e
  have hv := congrArg Fin.val e
  cases sd <;> simp [tripSource, srcLowTrip, srcHighTrip, srcLiftFault] at hv <;> omega

theorem srcLiftFault_inj (e : srcLiftFault h = srcLiftFault k) : h = k := by
  have hv := congrArg Fin.val e
  simp [srcLiftFault] at hv
  exact Fin.ext (by omega)

/-- What no reading changes. -/
structure CupKept (s t : State) : Prop where
  keeps : s.Keeps t
  districts : t.districts = s.districts
  nv : t.nv = s.nv
  logs : t.accounts.logs = s.accounts.logs
  loop : OnlyCommands s.loop t.loop

theorem CupKept.refl (s : State) : CupKept s s := ⟨.refl s, rfl, rfl, rfl, .refl _⟩
theorem CupKept.trans (h : CupKept s t) (k : CupKept t u) : CupKept s u :=
  ⟨h.keeps.trans k.keeps, k.districts.trans h.districts, k.nv.trans h.nv, k.logs.trans h.logs, h.loop.trans k.loop⟩
theorem OnlyEvents.cupKept (h : OnlyEvents s t) : CupKept s t := ⟨h.keeps, h.districts, h.nv, h.logs, h.loop⟩

theorem Steps.cupKept (steps : CupSteps q r s t) : CupKept s t := by
  refine steps.keeps CupKept.refl CupKept.trans fun step => ?_
  cases step with
  | record h x _ => exact ⟨⟨rfl, rfl, rfl, rfl, rfl, rfl, rfl, rfl, rfl, rfl⟩, rfl, rfl, rfl, .refl _⟩
  | fault h _ => exact (OnlyEvents.of_valves (State.raise_only ..)).cupKept
  | event _ step => exact step.only.cupKept

/-- What the readings of other holders keep of a holder and of its sides. -/
theorem Steps.cupSide (steps : CupSteps q r s t) (hr : ¬r h) (sd : Side) : SideKept h sd s t := by
  refine steps.keeps SideKept.refl SideKept.trans fun step => ?_
  cases step with
  | record k x _ => exact .of_same rfl rfl (.refl _ _) (fun _ hc _ => hc) ⟨rfl, rfl⟩ rfl
  | fault k _ => exact State.raise_sideKept _ (srcLiftFault_ne_tripSource k h sd)
  | event _ step => exact step.sideKept hr

theorem Steps.cupHolder (steps : CupSteps q r s t) (hq : ¬q h) : t.holders[h] = s.holders[h] := by
  refine steps.keeps (K := fun a b => b.holders[h] = a.holders[h]) (fun _ => rfl) (fun h k => k.trans h) fun step => ?_
  cases step with
  | record k x hk => exact upd_other _ _ _ _ fun e => hq (e ▸ hk)
  | fault k _ => exact congrArg (·[h]) (State.raise_only ..).holders
  | event _ step => exact congrArg (·[h]) step.only.holders

theorem Steps.cupFault (steps : CupSteps q r s t) (hr : ¬r h) : s.NotRaised t (srcLiftFault h) := by
  refine steps.keeps (K := fun a b => a.NotRaised b (srcLiftFault h)) (fun a => .refl a _) (fun h k => h.trans k) fun step => ?_
  cases step with
  | record k x hk => exact .refl _ _
  | fault k hk => exact State.raise_notRaised _ fun e => hr (srcLiftFault_inj e ▸ hk)
  | event _ step =>
    refine step.notRaised (fun sd e => ?_) fun k sd => srcLiftFault_ne_tripSource h k sd
    have hv := congrArg Fin.val e
    cases sd <;> simp [Side.source, srcNoSend, srcNoFill, srcLiftFault] at hv <;> omega

/-- Readings that set and clear no LIFT FAULT change the holders' records alone. -/
theorem Steps.cupRecords (steps : CupSteps q r s t) (hr : ∀ k, ¬r k) : ∃ hs, t = { s with holders := hs } := by
  refine steps.keeps (K := fun a b => ∃ hs, b = { a with holders := hs }) (fun a => ⟨_, rfl⟩) ?_ fun step => ?_
  · rintro a b c ⟨hs, rfl⟩ ⟨hs', rfl⟩
    exact ⟨hs', rfl⟩
  · cases step with
    | record k x _ => exact ⟨_, rfl⟩
    | fault k hk => exact absurd hk (hr k)
    | event hh _ => exact absurd hh (hr _)

/-! ## One reading -/

/-- R16: whether a GOOD reading sets or clears LIFT FAULT of a record. -/
def HolderRec.cupChanges (x : HolderRec) (tol : Nat) (v : Int) : Bool := (x.cupCheck tol v).2.1 || (x.cupCheck tol v).2.2

/-- R16: the state in which a reading has been checked, before the holder change that it may issue. -/
def State.cupChecked (s : State) (b : Bank) (h : Fin 4) (v : Int) : State :=
  let c := s.holders[h].cupCheck b.holders[h].cupTol v
  if c.2.1 then (s.setHolder h c.1).raise (srcLiftFault h) else s.setHolder h c.1

theorem State.cupReading_good (s : State) (b : Bank) (h : Fin 4) (v : Int) : s.cupReading b h v .good =
    if s.holders[h].cupChanges b.holders[h].cupTol v then (s.cupChecked b h v).holderChange b h s.holders[h].count s.holders[h].count
    else s.cupChecked b h v := by
  have hcount : (s.holders[h].cupCheck b.holders[h].cupTol v).1.count = s.holders[h].count := by
    unfold HolderRec.cupCheck
    dsimp only
    split <;> rfl
  unfold State.cupReading State.cupChecked HolderRec.cupChanges
  rw [if_pos rfl]
  dsimp only
  rw [hcount]

theorem State.cupReading_other (s : State) (b : Bank) (h : Fin 4) (v : Int) {q : Quality} (hq : q ≠ .good) : s.cupReading b h v q = s :=
  if_neg hq

/-- R16: a reading sets LIFT FAULT at the third outside. -/
theorem HolderRec.cupCheck_outside {x : HolderRec} {tol : Nat} (ho : tol < (v - x.expected).natAbs) : x.cupCheck tol v =
    ({ x with outRun := min 3 (x.outRun + 1), inRun := 0, liftFault := x.liftFault || decide (2 ≤ x.outRun) },
      decide (x.liftFault = false ∧ 2 ≤ x.outRun), false) := by
  have hrun : (min 3 (x.outRun + 1) == 3) = decide (2 ≤ x.outRun) := by
    rw [Bool.eq_iff_iff, beq_iff_eq, decide_eq_true_eq]
    omega
  unfold HolderRec.cupCheck
  rw [if_pos ho]
  dsimp only
  rw [hrun, Bool.decide_and, Bool.and_comm]
  cases x.liftFault <;> rfl

/-- R16: a reading clears LIFT FAULT at the third inside. -/
theorem HolderRec.cupCheck_inside {x : HolderRec} {tol : Nat} (ho : ¬tol < (v - x.expected).natAbs) : x.cupCheck tol v =
    ({ x with inRun := min 3 (x.inRun + 1), outRun := 0, liftFault := x.liftFault && decide (x.inRun < 2) },
      false, decide (x.liftFault = true ∧ 2 ≤ x.inRun)) := by
  have hrun : (min 3 (x.inRun + 1) == 3) = decide (2 ≤ x.inRun) := by
    rw [Bool.eq_iff_iff, beq_iff_eq, decide_eq_true_eq]
    omega
  have hnot : (min 3 (x.inRun + 1) != 3) = decide (x.inRun < 2) := by
    rw [bne, hrun, ← decide_not]
    exact decide_eq_decide.2 Nat.not_le
  unfold HolderRec.cupCheck
  rw [if_neg ho]
  dsimp only
  rw [hrun, hnot, Bool.decide_and]
  cases x.liftFault <;> simp

/-- A reading of a holder is made of steps that name it. -/
theorem State.cupReading_steps (s : State) (b : Bank) (h : Fin 4) (v : Int) (q : Quality) {p r : Fin 4 → Prop} (hp : p h)
    (hr : q = .good → s.holders[h].cupChanges b.holders[h].cupTol v = true → r h) : CupSteps p r s (s.cupReading b h v q) := by
  by_cases hq : q = .good
  case neg =>
    rw [State.cupReading_other s b h v hq]
    exact .refl s
  case pos =>
    subst hq
    have checked (hset : (s.holders[h].cupCheck b.holders[h].cupTol v).2.1 = true → r h) : CupSteps p r s (s.cupChecked b h v) := by
      unfold State.cupChecked
      dsimp only
      split
      · next hs => exact (Steps.one (.record s h _ hp)).trans (.one (.fault _ h (hset hs)))
      · exact .one (.record s h _ hp)
    rw [State.cupReading_good]
    split
    · next hc =>
      have hh := hr rfl hc
      refine (checked fun _ => hh).trans (CupSteps.events hh ?_)
      exact State.holderChange_events _ b _ _ (fun _ => hh) fun _ => hh
    · next hc => exact checked fun hs => absurd (show s.holders[h].cupChanges b.holders[h].cupTol v = true by
        unfold HolderRec.cupChanges; rw [hs]; rfl) hc

/-! ## The readings in turn -/

/-- R16: the reading of one holder, where it names the point. -/
def State.pointReading (b : Bank) (p : Fin 24) (v : Int) (q : Quality) (h : Fin 4) (s : State) : State :=
  if b.fitted h && pointPlace b.holders[h].presPoint == some p then s.cupReading b h v q else s

/-- R16: the reading of a point changes LIFT FAULT of a holder, from the records of a state. -/
def State.Faults (s : State) (b : Bank) (p : Fin 24) (v : Int) (q : Quality) (h : Fin 4) : Prop :=
  b.fitted h = true ∧ pointPlace b.holders[h].presPoint = some p ∧ q = .good ∧ s.holders[h].cupChanges b.holders[h].cupTol v = true

theorem State.pointReading_steps (a : State) (b : Bank) (p : Fin 24) (v : Int) (q : Quality) {h : Fin 4}
    (same : a.holders[h] = s.holders[h]) : CupSteps (· = h) (fun k => k = h ∧ s.Faults b p v q k) a (State.pointReading b p v q h a) := by
  unfold State.pointReading
  split
  · next hc =>
    obtain ⟨hf, hpoint⟩ := Bool.and_eq_true_iff.1 hc
    exact a.cupReading_steps b h v q rfl fun hq hch => ⟨rfl, hf, beq_iff_eq.1 hpoint, hq, by rw [← same]; exact hch⟩
  · exact .refl a

/-- The readings of a list of holders, each as from the records at the start. -/
theorem State.pointReadings_steps (b : Bank) (p : Fin 24) (v : Int) (q : Quality) {l : List (Fin 4)} (hl : l.Nodup) {a : State}
    (same : ∀ k ∈ l, a.holders[k] = s.holders[k]) : CupSteps (· ∈ l) (fun k => k ∈ l ∧ s.Faults b p v q k) a
      (l.foldl (fun a k => State.pointReading b p v q k a) a) := by
  induction l generalizing a with
  | nil => exact .refl a
  | cons k l ih =>
    obtain ⟨hk, hl⟩ := List.nodup_cons.1 hl
    have first := State.pointReading_steps (s := s) a b p v q (same k (.head _))
    refine (first.weaken (fun j hj => hj ▸ .head _) fun j hj => ⟨hj.1 ▸ .head _, hj.2⟩).trans ?_
    refine (ih hl fun j hj => ?_).weaken (fun j hj => .tail _ hj) fun j hj => ⟨.tail _ hj.1, hj.2⟩
    exact (first.cupHolder fun e => hk (e ▸ hj)).trans (same j (.tail _ hj))

/-- The holders before one and those after it. -/
theorem finRange_four (h : Fin 4) : List.finRange 4 = (List.finRange 4).filter (· < h) ++ h :: (List.finRange 4).filter (h < ·) := by
  revert h; decide

/-- The readings of a point, about one of the holders: those before it, its own, and those after it. -/
theorem State.cupReadings_at (s : State) (b : Bank) (p : Fin 24) (v : Int) (q : Quality) (h : Fin 4) : ∃ a,
    CupSteps (· < h) (fun k => k < h ∧ s.Faults b p v q k) s a ∧ a.holders[h] = s.holders[h] ∧
    CupSteps (h < ·) (fun k => h < k ∧ s.Faults b p v q k) (State.pointReading b p v q h a) (s.cupReadings b p v q) := by
  have mem (k : Fin 4) (l : Fin 4 → Bool) : k ∈ (List.finRange 4).filter l ↔ l k = true := by
    rw [List.mem_filter]
    exact and_iff_right (List.mem_finRange k)
  have nodup (l : Fin 4 → Bool) : ((List.finRange 4).filter l).Nodup := List.Pairwise.filter _ (show (List.finRange 4).Nodup by decide)
  have pre := State.pointReadings_steps (s := s) b p v q (nodup (· < h)) fun _ _ => rfl
  have hpre := pre.cupHolder (h := h) fun hm => Fin.lt_irrefl h (of_decide_eq_true ((mem ..).1 hm))
  have own := State.pointReading_steps (s := s) _ b p v q hpre
  refine ⟨_, pre.weaken (fun k hk => of_decide_eq_true ((mem ..).1 hk)) fun k hk => ⟨of_decide_eq_true ((mem ..).1 hk.1), hk.2⟩, hpre, ?_⟩
  have post := State.pointReadings_steps (s := s) b p v q (nodup (h < ·)) fun k hk => by
    have hlt : h < k := of_decide_eq_true ((mem ..).1 hk)
    exact (own.cupHolder (Fin.ne_of_gt hlt)).trans (pre.cupHolder fun hm => Fin.lt_asymm hlt (of_decide_eq_true ((mem ..).1 hm)))
  have whole : s.cupReadings b p v q = (List.finRange 4).foldl (fun a k => State.pointReading b p v q k a) s := rfl
  have split : s.cupReadings b p v q = ((List.finRange 4).filter (h < ·)).foldl (fun a k => State.pointReading b p v q k a)
      (State.pointReading b p v q h (((List.finRange 4).filter (· < h)).foldl (fun a k => State.pointReading b p v q k a) s)) := by
    refine whole.trans ?_
    rw [congrArg (List.foldl (fun a k => State.pointReading b p v q k a) s) (finRange_four h), List.foldl_append]
    rfl
  rw [split]
  exact post.weaken (fun k hk => of_decide_eq_true ((mem ..).1 hk)) fun k hk => ⟨of_decide_eq_true ((mem ..).1 hk.1), hk.2⟩

end Sys2Proof.Machine

/-! # Settled: PointReport

A point report (R16, R40, R114): the record, the cup checks with their trips, and the end-of-main runs. -/

namespace Sys2Proof.Machine

variable {s t u a : State} {b : Bank} {h k : Fin 4} {sd : Side} {v : Int} {q : Quality} {p : Fin 24}

/-! ## The records of a table, each changed in its turn -/

/-- The records of a list of places, each changed where `c` says so. -/
theorem foldl_upd {α : Type} {n : Nat} (c : Fin n → Bool) (f : Fin n → α → α) {l : List (Fin n)} (hl : l.Nodup) (x : Vector α n) (i : Fin n) :
    (l.foldl (fun x i => if c i then upd x i (f i x[i]) else x) x)[i] = if i ∈ l ∧ c i = true then f i x[i] else x[i] := by
  induction l generalizing x with
  | nil => exact (if_neg fun h => nomatch h.1).symm
  | cons j l ih =>
    obtain ⟨hj, hl⟩ := List.nodup_cons.1 hl
    rw [List.foldl_cons, ih hl]
    by_cases hij : i = j
    · subst hij
      rw [if_neg fun h => hj h.1]
      cases hc : c i with
      | true => rw [if_pos rfl, if_pos ⟨.head _, rfl⟩]; exact upd_at ..
      | false => rw [if_neg nofun, if_neg fun h => nomatch h.2]
    · have hsame : (if c j = true then upd x j (f j x[j]) else x)[i] = x[i] := by
        split
        · exact upd_other _ _ _ _ (Ne.symm hij)
        · rfl
      rw [hsame]
      exact ite_congr (propext (and_congr_left' (List.mem_cons.trans (or_iff_right hij)).symm)) (fun _ => rfl) fun _ => rfl

/-! ## The end of the main -/

/-- R114: a report handed to the districts changes their runs alone. -/
theorem State.endOfMain_eq (s : State) (b : Bank) (p : Fin 24) (v : Int) : ∃ ds, s.endOfMain b p v = { s with districts := ds } ∧
    ∀ d : Fin 6, ds[d] = if (b.districts[d].used && pointPlace b.districts[d].endPoint == some p) = true then
      s.districts[d].endReport b.districts[d] v else s.districts[d] := by
  have fold (l : List (Fin 6)) (s : State) : l.foldl (fun s d => if b.districts[d].used && pointPlace b.districts[d].endPoint == some p then
        s.setDistrict d (s.districts[d].endReport b.districts[d] v) else s) s =
      { s with districts := l.foldl (fun x d => if b.districts[d].used && pointPlace b.districts[d].endPoint == some p then
        upd x d (x[d].endReport b.districts[d] v) else x) s.districts } := by
    induction l generalizing s with
    | nil => rfl
    | cons d l ih =>
      rw [List.foldl_cons, ih, List.foldl_cons]
      split <;> rfl
  refine ⟨_, fold _ s, fun d => ?_⟩
  have hl : (List.finRange 6).Nodup := by decide
  have hd := List.mem_finRange d
  generalize List.finRange 6 = l at hl hd
  have runs := foldl_upd (fun d => b.districts[d].used && pointPlace b.districts[d].endPoint == some p)
    (fun d x => x.endReport b.districts[d] v) hl s.districts d
  simp only [hd, true_and] at runs
  exact runs

theorem pointPlace_eq_some {n : Nat} : pointPlace n = some p ↔ n = p.val + 1 := placeOf_eq_some (n := 24)

/-! ## One holder's reading, in its turn -/

theorem State.cupChecked_frame (s : State) (b : Bank) (h : Fin 4) (v : Int) : TripsAlike s (s.cupChecked b h v) ∧
    (∀ sd, SideKept h sd s (s.cupChecked b h v)) ∧
    (s.cupChecked b h v).holders = upd s.holders h (s.holders[h].cupCheck b.holders[h].cupTol v).1 := by
  unfold State.cupChecked
  generalize s.holders[h].cupCheck b.holders[h].cupTol v = c
  have record : TripsAlike s (s.setHolder h c.1) ∧ (∀ sd, SideKept h sd s (s.setHolder h c.1)) :=
    ⟨⟨rfl, rfl, fun _ _ => .refl s _, ⟨rfl, rfl⟩, rfl, rfl⟩, fun sd => .of_same rfl rfl (.refl s _) (fun _ hc _ => hc) ⟨rfl, rfl⟩ rfl⟩
  dsimp only
  split
  · refine ⟨?_, fun sd => (record.2 sd).trans (State.raise_sideKept _ (srcLiftFault_ne_tripSource h h sd)), ?_⟩
    · rw [State.raise_setAttn]
      exact ⟨rfl, rfl, fun k sd => State.raise_notRaised (s.setHolder h c.1) (srcLiftFault_ne_tripSource h k sd).symm, ⟨rfl, rfl⟩, rfl, rfl⟩
    · exact (State.raise_only ..).holders
  · exact ⟨record.1, record.2, rfl⟩

theorem State.cupChecked_raised (hset : (s.holders[h].cupCheck b.holders[h].cupTol v).2.1 = true) :
    s.Raised (s.cupChecked b h v) (srcLiftFault h) := by
  unfold State.cupChecked
  dsimp only
  rw [if_pos hset]
  exact State.raise_raised (s.setHolder h _) (srcLiftFault h)

theorem State.cupChecked_unraised (hset : (s.holders[h].cupCheck b.holders[h].cupTol v).2.1 = false) :
    s.NotRaised (s.cupChecked b h v) (srcLiftFault h) := by
  unfold State.cupChecked
  dsimp only
  rw [if_neg (by rw [hset]; nofun)]
  exact .refl s _

/-- R16: a holder's reading of the point, where it changes LIFT FAULT. -/
theorem State.pointReading_faults (hh : a.holders[h] = s.holders[h]) (hf : s.Faults b p v q h) : State.pointReading b p v q h a =
    (a.cupChecked b h v).holderChange b h s.holders[h].count s.holders[h].count := by
  obtain ⟨hfit, hpoint, rfl, hc⟩ := hf
  unfold State.pointReading
  rw [if_pos (by rw [hfit, hpoint]; exact beq_self_eq_true _), State.cupReading_good, hh, if_pos hc]

theorem TripsAlike.of_holders (s : State) (hs : Vector HolderRec 4) : TripsAlike s { s with holders := hs } :=
  ⟨rfl, rfl, fun _ _ => .refl s _, ⟨rfl, rfl⟩, rfl, rfl⟩

/-- R16, R78: a reading that changes LIFT FAULT compares the holder's stops. -/
theorem State.pointReading_trips (alike : TripsAlike s a) (hh : a.holders[h] = s.holders[h]) (hf : s.Faults b p v q h) :
    s.Trips (State.pointReading b p v q h a) b h s.holders[h].count s.holders[h].count := by
  rw [State.pointReading_faults hh hf]
  exact alike.trips_from ((a.cupChecked_frame b h v).1.trips_from (State.holderChange_trips ..))

/-- R16: the record that a holder's reading of the point leaves. -/
theorem State.pointReading_holder (a : State) (b : Bank) (p : Fin 24) (v : Int) (q : Quality) (h : Fin 4) :
    (State.pointReading b p v q h a).holders[h] = if b.fitted h = true ∧ pointPlace b.holders[h].presPoint = some p ∧ q = .good then
      (a.holders[h].cupCheck b.holders[h].cupTol v).1 else a.holders[h] := by
  have checked : (a.cupChecked b h v).holders[h] = (a.holders[h].cupCheck b.holders[h].cupTol v).1 := by
    rw [(a.cupChecked_frame b h v).2.2]
    exact upd_at ..
  unfold State.pointReading
  by_cases hc : (b.fitted h && pointPlace b.holders[h].presPoint == some p) = true
  · obtain ⟨hf, hp⟩ := Bool.and_eq_true_iff.1 hc
    rw [if_pos hc]
    by_cases hq : q = .good
    · subst hq
      rw [if_pos ⟨hf, beq_iff_eq.1 hp, rfl⟩, State.cupReading_good]
      split
      · exact (congrArg (·[h]) (State.holderChange_only ..).holders).trans checked
      · exact checked
    · rw [State.cupReading_other _ _ _ _ hq, if_neg fun h => hq h.2.2]
  · rw [if_neg hc, if_neg fun ⟨hf, hp, _⟩ => hc (by rw [hf, hp]; exact beq_self_eq_true _)]

/-- R16: LIFT FAULT is raised by the reading that sets it, and by no other. -/
theorem State.pointReading_fault (a : State) (b : Bank) (p : Fin 24) (v : Int) (q : Quality) (h : Fin 4) :
    (b.fitted h = true ∧ pointPlace b.holders[h].presPoint = some p ∧ q = .good ∧ (a.holders[h].cupCheck b.holders[h].cupTol v).2.1 = true →
      a.Raised (State.pointReading b p v q h a) (srcLiftFault h)) ∧
    (¬(b.fitted h = true ∧ pointPlace b.holders[h].presPoint = some p ∧ q = .good ∧
        (a.holders[h].cupCheck b.holders[h].cupTol v).2.1 = true) →
      a.NotRaised (State.pointReading b p v q h a) (srcLiftFault h)) := by
  have unraised (x : State) (n : Nat) : x.NotRaised (x.holderChange b h n n) (srcLiftFault h) :=
    x.holderChange_notRaised b h h n n (.inr (.inr rfl))
  constructor
  · rintro ⟨hf, hp, rfl, hset⟩
    have hfaults : a.Faults b p v .good h := ⟨hf, hp, rfl, by unfold HolderRec.cupChanges; rw [hset]; rfl⟩
    rw [State.pointReading_faults rfl hfaults]
    exact (State.cupChecked_raised hset).after (unraised _ _)
  · intro hno
    unfold State.pointReading
    split
    next hc =>
      obtain ⟨hf, hp⟩ := Bool.and_eq_true_iff.1 hc
      by_cases hq : q = .good
      · subst hq
        have hset : (a.holders[h].cupCheck b.holders[h].cupTol v).2.1 = false :=
          Bool.eq_false_iff.2 fun hset => hno ⟨hf, beq_iff_eq.1 hp, rfl, hset⟩
        rw [State.cupReading_good]
        split
        · exact (State.cupChecked_unraised hset).trans (unraised _ _)
        · exact State.cupChecked_unraised hset
      · rw [State.cupReading_other _ _ _ _ hq]
        exact .refl a _
    next => exact .refl a _

/-! ## All readings of a point -/

/-- R16: LIFT FAULT is set by a reading of the point, from the records of a state. -/
def State.FaultSets (s : State) (b : Bank) (p : Fin 24) (v : Int) (q : Quality) (h : Fin 4) : Prop :=
  (b.fitted h = true ∧ b.holders[h].presPoint = p.val + 1 ∧ q = .good) ∧
    b.holders[h].cupTol < (v - s.holders[h].expected).natAbs ∧ s.holders[h].liftFault = false ∧ 2 ≤ s.holders[h].outRun

/-- R16: LIFT FAULT is cleared by a reading of the point, from the records of a state. -/
def State.FaultClears (s : State) (b : Bank) (p : Fin 24) (v : Int) (q : Quality) (h : Fin 4) : Prop :=
  (b.fitted h = true ∧ b.holders[h].presPoint = p.val + 1 ∧ q = .good) ∧
    ¬b.holders[h].cupTol < (v - s.holders[h].expected).natAbs ∧ s.holders[h].liftFault = true ∧ 2 ≤ s.holders[h].inRun

theorem State.faultSets_iff : (b.fitted h = true ∧ pointPlace b.holders[h].presPoint = some p ∧ q = .good ∧
    (s.holders[h].cupCheck b.holders[h].cupTol v).2.1 = true) ↔ s.FaultSets b p v q h := by
  unfold State.FaultSets
  rw [pointPlace_eq_some]
  generalize s.holders[h] = x
  generalize b.holders[h] = e
  by_cases ho : e.cupTol < (v - x.expected).natAbs
  · rw [HolderRec.cupCheck_outside ho]
    simp [ho, and_assoc]
  · rw [HolderRec.cupCheck_inside ho]
    simp [ho]

theorem State.faults_iff : s.Faults b p v q h ↔ s.FaultSets b p v q h ∨ s.FaultClears b p v q h := by
  unfold State.Faults State.FaultSets State.FaultClears HolderRec.cupChanges
  rw [pointPlace_eq_some]
  generalize s.holders[h] = x
  generalize b.holders[h] = e
  by_cases ho : e.cupTol < (v - x.expected).natAbs
  · rw [HolderRec.cupCheck_outside ho]
    simp [ho, and_assoc]
  · rw [HolderRec.cupCheck_inside ho]
    simp [ho, and_assoc]

/-- R16, R78: what the readings of a point leave. -/
structure State.PointRead (s t : State) (b : Bank) (p : Fin 24) (v : Int) (q : Quality) : Prop where
  faults : ∀ h, (s.FaultSets b p v q h → s.Raised t (srcLiftFault h)) ∧ (¬s.FaultSets b p v q h → s.NotRaised t (srcLiftFault h))
  quiet : (∀ h, ¬s.Faults b p v q h) → ∃ hs, t = { s with holders := hs }
  alone : ∀ h, s.Faults b p v q h → (∀ k, s.Faults b p v q k → k = h) → s.Trips t b h s.holders[h].count s.holders[h].count
  compared : ∀ h, s.Faults b p v q h → s.StopsCompared t b h s.holders[h].count
  kept : ∀ h, ¬s.Faults b p v q h → ∀ sd, t.perms[valveOf h sd] = s.perms[valveOf h sd]
  first : ∀ h sd, s.Faults b p v q h → (∀ k, s.Faults b p v q k → h ≤ k) → s.perms[valveOf h sd].granted = true →
    b.MeetsStop h sd s.holders[h].count → s.Tripped t h sd s.holders[h].count
  holders : ∀ h : Fin 4, t.holders[h] = if b.fitted h = true ∧ pointPlace b.holders[h].presPoint = some p ∧ q = .good then
    (s.holders[h].cupCheck b.holders[h].cupTol v).1 else s.holders[h]
  rest : CupKept s t

theorem Side.of_same (sd : Side) (n : Nat) : sd.of n n = n := ite_self _

/-- R78: the stops compared at a holder change whose count meets one of them. -/
theorem State.Trips.tripped {n : Nat} (k : s.Trips t b h n n) (hg : s.perms[valveOf h sd].granted = true) (hm : b.MeetsStop h sd n) :
    s.Tripped t h sd n := by
  obtain ⟨hlow, hhigh, -⟩ := k
  cases sd with
  | outlet => exact hlow hg (Bank.meetsStop_outlet.1 hm)
  | inlet => exact hhigh hg (Bank.meetsStop_inlet.1 hm)

theorem State.cupReadings_read (s : State) (b : Bank) (p : Fin 24) (v : Int) (q : Quality) : s.PointRead (s.cupReadings b p v q) b p v q := by
  have whole : CupSteps (fun _ => True) (s.Faults b p v q) s (s.cupReadings b p v q) :=
    (State.pointReadings_steps (s := s) b p v q (l := List.finRange 4) (by decide) fun _ _ => rfl).weaken (fun _ _ => trivial) fun _ hk => hk.2
  refine ⟨fun h => ?faults, fun hno => whole.cupRecords hno, fun h hf honly => ?alone, fun h hf sd => ?compared, fun h hf sd => ?kept,
    fun h sd hf hfirst hg hm => ?first, fun h => ?holders, whole.cupKept⟩
  case kept => exact (whole.cupSide hf sd).perm
  all_goals obtain ⟨a, pre, hh, post⟩ := s.cupReadings_at b p v q h
  case faults =>
    have hpre := pre.cupFault (h := h) fun hk => Fin.lt_irrefl h hk.1
    have hpost := post.cupFault (h := h) fun hk => Fin.lt_irrefl h hk.1
    obtain ⟨hraised, hun⟩ := a.pointReading_fault b p v q h
    rw [hh] at hraised hun
    rw [State.faultSets_iff] at hraised hun
    have keeps := (pre.cupKept).keeps
    exact ⟨fun hs => ((hraised hs).before hpre (congrArg _ keeps.tables)
      (congrArg (fun c : Clock => (⟨c.day, c.sec, c.valid⟩ : Occurrence)) keeps.clock)).after hpost,
      fun hs => (hpre.trans (hun hs)).trans hpost⟩
  case holders =>
    rw [post.cupHolder (Fin.lt_irrefl h), a.pointReading_holder, hh]
  case compared =>
    have own : s.StopCompared (State.pointReading b p v q h a) b h sd (sd.of s.holders[h].count s.holders[h].count) := by
      rw [State.pointReading_faults hh hf]
      exact ((State.holderChange_stop ..).before ((a.cupChecked_frame b h v).2.1 sd)).before
        (pre.cupSide (fun hk => Fin.lt_irrefl h hk.1) sd)
    rw [sd.of_same] at own
    exact own.after (post.cupSide (fun hk => Fin.lt_irrefl h hk.1) sd)
  case alone =>
    have trips : s.Trips (State.pointReading b p v q h a) b h s.holders[h].count s.holders[h].count := by
      obtain ⟨hs, ha⟩ := pre.cupRecords fun k hk => Fin.ne_of_lt hk.1 (honly k hk.2)
      exact State.pointReading_trips (ha ▸ .of_holders s hs) hh hf
    obtain ⟨hs, ht⟩ := post.cupRecords fun k hk => Fin.ne_of_gt hk.1 (honly k hk.2)
    rw [ht]
    exact trips
  case first =>
    have trips : s.Trips (State.pointReading b p v q h a) b h s.holders[h].count s.holders[h].count := by
      obtain ⟨hs, ha⟩ := pre.cupRecords fun k hk => Fin.not_lt.2 (hfirst k hk.2) hk.1
      exact State.pointReading_trips (ha ▸ .of_holders s hs) hh hf
    have trip := trips.tripped hg hm
    exact trip.stands ((post.cupSide (fun hk => Fin.lt_irrefl h hk.1) sd).stands (by rw [trip.1]))

/-! ## The obligation -/

theorem pointUsable_iff : pointUsable v q = true ↔ q ≠ .fault ∧ -400 ≤ v ∧ v ≤ 3000 := by
  simp [pointUsable, and_assoc]

theorem exec_pointReport_routed (hon : s.power = .on) (hlive : s.live = some b) {src : Byte} (hres : b.resolve src.toNat = some (.point p))
    {code : Byte} (hq : Quality.ofCode code.toNat = some q) (dest : Byte) (value : Half) : exec (.pointReport dest src value code) s =
      .next ((s.passed dest src kindReport (halfBytes value ++ [code])).pointReport b p value.toInt q) := by
  rw [exec_pointReport hon, State.receiveReport_routed hlive hres]
  unfold State.routeTo
  rw [pointBody_half, hq]
  rfl

/-- Settles O35: the readings of each holder, between those of the holders before and after it. -/
theorem pointReport : Obligations.PointReport := by
  intro s b p dest src value code q hon hlive hres hq v
  have hexec := exec_pointReport_routed hon hlive hres hq dest value
  unfold State.pointReport at hexec
  constructor
  · intro hno
    rw [hexec, if_neg fun hu => ?_]
    · rfl
    · obtain ⟨h1, h2, h3⟩ := pointUsable_iff.1 hu
      rcases hno with h | h | h
      · exact h1 h
      · exact Int.not_lt.2 h2 h
      · exact Int.not_lt.2 h3 h
  · intro h1 h2 h3
    rw [if_pos (pointUsable_iff.2 ⟨h1, h2, h3⟩)] at hexec
    obtain ⟨hfaults, hquiet, halone, hcompared, hkept, hfirst, hholders, hrest⟩ :=
      State.cupReadings_read (((s.passed dest src kindReport (halfBytes value ++ [code]))).setPoint p (s.points[p].take v q s.timebase)) b p v q
    have alike : TripsAlike s ((s.passed dest src kindReport (halfBytes value ++ [code])).setPoint p (s.points[p].take v q s.timebase)) :=
      ⟨rfl, rfl, fun _ _ => .refl s _, ⟨rfl, rfl⟩, rfl, State.forward_lost ..⟩
    obtain ⟨ds, heq, hds⟩ := State.endOfMain_eq ((((s.passed dest src kindReport (halfBytes value ++ [code]))).setPoint p
      (s.points[p].take v q s.timebase)).cupReadings b p v q) b p v
    obtain ⟨keeps, hdistricts, hnv, hlogs, -⟩ := hrest
    refine ⟨_, hexec.trans (congrArg Host.Outcome.next heq), ?_⟩
    dsimp only
    simp only [State.faults_iff] at hquiet halone hcompared hkept hfirst
    refine ⟨hfaults, fun hno => ?_, fun h hch honly => alike.trips_from (halone h hch honly),
      fun h => ⟨hcompared h, fun hns hnc => hkept h fun hch => hch.elim hns hnc⟩,
      fun h sd hch hall hg hm => alike.withdrawn (hfirst h sd hch hall hg hm), keeps.points, fun h => ⟨fun hno => ?_, fun hf hp hg => ?_⟩,
      fun d => ⟨fun hno => ?_, fun hu he => ?_⟩, keeps.timebase, keeps.clock, keeps.tables, keeps.channels, keeps.barometer, keeps.calorimeter,
      hnv, hlogs⟩
    · obtain ⟨hs, hsame⟩ := hquiet fun h hch => hch.elim (hno h).1 (hno h).2
      rw [hsame]
      exact ⟨rfl, rfl, rfl, rfl, rfl, rfl⟩
    · refine (hholders h).trans (if_neg ?_)
      rw [pointPlace_eq_some]
      rintro ⟨hf, hp, hg⟩
      rcases hno with hno | hno | hno
      · exact Bool.false_ne_true (hno.symm.trans hf)
      · exact hno hp
      · exact hno hg
    · have hrec := (hholders h).trans (if_pos ⟨hf, pointPlace_eq_some.2 hp, hg⟩)
      split
      · next ho => exact hrec.trans (congrArg Prod.fst (HolderRec.cupCheck_outside ho))
      · next ho => exact hrec.trans (congrArg Prod.fst (HolderRec.cupCheck_inside ho))
    · refine (hds d).trans ((if_neg fun hc => ?_).trans (congrArg (·[d]) hdistricts))
      obtain ⟨hu, he⟩ := Bool.and_eq_true_iff.1 hc
      rcases hno with hno | hno
      · exact Bool.false_ne_true (hno.symm.trans hu)
      · exact hno (pointPlace_eq_some.1 (beq_iff_eq.1 he))
    · refine (hds d).trans ((if_pos ?_).trans (congrArg (fun x : Vector DistrictRec 6 => x[d].endReport b.districts[d] v) hdistricts))
      rw [hu, pointPlace_eq_some.2 he]
      exact beq_self_eq_true _

end Sys2Proof.Machine

/-! # Settled: MeterIncrement and MeterReference

Meter reports (R26 to R37), and what an increment hands to the open interval (R55, R130). -/

namespace Sys2Proof.Machine

variable {s : State} {b : Bank} {m : Fin 12} {c : ChannelRec} {e : MeterEntry} {x : MeterIn} {d : Nat}

theorem meterBody_halves (register pulseTime : Half) :
    meterBody (halfBytes register ++ halfBytes pulseTime) = some (register.toNat, pulseTime.toNat) :=
  congrArg some (Prod.ext (natOf_half register) (natOf_half pulseTime))

theorem exec_meterReport_routed (hon : s.power = .on) (hlive : s.live = some b) {src : Byte} (hres : b.resolve src.toNat = some (.meter m))
    (dest : Byte) (register pulseTime : Half) : exec (.meterReport dest src register pulseTime) s =
      .next ((s.passed dest src kindReport (halfBytes register ++ halfBytes pulseTime)).takeMeter b m register.toNat pulseTime.toNat) := by
  rw [exec_meterReport hon, State.receiveReport_routed hlive hres]
  unfold State.routeTo
  rw [meterBody_halves]

/-! ## A report with the reference absent, and one that jumps -/

theorem State.takeMeter_first (hu : b.meters[m].inUse = true) (href : s.channels[m].reference = none) (register pulseTime : Nat) :
    s.takeMeter b m register pulseTime = s.setChannel m (s.channels[m].first s.loop.lost ⟨register, pulseTime, s.timebase⟩) := by
  unfold State.takeMeter
  dsimp only
  rw [if_pos hu, href]

theorem State.takeMeter_jump (hu : b.meters[m].inUse = true) {ref : Nat} (href : s.channels[m].reference = some ref)
    (hw : s.channels[m].waiver = false) (register pulseTime : Nat) (hd : b.meters[m].maxPulses < increment register ref) :
    s.takeMeter b m register pulseTime = ((s.setChannel m (s.channels[m].jumped s.loop.lost ref ⟨register, pulseTime, s.timebase⟩)).raise
      (srcMeterJump m)).channelFlag m { ChannelFlags.none with jump := true } := by
  unfold State.takeMeter
  dsimp only
  rw [if_pos hu, href]
  exact if_pos ⟨hw, hd⟩

/-- Settles O34: a report without a reference by the channel's state, and one with a jump. -/
theorem meterReference : Obligations.MeterReference := by
  intro s b m dest src register pulseTime hon hlive hres hu p opened noted
  have hexec := exec_meterReport_routed hon hlive hres dest register pulseTime
  have hlost : p.loop.lost = s.loop.lost := State.forward_lost ..
  constructor
  · intro href
    rw [hexec, State.takeMeter_first (s := p) hu href, hlost]
    refine congrArg Host.Outcome.next (congrArg (p.setChannel m) ?_)
    show s.channels[m].first s.loop.lost ⟨register.toNat, pulseTime.toNat, s.timebase⟩ = _
    dsimp only [noted, opened]
    generalize s.channels[m] = c
    obtain ⟨state, reference, waiver, window, rate, rateTime, stallStart, lastReport, lastJump⟩ := c
    cases state with
    | waiting => cases s.loop.lost <;> rfl
    | measuring => cases s.loop.lost <;> cases window <;> rfl
    | stalled => rfl
  · intro ref href hw hd jumped
    rw [hexec, State.takeMeter_jump (s := p) hu href hw _ _ hd, hlost]
    rfl

/-! ## An increment -/

theorem YardFlags.none_cvDeclared : { YardFlags.none with cvDeclared := false } = YardFlags.none := rfl

/-- R55, R130: the open interval after an increment `d`, and after the waiver that the report clears. -/
def OpenInterval.handed (iv : OpenInterval) (m : Fin 12) (d : Nat) (share : ChannelShare) (declared waiver : Bool) : OpenInterval :=
  { iv with
    channels := if 0 < d then upd iv.channels m share else iv.channels,
    yard := (iv.yard.union { YardFlags.none with cvDeclared := decide (0 < d) && declared }).union { YardFlags.none with loopLost := waiver } }

/-- R27, R29, R37: a report with a reference whose increment is plausible, or taken under the waiver. -/
theorem State.takeMeter_taken (hu : b.meters[m].inUse = true) {ref : Nat} (href : s.channels[m].reference = some ref)
    {register pulseTime : Nat} (hd : s.channels[m].waiver = true ∨ increment register ref ≤ b.meters[m].maxPulses) {iv : OpenInterval}
    (hiv : s.accounts.interval = some iv) : s.takeMeter b m register pulseTime = { s with
      channels := upd s.channels m
        (s.channels[m].advance b.meters[m] s.loop.lost (increment register ref) ⟨register, pulseTime, s.timebase⟩),
      accounts := { s.accounts with interval := some (iv.handed m (increment register ref)
        (iv.channels[m].gain (increment register ref) (increment register ref * b.meters[m].k)
          (s.meterFactor b b.meters[m].tempPoint b.meters[m].presPoint).1 (s.cvInForce b)
          (s.meterFactor b b.meters[m].tempPoint b.meters[m].presPoint).2) (!s.cvFresh) s.channels[m].waiver) } } := by
  have hno : ¬(s.channels[m].waiver = false ∧ b.meters[m].maxPulses < increment register ref) := by
    rintro ⟨hw, hlt⟩
    rcases hd with hd | hd
    · exact Bool.false_ne_true (hw.symm.trans hd)
    · exact Nat.not_lt.2 hd hlt
  unfold State.takeMeter
  dsimp only
  rw [if_pos hu, href]
  dsimp only
  rw [if_neg hno]
  generalize increment register ref = d
  generalize s.channels[m].waiver = w
  have hset (c : ChannelRec) : (s.setChannel m c).accounts.interval = some iv := hiv
  unfold OpenInterval.handed
  by_cases hpos : 0 < d
  · rw [if_pos hpos, if_pos hpos, decide_eq_true hpos, Bool.true_and]
    unfold State.hand State.yardFlag State.mapInterval
    cases w with
    | true =>
      rw [if_pos rfl, hset]
      rfl
    | false =>
      rw [if_neg nofun, hset, show { YardFlags.none with loopLost := false } = YardFlags.none from rfl, YardFlags.union_none]
      rfl
  · rw [if_neg hpos, if_neg hpos, decide_eq_false hpos, Bool.false_and, YardFlags.none_cvDeclared, YardFlags.union_none]
    unfold State.yardFlag State.mapInterval
    cases w with
    | true =>
      rw [if_pos rfl, hset]
      rfl
    | false =>
      rw [if_neg nofun, show { YardFlags.none with loopLost := false } = YardFlags.none from rfl, YardFlags.union_none, ← hiv]
      rfl

/-! ## The channel record after an increment -/

theorem acc64_fits {n : Nat} (h : n < 2 ^ 64) : acc64 n = n := if_pos h

/-- What no increment changes of the record's other fields. -/
theorem ChannelRec.advance_reference (c : ChannelRec) (e : MeterEntry) (lost : Bool) (d : Nat) (x : MeterIn) :
    (c.advance e lost d x).reference = some x.register ∧ (c.advance e lost d x).lastReport = some ⟨x.register, x.pulseTime, x.arrival⟩ ∧
      (c.advance e lost d x).waiver = false ∧ (c.advance e lost d x).lastJump = c.lastJump := by
  have window (c : ChannelRec) : (c.actWindow e d x).reference = c.reference ∧ (c.actWindow e d x).lastReport = c.lastReport ∧
      (c.actWindow e d x).waiver = c.waiver ∧ (c.actWindow e d x).lastJump = c.lastJump := by
    unfold ChannelRec.actWindow
    split
    · exact ⟨rfl, rfl, rfl, rfl⟩
    · dsimp only
      split <;> exact ⟨rfl, rfl, rfl, rfl⟩
  unfold ChannelRec.advance
  dsimp only
  split
  · exact ⟨rfl, rfl, rfl, rfl⟩
  · split
    · exact ⟨rfl, rfl, rfl, rfl⟩
    · split <;> exact window _
    · split <;> exact ⟨rfl, rfl, rfl, rfl⟩

/-- R33, R34, R36: under LOOP_LOST, and WAITING, a report leaves the window, the rate and the stall start. -/
theorem ChannelRec.advance_held {lost : Bool} (h : lost = true ∨ c.state = .waiting) :
    c.advance e lost d x = { c.noted x with reference := some x.register } := by
  unfold ChannelRec.advance
  dsimp only
  rcases h with h | h
  · rw [if_pos h]
  · split
    · rfl
    · rw [h]

theorem ChannelRec.advance_stalled (h : c.state = .stalled) : c.advance e false d x = if 0 < d then
    { c.noted x with reference := some x.register, state := .measuring, window := some x.opens, stallStart := some x.arrival }
    else { c.noted x with reference := some x.register } := by
  unfold ChannelRec.advance
  dsimp only
  rw [if_neg nofun, h]

theorem ChannelRec.advance_measuring (h : c.state = .measuring) : c.advance e false d x =
    { ChannelRec.actWindow { c.noted x with reference := some x.register } e d x with
      stallStart := if 0 < d then some x.arrival else c.stallStart } := by
  have stall (c : ChannelRec) : { c.actWindow e d x with stallStart := c.stallStart } = c.actWindow e d x := by
    unfold ChannelRec.actWindow
    split
    · rfl
    · dsimp only
      split <;> rfl
  unfold ChannelRec.advance
  dsimp only
  rw [if_neg nofun, h]
  dsimp only
  split
  · rfl
  · exact (stall { c.noted x with reference := some x.register }).symm

/-- R30: an EMPTY window opens. -/
theorem ChannelRec.actWindow_empty (h : c.window = none) : c.actWindow e d x = { c with window := some x.opens } := by
  unfold ChannelRec.actWindow
  rw [h]

/-- R31, R32: a window OPEN counts the increment, and gives a rate where it closes. -/
theorem ChannelRec.actWindow_open {w : RateWindow} (h : c.window = some w) : c.actWindow e d x =
    if (e.nMin ≤ w.pulses + d ∨ (30000 ≤ x.arrival - w.startArrival ∧ 1 ≤ w.pulses + d)) ∧ w.elapsed x ≠ 0 then
      { c with rate := rateOf (w.pulses + d) e.k (w.elapsed x), rateTime := some x.arrival, window := some x.opens }
    else { c with window := some { w with pulses := w.pulses + d } } := by
  unfold ChannelRec.actWindow
  rw [h]
  exact ite_congr (by simp [RateWindow.closes, RateWindow.elapsed]) (fun _ => rfl) fun _ => rfl

/-- R55: what a channel's accumulators gain by an increment that they can hold. -/
theorem OpenInterval.handed_gain (iv : OpenInterval) (m : Fin 12) (d k factor cv : Nat) (f : InputFlags) (declared waiver : Bool)
    (hvolume : iv.channels[m].volume + d * k * factor < 2 ^ 64) (henergy : iv.channels[m].energy + d * k * factor * cv < 2 ^ 64) :
    (iv.handed m d (iv.channels[m].gain d (d * k) factor cv f) declared waiver).channels[m] = { iv.channels[m] with
      pulses := iv.channels[m].pulses + d, raw := iv.channels[m].raw + d * k, volume := iv.channels[m].volume + d * k * factor,
      energy := iv.channels[m].energy + d * k * factor * cv,
      flags := if 0 < d then iv.channels[m].flags.union f.toChannel else iv.channels[m].flags } := by
  unfold OpenInterval.handed
  dsimp only
  by_cases hd : 0 < d
  · rw [if_pos hd, if_pos hd]
    refine (upd_at ..).trans ?_
    unfold ChannelShare.gain
    rw [acc64_fits hvolume, acc64_fits henergy]
  · obtain rfl := Nat.eq_zero_of_not_pos hd
    rw [if_neg hd, if_neg hd, Nat.zero_mul, Nat.zero_mul, Nat.zero_mul]
    rfl

/-- R27, R29, R37: a report with an increment that is taken. -/
theorem exec_meterReport_taken (hon : s.power = .on) (hlive : s.live = some b) {src : Byte} (hres : b.resolve src.toNat = some (.meter m))
    (hu : b.meters[m].inUse = true) {ref : Nat} (href : s.channels[m].reference = some ref) {iv : OpenInterval}
    (hiv : s.accounts.interval = some iv) (dest : Byte) {register : Half} (pulseTime : Half)
    (hd : s.channels[m].waiver = true ∨ increment register.toNat ref ≤ b.meters[m].maxPulses) :
    exec (.meterReport dest src register pulseTime) s =
      .next { s.passed dest src kindReport (halfBytes register ++ halfBytes pulseTime) with
        channels := upd s.channels m (s.channels[m].advance b.meters[m] s.loop.lost (increment register.toNat ref)
          ⟨register.toNat, pulseTime.toNat, s.timebase⟩)
        accounts := { s.accounts with interval := some (iv.handed m (increment register.toNat ref)
          (iv.channels[m].gain (increment register.toNat ref) (increment register.toNat ref * b.meters[m].k)
            (s.meterFactor b b.meters[m].tempPoint b.meters[m].presPoint).1 (s.cvInForce b)
            (s.meterFactor b b.meters[m].tempPoint b.meters[m].presPoint).2) (!s.cvFresh) s.channels[m].waiver) } } := by
  have hlost : (s.passed dest src kindReport (halfBytes register ++ halfBytes pulseTime)).loop.lost = s.loop.lost := State.forward_lost ..
  rw [exec_meterReport_routed hon hlive hres, State.takeMeter_taken
    (s := s.passed dest src kindReport (halfBytes register ++ halfBytes pulseTime)) hu href hd hiv, hlost]
  rfl

/-- R55, R130: an increment of 0 without a waiver leaves the open interval. -/
theorem OpenInterval.handed_zero (iv : OpenInterval) (m : Fin 12) (share : ChannelShare) (declared : Bool) :
    iv.handed m 0 share declared false = iv := by
  show { iv with yard := (iv.yard.union YardFlags.none).union YardFlags.none } = iv
  rw [YardFlags.union_none, YardFlags.union_none]

/-- Settles O33: the case of the state splits what the record becomes; the accounts are those of `OpenInterval.handed`. -/
theorem meterIncrement : Obligations.MeterIncrement := by
  intro s b m iv dest src register pulseTime ref hon hlive hres hu href hiv e d factor cv hd hvolume henergy
  obtain ⟨hreference, hreport, hwaiver, hjump⟩ := s.channels[m].advance_reference e s.loop.lost d ⟨register.toNat, pulseTime.toNat, s.timebase⟩
  have hgain := iv.handed_gain m d e.k factor cv (s.meterFactor b e.tempPoint e.presPoint).2 (!s.cvFresh) s.channels[m].waiver hvolume henergy
  refine ⟨_, _, exec_meterReport_taken hon hlive hres hu href hiv dest pulseTime hd, hreference, hreport, hwaiver, hjump, rfl, rfl,
    fun hzero hw => ?_,
    ⟨_, rfl, rfl, fun hpos => ?_, fun k hk => ?_, congrArg ChannelShare.pulses hgain, congrArg ChannelShare.raw hgain,
      congrArg ChannelShare.volume hgain, congrArg ChannelShare.energy hgain, (congrArg ChannelShare.volumeIn hgain).trans rfl,
      (congrArg ChannelShare.energyIn hgain).trans rfl, rfl, rfl, rfl⟩, fun hh => ?held, fun hl hst => ?stalled, fun hl hst hw => ?opens,
    fun w hl hst hw => ?counts⟩
  · have hzero : increment register.toNat ref = 0 := hzero
    rw [hzero, hw, OpenInterval.handed_zero, ← hiv]
  · exact (congrArg ChannelShare.flags hgain).trans (if_pos hpos)
  · unfold OpenInterval.handed
    dsimp only
    split
    · exact upd_other _ _ _ _ hk.symm
    · rfl
  case held =>
    rw [ChannelRec.advance_held hh]
    exact ⟨rfl, rfl, rfl, rfl, rfl⟩
  case stalled =>
    rw [hl, ChannelRec.advance_stalled hst]
    by_cases hpos : 0 < increment register.toNat ref
    · rw [if_pos hpos]
      exact ⟨rfl, rfl, fun hzero => absurd hzero (Nat.ne_of_gt hpos), fun _ => ⟨rfl, rfl, rfl⟩⟩
    · rw [if_neg hpos]
      exact ⟨rfl, rfl, fun _ => ⟨hst, rfl, rfl⟩, fun h => absurd h hpos⟩
  case opens =>
    rw [hl, ChannelRec.advance_measuring hst, ChannelRec.actWindow_empty (c := { s.channels[m].noted _ with reference := _ }) hw]
    exact ⟨hst, rfl, rfl, rfl, rfl⟩
  case counts =>
    have hopen := ChannelRec.actWindow_open (c := { s.channels[m].noted ⟨register.toNat, pulseTime.toNat, s.timebase⟩ with
      reference := some register.toNat }) (e := e) (d := d) (x := ⟨register.toNat, pulseTime.toNat, s.timebase⟩) hw
    rw [hl, ChannelRec.advance_measuring hst]
    refine ⟨?_, rfl, ?_⟩
    · refine (congrArg ChannelRec.state hopen).trans ?_
      split <;> exact hst
    · by_cases hc : (e.nMin ≤ w.pulses + d ∨ (30000 ≤ s.timebase - w.startArrival ∧ 1 ≤ w.pulses + d)) ∧
          w.elapsed ⟨register.toNat, pulseTime.toNat, s.timebase⟩ ≠ 0
      · have hopen := hopen.trans (if_pos hc)
        exact (if_pos hc).mpr
          ⟨congrArg ChannelRec.rate hopen, congrArg ChannelRec.rateTime hopen, congrArg ChannelRec.window hopen⟩
      · have hopen := hopen.trans (if_neg hc)
        exact (if_neg hc).mpr ⟨(congrArg ChannelRec.rate hopen).trans rfl, (congrArg ChannelRec.rateTime hopen).trans rfl,
          congrArg ChannelRec.window hopen⟩

end Sys2Proof.Machine

/-! # Settled: Review

A district's review (R111 to R120): the stages, what it raises, and the SET it queues. -/

namespace Sys2Proof.Machine

variable {s t : State} {b : Bank} {d : Fin 6} {slot : Nat}

/-! ## The stages 1 to 6 -/

theorem State.pointRec_place (s : State) {n : Nat} {p : Fin 24} (hn : n = p.val + 1) : s.pointRec n = s.points[p] := by
  unfold State.pointRec
  rw [pointPlace_eq_some.2 hn]
  rfl

theorem State.districtRate_cases (s : State) (b : Bank) (e : DistrictEntry) :
    (e.meter = 0 → s.districtRate b e = 0) ∧
    ∀ m : Fin 12, e.meter = m.val + 1 →
      (b.meters[m].inUse = true → s.channels[m].state ≠ .waiting → s.districtRate b e = s.channels[m].rate) ∧
      (b.meters[m].inUse = false ∨ s.channels[m].state = .waiting → s.districtRate b e = 0) := by
  unfold State.districtRate
  refine ⟨fun h0 => ?_, fun m hm => ?_⟩
  · rw [placeOf_eq_none.2 (.inl h0)]
  · rw [placeOf_eq_some.2 hm]
    dsimp only
    refine ⟨fun hu hs => ?_, fun h => ?_⟩
    · rw [if_pos hu]
      cases hst : s.channels[m].state with
      | waiting => exact absurd hst hs
      | measuring => rfl
      | stalled => rfl
    · rcases h with h | h
      · rw [if_neg (by rw [h]; nofun)]
      · rw [h]
        exact ite_self 0

theorem DistrictRec.confirmed_cases (r : DistrictRec) {m : Nat} (hm : 0 < m) :
    (r.confirmed m = .low ↔ r.lowRun = m) ∧ (r.confirmed m = .high ↔ r.lowRun ≠ m ∧ r.highRun = m) := by
  unfold DistrictRec.confirmed
  by_cases hl : r.lowRun = m
  · rw [if_pos ⟨hl, hm⟩]
    exact ⟨iff_of_true rfl hl, iff_of_false nofun fun h => h.1 hl⟩
  · rw [if_neg fun h => hl h.1]
    by_cases hh : r.highRun = m
    · rw [if_pos ⟨hh, hm⟩]
      exact ⟨iff_of_false nofun hl, iff_of_true rfl ⟨hl, hh⟩⟩
    · rw [if_neg fun h => hh h.1]
      exact ⟨iff_of_false nofun hl, iff_of_false nofun fun h => hh h.2⟩

theorem DistrictEntry.trimmed_cases (e : DistrictEntry) (fresh : Bool) (c : Confirmed) (old : Nat) :
    (fresh = true → c = .low → e.trimmed fresh c old = min e.trimMax (old + e.trimStep)) ∧
    (fresh = true → c = .high → e.trimmed fresh c old = old - e.trimStep) ∧
    (fresh = false ∨ c = .none → e.trimmed fresh c old = old) := by
  refine ⟨?_, ?_, ?_⟩
  · rintro rfl rfl; rfl
  · rintro rfl rfl; rfl
  · rintro (rfl | rfl)
    · cases c <;> rfl
    · cases fresh <;> rfl

theorem DistrictEntry.scheduled_cases (e : DistrictEntry) (raw : Nat) :
    (raw < e.minSet → e.scheduled raw = (e.minSet, true)) ∧
    (e.minSet ≤ raw → e.maxSet < raw → e.scheduled raw = (e.maxSet, true)) ∧
    (e.minSet ≤ raw → raw ≤ e.maxSet → e.scheduled raw = (raw, false)) := by
  unfold DistrictEntry.scheduled
  refine ⟨fun h => if_pos h, fun h1 h2 => ?_, fun h1 h2 => ?_⟩
  · rw [if_neg (Nat.not_lt.2 h1), if_pos h2]
  · rw [if_neg (Nat.not_lt.2 h1), if_neg (Nat.not_lt.2 h2)]

/-- R117: the pressure of the holders is the lowest of those that send. -/
theorem State.holdersPressure_cases (s : State) (b : Bank) :
    ((∀ h, ¬(b.fitted h = true ∧ s.valves[valveOf h .outlet].state = .opened)) → s.holdersPressure b = none) ∧
    ∀ h, (b.fitted h = true ∧ s.valves[valveOf h .outlet].state = .opened) →
      (∀ k, (b.fitted k = true ∧ s.valves[valveOf k .outlet].state = .opened) → s.holders[h].expected ≤ s.holders[k].expected) →
      s.holdersPressure b = some s.holders[h].expected := by
  have mem (x : Nat) : x ∈ ((List.finRange 4).filterMap fun h =>
      if b.fitted h && s.valves[valveOf h .outlet].state == .opened then some s.holders[h].expected else none) ↔
      ∃ h, (b.fitted h = true ∧ s.valves[valveOf h .outlet].state = .opened) ∧ s.holders[h].expected = x := by
    rw [List.mem_filterMap]
    refine exists_congr fun h => ?_
    rw [and_iff_right (List.mem_finRange h)]
    by_cases hc : b.fitted h = true ∧ s.valves[valveOf h .outlet].state = .opened
    · rw [if_pos (by rw [hc.1, hc.2]; rfl), and_iff_right hc, Option.some.injEq]
    · refine iff_of_false (fun h => ?_) fun h => hc h.1
      split at h
      next hx =>
        obtain ⟨h1, h2⟩ := Bool.and_eq_true_iff.1 hx
        exact hc ⟨h1, beq_iff_eq.1 h2⟩
      next => exact nomatch h
  unfold State.holdersPressure
  refine ⟨fun hno => ?_, fun h hs hmin => ?_⟩
  · rw [List.min?_eq_none_iff, List.eq_nil_iff_forall_not_mem]
    intro x hx
    obtain ⟨h, hs, -⟩ := (mem x).1 hx
    exact hno h hs
  · rw [List.min?_eq_some_iff]
    refine ⟨(mem _).2 ⟨h, hs, rfl⟩, fun x hx => ?_⟩
    obtain ⟨k, hk, rfl⟩ := (mem x).1 hx
    exact hmin k hk

theorem limitTo_cases (headroom : Option Int) (target : Int) :
    (∀ x, headroom = some x → x < target → limitTo headroom target = (x, true)) ∧
    (headroom = none ∨ (∃ x, headroom = some x ∧ target ≤ x) → limitTo headroom target = (target, false)) := by
  refine ⟨?_, ?_⟩
  · rintro x rfl hx
    exact if_pos hx
  · rintro (rfl | ⟨x, rfl, hx⟩)
    · rfl
    · exact if_neg (Int.not_lt.2 hx)

/-- R117: the inlet pressure of a district, from its inlet point where that is FRESH, else from the holders. -/
theorem State.inletPressure_point (s : State) (b : Bank) {e : DistrictEntry} {p : Fin 24} (hp : e.inletPoint = p.val + 1)
    (hf : s.points[p].state = .fresh) : s.inletPressure b e = some (s.points[p].value.getD 0, .point) := by
  unfold State.inletPressure
  rw [s.pointRec_place hp]
  exact if_pos hf

theorem State.inletPressure_holders (s : State) (b : Bank) {e : DistrictEntry} {p : Fin 24} (hp : e.inletPoint = p.val + 1)
    (hf : s.points[p].state ≠ .fresh) : s.inletPressure b e = (s.holdersPressure b).map fun p => ((p : Int), .holders) := by
  unfold State.inletPressure
  rw [s.pointRec_place hp]
  exact if_neg hf

/-- R112 to R118: the stages of a review. -/
theorem State.stages_are (s : State) (b : Bank) (d : Fin 6) (slot : Nat) : s.StagesAre b d slot (s.stages b d slot) := by
  obtain ⟨hlow, hhigh, hmid⟩ := b.districts[d].scheduled_cases (b.schedule d slot)
  obtain ⟨hnone, hsome⟩ := s.holdersPressure_cases b
  refine {
    schedule := ⟨fun h => ?_, fun h1 h2 => ?_, fun h1 h2 => ?_⟩
    rate := s.districtRate_cases b b.districts[d]
    boost := rfl
    fresh := fun p hp => ?_
    confirmed := fun hm => s.districts[d].confirmed_cases hm
    trim := b.districts[d].trimmed_cases ..
    target4 := rfl
    inletPoint := fun p hp v hf hv => ?_
    inletHolders := fun p hp hf => ⟨fun hno => ?_, fun h hs hmin => ?_⟩
    target5 := ⟨fun x hx hlt => ?_, fun h => ?_⟩
    target6 := rfl
    bounds := fun hb => s.stages_target6_mem slot hb }
  · exact ⟨congrArg Prod.fst (hlow h), congrArg Prod.snd (hlow h)⟩
  · exact ⟨congrArg Prod.fst (hhigh h1 h2), congrArg Prod.snd (hhigh h1 h2)⟩
  · exact ⟨congrArg Prod.fst (hmid h1 h2), congrArg Prod.snd (hmid h1 h2)⟩
  · show ((s.pointRec b.districts[d].endPoint).state == .fresh) = true ↔ _
    rw [s.pointRec_place hp, beq_iff_eq]
  · have hin := s.inletPressure_point b hp hf
    rw [hv] at hin
    exact ⟨congrArg (Option.map Prod.snd) hin, congrArg (Option.map fun p : Int × InletSource => p.1 - (b.districts[d].minDrop : Int)) hin⟩
  · have hin := s.inletPressure_holders b hp hf
    rw [hnone hno] at hin
    exact ⟨congrArg (Option.map Prod.snd) hin, congrArg (Option.map fun p : Int × InletSource => p.1 - (b.districts[d].minDrop : Int)) hin⟩
  · have hin := s.inletPressure_holders b hp hf
    rw [hsome h hs hmin] at hin
    exact ⟨congrArg (Option.map Prod.snd) hin, congrArg (Option.map fun p : Int × InletSource => p.1 - (b.districts[d].minDrop : Int)) hin⟩
  · have hl := (limitTo_cases (s.stages b d slot).headroom (s.stages b d slot).target4).1 x hx hlt
    exact ⟨congrArg Prod.fst hl, congrArg Prod.snd hl⟩
  · have hl := (limitTo_cases (s.stages b d slot).headroom (s.stages b d slot).target4).2 h
    exact ⟨congrArg Prod.fst hl, congrArg Prod.snd hl⟩

/-! ## The unsent SET of a district -/

theorem LoopPort.unsentSet_none {l : LoopPort} : l.unsentSet d = none ↔ l.commands.any (·.isSet d) = false := by
  unfold LoopPort.unsentSet
  rw [List.findSome?_eq_none_iff, List.any_eq_false]
  refine forall_congr' fun c => forall_congr' fun _ => ?_
  cases c with
  | valve => exact iff_of_true rfl nofun
  | set e v => simp [Command.isSet]

/-- R120: a SET placed is the district's unsent SET. -/
theorem LoopPort.placeSet_unsent (l : LoopPort) (d : Fin 6) (x : Nat) : (l.placeSet d x).1.unsentSet d = some x := by
  have found (cs : List Command) (h : cs.any (·.isSet d) = true) :
      ((cs.map fun c => if c.isSet d then .set d x else c).findSome? fun c => match c with
        | .set e v => if e = d then some v else none
        | .valve _ _ _ _ _ => none) = some x := by
    induction cs with
    | nil => exact nomatch h
    | cons c cs ih =>
      rw [List.map_cons, List.findSome?_cons]
      cases hc : c.isSet d with
      | true => simp
      | false =>
        rw [List.any_cons, hc, Bool.false_or] at h
        have hskip : (match (if false = true then Command.set d x else c) with
            | .set e v => if e = d then some v else none
            | .valve _ _ _ _ _ => none) = none := by
          cases c with
          | valve => rfl
          | set e v => exact if_neg fun he => by simp [Command.isSet, he] at hc
        rw [hskip]
        exact ih h
  unfold LoopPort.placeSet
  split
  · next h => exact found _ h
  · next h =>
    unfold LoopPort.unsentSet
    have hnone := LoopPort.unsentSet_none.2 (Bool.eq_false_iff.2 h)
    unfold LoopPort.unsentSet at hnone
    rw [List.findSome?_append, hnone]
    simp

theorem LoopPort.placeSet_replaced (l : LoopPort) (d : Fin 6) (x : Nat) : (l.placeSet d x).2 = true ↔ l.unsentSet d ≠ none := by
  rw [Ne, LoopPort.unsentSet_none, Bool.not_eq_false]
  unfold LoopPort.placeSet
  split
  · next h => exact iff_of_true rfl h
  · next h => exact iff_of_false nofun h

/-! ## What a review raises and records -/

/-- A state whose attention list has taken occurrences in turn, and in which a district has a record. -/
def State.alarmed (s : State) (l : List (Fin 74)) (d : Fin 6) (r : DistrictRec) : State :=
  { s with attn := (s.raiseAll l).attn, districts := upd s.districts d r }

theorem State.raiseAll_attn_congr (ha : t.attn = s.attn) (hc : t.clock = s.clock) (ht : t.tables = s.tables) (l : List (Fin 74)) :
    (t.raiseAll l).attn = (s.raiseAll l).attn := by
  induction l generalizing s t with
  | nil => exact ha
  | cons x l ih =>
    rw [State.raiseAll_cons, State.raiseAll_cons]
    refine ih (State.raise_attn_congr ha hc ht x) ?_ ?_
    · rw [State.raise_setAttn t, State.raise_setAttn s]
      exact hc
    · rw [State.raise_setAttn t, State.raise_setAttn s]
      exact ht

theorem State.raiseAll_append (s : State) (l k : List (Fin 74)) : s.raiseAll (l ++ k) = (s.raiseAll l).raiseAll k := List.foldl_append ..

theorem State.alarmed_alarmed (s : State) (l k : List (Fin 74)) (d : Fin 6) (r r' : DistrictRec) :
    (s.alarmed l d r).alarmed k d r' = s.alarmed (l ++ k) d r' := by
  have hattn : ((s.alarmed l d r).raiseAll k).attn = (s.raiseAll (l ++ k)).attn := by
    rw [s.raiseAll_append]
    refine State.raiseAll_attn_congr (s := s.raiseAll l) (t := s.alarmed l d r) rfl ?_ ?_ k
    · rw [s.raiseAll_setAttn]; rfl
    · rw [s.raiseAll_setAttn]; rfl
  unfold State.alarmed at hattn ⊢
  rw [hattn, upd_upd]

theorem State.alarmed_record (s : State) (l : List (Fin 74)) (d : Fin 6) (r : DistrictRec) : (s.alarmed l d r).districts[d] = r := upd_at ..

/-- A source raised where `c` holds. -/
def raisedIf (c : Bool) (x : Fin 74) : List (Fin 74) := if c then [x] else []

theorem upd_same {α : Type} {n : Nat} (v : Vector α n) (i : Fin n) : upd v i v[i] = v := by
  refine Vector.ext fun j hj => ?_
  by_cases h : i = ⟨j, hj⟩
  · subst h
    exact upd_self ..
  · exact upd_other v i ⟨j, hj⟩ _ h

theorem State.setDistrict_alarmed (s : State) (c : Bool) (x : Fin 74) (d : Fin 6) (r : DistrictRec) :
    (if c then s.raise x else s).setDistrict d r = s.alarmed (raisedIf c x) d r := by
  unfold State.alarmed raisedIf
  cases c with
  | false => rfl
  | true =>
    rw [if_pos rfl, if_pos rfl, s.raise_setAttn]
    rfl

theorem State.raiseClamped_eq (s : State) (d : Fin 6) (sl : DaySlot) (clamped : Bool) : s.raiseClamped d sl clamped =
    s.alarmed (raisedIf (clamped && s.districts[d].clampSlot != some sl) srcScheduleClamped) d
      { s.districts[d] with clampSlot := if clamped then some sl else s.districts[d].clampSlot } := by
  rw [← s.setDistrict_alarmed]
  unfold State.raiseClamped
  cases clamped with
  | false =>
    show s = s.setDistrict d s.districts[d]
    unfold State.setDistrict
    rw [upd_same]
  | true =>
    cases hc : s.districts[d].clampSlot != some sl with
    | true => rfl
    | false =>
      have hsame : s.districts[d].clampSlot = some sl := by simpa using hc
      rw [if_pos rfl, ← hsame]
      exact (congrArg (fun ds => { s with districts := ds }) (upd_same s.districts d)).symm

/-- R112, R115, R118: the sources that a review raises. -/
def Stages.raises (g : Stages) (e : DistrictEntry) (r : DistrictRec) (d : Fin 6) (sl : DaySlot) : List (Fin 74) :=
  raisedIf (g.clamped && r.clampSlot != some sl) srcScheduleClamped ++
    (raisedIf (e.endLowHolds g.fresh g.confirmed g.trim && !r.endLowStanding) (srcEndLow d) ++
      raisedIf (g.short e && !r.shortStanding) (srcHeadroomShort d))

/-- R112 to R120: the record that a review leaves, but for what a SET sets and the last review. -/
def Stages.reviewed (g : Stages) (e : DistrictEntry) (r : DistrictRec) (sl : DaySlot) : DistrictRec :=
  { r with
    clampSlot := if g.clamped then some sl else r.clampSlot, endLowStanding := e.endLowHolds g.fresh g.confirmed g.trim,
    shortStanding := g.short e, trim := g.trim, headroom := g.limited, refresh := min 10 (r.refresh + 1) }

/-- R120: whether a review queues a SET, from the record before it. -/
def Stages.sends (g : Stages) (e : DistrictEntry) (r : DistrictRec) : Bool := r.sends e (min 10 (r.refresh + 1)) g.result

/-- R112 to R120: the record that a review at a time leaves; `replaced` says that a SET of the district was unsent. -/
def Stages.left (g : Stages) (e : DistrictEntry) (r : DistrictRec) (sl : DaySlot) (t : Nat) (replaced : Bool) : DistrictRec :=
  { g.reviewed e r sl with
    lastSent := if g.sends e r then some g.result else r.lastSent, refresh := if g.sends e r then 0 else min 10 (r.refresh + 1),
    sendDue := if g.sends e r then false else r.sendDue,
    lastReview := some (g.record t (if g.sends e r then (if replaced then .replaced else .placed) else .notSent)) }

/-- R120: what stage 8 leaves. -/
theorem State.sendStage_eq (s : State) (d : Fin 6) (e : DistrictEntry) (g : Stages) : s.sendStage d e g =
    { s with
      loop := if g.sends e s.districts[d] then (s.loop.placeSet d g.result).1 else s.loop
      districts := upd s.districts d { s.districts[d] with
        trim := g.trim, headroom := g.limited
        lastSent := if g.sends e s.districts[d] then some g.result else s.districts[d].lastSent
        refresh := if g.sends e s.districts[d] then 0 else min 10 (s.districts[d].refresh + 1)
        sendDue := if g.sends e s.districts[d] then false else s.districts[d].sendDue
        lastReview := some (g.record s.timebase (if g.sends e s.districts[d] then
          (if (s.loop.placeSet d g.result).2 then .replaced else .placed) else .notSent)) } } := by
  cases hs : g.sends e s.districts[d] with
  | true => exact if_pos hs
  | false => exact if_neg fun h => Bool.false_ne_true (hs.symm.trans h)

/-- R112 to R120: what a review leaves. -/
theorem State.review_eq (s : State) (b : Bank) (d : Fin 6) (sl : DaySlot) : s.review b d sl =
    let e := b.districts[d]
    let r := s.districts[d]
    let g := s.stages b d sl.slot
    { s.alarmed (g.raises e r d sl) d (g.left e r sl s.timebase (s.loop.placeSet d g.result).2) with
      loop := if g.sends e r then (s.loop.placeSet d g.result).1 else s.loop } := by
  have three (g : Stages) : ((s.raiseClamped d sl g.clamped).raiseEndLow d (b.districts[d].endLowHolds g.fresh g.confirmed g.trim)).raiseShort d
      (g.short b.districts[d]) = s.alarmed (g.raises b.districts[d] s.districts[d] d sl) d { s.districts[d] with
        clampSlot := if g.clamped then some sl else s.districts[d].clampSlot,
        endLowStanding := b.districts[d].endLowHolds g.fresh g.confirmed g.trim, shortStanding := g.short b.districts[d] } := by
    unfold State.raiseShort State.raiseEndLow
    rw [State.setDistrict_alarmed, State.setDistrict_alarmed, State.raiseClamped_eq, State.alarmed_alarmed, State.alarmed_alarmed,
      State.alarmed_record, State.alarmed_record]
    rfl
  unfold State.review
  dsimp only
  rw [three, State.sendStage_eq, State.alarmed_record]
  unfold State.alarmed
  dsimp only
  rw [upd_upd]
  rfl

/-! ## The obligation -/

theorem State.stages_timer (s : State) (b : Bank) (d : Fin 6) (slot : Nat) (x : Option Nat) :
    (s.setDistrict d { s.districts[d] with reviewTimer := x }).stages b d slot = s.stages b d slot := by
  have hd : (s.setDistrict d { s.districts[d] with reviewTimer := x }).districts[d] = { s.districts[d] with reviewTimer := x } := upd_at ..
  unfold State.stages
  rw [hd]
  rfl

/-- R112, R115, R118: the three sources of a review differ. -/
theorem review_sources (d : Fin 6) : srcScheduleClamped ≠ srcEndLow d ∧ srcScheduleClamped ≠ srcHeadroomShort d ∧
    srcEndLow d ≠ srcHeadroomShort d := by
  revert d; decide

theorem count_raisedIf (c : Bool) (x y : Fin 74) : (raisedIf c x).count y = if c = true ∧ x = y then 1 else 0 := by
  unfold raisedIf
  cases c with
  | false => simp
  | true => simp [List.count_singleton]

/-- R112, R115, R118: how often a review raises each source. -/
theorem Stages.count_raises (g : Stages) (e : DistrictEntry) (r : DistrictRec) (d : Fin 6) (sl : DaySlot) :
    (g.raises e r d sl).count srcScheduleClamped = (if (g.clamped && r.clampSlot != some sl) = true then 1 else 0) ∧
    (g.raises e r d sl).count (srcEndLow d) =
      (if (e.endLowHolds g.fresh g.confirmed g.trim && !r.endLowStanding) = true then 1 else 0) ∧
    (g.raises e r d sl).count (srcHeadroomShort d) = (if (g.short e && !r.shortStanding) = true then 1 else 0) ∧
    ∀ x, x ∉ [srcScheduleClamped, srcEndLow d, srcHeadroomShort d] → (g.raises e r d sl).count x = 0 := by
  obtain ⟨h1, h2, h3⟩ := review_sources d
  unfold Stages.raises
  simp only [List.count_append, count_raisedIf]
  refine ⟨?_, ?_, ?_, fun x hx => ?_⟩
  · simp [h1.symm, h2.symm]
  · simp [h1, h3.symm]
  · simp [h2, h3]
  · simp only [List.mem_cons, List.not_mem_nil, or_false, not_or] at hx
    simp [Ne.symm hx.1, Ne.symm hx.2.1, Ne.symm hx.2.2]

theorem DistrictEntry.endLowHolds_iff {e : DistrictEntry} {fresh : Bool} {c : Confirmed} {n : Nat} :
    e.endLowHolds fresh c n = true ↔ fresh = true ∧ c = .low ∧ n = e.trimMax := by
  simp [DistrictEntry.endLowHolds, and_assoc]

theorem Stages.short_iff {g : Stages} {e : DistrictEntry} :
    g.short e = true ↔ g.limited = true ∧ ∃ x, g.headroom = some x ∧ x < (e.minSet : Int) := by
  unfold Stages.short
  cases g.headroom with
  | none => simp
  | some x => simp

theorem Stages.sends_iff {g : Stages} {r : DistrictRec} {e : DistrictEntry} : g.sends e r = true ↔
    ∃ l : Nat, r.lastSent = some l ∧
      (e.deadband ≤ ((g.result : Int) - l).natAbs ∨ min 10 (r.refresh + 1) = 10 ∨ r.sendDue = true) := by
  unfold Stages.sends DistrictRec.sends
  cases r.lastSent with
  | none => simp
  | some l => simp [or_assoc]

theorem exec_reviewTimerExpiry (hon : s.power = .on) (hlive : s.live = some b) (hu : b.districts[d].used = true) {e : Nat}
    (ht : s.districts[d].reviewTimer = some e) : exec (.reviewTimerExpiry d) s = .next ((s.passTo e).reviewExpired b d) := by
  refine (State.onTime_on hon _).trans (congrArg _ ?_)
  unfold State.reviewDone
  rw [hlive, ht]
  exact if_pos hu

/-- R111 to R120: what the expiry of a review timer leaves, with the clock VALID and the loop UP. -/
theorem exec_review_left (hon : s.power = .on) (hlive : s.live = some b) (hu : b.districts[d].used = true) {x : Nat}
    (ht : s.districts[d].reviewTimer = some x) {sl : DaySlot} (hv : s.clock.valid = true) (hl : s.loop.lost = false)
    (hslot : s.clock.slot = some sl) :
    let p := s.passTo x
    let e := b.districts[d]
    let r := s.districts[d]
    let g := p.stages b d sl.slot
    ∃ t, exec (.reviewTimerExpiry d) s = .next t ∧
      t.districts = upd s.districts d { g.left e r sl p.timebase (s.loop.placeSet d g.result).2 with
        reviewTimer := some (p.timebase + 60000) } ∧
      t.loop = (if g.sends e r then (s.loop.placeSet d g.result).1 else s.loop) ∧
      (∀ y, p.RaisedTimes t y ((g.raises e r d sl).count y)) ∧ p.Keeps t ∧ t.holders = s.holders ∧ t.valves = s.valves ∧
      t.perms = s.perms ∧ t.prog = s.prog ∧ t.accounts = s.accounts ∧ t.nv = s.nv := by
  intro p e r g
  have hexec := exec_reviewTimerExpiry hon hlive hu ht
  unfold State.reviewExpired at hexec
  rw [show (s.passTo x).clock.valid = true from (State.passTo_valid x).trans hv, show (s.passTo x).loop.lost = false from hl,
    show (s.passTo x).clock.slot = some sl from (Clock.advance_slot ..).trans hslot] at hexec
  dsimp only at hexec
  have hr : (p.setDistrict d { p.districts[d] with reviewTimer := some (p.timebase + Config.reviewTime) }).districts[d] =
      { r with reviewTimer := some (p.timebase + 60000) } := upd_at ..
  have hg : (p.setDistrict d { p.districts[d] with reviewTimer := some (p.timebase + Config.reviewTime) }).stages b d sl.slot = g :=
    p.stages_timer b d sl.slot _
  rw [State.review_eq] at hexec
  dsimp only at hexec
  rw [hg, hr] at hexec
  refine ⟨_, hexec, upd_upd .., rfl, fun y => ?_, ⟨rfl, rfl, rfl, rfl, rfl, rfl, rfl, rfl, rfl, rfl⟩, rfl, rfl, rfl, rfl, rfl, rfl⟩
  exact State.raiseAll_times (p.setDistrict d _) (g.raises e { r with reviewTimer := some (p.timebase + 60000) } d sl) y

theorem State.RaisedTimes.once {c : Bool} {x : Fin 74} (h : s.RaisedTimes t x (if c = true then 1 else 0)) :
    (c = true → s.Raised t x) ∧ (c = false → s.NotRaised t x) := by
  refine ⟨?_, ?_⟩
  · rintro rfl
    exact h.one
  · rintro rfl
    exact h.notRaised

/-- Settles O43, by whether the review runs, and then stage by stage. -/
theorem review : Obligations.Review := by
  intro s b d e hon hlive hu htimer p
  constructor
  · intro hno
    have hexec := exec_reviewTimerExpiry hon hlive hu htimer
    have hvalid : p.clock.valid = s.clock.valid := State.passTo_valid e
    unfold State.reviewExpired at hexec
    rw [hexec]
    show Host.Outcome.next (match p.clock.valid, s.loop.lost, p.clock.slot with
      | true, false, some sl => State.review _ b d sl
      | _, _, _ => _) = _
    rw [hvalid]
    rcases hno with hv | hl
    · rw [hv]
      rfl
    · rw [hl]
      cases s.clock.valid <;> rfl
  · intro sl hv hl hslot
    obtain ⟨t, hexec, hdistricts, hloop, htimes, hkeeps, hrest⟩ := exec_review_left hon hlive hu htimer hv hl hslot
    obtain ⟨hclamped, hendLow, hshort, hother⟩ := (p.stages b d sl.slot).count_raises b.districts[d] s.districts[d] d sl
    refine ⟨t, hexec, ?_⟩
    have hrec := (congrArg (·[d]) hdistricts).trans (upd_at ..)
    dsimp only at hrec
    have hends := Stages.sends_iff (g := p.stages b d sl.slot) (r := s.districts[d]) (e := b.districts[d])
    have hlow := DistrictEntry.endLowHolds_iff (e := b.districts[d]) (fresh := (p.stages b d sl.slot).fresh)
      (c := (p.stages b d sl.slot).confirmed) (n := (p.stages b d sl.slot).trim)
    have hsh := Stages.short_iff (g := p.stages b d sl.slot) (e := b.districts[d])
    have hstages := p.stages_are b d sl.slot
    have hreplaced := s.loop.placeSet_replaced d (p.stages b d sl.slot).result
    have hunsent := s.loop.placeSet_unsent d (p.stages b d sl.slot).result
    dsimp only
    rw [← hends, ← hlow, ← hsh]
    generalize p.stages b d sl.slot = g at *
    have hclamped := (hclamped ▸ htimes srcScheduleClamped).once
    have hendLow := (hendLow ▸ htimes (srcEndLow d)).once
    have hshort := (hshort ▸ htimes (srcHeadroomShort d)).once
    refine ⟨hstages, fun h1 h2 => ?_, fun hno => ?_, by rw [hrec]; exact Iff.rfl, fun h1 h2 => hendLow.1 (by rw [h1, h2]; rfl),
      fun hno => hendLow.2 ?_, by rw [hrec]; exact Iff.rfl, fun h1 h2 => hshort.1 (by rw [h1, h2]; rfl), fun hno => hshort.2 ?_,
      by rw [hrec], by rw [hrec]; rfl, by rw [hrec]; rfl, fun x hx => ?_, ⟨_, by rw [hrec]; rfl, fun h1 h2 => ?_, fun h1 h2 => ?_, fun hno => ?_⟩,
      by rw [hrec]; rfl, by rw [hrec]; rfl, by rw [hrec]; rfl, fun h1 => ⟨?_, ?_, ?_, ?_⟩, fun hno => ⟨?_, ?_, ?_, ?_⟩, fun k hk => ?_, hkeeps, hrest⟩
    · refine ⟨hclamped.1 (by rw [h1, bne_iff_ne.2 h2]; rfl), ?_⟩
      rw [hrec]
      exact if_pos h1
    · rcases hno with h | h
      · refine ⟨hclamped.2 (by rw [h]; rfl), ?_⟩
        rw [hrec]
        exact if_neg (by rw [h]; nofun)
      · refine ⟨hclamped.2 (by rw [h]; simp), ?_⟩
        rw [hrec]
        show (if g.clamped = true then some sl else s.districts[d].clampSlot) = s.districts[d].clampSlot
        rw [h]
        exact ite_self _
    · rcases hno with h | h
      · rw [Bool.eq_false_iff.2 h, Bool.false_and]
      · rw [h, Bool.not_true, Bool.and_false]
    · rcases hno with h | h
      · rw [Bool.eq_false_iff.2 h, Bool.false_and]
      · rw [h, Bool.not_true, Bool.and_false]
    · have ht := htimes x
      rw [hother x hx] at ht
      exact ht.notRaised
    · rw [if_pos h1, if_neg fun h => hreplaced.1 h h2]
    · rw [if_pos h1, if_pos (hreplaced.2 h2)]
    · rw [if_neg hno]
    · rw [hrec]
      exact if_pos h1
    · rw [hrec]
      exact if_pos h1
    · rw [hrec]
      exact if_pos h1
    · rw [hloop, if_pos h1]
      exact hunsent
    · rw [hrec]
      exact if_neg hno
    · rw [hrec]
      exact if_neg hno
    · rw [hrec]
      exact if_neg hno
    · rw [hloop, if_neg hno]
    · rw [hdistricts]
      exact upd_other _ _ _ _ hk.symm

end Sys2Proof.Machine

/-! # The programme's choices and the end of a transition

Who is outgoing and who is incoming (R93, R94, R96), the records of the roles, and the end of a transition (R99). -/

namespace Sys2Proof.Machine

variable {s t u : State} {b : Bank} {h c o : Fin 4} {sd : Side} {r : Role}

/-! ## Outgoing and incoming holders -/

theorem State.outgoingMeets_iff : s.outgoingMeets b sd h = true ↔ s.Outgoing b sd h := by
  unfold State.outgoingMeets State.Outgoing State.roleRec
  cases sd with
  | outlet => simp [RoleRec.mark, and_assoc]
  | inlet => simp [RoleRec.mark, and_assoc]

/-- R93, R94: the first holder that meets the conditions. -/
theorem State.findOutgoing_some (h : s.FirstOutgoing b sd o) : s.findOutgoing b sd = some o := by
  obtain ⟨ho, before, after, hlist, hbefore⟩ := h
  unfold State.findOutgoing
  rw [hlist, List.find?_eq_some_iff_append]
  exact ⟨State.outgoingMeets_iff.2 ho, before, after, rfl, fun k hk =>
    Bool.not_eq_true' _ ▸ Bool.eq_false_iff.2 fun hm => hbefore k hk (State.outgoingMeets_iff.1 hm)⟩

theorem State.findOutgoing_none (hno : ∀ h, ¬s.Outgoing b sd h) : s.findOutgoing b sd = none := by
  unfold State.findOutgoing
  rw [List.find?_eq_none]
  exact fun k _ hm => hno k (State.outgoingMeets_iff.1 hm)

/-- R93, R94: the gained role of a holder that qualifies. -/
theorem State.incomingRole_some (h : s.Incoming b sd c r) : s.incomingRole b sd c = some (r.gain sd) := by
  obtain ⟨hrole, havail, hcount⟩ := h
  unfold State.incomingRole State.roleRec
  rw [hrole]
  dsimp only
  rw [havail, Bool.true_and]
  refine if_pos ?_
  cases sd with
  | outlet => exact decide_eq_true (by simpa using hcount)
  | inlet =>
    have hcount : s.holders[c].count + b.holders[c].changeover ≤ b.holders[c].nearFull := by simpa using hcount
    exact decide_eq_true (show (s.holders[c].count : Int) ≤ (b.holders[c].nearFull : Int) - b.holders[c].changeover by omega)

theorem State.incomingRole_none (hno : ∀ q, ¬s.Incoming b sd c q) : s.incomingRole b sd c = none := by
  unfold State.incomingRole State.roleRec
  cases hrole : s.prog.roles[c].role with
  | none => rfl
  | some q =>
    dsimp only
    refine if_neg fun hm => hno q ?_
    obtain ⟨havail, hcount⟩ := Bool.and_eq_true_iff.1 hm
    refine ⟨hrole, havail, ?_⟩
    cases sd with
    | outlet => exact (if_pos rfl).mpr (of_decide_eq_true hcount)
    | inlet =>
      have hcount : (s.holders[c].count : Int) ≤ (b.holders[c].nearFull : Int) - b.holders[c].changeover := of_decide_eq_true hcount
      refine (if_neg nofun).mpr (show s.holders[c].count + b.holders[c].changeover ≤ b.holders[c].nearFull by omega)

/-- R93, R94, R96: the first of a list that qualifies. -/
theorem State.findIncoming_some {out : Option (Fin 4)} {l : List (Fin 4)} (h : s.FirstIncoming b sd out l c r) :
    s.findIncoming b sd out l = some (c, r.gain sd) := by
  obtain ⟨hout, hin, before, after, rfl, hbefore⟩ := h
  induction before with
  | nil =>
    show s.findIncoming b sd out (c :: after) = _
    unfold State.findIncoming
    rw [if_neg hout, State.incomingRole_some hin]
  | cons k l ih =>
    have hrest := ih fun j hj => hbefore j (.tail _ hj)
    show s.findIncoming b sd out (k :: (l ++ c :: after)) = _
    unfold State.findIncoming
    rcases hbefore k (.head _) with hk | hk
    · rw [if_pos hk]
      exact hrest
    · rw [State.incomingRole_none hk]
      dsimp only
      rw [hrest]
      exact ite_self _

theorem State.findIncoming_none {out : Option (Fin 4)} {l : List (Fin 4)} (hno : ∀ c r, c ∈ l → some c ≠ out → ¬s.Incoming b sd c r) :
    s.findIncoming b sd out l = none := by
  induction l with
  | nil => rfl
  | cons k l ih =>
    have hrest := ih fun c r hc => hno c r (.tail _ hc)
    unfold State.findIncoming
    by_cases hk : some k = out
    · rw [if_pos hk]
      exact hrest
    · rw [if_neg hk, State.incomingRole_none fun q => hno k q (.head _) hk]
      exact hrest

/-- R96: the places of an order after a holder that it names. -/
theorem placesAfter_split {order before after : List (Fin 4)} (ho : order = before ++ h :: after) (hb : h ∉ before) :
    placesAfter h order = after := by
  subst ho
  unfold placesAfter
  rw [if_pos (by simp)]
  have hdrop : (before ++ h :: after).dropWhile (fun k => decide (k ≠ h)) = h :: after := by
    have hpos : ∀ k ∈ before, decide (k ≠ h) = true := fun k hk => decide_eq_true fun e : k = h => hb (e ▸ hk)
    rw [List.dropWhile_append_of_pos hpos]
    exact List.dropWhile_cons_of_neg (by simp)
  exact congrArg (List.drop 1) hdrop

/-- R93, R94: a holder already asked to do a side's work, and one that is not. -/
theorem State.givesOpen_true (hrole : s.prog.roles[c].role = some r) (ha : r.asksOpen sd = false)
    (hv : s.valves[valveOf c sd].state ≠ .opened) : s.givesOpen sd c = true := by
  unfold State.givesOpen State.roleRec
  rw [hrole, bne_iff_ne.2 hv, show includesSide (some r) sd = false from ha]
  rfl

theorem State.givesOpen_false (hrole : s.prog.roles[c].role = some r)
    (h : r.asksOpen sd = true ∨ s.valves[valveOf c sd].state = .opened) : s.givesOpen sd c = false := by
  unfold State.givesOpen State.roleRec
  rw [hrole]
  rcases h with h | h
  · rw [show includesSide (some r) sd = true from h]
    rfl
  · rw [h]
    exact Bool.and_false _

/-! ## The roles of several holders -/

theorem State.mapRole_eq (s : State) (h : Fin 4) (f : RoleRec → RoleRec) :
    s.mapRole h f = { s with prog := { s.prog with roles := upd s.prog.roles h (f s.prog.roles[h]) } } := rfl

/-- A change of the roles of all holders, each as its own record gives. -/
theorem forEach_mapRole (f : Fin 4 → RoleRec → RoleRec) (s : State) :
    ∃ R : Vector RoleRec 4, forEach (fun h s => s.mapRole h (f h)) s = { s with prog := { s.prog with roles := R } } ∧
      ∀ h : Fin 4, R[h] = f h s.prog.roles[h] := by
  have fold (l : List (Fin 4)) (s : State) : l.foldl (fun s h => s.mapRole h (f h)) s =
      { s with prog := { s.prog with roles := l.foldl (fun x h => if true then upd x h (f h x[h]) else x) s.prog.roles } } := by
    induction l generalizing s with
    | nil => rfl
    | cons h l ih => exact ih _
  refine ⟨_, fold _ s, fun h => ?_⟩
  have hl : (List.finRange 4).Nodup := by decide
  have hh := List.mem_finRange h
  generalize List.finRange 4 = l at hl hh
  exact (foldl_upd (fun _ => true) f hl s.prog.roles h).trans (if_pos ⟨hh, rfl⟩)

theorem State.mapRole_ite (s : State) (h : Fin 4) (p : RoleRec → Bool) (f : RoleRec → RoleRec) :
    (if p s.prog.roles[h] then s.mapRole h f else s) = s.mapRole h fun r => if p r then f r else r := by
  rw [State.mapRole_eq, State.mapRole_eq]
  cases hp : p s.prog.roles[h] with
  | true => rw [if_pos rfl, if_pos rfl]
  | false =>
    rw [if_neg nofun, if_neg nofun]
    exact congrArg (fun R => { s with prog := { s.prog with roles := R } }) (upd_same s.prog.roles h).symm

/-! ## The end of a transition (R99) -/

/-- What the end of a transition changes of the programme alone. -/
structure State.Ended (s u : State) (b : Bank) (t : Transition) : Prop where
  ends : s.Ends u b t
  same : ∃ p : Programme, u = { s with prog := p } ∧ p.notices = s.prog.notices
  role : ∀ h : Fin 4, u.prog.roles[h].role = s.prog.roles[h].role ∧ u.prog.roles[h].held = s.prog.roles[h].held ∧
    u.prog.roles[h].retake = s.prog.roles[h].retake
  roles : ∀ sd, t.trigger.side = some sd → u.prog.roles = s.prog.roles

theorem State.Outgoing.congr (hr : t.prog.roles = s.prog.roles) (hh : t.holders = s.holders) : t.Outgoing b sd h ↔ s.Outgoing b sd h := by
  unfold State.Outgoing
  rw [hr, hh]

theorem State.endTransition_ended (hb : s.live = some b) (t : Transition) : s.Ended (s.endTransition t) b t := by
  unfold State.endTransition
  dsimp only
  cases hside : t.trigger.side with
  | none =>
    dsimp only
    obtain ⟨R, hR, hroles⟩ := forEach_mapRole (fun _ r => { r with lowMark := false, highMark := false }) (s.setTransition none)
    rw [hR]
    refine ⟨⟨rfl, fun _ => ⟨rfl, fun h => ?marks⟩, fun sd he => nomatch hside.symm.trans he⟩, ⟨_, rfl, rfl⟩, fun h => ?kept,
      fun sd he => nomatch hside.symm.trans he⟩
    case marks => exact ⟨congrArg RoleRec.lowMark (hroles h), congrArg RoleRec.highMark (hroles h)⟩
    case kept => exact ⟨(congrArg RoleRec.role (hroles h) :), (congrArg RoleRec.held (hroles h) :), (congrArg RoleRec.retake (hroles h) :)⟩
  | some sd =>
    rw [hb]
    dsimp only
    have meets : ((List.finRange 4).any fun h => !(some h == t.outgoing) && (s.setTransition none).outgoingMeets b sd h) = true ↔
        ∃ h, some h ≠ t.outgoing ∧ s.Outgoing b sd h := by
      rw [List.any_eq_true]
      refine exists_congr fun h => ?_
      rw [Bool.and_eq_true_iff, State.outgoingMeets_iff, Bool.not_eq_true', beq_eq_false_iff_ne]
      exact ⟨fun ⟨_, hne, ho⟩ => ⟨hne, ho⟩, fun ⟨hne, ho⟩ => ⟨List.mem_finRange h, hne, ho⟩⟩
    have noMarks (he : t.trigger.side = none) : False := nomatch hside.symm.trans he
    by_cases hm : ∃ h, some h ≠ t.outgoing ∧ s.Outgoing b sd h
    · rw [if_pos (meets.2 hm)]
      unfold State.enterTrigger
      have entered (u : State) (hu : ∃ p : Programme, u = { s with prog := p } ∧ p.notices = s.prog.notices ∧ p.roles = s.prog.roles ∧
          p.transition = none) (hd : sd.trigger ∈ u.prog.deferred) : s.Ended u b t := by
        obtain ⟨p, rfl, hn, hr, ht⟩ := hu
        refine ⟨⟨ht, fun he => (noMarks he).elim, fun sd' he => ?_⟩, ⟨p, rfl, hn⟩, fun h => ?_, fun _ _ => hr⟩
        · cases hside.symm.trans he
          obtain ⟨h, hne, ho⟩ := hm
          exact ⟨fun _ => hd, fun hno => hno h hne ((State.Outgoing.congr (s := s) (t := { s with prog := p }) hr rfl).2 ho) |>.elim⟩
        · exact ⟨congrArg (fun R : Vector RoleRec 4 => R[h].role) hr, congrArg (fun R : Vector RoleRec 4 => R[h].held) hr,
            congrArg (fun R : Vector RoleRec 4 => R[h].retake) hr⟩
      split
      · next hmem => exact entered _ ⟨_, rfl, rfl, rfl, rfl⟩ hmem
      · exact entered _ ⟨_, rfl, rfl, rfl, rfl⟩ (List.mem_append.2 (.inr (.head _)))
    · rw [if_neg fun h => hm (meets.1 h)]
      refine ⟨⟨rfl, fun he => (noMarks he).elim, fun sd' he => ?_⟩, ⟨_, rfl, rfl⟩, fun h => ⟨rfl, rfl, rfl⟩, fun _ _ => rfl⟩
      cases hside.symm.trans he
      exact ⟨fun ⟨h, hne, ho⟩ => absurd ⟨h, hne, (State.Outgoing.congr (s := s) rfl rfl).1 ho⟩ hm, fun _ => rfl⟩

end Sys2Proof.Machine

/-! # The shutting phase begins (R97, R98)

The shut demands that wait are taken in the order V1 to V8: each is withheld or offered, as `State.Withheld` says of the state in which the
opening phase ended. -/

namespace Sys2Proof.Machine

variable {s t u : State} {b : Bank} {v w : Fin 8} {tr : Transition}

/-! ## One shut demand -/

theorem State.begun_shut_leaves (s : State) (v : Fin 8) (r : ValveRec) (o : Origin) (j : Bool) :
    (s.begun v r ⟨.toShut, o⟩ j).valves[v].state ≠ .opened := by
  rw [(s.begun_state v r ⟨.toShut, o⟩ j).1]
  nofun

theorem State.joinOperation_state (s : State) (v : Fin 8) (old d : Demand) :
    (s.joinOperation v old d).valves[v].state = s.valves[v].state := by
  unfold State.joinOperation
  dsimp only
  split
  · show (upd s.valves v _)[v].state = _
    rw [upd_at]
  · show (upd s.valves v _)[v].state = _
    rw [upd_at]

/-- R61, R62: a valve that a SHUT demand of the programme was offered to is not OPEN. -/
theorem State.offered_shut_leaves (s : State) (v : Fin 8) : (s.offered v ⟨.toShut, .programme⟩).valves[v].state ≠ .opened := by
  have rest (hr : s.valves[v].state.inFlight = false ∨ s.valves[v].demand = none) :
      (s.offerAtRest v ⟨.toShut, .programme⟩).1.valves[v].state ≠ .opened := by
    unfold State.offerAtRest
    split
    · rw [State.startOperation_eq_begun]
      exact s.begun_shut_leaves v _ _ _
    · next hk =>
      rw [s.satisfyDemand_valves]
      intro ho
      rw [ho] at hk
      exact nomatch hk
    · next hk =>
      cases hs : s.valves[v].state <;> rw [hs] at hk <;> exact nomatch hk
    · next hno _ _ =>
      show (s.refuseDemand v ⟨.toShut, .programme⟩).valves[v].state ≠ .opened
      rw [s.refuseDemand_valves]
      intro ho
      exact hno (by rw [ho]; rfl)
  unfold State.offered
  cases hf : s.valves[v].state.inFlight with
  | false =>
    rw [State.offer_atRest (d := ⟨.toShut, .programme⟩) nofun hf]
    exact rest (.inl hf)
  | true =>
    have hmoving : s.valves[v].state ≠ .opened := fun ho => by rw [ho] at hf; exact nomatch hf
    cases hd : s.valves[v].demand with
    | none =>
      unfold State.offer
      rw [if_neg nofun, hf, hd]
      exact rest (.inr hd)
    | some old =>
      rw [State.offer_inFlight (d := ⟨.toShut, .programme⟩) nofun hf hd]
      unfold State.offerInFlight
      split
      · show (s.joinOperation v old ⟨.toShut, .programme⟩).valves[v].state ≠ .opened
        rw [s.joinOperation_state]
        exact hmoving
      · split
        · rw [State.reverseOperation_eq_begun]
          exact State.begun_shut_leaves _ v _ _ _
        · show (s.refuseDemand v ⟨.toShut, .programme⟩).valves[v].state ≠ .opened
          rw [s.refuseDemand_valves]
          exact hmoving

/-! ## The shut list as its demands are taken -/

/-- What becomes of a shut demand that waits. -/
def shutOutcome (W : Fin 8 → Bool) (v : Fin 8) : ShutState := if W v then .withheld else .inFlight

theorem shutOutcome_ne (W : Fin 8 → Bool) (v : Fin 8) : shutOutcome W v ≠ .waiting := by
  unfold shutOutcome
  split <;> nofun

/-- What becomes of an entry of the shut list when the demands of the valves of a list have been taken. -/
def ShutEntry.taken (W : Fin 8 → Bool) (P : List (Fin 8)) (x : ShutEntry) : ShutEntry :=
  if x.valve ∈ P ∧ x.state = .waiting then { x with state := shutOutcome W x.valve } else x

/-- The transition with the shut demands of the valves of a list taken. -/
def Transition.shutsTaken (tr : Transition) (W : Fin 8 → Bool) (P : List (Fin 8)) : Transition :=
  { tr with shuts := tr.shuts.map (ShutEntry.taken W P) }

/-- A holder's role as the withheld shuts of a list of valves give it work back. -/
def gained (W : Fin 8 → Bool) (h : Fin 4) (P : List (Fin 8)) (r : Option Role) : Option Role :=
  P.foldl (fun r v => if W v = true ∧ holderOf v = h then r.map fun x => x.gain (sideOf v) else r) r

variable {W : Fin 8 → Bool} {P : List (Fin 8)}

theorem Transition.shutsTaken_nil (tr : Transition) (W : Fin 8 → Bool) : tr.shutsTaken W [] = tr := by
  obtain ⟨_, _, _, _, _, _, _, shuts⟩ := tr
  unfold Transition.shutsTaken
  congr
  exact (List.map_congr_left fun x _ => if_neg fun ⟨hx, _⟩ => nomatch hx).trans (List.map_id _)

theorem Transition.shutsTaken_mark (tr : Transition) (hv : v ∉ P) :
    (tr.shutsTaken W P).markShut v .waiting (shutOutcome W v) = tr.shutsTaken W (P ++ [v]) := by
  unfold Transition.shutsTaken Transition.markShut
  refine congrArg (fun l => ({ tr with shuts := l } : Transition)) ?_
  rw [List.map_map]
  refine List.map_congr_left fun x _ => ?_
  show (if (x.taken W P).valve = v ∧ (x.taken W P).state = .waiting then _ else x.taken W P) = x.taken W (P ++ [v])
  obtain ⟨y, st⟩ := x
  unfold ShutEntry.taken
  dsimp only
  by_cases hP : y ∈ P ∧ st = .waiting
  · have hne : ¬(y = v ∧ shutOutcome W y = .waiting) := fun ⟨hy, _⟩ => hv (hy ▸ hP.1)
    rw [if_pos hP, if_neg hne, if_pos ⟨List.mem_append_left _ hP.1, hP.2⟩]
  · rw [if_neg hP]
    dsimp only
    by_cases hy : y = v ∧ st = .waiting
    · obtain ⟨rfl, hst⟩ := hy
      rw [if_pos ⟨rfl, hst⟩, if_pos ⟨List.mem_append_right _ (.head _), hst⟩]
    · rw [if_neg hy, if_neg fun ⟨hm, hst⟩ => (List.mem_append.1 hm).elim (fun hm => hP ⟨hm, hst⟩)
        fun hm => hy ⟨List.mem_singleton.1 hm, hst⟩]

theorem Transition.shutsTaken_skip (tr : Transition) (hw : ⟨v, .waiting⟩ ∉ tr.shuts) :
    tr.shutsTaken W (P ++ [v]) = tr.shutsTaken W P := by
  unfold Transition.shutsTaken
  refine congrArg (fun l => ({ tr with shuts := l } : Transition)) (List.map_congr_left fun x hx => ?_)
  obtain ⟨y, st⟩ := x
  refine ite_congr (propext ?_) (fun _ => rfl) fun _ => rfl
  refine ⟨fun ⟨hm, hst⟩ => ⟨(List.mem_append.1 hm).elim id fun hm => ?_, hst⟩, fun ⟨hm, hst⟩ => ⟨List.mem_append_left _ hm, hst⟩⟩
  cases List.mem_singleton.1 hm
  cases hst
  exact absurd hx hw

theorem Transition.waiting_iff (tr : Transition) (v : Fin 8) :
    (tr.shuts.any fun x => x.valve = v && x.state == .waiting) = true ↔ ⟨v, .waiting⟩ ∈ tr.shuts := by
  rw [List.any_eq_true]
  refine ⟨fun ⟨⟨y, st⟩, hx, he⟩ => ?_, fun hx => ⟨_, hx, by simp⟩⟩
  obtain ⟨hy, hst⟩ := Bool.and_eq_true_iff.1 he
  cases of_decide_eq_true hy
  cases beq_iff_eq.1 hst
  exact hx

theorem Transition.shutsTaken_waiting (tr : Transition) (hv : v ∉ P) :
    ⟨v, .waiting⟩ ∈ (tr.shutsTaken W P).shuts ↔ ⟨v, .waiting⟩ ∈ tr.shuts := by
  refine List.mem_map.trans ⟨fun ⟨⟨y, st⟩, hx, he⟩ => ?_, fun hx => ⟨_, hx, if_neg fun ⟨hm, _⟩ => hv hm⟩⟩
  unfold ShutEntry.taken at he
  split at he
  · exact absurd (congrArg ShutEntry.state he) (shutOutcome_ne W y)
  · exact he ▸ hx

theorem gained_append (W : Fin 8 → Bool) (h : Fin 4) (P : List (Fin 8)) (v : Fin 8) (r : Option Role) :
    gained W h (P ++ [v]) r =
      if W v = true ∧ holderOf v = h then (gained W h P r).map fun x => x.gain (sideOf v) else gained W h P r :=
  List.foldl_append ..

/-- The shut demands of the valves of a list have been taken: `W` says which of them are withheld. -/
structure ShutsTaken (tr : Transition) (W : Fin 8 → Bool) (P : List (Fin 8)) (s u : State) : Prop where
  transition : u.prog.transition = some (tr.shutsTaken W P)
  only : OnlyValves s u
  perms : u.perms = s.perms
  deferred : u.prog.deferred = s.prog.deferred
  kept : ∀ v, v ∉ P ∨ ⟨v, .waiting⟩ ∉ tr.shuts ∨ W v = true → u.valves[v] = s.valves[v]
  left : ∀ v ∈ P, ⟨v, .waiting⟩ ∈ tr.shuts → W v = false → u.valves[v].state ≠ .opened
  placed : ∀ v ∈ P, ⟨v, .waiting⟩ ∈ tr.shuts → W v = false → s.valves[v].state = .opened ∨ s.valves[v].state = .unknown →
    s.loop.lost = false → u.valves[v] = s.valves[v].starting ⟨.toShut, .programme⟩ true ∧
      .valve v false .toShut (s.valves[v].tag + 1) false ∈ u.loop.commands
  raised : ∀ v ∈ P, W v = true → s.Raised u (sideOf v).source
  notRaised : ∀ sd, (∀ v ∈ P, sideOf v = sd → W v = false) → s.NotRaised u sd.source
  roles : ∀ h : Fin 4, u.prog.roles[h] = { s.prog.roles[h] with role := gained W h P s.prog.roles[h].role }

namespace ShutsTaken

theorem start (htr : s.prog.transition = some tr) : ShutsTaken tr W [] s s where
  transition := by rw [htr, tr.shutsTaken_nil]
  only := .refl s
  perms := rfl
  deferred := rfl
  kept _ _ := rfl
  left _ hv := nomatch hv
  placed _ hv := nomatch hv
  raised _ hv := nomatch hv
  notRaised _ _ := .refl s _
  roles _ := rfl

/-- A valve with no demand that waits. -/
theorem skip (h : ShutsTaken tr W P s u) (hw : ⟨v, .waiting⟩ ∉ tr.shuts) (hW : W v = false) : ShutsTaken tr W (P ++ [v]) s u := by
  have inP {x : Fin 8} (hx : x ∈ P ++ [v]) (hc : ⟨x, .waiting⟩ ∈ tr.shuts) : x ∈ P := by
    rcases List.mem_append.1 hx with hx | hx
    · exact hx
    · cases List.mem_singleton.1 hx
      exact absurd hc hw
  refine ⟨?_, h.only, h.perms, h.deferred, fun x hx => h.kept x ?_, fun x hx hc => h.left x (inP hx hc) hc,
    fun x hx hc => h.placed x (inP hx hc) hc, fun x hx hc => h.raised x ?_ hc,
    fun sd hsd => h.notRaised sd fun x hx => hsd x (List.mem_append_left _ hx), fun k => ?_⟩
  · rw [h.transition, tr.shutsTaken_skip hw]
  · exact hx.imp_left fun hx hm => hx (List.mem_append_left _ hm)
  · rcases List.mem_append.1 hx with hx | hx
    · exact hx
    · cases List.mem_singleton.1 hx
      exact Bool.noConfusion (hW.symm.trans hc)
  · rw [h.roles, gained_append, if_neg fun hc => Bool.noConfusion (hW.symm.trans hc.1)]

/-- R98: a demand that is offered. -/
theorem offer (h : ShutsTaken tr W P s u) (hv : v ∉ P) (hw : ⟨v, .waiting⟩ ∈ tr.shuts) (hW : W v = false) :
    ShutsTaken tr W (P ++ [v]) s ((u.setTransition (some (tr.shutsTaken W (P ++ [v])))).offered v ⟨.toShut, .programme⟩) := by
  generalize hp : u.setTransition (some (tr.shutsTaken W (P ++ [v]))) = p
  have hvalves : p.valves = u.valves := by rw [← hp]; rfl
  have hloop : p.loop = u.loop := by rw [← hp]; rfl
  have frame := p.offered_atValve v ⟨.toShut, .programme⟩
  have hprog : (p.offered v ⟨.toShut, .programme⟩).prog.roles = u.prog.roles ∧
      (p.offered v ⟨.toShut, .programme⟩).prog.deferred = u.prog.deferred ∧
      (p.offered v ⟨.toShut, .programme⟩).prog.transition = some (tr.shutsTaken W (P ++ [v])) := by
    have e := frame.prog
    refine ⟨(congrArg Programme.roles e).trans (by rw [← hp]; rfl), (congrArg Programme.deferred e).trans (by rw [← hp]; rfl),
      (congrArg Programme.transition e).trans (by rw [← hp]; rfl)⟩
  obtain ⟨hroles, hdeferred, htrans⟩ := hprog
  have hattn : (p.offered v ⟨.toShut, .programme⟩).attn = u.attn := frame.attn.trans (by rw [← hp]; rfl)
  have other {x : Fin 8} (hx : x ≠ v) : (p.offered v ⟨.toShut, .programme⟩).valves[x] = u.valves[x] := by rw [frame.valves x hx, hvalves]
  have mem {x : Fin 8} (hx : x ∈ P ++ [v]) : (x ∈ P ∧ x ≠ v) ∨ x = v :=
    (List.mem_append.1 hx).imp (fun hx => ⟨hx, fun e => hv (e ▸ hx)⟩) List.mem_singleton.1
  refine ⟨htrans, ?only, ?perms, hdeferred.trans h.deferred, fun x hx => ?kept, fun x hx hc hx' => ?left,
    fun x hx hc hx' hst hl => ?placed, fun x hx hc => ?raised, fun sd hsd => ?notRaised, fun k => ?roles⟩
  case only => exact h.only.trans ((by rw [← hp]; exact u.setTransition_only _ : OnlyValves u p).trans (State.offered_only ..))
  case perms => rw [frame.perms, ← hp]; exact h.perms
  case kept =>
    have hne : x ≠ v ∨ W x = true ∨ ⟨x, .waiting⟩ ∉ tr.shuts := by
      rcases hx with hx | hx | hx
      · exact .inl fun e => hx (e ▸ List.mem_append_right _ (.head _))
      · exact .inr (.inr hx)
      · exact .inr (.inl hx)
    have hxv : x ≠ v := fun e => by
      subst e
      rcases hne with hne | hne | hne
      · exact hne rfl
      · exact Bool.noConfusion (hW.symm.trans hne)
      · exact hne hw
    rw [other hxv]
    exact h.kept x (hx.imp_left fun hx hm => hx (List.mem_append_left _ hm))
  case left =>
    rcases mem hx with ⟨hx, hne⟩ | rfl
    · rw [other hne]
      exact h.left x hx hc hx'
    · exact p.offered_shut_leaves x
  case placed =>
    rcases mem hx with ⟨hx, hne⟩ | rfl
    · obtain ⟨hrec, hcmd⟩ := h.placed x hx hc hx' hst hl
      refine ⟨(other hne).trans hrec, (frame.commands (.valve x false .toShut _ false) (decide_eq_false hne)).2 ?_⟩
      rw [hloop]
      exact hcmd
    · have hsame : p.valves[x] = s.valves[x] := by rw [hvalves]; exact h.kept x (.inl hv)
      have hstart : table11 p.valves[x].state ⟨.toShut, .programme⟩ = .started := by
        rw [hsame]
        rcases hst with hst | hst <;> rw [hst] <;> rfl
      have hlost : p.loop.lost = false := by rw [hloop, h.only.loop.lost]; exact hl
      rw [State.offered_started (d := ⟨.toShut, .programme⟩) nofun hstart, State.begun_up hlost, hsame]
      exact ⟨upd_at .., LoopPort.mem_placeValve ..⟩
  case raised =>
    rcases mem hx with ⟨hx, _⟩ | rfl
    · exact (h.raised x hx hc).after (.of_items (congrArg Attention.items hattn) _)
    · exact Bool.noConfusion (hW.symm.trans hc)
  case notRaised =>
    exact (h.notRaised sd fun x hx => hsd x (List.mem_append_left _ hx)).trans (.of_items (congrArg Attention.items hattn) _)
  case roles =>
    rw [hroles, h.roles, gained_append, if_neg fun hc => Bool.noConfusion (hW.symm.trans hc.1)]

/-- R98: a demand that is withheld. -/
theorem withhold (h : ShutsTaken tr W P s u) (hv : v ∉ P) (hW : W v = true) (hone : ∀ x ∈ P, sideOf x = sideOf v → W x = false) :
    ShutsTaken tr W (P ++ [v]) s
      (((u.setTransition (some (tr.shutsTaken W (P ++ [v])))).raise (sideOf v).source).mapRole (holderOf v) fun r =>
        { r with role := r.role.map fun x => x.gain (sideOf v) }) := by
  generalize hp : u.setTransition (some (tr.shutsTaken W (P ++ [v]))) = p
  have honly : OnlyValves u p := by rw [← hp]; exact u.setTransition_only _
  have hattn : u.attn = p.attn := by rw [← hp]; rfl
  have hsource {sd : Side} (hne : sd ≠ sideOf v) : sd.source ≠ (sideOf v).source := by
    revert hne
    cases sd <;> cases sideOf v <;> first | exact fun hne => absurd rfl hne | (intro _; decide)
  have mem {x : Fin 8} (hx : x ∈ P ++ [v]) : x ∈ P ∨ x = v := (List.mem_append.1 hx).imp_right List.mem_singleton.1
  have hraise : u.Raised (p.raise (sideOf v).source) (sideOf v).source :=
    State.Raised.before (.of_items (congrArg Attention.items hattn.symm) _) (p.raise_raised _) (congrArg _ honly.tables)
      (OnlyEvents.of_valves honly).now
  have hnot {sd : Side} (hne : sd ≠ sideOf v) : u.NotRaised (p.raise (sideOf v).source) sd.source :=
    State.NotRaised.trans (.of_items (congrArg Attention.items hattn.symm) _) (p.raise_notRaised (hsource hne))
  refine ⟨?trans, ?only, ?perms, ?deferred, fun x hx => ?kept, fun x hx hc hx' => ?left,
    fun x hx hc hx' hst hl => ?placed, fun x hx hc => ?raised, fun sd hsd => ?notRaised, fun k => ?roles⟩
  case trans =>
    show (p.raise _).prog.transition = _
    rw [State.raise_prog, ← hp]
    rfl
  case only => exact (h.only.trans honly).trans ((p.raise_only _).trans (State.mapRole_only ..))
  case perms =>
    show (p.raise _).perms = _
    rw [State.raise_perms, ← hp]
    exact h.perms
  case deferred =>
    show (p.raise _).prog.deferred = _
    rw [State.raise_prog, ← hp]
    exact h.deferred
  case kept =>
    show (p.raise _).valves[x] = _
    rw [State.raise_valves, ← hp]
    exact h.kept x (hx.imp_left fun hx hm => hx (List.mem_append_left _ hm))
  case left =>
    show (p.raise _).valves[x].state ≠ _
    rw [State.raise_valves, ← hp]
    rcases mem hx with hx | rfl
    · exact h.left x hx hc hx'
    · exact Bool.noConfusion (hW.symm.trans hx')
  case placed =>
    show (p.raise _).valves[x] = _ ∧ _ ∈ (p.raise _).loop.commands
    rw [State.raise_valves, State.raise_loop, ← hp]
    rcases mem hx with hx | rfl
    · exact h.placed x hx hc hx' hst hl
    · exact Bool.noConfusion (hW.symm.trans hx')
  case raised =>
    show s.Raised (p.raise _) _
    rcases mem hx with hx | rfl
    · exact (h.raised x hx hc).after (hnot fun e => Bool.noConfusion ((hone x hx e).symm.trans hc))
    · exact State.Raised.before (h.notRaised _ hone) hraise (congrArg _ h.only.tables) (OnlyEvents.of_valves h.only).now
  case notRaised =>
    show s.NotRaised (p.raise _) _
    exact (h.notRaised sd fun x hx => hsd x (List.mem_append_left _ hx)).trans
      (hnot fun e => Bool.noConfusion ((hsd v (List.mem_append_right _ (.head _)) e.symm).symm.trans hW))
  case roles =>
    have hroles : (p.raise (sideOf v).source).prog.roles = u.prog.roles := by rw [State.raise_prog, ← hp]; rfl
    rw [State.mapRole_eq, gained_append]
    dsimp only
    rw [hroles]
    by_cases hk : holderOf v = k
    · subst hk
      rw [upd_at, h.roles, if_pos ⟨hW, rfl⟩]
    · have hother (r : RoleRec) : (upd u.prog.roles (holderOf v) r)[k] = u.prog.roles[k] := upd_other _ _ _ _ hk
      rw [hother, h.roles, if_neg fun hc => hk hc.2]

/-- R98: the demand of the next valve is taken. -/
theorem step (h : ShutsTaken tr W P s u) (hv : v ∉ P)
    (hW : W v = true ↔ ⟨v, .waiting⟩ ∈ tr.shuts ∧ u.valves[v].state = .opened ∧ u.otherOpen b v = false)
    (hone : W v = true → ∀ x ∈ P, sideOf x = sideOf v → W x = false) : ShutsTaken tr W (P ++ [v]) s (u.takeShut b v) := by
  unfold State.takeShut
  rw [h.transition]
  dsimp only
  by_cases hw : ⟨v, .waiting⟩ ∈ tr.shuts
  · rw [if_pos ((Transition.waiting_iff _ v).2 ((tr.shutsTaken_waiting hv).2 hw))]
    have mark (x : ShutState) (hx : shutOutcome W v = x) : (tr.shutsTaken W P).markShut v .waiting x = tr.shutsTaken W (P ++ [v]) :=
      hx ▸ tr.shutsTaken_mark hv
    by_cases hc : u.valves[v].state = .opened ∧ u.otherOpen b v = false
    · have hw := hW.2 ⟨hw, hc⟩
      rw [if_pos hc, mark _ (if_pos hw)]
      exact h.withhold hv hw (hone hw)
    · have hw' : W v = false := Bool.eq_false_iff.2 fun hw => hc (hW.1 hw).2
      rw [if_neg hc, mark _ (if_neg fun h => Bool.noConfusion (hw'.symm.trans h))]
      exact h.offer hv hw hw'
  · rw [if_neg fun hm => hw ((tr.shutsTaken_waiting hv).1 ((Transition.waiting_iff _ v).1 hm))]
    exact h.skip hw (Bool.eq_false_iff.2 fun hm => hw (hW.1 hm).1)

end ShutsTaken

/-! ## Which shut demands are withheld -/

theorem State.otherOpen_eq_false : s.otherOpen b v = false ↔
    ∀ w, w ≠ v → sideOf w = sideOf v → b.fitted (holderOf w) = true → s.valves[w].state ≠ .opened := by
  unfold State.otherOpen
  rw [List.any_eq_false]
  refine ⟨fun h w hw hside hf ho => h w (List.mem_finRange w) ?_, fun h w _ hc => ?_⟩
  · rw [decide_eq_true hw, beq_iff_eq.2 hside, hf, beq_iff_eq.2 ho]
    rfl
  · simp only [Bool.and_eq_true, beq_iff_eq] at hc
    obtain ⟨⟨⟨hw, hside⟩, hf⟩, ho⟩ := hc
    exact h w (of_decide_eq_true hw) hside hf ho

/-- R98: two withheld shuts are of different sides. -/
theorem State.Withheld.unique (hfit : ∀ x, tr.Waits x → b.fitted (holderOf x) = true) (h : s.Withheld b tr v) (k : s.Withheld b tr w)
    (hside : sideOf w = sideOf v) : w = v := by
  obtain ⟨hwait, hopen, hother⟩ := h
  obtain ⟨hwait', hopen', hother'⟩ := k
  refine Decidable.byContradiction fun hne => ?_
  have hlt := (hother w hne hside (hfit w hwait') hopen').2
  have hgt := (hother' v (Ne.symm hne) hside.symm (hfit v hwait) hopen).2
  exact absurd (Nat.lt_trans hlt hgt) (Nat.lt_irrefl _)

/-- The valves V1 to V8 in their order: those before one are those with a smaller number. -/
theorem mem_finRange_prefix {P Q : List (Fin 8)} (hl : List.finRange 8 = P ++ v :: Q) : (∀ w, w ∈ P ↔ w < v) ∧ v ∉ P := by
  have hlt : (P ++ v :: Q).Pairwise (· < ·) := hl ▸ (by decide : (List.finRange 8).Pairwise (· < ·))
  obtain ⟨_, htail, hcross⟩ := List.pairwise_append.1 hlt
  have hbefore : ∀ w ∈ P, w < v := fun w hw => hcross w hw v (.head _)
  refine ⟨fun w => ⟨hbefore w, fun hw => ?_⟩, fun hv => Nat.lt_irrefl _ (hbefore v hv)⟩
  have hmem : w ∈ P ++ v :: Q := hl ▸ List.mem_finRange w
  rcases List.mem_append.1 hmem with hm | hm
  · exact hm
  · rcases List.mem_cons.1 hm with rfl | hm
    · exact absurd hw (Nat.lt_irrefl _)
    · exact absurd (Nat.lt_trans hw ((List.pairwise_cons.1 htail).1 w hm)) (Nat.lt_irrefl _)

section Decision

variable (hfail : ∀ v, ⟨v, .waiting⟩ ∈ tr.shuts → tr.failedHolder (holderOf v) = false)
  (hfit : ∀ v, tr.Waits v → b.fitted (holderOf v) = true) (hW : ∀ v, W v = true ↔ s.Withheld b tr v)
include hfail hfit hW

/-- R98: as the demands before it have been taken, a valve is the last OPEN one of its side just where its shut is withheld. -/
theorem ShutsTaken.decision (h : ShutsTaken tr W P s u) (hP : ∀ w, w ∈ P ↔ w < v) :
    W v = true ↔ ⟨v, .waiting⟩ ∈ tr.shuts ∧ u.valves[v].state = .opened ∧ u.otherOpen b v = false := by
  have hv : v ∉ P := fun hv => Nat.lt_irrefl _ ((hP v).1 hv)
  rw [hW, State.otherOpen_eq_false, h.kept v (.inl hv)]
  constructor
  · intro hw
    obtain ⟨hwait, hopen, hother⟩ := hw
    refine ⟨hwait.1, hopen, fun w hne hside hf ho => ?_⟩
    have hkept (hsame : u.valves[w] = s.valves[w]) : tr.Waits w ∧ w ∈ P := by
      obtain ⟨hwaits, hlt⟩ := hother w hne hside hf (hsame ▸ ho)
      exact ⟨hwaits, (hP w).2 hlt⟩
    cases hWw : W w with
    | true => exact hne (State.Withheld.unique hfit ⟨hwait, hopen, hother⟩ ((hW w).1 hWw) hside)
    | false =>
      by_cases hp : w ∈ P ∧ ⟨w, .waiting⟩ ∈ tr.shuts
      · exact h.left w hp.1 hp.2 hWw ho
      · have hsame := h.kept w (Decidable.or_iff_not_imp_left.2 fun hm => .inl fun hc => hp ⟨Decidable.not_not.1 hm, hc⟩)
        obtain ⟨hwaits, hm⟩ := hkept hsame
        exact hp ⟨hm, hwaits.1⟩
  · intro ⟨hwait, hopen, hother⟩
    refine ⟨⟨hwait, hfail v hwait⟩, hopen, fun w hne hside hf ho => ?_⟩
    have hchanged : u.valves[w] ≠ s.valves[w] := fun hsame => hother w hne hside hf (hsame ▸ ho)
    have hm : w ∈ P := Decidable.byContradiction fun hm => hchanged (h.kept w (.inl hm))
    have hc : ⟨w, .waiting⟩ ∈ tr.shuts := Decidable.byContradiction fun hc => hchanged (h.kept w (.inr (.inl hc)))
    exact ⟨⟨hc, hfail w hc⟩, (hP w).1 hm⟩

/-- R98: all the shut demands that wait are taken. -/
theorem ShutsTaken.all (htr : s.prog.transition = some tr) :
    ShutsTaken tr W (List.finRange 8) s (forEach (fun v s => s.takeShut b v) s) := by
  have go (Q : List (Fin 8)) : ∀ P u, List.finRange 8 = P ++ Q → ShutsTaken tr W P s u →
      ShutsTaken tr W (List.finRange 8) s (Q.foldl (fun s v => s.takeShut b v) u) := by
    induction Q with
    | nil =>
      intro P u hl h
      rw [hl, List.append_nil]
      exact h
    | cons v Q ih =>
      intro P u hl h
      obtain ⟨hP, hv⟩ := mem_finRange_prefix hl
      refine ih (P ++ [v]) _ (by rw [hl, List.append_assoc]; rfl) (h.step hv (h.decision hfail hfit hW hP) fun hw x hx hside => ?_)
      refine Bool.eq_false_iff.2 fun hx' => hv ?_
      exact State.Withheld.unique hfit ((hW v).1 hw) ((hW x).1 hx') hside ▸ hx
  exact go _ [] s rfl (.start htr)

end Decision


end Sys2Proof.Machine

/-! # The end of the opening phase (R95, R97)

The roles are set, the shut list is settled, and the shut demands that wait are taken; the transition ends where none is left in flight. -/

namespace Sys2Proof.Machine

variable {s t u : State} {b : Bank} {h : Fin 4} {v w : Fin 8} {tr : Transition}

/-! ## The roles -/

/-- R97: the roles of the entries are set, those of holders with a failed open demand excepted. -/
theorem State.setRoles_eq (s : State) (f : Fin 4 → Bool) (entries : List TargetEntry) :
    ∃ R : Vector RoleRec 4,
      entries.foldl (fun s e => if f e.holder then s else s.mapRole e.holder fun r => { r with role := e.target }) s =
        { s with prog := { s.prog with roles := R } } ∧
      (∀ h : Fin 4, ∃ r, R[h] = { s.prog.roles[h] with role := r }) ∧
      (∀ h : Fin 4, (∀ e ∈ entries, e.holder ≠ h) → R[h] = s.prog.roles[h]) ∧
      ((entries.map TargetEntry.holder).Nodup → ∀ e ∈ entries,
        R[e.holder] = { s.prog.roles[e.holder] with role := if f e.holder then s.prog.roles[e.holder].role else e.target }) := by
  induction entries generalizing s with
  | nil => exact ⟨_, rfl, fun h => ⟨_, rfl⟩, fun _ _ => rfl, fun _ _ he => nomatch he⟩
  | cons e es ih =>
    obtain ⟨R1, hR1, hself, hrest⟩ : ∃ R1 : Vector RoleRec 4,
        (if f e.holder then s else s.mapRole e.holder fun r => { r with role := e.target }) = { s with prog := { s.prog with roles := R1 } } ∧
        R1[e.holder] = { s.prog.roles[e.holder] with role := if f e.holder then s.prog.roles[e.holder].role else e.target } ∧
        ∀ h : Fin 4, h ≠ e.holder → R1[h] = s.prog.roles[h] := by
      cases hf : f e.holder with
      | true => exact ⟨_, rfl, rfl, fun _ _ => rfl⟩
      | false => exact ⟨_, rfl, upd_at .., fun h hne => upd_other _ _ _ _ (Ne.symm hne)⟩
    obtain ⟨R, hR, hkept, hothers, hset⟩ := ih { s with prog := { s.prog with roles := R1 } }
    refine ⟨R, ?_, fun h => ?_, fun h hno => ?_, fun hn x hx => ?_⟩
    · rw [List.foldl_cons, hR1]
      exact hR
    · obtain ⟨r, hr⟩ := hkept h
      by_cases hh : h = e.holder
      · subst hh
        exact ⟨r, hr.trans (by dsimp only; rw [hself])⟩
      · exact ⟨r, hr.trans (by dsimp only; rw [hrest h hh])⟩
    · exact (hothers h fun x hx => hno x (.tail _ hx)).trans (hrest h (Ne.symm (hno e (.head _))))
    · obtain ⟨hnot, hn⟩ := List.nodup_cons.1 hn
      rcases List.mem_cons.1 hx with rfl | hx
      · exact (hothers x.holder fun y hy hyx => hnot (hyx ▸ List.mem_map_of_mem hy)).trans hself
      · have hne : x.holder ≠ e.holder := fun hxe => hnot (hxe ▸ List.mem_map_of_mem hx)
        refine (hset hn x hx).trans ?_
        dsimp only
        rw [hrest _ hne]

theorem sideOf_valveOf (h : Fin 4) (sd : Side) : sideOf (valveOf h sd) = sd := by
  revert h
  cases sd <;> decide

/-- R98: what the withheld shuts of a holder give it back. -/
theorem gained_all (W : Fin 8 → Bool) (h : Fin 4) (r : Option Role) : gained W h (List.finRange 8) r =
    let r1 := if W (valveOf h .inlet) then r.map fun x => x.gain .inlet else r
    if W (valveOf h .outlet) then r1.map fun x => x.gain .outlet else r1 := by
  have own : (List.finRange 8).filter (fun v => decide (holderOf v = h)) = [valveOf h .inlet, valveOf h .outlet] := by
    revert h
    decide
  have split : gained W h (List.finRange 8) r = ((List.finRange 8).filter fun v => decide (holderOf v = h)).foldl
      (fun r v => if W v then r.map fun x => x.gain (sideOf v) else r) r := by
    unfold gained
    rw [List.foldl_filter]
    refine congrArg (fun f => List.foldl f r (List.finRange 8)) (funext fun r => funext fun v => ?_)
    by_cases hv : holderOf v = h
    · rw [if_pos (decide_eq_true hv)]
      exact ite_congr (propext (and_iff_left hv)) (fun _ => rfl) fun _ => rfl
    · rw [if_neg fun hc => hv (of_decide_eq_true hc), if_neg fun hc => hv hc.2]
  rw [split, own, List.foldl_cons, List.foldl_cons, sideOf_valveOf, sideOf_valveOf]
  rfl

/-! ## The shut list as the phase begins -/

/-- R97: the transition with its shut list settled, in the shutting phase. -/
def Transition.shutPhase (tr : Transition) : Transition :=
  { tr with
    shutting := true
    shuts := tr.shuts.map fun x => if tr.failedHolder (holderOf x.valve) ∧ x.state = .waiting then { x with state := .dropped } else x }

theorem Transition.shutPhase_waiting (tr : Transition) (v : Fin 8) : ⟨v, .waiting⟩ ∈ tr.shutPhase.shuts ↔ tr.Waits v := by
  refine List.mem_map.trans ⟨fun ⟨x, hx, he⟩ => ?_, fun ⟨hx, hf⟩ => ⟨_, hx, if_neg fun hc => Bool.noConfusion (hf.symm.trans hc.1)⟩⟩
  split at he
  · exact nomatch congrArg ShutEntry.state he
  · next hc =>
    subst he
    exact ⟨hx, Bool.eq_false_iff.2 fun hf => hc ⟨hf, rfl⟩⟩

theorem Transition.shutPhase_waits (tr : Transition) (v : Fin 8) : tr.shutPhase.Waits v ↔ tr.Waits v :=
  ⟨fun hw => (tr.shutPhase_waiting v).1 hw.1, fun hw => ⟨(tr.shutPhase_waiting v).2 hw, hw.2⟩⟩

/-! ## The opening phase ends -/

/-- R97: the programme as the shutting phase begins: the roles are set, and nothing else is taken yet. -/
structure Transition.RolesSet (tr : Transition) (p q : Programme) : Prop where
  transition : q.transition = some tr.shutPhase
  deferred : q.deferred = p.deferred
  kept : ∀ h : Fin 4, q.roles[h].held = p.roles[h].held ∧ q.roles[h].retake = p.roles[h].retake
  others : ∀ h : Fin 4, (∀ e ∈ tr.entries, e.holder ≠ h) → q.roles[h].role = p.roles[h].role
  set : (tr.entries.map TargetEntry.holder).Nodup → ∀ e ∈ tr.entries,
    q.roles[e.holder].role = if tr.failedHolder e.holder then p.roles[e.holder].role else e.target
  mark : ∀ sd c, tr.trigger.side = some sd → tr.incoming = some c → (q.roles[c]).mark sd = false

theorem RoleRec.setMark_role (r : RoleRec) (sd : Side) (x : Bool) :
    (r.setMark sd x).role = r.role ∧ (r.setMark sd x).held = r.held ∧ (r.setMark sd x).retake = r.retake ∧
      (r.setMark sd x).mark sd = x := by
  cases sd <;> exact ⟨rfl, rfl, rfl, rfl⟩

/-- R97: the roles are set before the shut demands are taken. -/
theorem State.finishOpening_eq (s : State) (b : Bank) (tr : Transition) : ∃ q, tr.RolesSet s.prog q ∧
    s.finishOpening b tr = (forEach (fun v s => s.takeShut b v) { s with prog := q }).settleShutting := by
  unfold State.finishOpening
  dsimp only
  obtain ⟨R, hR, hall, hothers, hset⟩ := s.setRoles_eq tr.failedHolder tr.entries
  rw [hR]
  have hkept (h : Fin 4) : R[h].held = s.prog.roles[h].held ∧ R[h].retake = s.prog.roles[h].retake := by
    obtain ⟨r, hr⟩ := hall h
    rw [hr]
    exact ⟨rfl, rfl⟩
  have hset (hn : (tr.entries.map TargetEntry.holder).Nodup) (e : TargetEntry) (he : e ∈ tr.entries) :
      R[e.holder].role = if tr.failedHolder e.holder then s.prog.roles[e.holder].role else e.target := by rw [hset hn e he]
  have hothers (h : Fin 4) (hno : ∀ e ∈ tr.entries, e.holder ≠ h) : R[h].role = s.prog.roles[h].role := by rw [hothers h hno]
  have take {u v : State} (e : u = v) : (forEach (fun v s => s.takeShut b v) u).settleShutting =
      (forEach (fun v s => s.takeShut b v) v).settleShutting := by rw [e]
  cases hside : tr.trigger.side with
  | none =>
    exact ⟨{ s.prog with roles := R, transition := some tr.shutPhase },
      ⟨rfl, rfl, hkept, hothers, hset, fun sd c hsd => nomatch hside.symm.trans hsd⟩, take rfl⟩
  | some sd =>
    cases hin : tr.incoming with
    | none =>
      exact ⟨{ s.prog with roles := R, transition := some tr.shutPhase },
        ⟨rfl, rfl, hkept, hothers, hset, fun sd c _ hc => nomatch hin.symm.trans hc⟩,
        take (by unfold Transition.shutPhase; rw [hin]; rfl)⟩
    | some c =>
      generalize hR' : upd R c (R[c].setMark sd false) = R'
      obtain ⟨hr, hh, ht, hm⟩ := R[c].setMark_role sd false
      have hc : R'[c] = R[c].setMark sd false := by rw [← hR', upd_at]
      have hrole (h : Fin 4) : R'[h].role = R[h].role ∧ R'[h].held = R[h].held ∧ R'[h].retake = R[h].retake := by
        by_cases hch : c = h
        · subst hch
          rw [hc]
          exact ⟨hr, hh, ht⟩
        · have hother : R'[h] = R[h] := by rw [← hR']; exact upd_other _ _ _ _ hch
          rw [hother]
          exact ⟨rfl, rfl, rfl⟩
      refine ⟨{ s.prog with roles := R', transition := some tr.shutPhase },
        ⟨rfl, rfl, fun h => ⟨(hrole h).2.1.trans (hkept h).1, (hrole h).2.2.trans (hkept h).2⟩,
          fun h hno => (hrole h).1.trans (hothers h hno), fun hn e he => (hrole e.holder).1.trans (hset hn e he),
          fun sd' c' hsd hc' => ?_⟩, take ?_⟩
      · cases hside.symm.trans hsd
        cases hin.symm.trans hc'
        exact (congrArg (fun r : RoleRec => r.mark sd) hc).trans hm
      · rw [← hR']
        unfold Transition.shutPhase
        rw [hin]
        rfl

/-! ## The shutting phase begins -/

section Begins

variable (hlive : s.live = some b) (hfit : ∀ v, tr.Waits v → b.fitted (holderOf v) = true)

theorem Transition.shutPhase_outcome (tr : Transition) {W : Fin 8 → Bool} (hw : tr.Waits v) :
    ⟨v, shutOutcome W v⟩ ∈ (tr.shutPhase.shutsTaken W (List.finRange 8)).shuts :=
  List.mem_map.2 ⟨_, (tr.shutPhase_waiting v).2 hw, if_pos ⟨List.mem_finRange v, rfl⟩⟩

/-- What the entries of the shut list stand in once the demands that wait have been taken. -/
theorem Transition.shutsTaken_state (tr : Transition) {W : Fin 8 → Bool} {x : ShutEntry}
    (hx : x ∈ (tr.shutPhase.shutsTaken W (List.finRange 8)).shuts) :
    (∃ v, tr.Waits v ∧ x = ⟨v, shutOutcome W v⟩) ∨ x.state = .dropped ∨ (x ∈ tr.shuts ∧ x.state ≠ .waiting) := by
  obtain ⟨⟨v, st⟩, hy, rfl⟩ := List.mem_map.1 hx
  by_cases hst : st = .waiting
  · subst hst
    exact .inl ⟨v, (tr.shutPhase_waiting v).1 hy, if_pos ⟨List.mem_finRange v, rfl⟩⟩
  · rw [show ShutEntry.taken W (List.finRange 8) ⟨v, st⟩ = ⟨v, st⟩ from if_neg fun hc => hst hc.2]
    obtain ⟨z, hz, he⟩ := List.mem_map.1 hy
    split at he
    · exact .inr (.inl (congrArg ShutEntry.state he).symm)
    · subst he
      exact .inr (.inr ⟨hz, hst⟩)

theorem Transition.mem_shutsTaken (tr : Transition) {W : Fin 8 → Bool} {x : ShutEntry} (hx : x ∈ tr.shuts) (hst : x.state ≠ .waiting) :
    x ∈ (tr.shutPhase.shutsTaken W (List.finRange 8)).shuts :=
  List.mem_map.2 ⟨x, List.mem_map.2 ⟨x, hx, if_neg fun hc => hst hc.2⟩, if_neg fun hc => hst hc.2⟩

theorem Transition.dropped_shutsTaken (tr : Transition) {W : Fin 8 → Bool} (hx : ⟨v, .waiting⟩ ∈ tr.shuts)
    (hf : tr.failedHolder (holderOf v) = true) : ⟨v, .dropped⟩ ∈ (tr.shutPhase.shutsTaken W (List.finRange 8)).shuts :=
  List.mem_map.2 ⟨⟨v, .dropped⟩, List.mem_map.2 ⟨_, hx, if_pos ⟨hf, rfl⟩⟩, if_neg fun hc => nomatch hc.2⟩

theorem Transition.shutsTaken_valves (tr : Transition) (W : Fin 8 → Bool) (P : List (Fin 8)) :
    (tr.shutPhase.shutsTaken W P).shuts.map ShutEntry.valve = tr.shuts.map ShutEntry.valve := by
  unfold Transition.shutsTaken Transition.shutPhase
  rw [List.map_map, List.map_map]
  refine List.map_congr_left fun x _ => ?_
  have taken (y : ShutEntry) : (y.taken W P).valve = y.valve := by
    unfold ShutEntry.taken
    split <;> rfl
  refine (taken _).trans ?_
  dsimp only
  split <;> rfl

/-- R98: the shutting phase has ended just where no demand was offered and none was in flight. -/
theorem Transition.shutsEnded_iff (tr : Transition) (W : Fin 8 → Bool) : (tr.shutPhase.shutsTaken W (List.finRange 8)).shutsEnded = true ↔
    (∀ v, tr.Waits v → W v = true) ∧ ∀ x ∈ tr.shuts, x.state ≠ .inFlight := by
  unfold Transition.shutsEnded
  rw [List.all_eq_true]
  constructor
  · intro h
    have flight {x : ShutEntry} (hx : x ∈ (tr.shutPhase.shutsTaken W (List.finRange 8)).shuts) : x.state ≠ .inFlight := fun he => by
      have := h x hx
      rw [he] at this
      exact nomatch this
    refine ⟨fun v hv => ?_, fun x hx he => flight (tr.mem_shutsTaken hx (he ▸ nofun)) he⟩
    cases hW : W v with
    | true => rfl
    | false => exact absurd (if_neg (Bool.eq_false_iff.1 hW)) (flight (tr.shutPhase_outcome (W := W) hv))
  · intro ⟨hall, hno⟩ x hx
    rcases tr.shutsTaken_state hx with ⟨v, hv, rfl⟩ | hst | ⟨hx, hst⟩
    · rw [show shutOutcome W v = .withheld from if_pos (hall v hv)]
      rfl
    · rw [hst]
      rfl
    · rw [bne_iff_ne.2 hst, bne_iff_ne.2 (hno x hx)]
      rfl

end Begins

end Sys2Proof.Machine

/-! # The shutting phase as the opening phase leaves it (R97 to R99)

What `State.ShutsBegin` says of the end of an opening phase, and of the steps that lead to it. -/

namespace Sys2Proof.Machine

variable {s t u : State} {b : Bank} {h : Fin 4} {v w : Fin 8} {tr : Transition}

theorem State.settleShutting_ended (ht : s.prog.transition = some tr) (hp : tr.shutting = true) (hend : tr.shutsEnded = true) :
    s.settleShutting = s.endTransition tr := by
  unfold State.settleShutting
  rw [ht]
  dsimp only
  rw [hp, hend]
  rfl

theorem State.settleShutting_goesOn (ht : s.prog.transition = some tr) (hend : (tr.shutting && tr.shutsEnded) = false) :
    s.settleShutting = s := by
  unfold State.settleShutting
  rw [ht]
  dsimp only
  rw [hend]
  rfl

/-- What the end of the shutting phase leaves, whether it has come or not. -/
theorem State.settleShutting_rest (hlive : s.live = some b) (ht : s.prog.transition = some tr) :
    (∃ p : Programme, s.settleShutting = { s with prog := p }) ∧
      (∀ h : Fin 4, s.settleShutting.prog.roles[h].role = s.prog.roles[h].role ∧ s.settleShutting.prog.roles[h].held = s.prog.roles[h].held ∧
        s.settleShutting.prog.roles[h].retake = s.prog.roles[h].retake) ∧
      (∀ sd, tr.trigger.side = some sd → s.settleShutting.prog.roles = s.prog.roles) := by
  cases hend : tr.shutting && tr.shutsEnded with
  | false =>
    rw [State.settleShutting_goesOn ht hend]
    exact ⟨⟨s.prog, rfl⟩, fun _ => ⟨rfl, rfl, rfl⟩, fun _ _ => rfl⟩
  | true =>
    obtain ⟨hp, hend⟩ := Bool.and_eq_true_iff.1 hend
    rw [State.settleShutting_ended ht hp hend]
    have k := State.endTransition_ended hlive tr
    obtain ⟨p, hp, _⟩ := k.same
    exact ⟨⟨p, hp⟩, k.role, k.roles⟩

/-- R97, R98: the opening phase of a transition ends. -/
theorem State.finishOpening_begins (hlive : s.live = some b) (hfit : ∀ v, tr.Waits v → b.fitted (holderOf v) = true) :
    s.ShutsBegin (s.finishOpening b tr) b tr ∧ ∀ h : Fin 4, (s.finishOpening b tr).prog.roles[h].retake = s.prog.roles[h].retake := by
  obtain ⟨q, hq, heq⟩ := s.finishOpening_eq b tr
  rw [heq]
  obtain ⟨W, hW⟩ : ∃ W : Fin 8 → Bool, ∀ v, W v = true ↔ s.Withheld b tr v :=
    ⟨fun v => @decide _ (Classical.propDecidable (s.Withheld b tr v)), fun v => @decide_eq_true_iff _ (Classical.propDecidable _)⟩
  have hWf {v : Fin 8} : W v = false ↔ ¬s.Withheld b tr v := by rw [← hW, Bool.not_eq_true]
  have waits (v : Fin 8) : tr.shutPhase.Waits v ↔ tr.Waits v := tr.shutPhase_waits v
  have taken : ShutsTaken tr.shutPhase W (List.finRange 8) { s with prog := q }
      (forEach (fun v s => s.takeShut b v) { s with prog := q }) := by
    refine ShutsTaken.all (b := b) (fun v hv => ((tr.shutPhase_waiting v).1 hv).2) (fun v hv => hfit v ((waits v).1 hv)) (fun v => ?_) hq.transition
    rw [hW]
    unfold State.Withheld
    simp only [waits]
  generalize forEach (fun v s => State.takeShut s b v) { s with prog := q } = z at taken
  have hzlive : z.live = some b := (congrArg TableStore.live taken.only.tables).trans hlive
  obtain ⟨⟨p, hp⟩, hroles, hsame⟩ := State.settleShutting_rest hzlive taken.transition
  have hvalves : z.settleShutting.valves = z.valves := by rw [hp]
  have hperms : z.settleShutting.perms = z.perms := by rw [hp]
  have hattn : z.settleShutting.attn = z.attn := by rw [hp]
  have hloop : z.settleShutting.loop = z.loop := by rw [hp]
  have hrole (h : Fin 4) : z.settleShutting.prog.roles[h].role = gained W h (List.finRange 8) q.roles[h].role := by
    rw [(hroles h).1, taken.roles]
  have hcase (v : Fin 8) : W v = true ∨ W v = false := by cases W v <;> simp
  refine ⟨⟨fun v hv hno hst hl => ?placed, fun v hv => ?kept, fun v hv => ?raised, fun sd hno => ?notRaised, fun hn e he => ?roles,
    fun h hno hnw => ?others, fun h => ?held, fun sd c hsd hc => ?mark, fun hall hno => ?ends, fun hex => ?goesOn, ?perms⟩, fun h => ?retake⟩
  case placed =>
    rw [hvalves, hloop]
    exact taken.placed v (List.mem_finRange v) ((tr.shutPhase_waiting v).2 hv) (hWf.2 hno) hst hl
  case kept =>
    rw [hvalves]
    exact taken.kept v (.inr (hv.symm.imp (fun hv hm => hv ((tr.shutPhase_waiting v).1 hm)) (hW v).2))
  case raised =>
    have hraised := (taken.raised v (List.mem_finRange v) ((hW v).2 hv)).after (.of_items (congrArg Attention.items hattn) _)
    exact hraised
  case notRaised =>
    have hnot := (taken.notRaised sd fun v _ hv => hWf.2 (hno v hv)).trans (.of_items (congrArg Attention.items hattn) _)
    exact hnot
  case roles =>
    dsimp only
    rw [hrole, gained_all, hq.set hn e he]
    dsimp only
    refine ⟨fun hi ho => ?_, fun hi ho => ?_, fun hi ho => ?_, fun hi ho => ?_⟩
    · rw [if_neg (Bool.eq_false_iff.1 (hWf.2 hi)), if_neg (Bool.eq_false_iff.1 (hWf.2 ho))]
    · rw [if_pos ((hW _).2 hi), if_neg (Bool.eq_false_iff.1 (hWf.2 ho))]
    · rw [if_neg (Bool.eq_false_iff.1 (hWf.2 hi)), if_pos ((hW _).2 ho)]
    · rw [if_pos ((hW _).2 hi), if_pos ((hW _).2 ho), Option.map_map]
      rfl
  case others =>
    have none (sd : Side) : ¬W (valveOf h sd) = true := fun hw => hnw _ (holderOf_valveOf h sd) ((hW _).1 hw).1
    rw [hrole, gained_all]
    dsimp only
    rw [if_neg (none .outlet), if_neg (none .inlet)]
    exact hq.others h hno
  case held => rw [(hroles h).2.1, taken.roles]; exact (hq.kept h).1
  case retake => rw [(hroles h).2.2, taken.roles]; exact (hq.kept h).2
  case mark =>
    rw [hsame sd hsd, taken.roles]
    exact hq.mark sd c hsd hc
  case ends =>
    have hend := (tr.shutsEnded_iff W).2 ⟨fun v hv => (hW v).2 (hall v hv), hno⟩
    rw [State.settleShutting_ended taken.transition rfl hend]
    obtain ⟨htrans, hmarks, hnext⟩ := (State.endTransition_ended hzlive (tr.shutPhase.shutsTaken W (List.finRange 8))).ends
    have hd : z.prog.deferred = s.prog.deferred := taken.deferred.trans hq.deferred
    rw [hd] at hmarks
    simp only [hd] at hnext
    exact ⟨htrans, hmarks, hnext⟩
  case goesOn =>
    obtain ⟨v, hv, hno⟩ := hex
    have hend : (tr.shutPhase.shutsTaken W (List.finRange 8)).shutsEnded = false :=
      Bool.eq_false_iff.2 fun hend => hno ((hW v).1 (((tr.shutsEnded_iff W).1 hend).1 v hv))
    rw [State.settleShutting_goesOn taken.transition (by rw [hend]; rfl)]
    refine ⟨_, taken.transition, rfl, rfl, rfl, rfl, rfl, rfl, tr.shutsTaken_valves W _, fun v hv => ?_, fun v hv hno => ?_,
      fun v hv hf => tr.dropped_shutsTaken hv hf, fun x hx hst => tr.mem_shutsTaken hx hst⟩
    · rw [← show shutOutcome W v = .withheld from if_pos ((hW v).2 hv)]
      exact tr.shutPhase_outcome hv.1
    · rw [← show shutOutcome W v = .inFlight from if_neg (Bool.eq_false_iff.1 (hWf.2 hno))]
      exact tr.shutPhase_outcome hv
  case perms => exact hperms.trans taken.perms

end Sys2Proof.Machine

/-! # Transitions as they are built and as their notices come in (R90, R92 to R99)

Open demands offered to valves that stand SHUT, the first step of the settling, changeovers, and the outcome notices. -/

namespace Sys2Proof.Machine

variable {s t u : State} {b : Bank} {h c o : Fin 4} {v w : Fin 8} {tr : Transition} {sd : Side} {r : Role}

/-! ## One step of the settling (R63, R90) -/

theorem State.settle_idle (hi : s.ProgrammeIdle) (n : Nat) : s.settle n = s := by
  obtain ⟨hn, hd⟩ := hi
  cases n with
  | zero => rfl
  | succ n =>
    unfold State.settle
    cases s.live with
    | none => rfl
    | some b => rcases hd with hd | hd <;> simp [hn, hd]

theorem State.settle_notice {x : Notice} {xs : List Notice} (hlive : s.live = some b) (hn : s.prog.notices = x :: xs) (n : Nat) :
    s.settle (n + 1) = State.settle n (State.takeNotice { s with prog := { s.prog with notices := xs } } b x) := by
  rw [State.settle, hlive, hn]
  rfl

theorem State.settle_trigger {x : Trigger} {xs : List Trigger} (hlive : s.live = some b) (hn : s.prog.notices = [])
    (hm : s.mayTake = true) (hd : s.prog.deferred = x :: xs) (n : Nat) :
    s.settle (n + 1) = State.settle n (State.buildTrigger { s with prog := { s.prog with deferred := xs } } b x) := by
  rw [State.settle, hlive, hn, hm, hd]
  rfl

theorem State.mayTake_true (hlive : s.live = some b) (ht : s.prog.transition = none) (hc : s.clock.valid = true) (hl : s.loop.lost = false) :
    s.mayTake = true := by
  unfold State.mayTake State.running
  rw [ht, hc, hl, show s.tables.live = some b from hlive]
  rfl

/-! ## Open demands (R95) -/

theorem State.offerOpen_shut (hs : s.valves[v].state = .shut) (hg : s.perms[v].granted = true) (hl : s.loop.lost = false) :
    s.offerOpen v = { s with
      valves := upd s.valves v (s.valves[v].starting ⟨.toOpen, .programme⟩ true)
      loop := s.loop.placeValve v false .toOpen (s.valves[v].tag + 1) false } := by
  unfold State.offerOpen
  rw [State.offered_started (d := ⟨.toOpen, .programme⟩) (fun _ => hg) (by rw [hs]; rfl), State.begun_up hl]
  rfl

theorem State.offers_commands {opens : List OpenEntry} {x : Command} (hx : ∀ o ∈ opens, x.isValve o.valve = false)
    (h : x ∈ s.loop.commands) : x ∈ (opens.foldl (fun s o => s.offerOpen o.valve) s).loop.commands := by
  induction opens generalizing s with
  | nil => exact h
  | cons o os ih =>
    exact ih (fun y hy => hx y (.tail _ hy)) (((s.offered_atValve o.valve ⟨.toOpen, .programme⟩).commands x (hx o (.head _))).2 h)

/-- R95: open demands offered to valves that stand SHUT with permission. -/
theorem State.offers_begin {opens : List OpenEntry} (hn : (opens.map OpenEntry.valve).Nodup)
    (hs : ∀ o ∈ opens, s.valves[o.valve].state = .shut ∧ s.perms[o.valve].granted = true) (hl : s.loop.lost = false) :
    s.OpensBegin (opens.foldl (fun s o => s.offerOpen o.valve) s) opens ∧
      (opens.foldl (fun s o => s.offerOpen o.valve) s).prog = s.prog := by
  induction opens generalizing s with
  | nil => exact ⟨⟨fun _ ho => (nomatch ho), fun _ _ => rfl, rfl, rfl, rfl, rfl⟩, rfl⟩
  | cons o os ih =>
    obtain ⟨hnot, hn⟩ := List.nodup_cons.1 hn
    obtain ⟨hshut, hg⟩ := hs o (.head _)
    rw [List.foldl_cons, State.offerOpen_shut hshut hg hl]
    generalize hz : ({ s with
      valves := upd s.valves o.valve (s.valves[o.valve].starting ⟨.toOpen, .programme⟩ true)
      loop := s.loop.placeValve o.valve false .toOpen (s.valves[o.valve].tag + 1) false } : State) = z
    have hself : z.valves[o.valve] = s.valves[o.valve].starting ⟨.toOpen, .programme⟩ true := by rw [← hz]; exact upd_at ..
    have hother {x : Fin 8} (hx : x ≠ o.valve) : z.valves[x] = s.valves[x] := by rw [← hz]; exact upd_other _ _ _ _ (Ne.symm hx)
    have hne {x : OpenEntry} (hx : x ∈ os) : x.valve ≠ o.valve := fun e => hnot (e ▸ List.mem_map_of_mem hx)
    obtain ⟨⟨hset, hkept, hp, ha, hno, hd⟩, hprog⟩ := ih (s := z) hn
      (fun x hx => by rw [hother (hne hx), show z.perms = s.perms by rw [← hz]]; exact hs x (.tail _ hx)) (by rw [← hz]; exact hl)
    have hcmd : .valve o.valve false .toOpen (s.valves[o.valve].tag + 1) false ∈ z.loop.commands := by
      rw [← hz]
      exact LoopPort.mem_placeValve ..
    have hoz : s.OpensBegin (os.foldl (fun s o => s.offerOpen o.valve) z) (o :: os) := by
      refine ⟨fun x hx => ?_, fun x hx => ?_, hp.trans (by rw [← hz]), ha.trans (by rw [← hz]), hno.trans (by rw [← hz]),
        hd.trans (by rw [← hz])⟩
      · rcases List.mem_cons.1 hx with rfl | hx
        · refine ⟨(hkept x.valve fun y hy => hne hy).trans hself, ?_⟩
          exact State.offers_commands (fun y hy => decide_eq_false (Ne.symm (hne hy))) hcmd
        · obtain ⟨hrec, hc⟩ := hset x hx
          rw [hother (hne hx)] at hrec hc
          exact ⟨hrec, hc⟩
      · exact (hkept x fun y hy => hx y (.tail _ hy)).trans (hother (Ne.symm (hx o (.head _))))
    exact ⟨hoz, hprog.trans (by rw [← hz])⟩

/-! ## The end of the opening phase, from the state before the transition's record changed -/

theorem State.ShutsBegin.of_prog {p : Programme} (k : State.ShutsBegin { s with prog := p } u b tr)
    (hr : ∀ h : Fin 4, p.roles[h].role = s.prog.roles[h].role ∧ p.roles[h].held = s.prog.roles[h].held)
    (hd : p.deferred = s.prog.deferred) : s.ShutsBegin u b tr where
  placed := k.placed
  kept := k.kept
  raised := k.raised
  notRaised := k.notRaised
  roles hn e he := by
    have hk := k.roles hn e he
    dsimp only at hk
    rw [(hr e.holder).1] at hk
    exact hk
  others h hno hnw := (k.others h hno hnw).trans (hr h).1
  held h := (k.held h).trans (hr h).2
  mark := k.mark
  ends hall hno := by
    obtain ⟨htrans, hmarks, hnext⟩ := k.ends hall hno
    dsimp only at hmarks hnext
    rw [hd] at hmarks
    simp only [hd] at hnext
    exact ⟨htrans, hmarks, hnext⟩
  goesOn := k.goesOn
  perms := k.perms

theorem State.settleOpening_waits (ht : s.prog.transition = some tr) (hw : ∃ o ∈ tr.opens, o.state = .inFlight) :
    s.settleOpening b = s := by
  obtain ⟨o, ho, hst⟩ := hw
  unfold State.settleOpening
  rw [ht]
  refine if_neg fun hc => ?_
  have := List.all_eq_true.1 (Bool.and_eq_true_iff.1 hc).2 o ho
  rw [hst] at this
  exact nomatch this

theorem State.settleOpening_ends (ht : s.prog.transition = some tr) (hp : tr.shutting = false)
    (hw : ∀ o ∈ tr.opens, o.state ≠ .inFlight) : s.settleOpening b = s.finishOpening b tr := by
  unfold State.settleOpening
  rw [ht]
  refine if_pos (Bool.and_eq_true_iff.2 ⟨by rw [hp]; rfl, List.all_eq_true.2 fun o ho => bne_iff_ne.2 (hw o ho)⟩)

/-- R95, R97: a transition that leaves no open demand in flight begins its shutting phase. -/
theorem State.setTransition_begins (hlive : s.live = some b) (hp : tr.shutting = false) (hw : ∀ o ∈ tr.opens, o.state ≠ .inFlight)
    (hfit : ∀ v, tr.Waits v → b.fitted (holderOf v) = true) :
    s.ShutsBegin ((s.setTransition (some tr)).settleOpening b) b tr := by
  rw [State.settleOpening_ends (s := s.setTransition (some tr)) rfl hp hw]
  exact (State.finishOpening_begins (s := s.setTransition (some tr)) hlive hfit).1.of_prog (fun _ => ⟨rfl, rfl⟩) rfl

/-- R93, R94, R96: the valve of an incoming holder that is not OPEN stands SHUT, with permission. -/
theorem State.Incoming.ready (h : s.Incoming b sd c r) (hno : s.valves[valveOf c sd].state ≠ .opened) :
    s.valves[valveOf c sd].state = .shut ∧ s.perms[valveOf c sd].granted = true := by
  have havail := h.2.1
  unfold State.available at havail
  simp only [Bool.and_eq_true, List.all_cons, List.all_nil, and_true, Bool.or_eq_true, Bool.not_eq_true'] at havail
  have hasks : (r.gain sd).asksOpen sd = true := by cases sd <;> cases r <;> rfl
  have hsettled : s.valves[valveOf c sd].state.settled = true ∧ s.perms[valveOf c sd].granted = true := by
    obtain ⟨⟨_, hin, hout⟩, _⟩ := havail
    cases sd with
    | inlet => exact (hin.resolve_left (by rw [hasks]; nofun)).symm
    | outlet => exact (hout.resolve_left (by rw [hasks]; nofun)).symm
  refine ⟨?_, hsettled.2⟩
  obtain ⟨hsettled, _⟩ := hsettled
  generalize s.valves[valveOf c sd].state = x at hno hsettled
  cases x with
  | shut => rfl
  | opened => exact absurd rfl hno
  | _ => exact nomatch hsettled

/-- R95: the one open demand of a changeover is offered. -/
theorem State.offerOne_begins (hs : s.valves[v].state = .shut) (hg : s.perms[v].granted = true) (hl : s.loop.lost = false)
    (tr : Transition) :
    let u := (s.setTransition (some tr)).offerOpen v
    u.prog.transition = some tr ∧ s.OpensBegin u [⟨v, .inFlight⟩] ∧ u.prog.roles = s.prog.roles := by
  obtain ⟨hbegin, hprog⟩ := State.offers_begin (s := s.setTransition (some tr)) (opens := [⟨v, .inFlight⟩]) (by simp)
    (fun o ho => by cases List.mem_singleton.1 ho; exact ⟨hs, hg⟩) hl
  have hprog : ((s.setTransition (some tr)).offerOpen v).prog = { s.prog with transition := some tr } := hprog
  intro u
  rw [show u.prog = _ from hprog]
  exact ⟨rfl, hbegin, rfl⟩

/-! ## Changeovers (R93, R94) -/

theorem Side.trigger_side (sd : Side) : sd.trigger.side = some sd := by cases sd <;> rfl

theorem State.buildTrigger_side (s : State) (b : Bank) (sd : Side) : s.buildTrigger b sd.trigger = s.buildChangeover b sd := by
  unfold State.buildTrigger
  rw [sd.trigger_side]

theorem State.buildChangeover_none (hno : ∀ h, ¬s.Outgoing b sd h) : s.buildChangeover b sd = s := by
  unfold State.buildChangeover
  rw [State.findOutgoing_none hno]

theorem State.buildChangeover_noCandidate (ho : s.FirstOutgoing b sd o)
    (hno : ∀ c r, c ∈ b.orderOf sd → c ≠ o → ¬s.Incoming b sd c r) : s.buildChangeover b sd = s.raise sd.source := by
  unfold State.buildChangeover
  rw [State.findOutgoing_some ho]
  dsimp only
  rw [State.findIncoming_none fun c r hc hne => hno c r hc fun e => hne (congrArg some e)]

/-- R93, R94: the transition of a changeover, with its open demands. -/
def State.changeover (s : State) (sd : Side) (o c : Fin 4) (r : Role) (opens : List OpenEntry) : Transition :=
  ⟨sd.trigger, false, some o, some c, false,
    [⟨o, s.prog.roles[o].role, s.prog.roles[o].role.map fun x => x.lose sd⟩, ⟨c, some r, some (r.gain sd)⟩], opens,
    if s.valves[valveOf o sd].state = .shut then [] else [⟨valveOf o sd, .waiting⟩]⟩

theorem State.buildChangeover_eq (ho : s.FirstOutgoing b sd o) (hc : s.FirstIncoming b sd (some o) (b.orderOf sd) c r) :
    s.buildChangeover b sd = if s.givesOpen sd c
      then ((s.setTransition (some (s.changeover sd o c r [⟨valveOf c sd, .inFlight⟩]))).offerOpen (valveOf c sd)).settleOpening b
      else (s.setTransition (some (s.changeover sd o c r []))).settleOpening b := by
  have hrole : (s.roleRec c).role = some r := hc.2.1.1
  have hshuts : (if s.valves[valveOf o sd].state != .shut then [(⟨valveOf o sd, .waiting⟩ : ShutEntry)] else []) =
      if s.valves[valveOf o sd].state = .shut then [] else [⟨valveOf o sd, .waiting⟩] := by
    generalize s.valves[valveOf o sd].state = x
    cases x <;> rfl
  unfold State.buildChangeover
  rw [State.findOutgoing_some ho]
  dsimp only
  rw [State.findIncoming_some hc]
  dsimp only
  rw [hshuts, hrole]
  cases s.givesOpen sd c <;> rfl

/-- R93, R94: a changeover whose incoming holder is to open its valve. -/
theorem State.buildChangeover_opens (ho : s.FirstOutgoing b sd o) (hc : s.FirstIncoming b sd (some o) (b.orderOf sd) c r)
    (hl : s.loop.lost = false) (ha : r.asksOpen sd = false) (hv : s.valves[valveOf c sd].state ≠ .opened) :
    let u := s.buildChangeover b sd
    u.prog.transition = some (s.changeover sd o c r [⟨valveOf c sd, .inFlight⟩]) ∧ s.OpensBegin u [⟨valveOf c sd, .inFlight⟩] ∧
      u.prog.roles = s.prog.roles := by
  intro u
  obtain ⟨hshut, hg⟩ := hc.2.1.ready hv
  have hbegins := State.offerOne_begins hshut hg hl (s.changeover sd o c r [⟨valveOf c sd, .inFlight⟩])
  rw [show u = _ from State.buildChangeover_eq ho hc, if_pos (State.givesOpen_true hc.2.1.1 ha hv),
    State.settleOpening_waits hbegins.1 ⟨_, .head _, rfl⟩]
  exact hbegins

/-- R93, R94: a changeover whose incoming holder does the work already. -/
theorem State.buildChangeover_shuts (hlive : s.live = some b) (ho : s.FirstOutgoing b sd o)
    (hc : s.FirstIncoming b sd (some o) (b.orderOf sd) c r) (ha : r.asksOpen sd = true ∨ s.valves[valveOf c sd].state = .opened) :
    s.ShutsBegin (s.buildChangeover b sd) b (s.changeover sd o c r []) := by
  rw [State.buildChangeover_eq ho hc, if_neg (by rw [State.givesOpen_false hc.2.1.1 ha]; nofun)]
  refine State.setTransition_begins hlive rfl (fun _ ho => nomatch ho) fun v hv => ?_
  obtain ⟨hv, _⟩ := hv
  unfold State.changeover at hv
  dsimp only at hv
  split at hv
  · exact nomatch hv
  · cases List.mem_singleton.1 hv
    rw [holderOf_valveOf]
    exact ho.1.1

end Sys2Proof.Machine

/-! # Outcome notices (R95, R96, R98), HOLD ROLE and RELEASE ROLE (R103, R104) -/

namespace Sys2Proof.Machine

variable {s t u : State} {b : Bank} {h c o : Fin 4} {v w : Fin 8} {tr : Transition} {sd : Side} {r : Role}

/-! ## The entries of a notice's valve -/

theorem Transition.openInFlight_iff (tr : Transition) (v : Fin 8) : tr.openInFlight v = true ↔ ⟨v, .inFlight⟩ ∈ tr.opens := by
  unfold Transition.openInFlight
  rw [List.any_eq_true]
  refine ⟨fun ⟨⟨y, st⟩, hx, he⟩ => ?_, fun hx => ⟨_, hx, by simp⟩⟩
  obtain ⟨hy, hst⟩ := Bool.and_eq_true_iff.1 he
  cases of_decide_eq_true hy
  cases beq_iff_eq.1 hst
  exact hx

theorem Transition.shutInFlight_iff (tr : Transition) (v : Fin 8) : tr.shutInFlight v = true ↔ ⟨v, .inFlight⟩ ∈ tr.shuts := by
  unfold Transition.shutInFlight
  rw [List.any_eq_true]
  refine ⟨fun ⟨⟨y, st⟩, hx, he⟩ => ?_, fun hx => ⟨_, hx, by simp⟩⟩
  obtain ⟨hy, hst⟩ := Bool.and_eq_true_iff.1 he
  cases of_decide_eq_true hy
  cases beq_iff_eq.1 hst
  exact hx

/-- R95: the open entry of a valve has ended. -/
def Transition.openAt (tr : Transition) (v : Fin 8) (st : OpenState) : Transition :=
  { tr with opens := tr.opens.map fun o => if o = ⟨v, .inFlight⟩ then ⟨v, st⟩ else o }

/-- R98: the shut entry of a valve has ended. -/
def Transition.shutAt (tr : Transition) (v : Fin 8) (st : ShutState) : Transition :=
  { tr with shuts := tr.shuts.map fun x => if x = ⟨v, .inFlight⟩ then ⟨v, st⟩ else x }

theorem Transition.markOpen_eq (tr : Transition) (v : Fin 8) (st : OpenState) : tr.markOpen v st = tr.openAt v st := by
  refine congrArg (fun l => ({ tr with opens := l } : Transition)) (List.map_congr_left fun o _ => ?_)
  obtain ⟨y, x⟩ := o
  by_cases hc : y = v ∧ x = .inFlight
  · obtain ⟨rfl, rfl⟩ := hc
    rw [if_pos ⟨rfl, rfl⟩, if_pos rfl]
  · rw [if_neg hc, if_neg fun e => hc (by cases e; exact ⟨rfl, rfl⟩)]

theorem Transition.markShut_eq (tr : Transition) (v : Fin 8) (st : ShutState) : tr.markShut v .inFlight st = tr.shutAt v st := by
  refine congrArg (fun l => ({ tr with shuts := l } : Transition)) (List.map_congr_left fun o _ => ?_)
  obtain ⟨y, x⟩ := o
  by_cases hc : y = v ∧ x = .inFlight
  · obtain ⟨rfl, rfl⟩ := hc
    rw [if_pos ⟨rfl, rfl⟩, if_pos rfl]
  · rw [if_neg hc, if_neg fun e => hc (by cases e; exact ⟨rfl, rfl⟩)]

/-! ## A notice is taken -/

/-- R63: a notice without an entry in flight is disregarded. -/
theorem State.takeNotice_disregarded {dir : Dir} {reached : Bool} (hno : ∀ t, s.prog.transition = some t →
      (dir = .toOpen → ⟨v, .inFlight⟩ ∉ t.opens) ∧ (dir = .toShut → ⟨v, .inFlight⟩ ∉ t.shuts)) :
    s.takeNotice b ⟨v, dir, reached⟩ = s := by
  unfold State.takeNotice
  cases ht : s.prog.transition with
  | none => rfl
  | some t =>
    obtain ⟨hopen, hshut⟩ := hno t ht
    cases dir with
    | toOpen => exact if_neg fun hf => hopen rfl ((t.openInFlight_iff v).1 hf)
    | toShut => exact if_neg fun hf => hshut rfl ((t.shutInFlight_iff v).1 hf)

theorem State.takeNotice_open (ht : s.prog.transition = some tr) (hin : ⟨v, .inFlight⟩ ∈ tr.opens) (reached : Bool) :
    s.takeNotice b ⟨v, .toOpen, reached⟩ =
      s.openEnded b (tr.openAt v (if reached then .reached else .failed)) (holderOf v) reached := by
  unfold State.takeNotice
  rw [ht]
  refine (if_pos ((tr.openInFlight_iff v).2 hin)).trans ?_
  rw [tr.markOpen_eq]

theorem State.takeNotice_shut (ht : s.prog.transition = some tr) (hin : ⟨v, .inFlight⟩ ∈ tr.shuts) (reached : Bool) :
    s.takeNotice b ⟨v, .toShut, reached⟩ =
      (s.setTransition (some (tr.shutAt v (if reached then .reached else .failed)))).settleShutting := by
  unfold State.takeNotice
  rw [ht]
  refine (if_pos ((tr.shutInFlight_iff v).2 hin)).trans ?_
  rw [tr.markShut_eq]

/-- R95: no changeover fails. -/
theorem State.openEnded_settles {reached : Bool} (hr : reached = true ∨ tr.trigger.side = none) (h : Fin 4) :
    s.openEnded b tr h reached = (s.setTransition (some tr)).settleOpening b := by
  unfold State.openEnded
  rcases hr with hr | hr
  · rw [hr]
  · rw [hr]
    cases reached <;> rfl

theorem State.openEnded_failed (hside : tr.trigger.side = some sd) (h : Fin 4) :
    s.openEnded b tr h false = s.failedIncoming b tr sd h := by
  unfold State.openEnded
  rw [hside]

/-! ## The incoming holder of a changeover fails (R96) -/

/-- R96: the changeover ends with its source raised. -/
theorem State.abandon_ends (hlive : s.live = some b) (hside : tr.trigger.side = some sd) :
    let u := s.abandon tr sd
    s.Raised u sd.source ∧ s.Ends u b tr ∧ u.valves = s.valves ∧ u.prog.roles = s.prog.roles := by
  intro u
  have hzlive : (s.raise sd.source).live = some b := (congrArg TableStore.live (s.raise_tables _)).trans hlive
  have k := State.endTransition_ended hzlive tr
  obtain ⟨p, hp, _⟩ := k.same
  have hu : u = { s.raise sd.source with prog := p } := hp
  have hends : s.Ends u b tr := by
    have hends := k.ends
    unfold State.Ends at hends ⊢
    rw [State.raise_prog] at hends
    exact hends
  refine ⟨?_, hends, by rw [hu]; exact s.raise_valves _, ?_⟩
  · rw [hu]
    exact (s.raise_raised _).after (.of_items rfl _)
  · exact (k.roles sd hside).trans (by rw [State.raise_prog])

section Failed

variable {before after : List (Fin 4)} (horder : b.orderOf sd = before ++ h :: after) (hb : h ∉ before)
include horder hb

theorem State.failedIncoming_abandons (hno : tr.triedFurther = true ∨ ∀ c r, c ∈ after → some c ≠ tr.outgoing → ¬s.Incoming b sd c r) :
    s.failedIncoming b tr sd h = s.abandon (tr.backToPrior h) sd := by
  unfold State.failedIncoming
  dsimp only
  rcases hno with hno | hno
  · rw [hno]
    rfl
  · rw [placesAfter_split horder hb, State.findIncoming_none hno]
    exact ite_self _

omit horder hb in
/-- R96: the transition that goes on with a further candidate. -/
def Transition.withFurther (tr : Transition) (sd : Side) (c : Fin 4) (r : Role) (opens : List OpenEntry) : Transition :=
  { tr with incoming := some c, triedFurther := true, entries := tr.entries ++ [⟨c, some r, some (r.gain sd)⟩], opens := tr.opens ++ opens }

theorem State.failedIncoming_eq (ht : tr.triedFurther = false) (hc : s.FirstIncoming b sd tr.outgoing after c r) :
    s.failedIncoming b tr sd h = if s.givesOpen sd c
      then (s.setTransition (some ((tr.backToPrior h).withFurther sd c r [⟨valveOf c sd, .inFlight⟩]))).offerOpen (valveOf c sd)
      else (s.setTransition (some ((tr.backToPrior h).withFurther sd c r []))).settleOpening b := by
  have hrole : (s.roleRec c).role = some r := hc.2.1.1
  unfold State.failedIncoming
  dsimp only
  rw [ht, placesAfter_split horder hb, State.findIncoming_some hc]
  dsimp only
  rw [hrole, if_neg nofun]
  unfold Transition.withFurther
  cases s.givesOpen sd c with
  | true => rfl
  | false => rw [List.append_nil]; rfl

theorem State.failedIncoming_opens (ht : tr.triedFurther = false) (hc : s.FirstIncoming b sd tr.outgoing after c r)
    (hl : s.loop.lost = false) (ha : r.asksOpen sd = false) (hv : s.valves[valveOf c sd].state ≠ .opened) :
    let u := s.failedIncoming b tr sd h
    u.prog.transition = some ((tr.backToPrior h).withFurther sd c r [⟨valveOf c sd, .inFlight⟩]) ∧
      s.OpensBegin u [⟨valveOf c sd, .inFlight⟩] ∧ u.prog.roles = s.prog.roles := by
  intro u
  obtain ⟨hshut, hg⟩ := hc.2.1.ready hv
  rw [show u = _ from State.failedIncoming_eq horder hb ht hc, if_pos (State.givesOpen_true hc.2.1.1 ha hv)]
  exact State.offerOne_begins hshut hg hl _

theorem State.failedIncoming_shuts (hlive : s.live = some b) (hp : tr.shutting = false) (ht : tr.triedFurther = false)
    (hc : s.FirstIncoming b sd tr.outgoing after c r) (ha : r.asksOpen sd = true ∨ s.valves[valveOf c sd].state = .opened)
    (hw : ∀ o ∈ tr.opens, o.state ≠ .inFlight)
    (hfit : ∀ w, ((tr.backToPrior h).withFurther sd c r []).Waits w → b.fitted (holderOf w) = true) :
    s.ShutsBegin (s.failedIncoming b tr sd h) b ((tr.backToPrior h).withFurther sd c r []) := by
  rw [State.failedIncoming_eq horder hb ht hc, if_neg (by rw [State.givesOpen_false hc.2.1.1 ha]; nofun)]
  refine State.setTransition_begins hlive hp (fun o ho => ?_) hfit
  exact hw o ((List.mem_append.1 ho).elim id fun ho => nomatch ho)

end Failed

/-! ## The last shut of a transition -/

theorem Transition.shutsEnded_eq (tr : Transition) : tr.shutsEnded = true ↔ ∀ x ∈ tr.shuts, x.state ≠ .waiting ∧ x.state ≠ .inFlight := by
  unfold Transition.shutsEnded
  rw [List.all_eq_true]
  refine forall_congr' fun x => forall_congr' fun _ => ?_
  rw [Bool.and_eq_true_iff, bne_iff_ne, bne_iff_ne]

/-- R98, R99: a shutting phase settled in a state whose transition's record alone has changed. -/
theorem State.settleShutting_ends (hlive : s.live = some b) (hp : tr.shutting = true)
    (hall : ∀ x ∈ tr.shuts, x.state ≠ .waiting ∧ x.state ≠ .inFlight) :
    let u := (s.setTransition (some tr)).settleShutting
    s.Ends u b tr ∧ u.valves = s.valves ∧ ∀ h : Fin 4, u.prog.roles[h].role = s.prog.roles[h].role := by
  intro u
  have k := State.endTransition_ended (s := s.setTransition (some tr)) hlive tr
  rw [← State.settleShutting_ended (s := s.setTransition (some tr)) rfl hp (tr.shutsEnded_eq.2 hall)] at k
  obtain ⟨p, hp, _⟩ := k.same
  exact ⟨k.ends, by rw [show u = _ from hp]; rfl, fun h => (k.role h).1⟩

/-! ## HOLD ROLE and RELEASE ROLE -/

theorem Steps.programme_perms (h : ProgrammeSteps s t) : t.perms = s.perms := by
  refine Steps.keeps (K := fun s t => t.perms = s.perms) h (fun _ => rfl) (fun h k => k.trans h) fun h => ?_
  cases h with
  | records p => rfl
  | noCandidate sd => exact State.raise_perms ..
  | demand v d => exact (State.offered_atValve ..).perms

section Hold

variable (hlive : s.live = some b) (hf : b.fitted h = true)
include hlive hf

theorem State.actHoldRole_eq : State.actOf 17 [b8 (h.val + 1)] s =
    if s.prog.roles[h].role = none then s.refuse .conditionPresent
    else if s.hasEntry h then s.refuse .inTransition
    else (s.mapRole h RoleRec.hold, one (s.mapRole h RoleRec.hold).programmeData) := by
  show s.actHoldRole (param [1] [b8 (h.val + 1)] 0) = _
  rw [param_small _ (by omega)]
  unfold State.actHoldRole
  rw [State.withBank_live hlive, Bank.fittedHolder_some hf]
  rfl

theorem State.actReleaseRole_eq : State.actOf 18 [b8 (h.val + 1)] s = (s.release h, one (s.release h).programmeData) := by
  show s.actReleaseRole (param [1] [b8 (h.val + 1)] 0) = _
  rw [param_small _ (by omega)]
  unfold State.actReleaseRole
  rw [State.withBank_live hlive, Bank.fittedHolder_some hf]

end Hold

theorem State.hasEntry_true {x : TargetEntry} (ht : s.prog.transition = some tr) (hx : x ∈ tr.entries) (hh : x.holder = h) :
    s.hasEntry h = true := by
  unfold State.hasEntry
  rw [ht]
  exact List.any_eq_true.2 ⟨x, hx, decide_eq_true hh⟩

theorem State.hasEntry_false (hno : ∀ t, s.prog.transition = some t → ∀ x ∈ t.entries, x.holder ≠ h) : s.hasEntry h = false := by
  unfold State.hasEntry
  cases ht : s.prog.transition with
  | none => rfl
  | some t => exact List.any_eq_false.2 fun x hx => by rw [decide_eq_false (hno t ht x hx)]; nofun

theorem State.enterTrigger_eq (s : State) (x : Trigger) : s.enterTrigger x = { s with prog := { s.prog with
    deferred := if x ∈ s.prog.deferred then s.prog.deferred else s.prog.deferred ++ [x] } } := by
  unfold State.enterTrigger
  split <;> rfl

/-- R104: a hold released, before the Programme Unit settles. -/
theorem State.release_held (hh : s.prog.roles[h].held = true) : s.release h = State.settled { s with prog := { s.prog with
    roles := upd s.prog.roles h { s.prog.roles[h] with held := false, retake := true },
    deferred := if Trigger.reEvaluate ∈ s.prog.deferred then s.prog.deferred else s.prog.deferred ++ [Trigger.reEvaluate] } } := by
  unfold State.release
  rw [if_pos (show (s.roleRec h).held = true from hh), State.enterTrigger_eq]
  rfl

/-- R103, R104: the two directives. -/
theorem holdAndRelease (hcan : s.canAnswer) (hlive : s.live = some b) (hf : b.fitted h = true) (ref : Byte) :
    let r := s.prog.roles[h]
    let ps : List Byte := [b8 (h.val + 1)]
    let held : State := { s with prog := { s.prog with roles := upd s.prog.roles h { r with held := true, retake := false } } }
    let freed : State := { s with prog := { s.prog with
      roles := upd s.prog.roles h { r with held := false, retake := true },
      deferred := if Trigger.reEvaluate ∈ s.prog.deferred then s.prog.deferred else s.prog.deferred ++ [Trigger.reEvaluate] } }
    (r.role = none → exec (.holdRole ref ps) s = .next (s.refuses 17 ref 6 [])) ∧
    (∀ t x, r.role ≠ none → s.prog.transition = some t → x ∈ t.entries → x.holder = h →
      exec (.holdRole ref ps) s = .next (s.refuses 17 ref 7 [])) ∧
    (r.role ≠ none → (∀ t, s.prog.transition = some t → ∀ x ∈ t.entries, x.holder ≠ h) →
      (r.held = false → exec (.holdRole ref ps) s = .next (held.accepts 17 ref held.programmeData)) ∧
      (r.held = true → exec (.holdRole ref ps) s = .next (s.accepts 17 ref s.programmeData))) ∧
    (r.held = false → exec (.releaseRole ref ps) s = .next (s.accepts 18 ref s.programmeData)) ∧
    (r.held = true → s.prog.notices = [] → s.mayTake = false →
      exec (.releaseRole ref ps) s = .next (freed.accepts 18 ref freed.programmeData)) ∧
    (r.held = true →
      let w := State.settled { freed with loop := { s.loop with lineQuiet := false } }
      exec (.releaseRole ref ps) s = .next { w with
        loop := { w.loop with responses := w.loop.responses ++ [[[18, ref, 0, 1, 1] ++ w.programmeData]] }, drawn := w.drawn + 1 } ∧
      w.loop.responses = s.loop.responses ∧ s.Keeps w ∧ w.holders = s.holders ∧ w.districts = s.districts ∧ w.accounts = s.accounts ∧
      w.nv = s.nv ∧ w.perms = s.perms) := by
  intro r ps held freed
  have hhold := State.actHoldRole_eq (s := s.absorb) hlive hf
  have hrelease := State.actReleaseRole_eq (s := s.absorb) hlive hf
  have hlen : ps.length ≤ 198 := by simp [ps]
  refine ⟨fun hr => ?notSet, fun t x hr ht hx hh => ?inTransition, fun hr hno => ⟨fun hh => ?holds, fun hh => ?heldAlready⟩,
    fun hh => ?notHeld, fun hh hn hm => ?released, fun hh => ?settles⟩
  case notSet =>
    exact exec_directive_refused (r := .conditionPresent) rfl hcan hlen rfl (hhold.trans (if_pos hr))
  case inTransition =>
    refine exec_directive_refused (r := .inTransition) rfl hcan hlen rfl (hhold.trans ((if_neg hr).trans (if_pos ?_)))
    exact State.hasEntry_true (s := s.absorb) ht hx hh
  case holds =>
    refine exec_directive_answered (t := held) rfl hcan hlen rfl (hhold.trans ((if_neg hr).trans ((if_neg ?_).trans ?_)))
    · rw [State.hasEntry_false (s := s.absorb) hno]
      nofun
    · rw [State.mapRole_eq, show RoleRec.hold s.absorb.prog.roles[h] = { r with held := true, retake := false } from
        if_neg (Bool.eq_false_iff.1 hh)]
      rfl
  case heldAlready =>
    refine exec_directive_answered (t := s) rfl hcan hlen rfl (hhold.trans ((if_neg hr).trans ((if_neg ?_).trans ?_)))
    · rw [State.hasEntry_false (s := s.absorb) hno]
      nofun
    · rw [State.mapRole_eq, show RoleRec.hold s.absorb.prog.roles[h] = s.absorb.prog.roles[h] from if_pos hh, upd_same]
      rfl
  case notHeld =>
    refine exec_directive_answered (t := s) rfl hcan hlen rfl (hrelease.trans ?_)
    rw [show s.absorb.release h = s.absorb from if_neg (Bool.eq_false_iff.1 hh)]
    rfl
  case released =>
    refine exec_directive_answered (t := freed) rfl hcan hlen rfl (hrelease.trans ?_)
    have hidle : freed.absorb.ProgrammeIdle := ⟨hn, .inr hm⟩
    rw [show s.absorb.release h = freed.absorb from (State.release_held (s := s.absorb) hh).trans (State.settled_idle _ hidle)]
    rfl
  case settles =>
    intro w
    have hw : s.absorb.release h = w := State.release_held (s := s.absorb) hh
    have steps : ProgrammeSteps s.absorb w := (s.absorb.setProg_steps freed.prog).trans (State.settled_steps _)
    have only : OnlyValves s.absorb w := steps.onlyValves
    have hperms : w.perms = s.absorb.perms := Steps.programme_perms steps
    have hkeeps : s.Keeps w := State.Keeps.trans (t := s.absorb) ⟨rfl, rfl, rfl, rfl, rfl, rfl, rfl, rfl, rfl, rfl⟩ only.keeps
    refine ⟨?_, only.loop.responses, hkeeps, only.holders, only.districts, only.accounts, only.nv, hperms⟩
    rw [exec_directive_acts (ps := ps) (i := .releaseRole ref ps) rfl hcan hlen rfl, show State.actOf 18 ps s.absorb = _ from hrelease, hw]
    rw [State.respond_one]
    rfl

/-- Settles O56: each part by the equation of the operation it names. -/
theorem roles : Obligations.Roles := by
  refine ⟨fun s b hlive => ⟨?trigger, ?notice, ?noOutgoing, ?changeover, ?disregarded, ?opens, ?shuts⟩,
    fun s b h ref hcan hlive hf => holdAndRelease hcan hlive hf ref⟩
  case trigger =>
    intro t ts hn ht hc hl hd u hidle
    exact (State.settle_trigger hlive hn (State.mayTake_true hlive ht hc hl) hd _).trans (State.settle_idle hidle _)
  case notice =>
    intro x xs hn u hidle
    exact (State.settle_notice hlive hn _).trans (State.settle_idle hidle _)
  case noOutgoing =>
    intro sd hno
    rw [State.buildTrigger_side]
    exact State.buildChangeover_none hno
  case changeover =>
    intro sd o ho
    rw [State.buildTrigger_side]
    refine ⟨fun hno => State.buildChangeover_noCandidate ho hno, fun c r hc hl => ⟨fun ha hv => ?_, fun ha => ?_⟩⟩
    · exact State.buildChangeover_opens ho hc hl ha hv
    · exact State.buildChangeover_shuts hlive ho hc ha
  case disregarded =>
    intro v dir reached hno
    exact State.takeNotice_disregarded hno
  case opens =>
    intro t v reached ht hin hp n t1 u
    have hu : u = s.openEnded b t1 (holderOf v) reached := State.takeNotice_open ht hin reached
    constructor
    · intro hr
      rw [hu, State.openEnded_settles (tr := t1) hr]
      exact ⟨fun hw => State.settleOpening_waits rfl hw, fun hw hfit => State.setTransition_begins hlive hp hw hfit⟩
    · intro sd before after hr hside horder hb t2
      subst hr
      rw [hu, State.openEnded_failed (tr := t1) hside]
      refine ⟨fun hno => ?_, fun c r htried hc hl => ⟨fun ha hv => ?_, fun ha hw hfit => ?_⟩⟩
      · rw [State.failedIncoming_abandons (tr := t1) horder hb hno]
        exact State.abandon_ends hlive hside
      · exact State.failedIncoming_opens (tr := t1) horder hb htried hc hl ha hv
      · exact State.failedIncoming_shuts (tr := t1) horder hb hlive hp htried hc ha hw hfit
  case shuts =>
    intro t v reached ht hin n t1 u
    have hu : u = (s.setTransition (some t1)).settleShutting := State.takeNotice_shut ht hin reached
    rw [hu]
    refine ⟨fun hw => State.settleShutting_goesOn (s := s.setTransition (some t1)) rfl ?_, fun hp hall => State.settleShutting_ends hlive hp hall⟩
    refine Bool.and_eq_false_iff.2 (hw.imp id fun ⟨x, hx, hst⟩ => Bool.eq_false_iff.2 fun hend => ?_)
    obtain ⟨hwait, hflight⟩ := t1.shutsEnded_eq.1 hend x hx
    exact hst.elim hwait hflight

end Sys2Proof.Machine

/-! # SLOT and RE-EVALUATE transitions (R92), the clock's boundaries and the store's write -/

namespace Sys2Proof.Machine

variable {s t u : State} {b : Bank} {h : Fin 4} {v w : Fin 8} {x : Trigger} {slot : Nat} {r : Role} {sd : Side}

/-! ## A holder's part -/

theorem RoleRec.slotTarget_eq (s : State) (b : Bank) (x : Trigger) (slot : Nat) (h : Fin 4) :
    (s.roleRec h).slotTarget x (b.slotRole slot h) = s.target b x slot h := by
  unfold State.target State.roleRec RoleRec.slotTarget
  cases s.prog.roles[h].held with
  | true => rfl
  | false =>
    cases s.prog.roles[h].retake <;> cases x <;> rfl

theorem State.valves_own (s : State) (v : Fin 8) : s.valves[valveOf (holderOf v) (sideOf v)] = s.valves[v] :=
  congrArg (fun w : Fin 8 => s.valves[w]) (valveOf_holderOf v)

theorem State.mem_openNeeds : v ∈ s.openNeeds h r ↔
    holderOf v = h ∧ r.asksOpen (sideOf v) = true ∧ s.valves[v].state ≠ .opened := by
  unfold State.openNeeds
  simp only [List.mem_map, List.mem_filter, Bool.and_eq_true, bne_iff_ne]
  constructor
  · rintro ⟨sd, ⟨_, ha, hv⟩, rfl⟩
    rw [holderOf_valveOf, sideOf_valveOf]
    exact ⟨rfl, ha, hv⟩
  · rintro ⟨rfl, ha, hv⟩
    refine ⟨sideOf v, ⟨by cases sideOf v <;> decide, ha, ?_⟩, valveOf_holderOf v⟩
    rw [s.valves_own]
    exact hv

theorem State.mem_shutNeeds : v ∈ s.shutNeeds h r ↔
    holderOf v = h ∧ r.asksOpen (sideOf v) = false ∧ s.valves[v].state ≠ .shut := by
  unfold State.shutNeeds
  simp only [List.mem_map, List.mem_filter, Bool.and_eq_true, bne_iff_ne, Bool.not_eq_true']
  constructor
  · rintro ⟨sd, ⟨_, ha, hv⟩, rfl⟩
    rw [holderOf_valveOf, sideOf_valveOf]
    exact ⟨rfl, ha, hv⟩
  · rintro ⟨rfl, ha, hv⟩
    refine ⟨sideOf v, ⟨by cases sideOf v <;> decide, ha, ?_⟩, valveOf_holderOf v⟩
    rw [s.valves_own]
    exact hv

theorem State.leftOut_eq_false : s.leftOut b h r = false ↔
    s.available b h r true = true ∨ ∀ sd, r.asksOpen sd = true → s.valves[valveOf h sd].state = .opened := by
  unfold State.leftOut
  have hempty : (s.openNeeds h r).isEmpty = true ↔ ∀ sd, r.asksOpen sd = true → s.valves[valveOf h sd].state = .opened := by
    rw [List.isEmpty_iff, List.eq_nil_iff_forall_not_mem]
    constructor
    · intro hno sd ha
      refine Decidable.byContradiction fun hv => hno (valveOf h sd) (State.mem_openNeeds.2 ?_)
      rw [holderOf_valveOf, sideOf_valveOf]
      exact ⟨rfl, ha, hv⟩
    · rintro hall w hw
      obtain ⟨rfl, ha, hv⟩ := State.mem_openNeeds.1 hw
      exact hv (by rw [← s.valves_own]; exact hall _ ha)
  rw [← hempty]
  cases (s.openNeeds h r).isEmpty <;> cases s.available b h r true <;> simp

theorem State.TakesPart.unique {q : Role} (h1 : s.TakesPart b x slot h r) (h2 : s.TakesPart b x slot h q) : r = q :=
  Option.some.inj (h1.2.1.symm.trans h2.2.1)

/-- R92: a holder that takes part. -/
theorem State.holderPart_takes (ht : s.TakesPart b x slot h r) : s.holderPart b x slot h =
    ([⟨h, s.prog.roles[h].role, some r⟩], (s.openNeeds h r).map fun v => ⟨v, .inFlight⟩, (s.shutNeeds h r).map fun v => ⟨v, .waiting⟩) := by
  obtain ⟨hf, htarget, havail⟩ := ht
  unfold State.holderPart
  rw [if_pos hf]
  dsimp only
  rw [RoleRec.slotTarget_eq, htarget]
  dsimp only
  rw [State.leftOut_eq_false.2 havail]
  rfl

/-- R92: a holder left out. -/
theorem State.holderPart_left (hf : b.fitted h = true) (hset : s.target b x slot h ≠ none) (hno : ∀ r, ¬s.TakesPart b x slot h r) :
    s.holderPart b x slot h = ([⟨h, s.prog.roles[h].role, s.prog.roles[h].role⟩], [], []) := by
  obtain ⟨r, hr⟩ := Option.ne_none_iff_exists'.1 hset
  have hleft : s.leftOut b h r = true := by
    cases hl : s.leftOut b h r with
    | true => rfl
    | false => exact absurd ⟨hf, hr, State.leftOut_eq_false.1 hl⟩ (hno r)
  unfold State.holderPart
  rw [if_pos hf]
  dsimp only
  rw [RoleRec.slotTarget_eq, hr]
  dsimp only
  rw [hleft]
  rfl

/-- R92: a holder not fitted, or without a target role. -/
theorem State.holderPart_none (hno : b.fitted h = false ∨ s.target b x slot h = none) : s.holderPart b x slot h = ([], [], []) := by
  unfold State.holderPart
  cases hf : b.fitted h with
  | false => rfl
  | true =>
    rw [if_pos rfl]
    dsimp only
    rw [RoleRec.slotTarget_eq, hno.resolve_left (by rw [hf]; nofun)]

/-- R92: what a holder's part is, by whether it takes part. -/
theorem State.holderPart_cases (s : State) (b : Bank) (x : Trigger) (slot : Nat) (h : Fin 4) :
    (∃ r, s.TakesPart b x slot h r) ∨
      (b.fitted h = true ∧ s.target b x slot h ≠ none ∧ (∀ r, ¬s.TakesPart b x slot h r)) ∨
      ((b.fitted h = false ∨ s.target b x slot h = none) ∧ ∀ r, ¬s.TakesPart b x slot h r) := by
  by_cases ht : ∃ r, s.TakesPart b x slot h r
  · exact .inl ht
  · have hno : ∀ r, ¬s.TakesPart b x slot h r := fun r hr => ht ⟨r, hr⟩
    cases hf : b.fitted h with
    | false => exact .inr (.inr ⟨.inl rfl, hno⟩)
    | true =>
      by_cases hset : s.target b x slot h = none
      · exact .inr (.inr ⟨.inr hset, hno⟩)
      · exact .inr (.inl ⟨rfl, hset, hno⟩)

theorem State.mem_holderPart_entries {e : TargetEntry} : e ∈ (s.holderPart b x slot h).1 ↔
    e.holder = h ∧ b.fitted e.holder = true ∧ e.prior = s.prog.roles[e.holder].role ∧
      ((∃ r, s.TakesPart b x slot e.holder r ∧ e.target = some r) ∨
        (s.target b x slot e.holder ≠ none ∧ (∀ r, ¬s.TakesPart b x slot e.holder r) ∧ e.target = e.prior)) := by
  obtain ⟨k, prior, target⟩ := e
  dsimp only
  rcases s.holderPart_cases b x slot h with ⟨r, hr⟩ | ⟨hf, hset, hno⟩ | ⟨hout, hno⟩
  · rw [State.holderPart_takes hr, List.mem_singleton]
    constructor
    · rintro ⟨⟩
      exact ⟨rfl, hr.1, rfl, .inl ⟨r, hr, rfl⟩⟩
    · rintro ⟨rfl, _, hp, ⟨q, hq, rfl⟩ | ⟨_, hno, _⟩⟩
      · rw [hp, hr.unique hq]
      · exact absurd hr (hno r)
  · rw [State.holderPart_left hf hset hno, List.mem_singleton]
    constructor
    · rintro ⟨⟩
      exact ⟨rfl, hf, rfl, .inr ⟨hset, hno, rfl⟩⟩
    · rintro ⟨rfl, _, hp, ⟨q, hq, _⟩ | ⟨_, _, rfl⟩⟩
      · exact absurd hq (hno q)
      · rw [hp]
  · rw [State.holderPart_none hout]
    constructor
    · nofun
    · rintro ⟨rfl, hf, _, ⟨q, hq, _⟩ | ⟨hset, _, _⟩⟩
      · exact absurd hq (hno q)
      · rcases hout with hout | hout
        · exact Bool.noConfusion (hout.symm.trans hf)
        · exact absurd hout hset

theorem State.mem_holderPart_opens {o : OpenEntry} : o ∈ (s.holderPart b x slot h).2.1 ↔ holderOf o.valve = h ∧ o.state = .inFlight ∧
    s.valves[o.valve].state ≠ .opened ∧ ∃ r, s.TakesPart b x slot (holderOf o.valve) r ∧ r.asksOpen (sideOf o.valve) = true := by
  obtain ⟨v, st⟩ := o
  have hnone (hp : (s.holderPart b x slot h).2.1 = []) (hno : ∀ r, ¬s.TakesPart b x slot h r) :
      (⟨v, st⟩ : OpenEntry) ∈ (s.holderPart b x slot h).2.1 ↔ holderOf v = h ∧ st = .inFlight ∧
        s.valves[v].state ≠ .opened ∧ ∃ r, s.TakesPart b x slot (holderOf v) r ∧ r.asksOpen (sideOf v) = true := by
    rw [hp]
    refine ⟨nofun, ?_⟩
    rintro ⟨rfl, _, _, q, hq, _⟩
    exact absurd hq (hno q)
  rcases s.holderPart_cases b x slot h with ⟨r, hr⟩ | ⟨hf, hset, hno⟩ | ⟨hout, hno⟩
  · rw [State.holderPart_takes hr]
    refine List.mem_map.trans ⟨?_, ?_⟩
    · rintro ⟨w, hw, ⟨⟩⟩
      obtain ⟨rfl, ha, hv⟩ := State.mem_openNeeds.1 hw
      exact ⟨rfl, rfl, hv, r, hr, ha⟩
    · rintro ⟨rfl, rfl, hv, q, hq, ha⟩
      exact ⟨v, State.mem_openNeeds.2 ⟨rfl, hr.unique hq ▸ ha, hv⟩, rfl⟩
  · exact hnone (by rw [State.holderPart_left hf hset hno]) hno
  · exact hnone (by rw [State.holderPart_none hout]) hno

theorem State.mem_holderPart_shuts {e : ShutEntry} : e ∈ (s.holderPart b x slot h).2.2 ↔ holderOf e.valve = h ∧ e.state = .waiting ∧
    s.valves[e.valve].state ≠ .shut ∧ ∃ r, s.TakesPart b x slot (holderOf e.valve) r ∧ r.asksOpen (sideOf e.valve) = false := by
  obtain ⟨v, st⟩ := e
  have hnone (hp : (s.holderPart b x slot h).2.2 = []) (hno : ∀ r, ¬s.TakesPart b x slot h r) :
      (⟨v, st⟩ : ShutEntry) ∈ (s.holderPart b x slot h).2.2 ↔ holderOf v = h ∧ st = .waiting ∧
        s.valves[v].state ≠ .shut ∧ ∃ r, s.TakesPart b x slot (holderOf v) r ∧ r.asksOpen (sideOf v) = false := by
    rw [hp]
    refine ⟨nofun, ?_⟩
    rintro ⟨rfl, _, _, q, hq, _⟩
    exact absurd hq (hno q)
  rcases s.holderPart_cases b x slot h with ⟨r, hr⟩ | ⟨hf, hset, hno⟩ | ⟨hout, hno⟩
  · rw [State.holderPart_takes hr]
    refine List.mem_map.trans ⟨?_, ?_⟩
    · rintro ⟨w, hw, ⟨⟩⟩
      obtain ⟨rfl, ha, hv⟩ := State.mem_shutNeeds.1 hw
      exact ⟨rfl, rfl, hv, r, hr, ha⟩
    · rintro ⟨rfl, rfl, hv, q, hq, ha⟩
      exact ⟨v, State.mem_shutNeeds.2 ⟨rfl, hr.unique hq ▸ ha, hv⟩, rfl⟩
  · exact hnone (by rw [State.holderPart_left hf hset hno]) hno
  · exact hnone (by rw [State.holderPart_none hout]) hno

/-! ## The transition that is built -/

/-- R92: the transition of a SLOT or RE-EVALUATE trigger. -/
def State.slotTransition (s : State) (b : Bank) (x : Trigger) (slot : Nat) : Transition :=
  let parts := (List.finRange 4).map (s.holderPart b x slot)
  { trigger := x, shutting := false, outgoing := none, incoming := none, triedFurther := false,
    entries := parts.flatMap fun p => p.1, opens := parts.flatMap fun p => p.2.1, shuts := parts.flatMap fun p => p.2.2 }

/-- A list gathered from the members of another, each giving at most what it is given for. -/
theorem flatMap_map_sublist {α β γ : Type} {f : α → List β} {g : β → γ} {k : α → List γ} (h : ∀ a, ((f a).map g).Sublist (k a))
    (l : List α) : ((l.flatMap f).map g).Sublist (l.flatMap k) := by
  induction l with
  | nil => exact .slnil
  | cons a l ih =>
    rw [List.flatMap_cons, List.map_append, List.flatMap_cons]
    exact (h a).append ih

theorem State.mem_parts {α : Type} {f : List TargetEntry × List OpenEntry × List ShutEntry → List α} {a : α} :
    a ∈ ((List.finRange 4).map (s.holderPart b x slot)).flatMap f ↔ ∃ h, a ∈ f (s.holderPart b x slot h) := by
  simp only [List.mem_flatMap, List.mem_map, List.mem_finRange, true_and]
  exact ⟨fun ⟨_, ⟨h, e⟩, ha⟩ => ⟨h, e ▸ ha⟩, fun ⟨h, ha⟩ => ⟨_, ⟨h, rfl⟩, ha⟩⟩

theorem State.slotTransition_is (s : State) (b : Bank) (x : Trigger) (slot : Nat) :
    s.SlotTransition b x slot (s.slotTransition b x slot) := by
  refine ⟨rfl, rfl, rfl, rfl, rfl, fun e => (State.mem_parts (f := fun p => p.1)).trans ?entries, ?nodup,
    fun o => (State.mem_parts (f := fun p => p.2.1)).trans ?opens, fun e => (State.mem_parts (f := fun p => p.2.2)).trans ?shuts⟩
  case entries =>
    simp only [State.mem_holderPart_entries]
    exact ⟨fun ⟨_, _, he⟩ => he, fun he => ⟨_, rfl, he⟩⟩
  case opens =>
    simp only [State.mem_holderPart_opens]
    exact ⟨fun ⟨_, _, he⟩ => he, fun he => ⟨_, rfl, he⟩⟩
  case shuts =>
    simp only [State.mem_holderPart_shuts]
    exact ⟨fun ⟨_, _, he⟩ => he, fun he => ⟨_, rfl, he⟩⟩
  case nodup =>
    have hsub : ((s.slotTransition b x slot).entries.map TargetEntry.holder).Sublist ((List.finRange 4).flatMap fun h => [h]) := by
      unfold State.slotTransition
      dsimp only
      rw [List.flatMap_map]
      refine flatMap_map_sublist (fun h => ?_) _
      rcases s.holderPart_cases b x slot h with ⟨r, hr⟩ | ⟨hf, hset, hno⟩ | ⟨hout, _⟩
      · rw [State.holderPart_takes hr]
        exact .refl _
      · rw [State.holderPart_left hf hset hno]
        exact .refl _
      · rw [State.holderPart_none hout]
        exact List.nil_sublist _
    exact hsub.nodup (by decide)

/-- R92: its open demands are of different valves. -/
theorem State.slotTransition_opens (s : State) (b : Bank) (x : Trigger) (slot : Nat) :
    ((s.slotTransition b x slot).opens.map OpenEntry.valve).Nodup := by
  have hsub : ((s.slotTransition b x slot).opens.map OpenEntry.valve).Sublist
      ((List.finRange 4).flatMap fun h => [valveOf h .inlet, valveOf h .outlet]) := by
    unfold State.slotTransition
    dsimp only
    rw [List.flatMap_map]
    refine flatMap_map_sublist (fun h => ?_) _
    rcases s.holderPart_cases b x slot h with ⟨r, hr⟩ | ⟨hf, hset, hno⟩ | ⟨hout, _⟩
    · rw [State.holderPart_takes hr]
      dsimp only
      rw [List.map_map]
      unfold State.openNeeds
      rw [List.map_map]
      exact (List.filter_sublist).map (valveOf h)
    · rw [State.holderPart_left hf hset hno]
      exact List.nil_sublist _
    · rw [State.holderPart_none hout]
      exact List.nil_sublist _
  exact hsub.nodup (by decide)

/-! ## A SLOT or RE-EVALUATE trigger is built -/

/-- R86: where an available holder's valve stands that the role asks OPEN. -/
theorem State.available_side {x : Bool} (h1 : s.available b h r x = true) (ha : r.asksOpen sd = true) :
    s.perms[valveOf h sd].granted = true ∧ s.valves[valveOf h sd].state.settled = true := by
  unfold State.available at h1
  simp only [Bool.and_eq_true, List.all_cons, List.all_nil, and_true, Bool.or_eq_true, Bool.not_eq_true'] at h1
  obtain ⟨⟨_, hin, hout⟩, _⟩ := h1
  cases sd with
  | inlet => exact hin.resolve_left (by rw [ha]; nofun)
  | outlet => exact hout.resolve_left (by rw [ha]; nofun)

/-- R92: a valve to be opened stands SHUT, with permission. -/
theorem State.slotTransition_ready {tr : Transition} (k : s.SlotTransition b x slot tr) {o : OpenEntry} (ho : o ∈ tr.opens) :
    s.valves[o.valve].state = .shut ∧ s.perms[o.valve].granted = true := by
  obtain ⟨_, _, _, _, _, _, _, hopens, _⟩ := k
  obtain ⟨_, hno, r, ⟨_, _, havail⟩, ha⟩ := (hopens o).1 ho
  have havail := havail.resolve_right fun hall => hno (by rw [← s.valves_own]; exact hall _ ha)
  obtain ⟨hg, hsettled⟩ := State.available_side havail ha
  rw [s.valves_own] at hsettled
  rw [show s.perms[valveOf (holderOf o.valve) (sideOf o.valve)] = s.perms[o.valve] from
    congrArg (fun w : Fin 8 => s.perms[w]) (valveOf_holderOf o.valve)] at hg
  refine ⟨?_, hg⟩
  generalize s.valves[o.valve].state = y at hno hsettled
  cases y with
  | shut => rfl
  | opened => exact absurd rfl hno
  | _ => exact nomatch hsettled

/-- R92: the retake marks are cleared of the fitted holders that are not held. -/
theorem State.clearRetakes_eq (s : State) (b : Bank) : ∃ R : Vector RoleRec 4,
    s.clearRetakes b = { s with prog := { s.prog with roles := R } } ∧ ∀ h : Fin 4, R[h] =
      if b.fitted h = true ∧ s.prog.roles[h].held = false then { s.prog.roles[h] with retake := false } else s.prog.roles[h] := by
  obtain ⟨R, hR, hroles⟩ := forEach_mapRole (fun h r => if b.fitted h && !r.held then { r with retake := false } else r) s
  refine ⟨R, ?_, fun h => (hroles h).trans (ite_congr (propext (by simp)) (fun _ => rfl) fun _ => rfl)⟩
  rw [← hR]
  unfold State.clearRetakes
  refine congrArg (fun f => forEach f s) (funext fun h => funext fun s => ?_)
  exact State.mapRole_ite s h (fun r => b.fitted h && !r.held) fun r => { r with retake := false }

/-- R92: the transition is built, its open demands are offered, and with none the shutting phase begins. -/
theorem State.buildSlot_builds {sl : DaySlot} (hlive : s.live = some b) (hsl : s.clock.slot = some sl) (hl : s.loop.lost = false)
    (x : Trigger) :
    let u := s.buildSlot b x
    let tr := s.slotTransition b x sl.slot
    let unretaken (h : Fin 4) : RoleRec :=
      if b.fitted h = true ∧ s.prog.roles[h].held = false then { s.prog.roles[h] with retake := false } else s.prog.roles[h]
    (tr.opens ≠ [] → u.prog.transition = some tr ∧ s.OpensBegin u tr.opens ∧ ∀ h, u.prog.roles[h] = unretaken h) ∧
      (tr.opens = [] → s.ShutsBegin u b tr ∧ ∀ h, u.prog.roles[h].retake = (unretaken h).retake) := by
  intro u tr unretaken
  obtain ⟨R, hR, hroles⟩ := s.clearRetakes_eq b
  have hkept (h : Fin 4) : R[h].role = s.prog.roles[h].role ∧ R[h].held = s.prog.roles[h].held := by
    rw [hroles h]
    split <;> exact ⟨rfl, rfl⟩
  have is := s.slotTransition_is b x sl.slot
  have hu : u = ((tr.opens.foldl (fun (s : State) o => s.offerOpen o.valve)
      { s with prog := { s.prog with roles := R, transition := some tr } }).settleOpening b) := by
    show s.buildSlot b x = _
    unfold State.buildSlot
    rw [hsl]
    dsimp only
    rw [hR]
    rfl
  rw [hu]
  constructor
  · intro hne
    obtain ⟨hbegin, hprog⟩ := State.offers_begin (s := { s with prog := { s.prog with roles := R, transition := some tr } })
      (s.slotTransition_opens b x sl.slot) (fun o ho => State.slotTransition_ready is ho) hl
    obtain ⟨o, ho⟩ := List.exists_mem_of_ne_nil _ hne
    have hflight : o.state = .inFlight := by
      obtain ⟨_, _, _, _, _, _, _, hopens, _⟩ := is
      exact ((hopens o).1 ho).1
    have htr := (congrArg Programme.transition hprog).trans rfl
    rw [State.settleOpening_waits htr ⟨o, ho, hflight⟩]
    exact ⟨htr, hbegin, fun h => (congrArg (fun p : Programme => p.roles[h]) hprog).trans (hroles h)⟩
  · intro hnil
    rw [hnil, List.foldl_nil]
    have hfit (v : Fin 8) (hv : tr.Waits v) : b.fitted (holderOf v) = true := by
      obtain ⟨_, _, _, _, _, _, _, _, hshuts⟩ := is
      obtain ⟨_, _, r, ⟨hf, _⟩, _⟩ := (hshuts _).1 hv.1
      exact hf
    rw [State.settleOpening_ends (s := { s with prog := { s.prog with roles := R, transition := some tr } }) rfl rfl
      fun o ho => by rw [hnil] at ho; exact nomatch ho]
    obtain ⟨hbegins, hretake⟩ := State.finishOpening_begins
      (s := { s with prog := { s.prog with roles := R, transition := some tr } }) hlive hfit
    exact ⟨hbegins.of_prog hkept rfl, fun h => (hretake h).trans (congrArg RoleRec.retake (hroles h))⟩

/-! ## The clock's boundaries -/

theorem Clock.slotDue_eq_false_of_invalid {c : Clock} (h : c.valid = false) : c.slotDue = false := by
  unfold Clock.slotDue
  rw [h]
  rfl

/-- R126: the time brought to the next boundary. -/
theorem Clock.advance_boundary {c : Clock} (hok : c.Ok) (ha : c.advancing = true) (hlast : c.nextBoundary ≤ 65535 * 86400 + 86399) :
    c.advance (c.nextBoundary * 1000 - c.totalMs) =
      { c with day := c.nextBoundary / 86400, sec := c.nextBoundary % 86400, ms := 0 } := by
  obtain ⟨hday, hsec, hms⟩ := hok
  have hnext : c.totalMs ≤ c.nextBoundary * 1000 := by
    unfold Clock.totalMs Clock.nextBoundary
    omega
  have hmod : c.nextBoundary % 1800 = 0 := by
    unfold Clock.nextBoundary
    omega
  have hsum : c.totalMs + (c.nextBoundary * 1000 - c.totalMs) = c.nextBoundary * 1000 := by omega
  have hshort : c.nextBoundary * 1000 < lastMs := by
    show c.nextBoundary * 1000 < (65535 * 86400 + 86399) * 1000
    omega
  rw [Clock.advance_short ha (by rw [hsum]; exact hshort), hsum, Nat.mul_mod_left, Nat.mul_div_cancel _ (by omega)]

theorem State.giveSlot_eq (s : State) : s.giveSlot = State.settled { s with
    clock := { s.clock with slot := some ⟨s.clock.sec / 1800 + 1, s.clock.day⟩ },
    prog := { s.prog with
      deferred := if Trigger.slot ∈ s.prog.deferred then s.prog.deferred else s.prog.deferred ++ [.slot] } } := by
  unfold State.giveSlot
  rw [State.enterTrigger_eq]
  rfl

theorem State.mayTake_false (h : s.loop.lost = true ∨ s.prog.transition.isSome = true) : s.mayTake = false := by
  unfold State.mayTake
  rcases h with h | h
  · rw [h]
    simp
  · rw [Option.isNone_eq_false_iff.2 h]
    rfl

/-- What a slot given leaves, with what is settled then. -/
theorem State.settled_frame (s : State) : s.settled.clock = s.clock ∧ s.settled.timebase = s.timebase ∧ s.settled.accounts = s.accounts ∧
    s.settled.holders = s.holders ∧ s.settled.channels = s.channels ∧ s.settled.districts = s.districts ∧ s.settled.nv = s.nv := by
  have only := s.settled_only
  exact ⟨only.clock, only.timebase, only.accounts, only.holders, only.channels, only.districts, only.nv⟩

/-- Settles O44: each event by the operation that takes it. -/
theorem clockAndStoreEvents : Obligations.ClockAndStoreEvents := by
  refine ⟨?boundary, ?due, ?noBoundary, ?trigger, ?invalid, ?stops, ?stopped, ?written, ?notWriting⟩
  case boundary =>
    intro s hon hok hvalid ha hdue hlast p given
    have hstep : exec .slotBoundary s = .next given.settled := by
      refine (State.onTime_on hon _).trans (congrArg _ ?_)
      unfold State.slotBoundary
      rw [hdue, hvalid, ha, decide_eq_true (show s.clock.nextBoundary ≤ lastTotal from hlast)]
      rw [if_neg nofun, if_pos (show (true && true && true) = true from rfl), State.giveSlot_eq]
      have hp : s.passToSec s.clock.nextBoundary = p := by
        show s.passMs _ = s.passMs _
        rw [Nat.add_sub_cancel_left]
      rw [hp]
      have hclock : p.clock = { s.clock with day := s.clock.nextBoundary / 86400, sec := s.clock.nextBoundary % 86400, ms := 0 } := by
        rw [← hp]
        exact Clock.advance_boundary hok ha hlast
      rw [hclock]
      rfl
    obtain ⟨hc, ht, hacc, hh, hch, hd, hnv⟩ := given.settled_frame
    refine ⟨fun hn hm => ?_, hstep, hc, ht, hacc, hh, hch, hd, hnv⟩
    rw [hstep, State.settled_idle given ⟨hn, .inr (State.mayTake_false (s := given) hm)⟩]
  case due =>
    intro s hon hdue given
    have hstep : exec .slotBoundary s = .next given.settled := by
      refine (State.onTime_on hon _).trans (congrArg _ ?_)
      unfold State.slotBoundary
      rw [if_pos hdue, State.giveSlot_eq]
    obtain ⟨hc, ht, hacc, hh, hch, hd, hnv⟩ := given.settled_frame
    refine ⟨fun hn hm => ?_, hstep, hc, ht, hacc, hh, hch, hd, hnv⟩
    rw [hstep, State.settled_idle given ⟨hn, .inr (State.mayTake_false (s := given) hm)⟩]
  case noBoundary =>
    intro s hon hdue hno
    refine (State.onTime_on hon _).trans (congrArg _ ?_)
    unfold State.slotBoundary
    rw [hdue, if_neg nofun]
    refine if_neg fun hc => ?_
    obtain ⟨hc, hlast⟩ := Bool.and_eq_true_iff.1 hc
    rcases hno with hno | hno
    · exact Bool.noConfusion (hno.symm.trans (Bool.and_eq_true_iff.1 hc).2)
    · exact absurd (of_decide_eq_true hlast) (Nat.not_le.2 hno)
  case trigger =>
    intro s b t sl hlive ht hsl hl u unretaken
    have hu : u = s.buildSlot b t := by
      show s.buildTrigger b t = _
      unfold State.buildTrigger
      rcases ht with rfl | rfl <;> rfl
    rw [hu]
    obtain ⟨hopens, hshuts⟩ := State.buildSlot_builds hlive hsl hl t
    exact ⟨_, s.slotTransition_is b t sl.slot, hopens, hshuts⟩
  case invalid =>
    intro s hon hinvalid
    refine (State.onTime_on hon _).trans (congrArg _ ?_)
    unfold State.slotBoundary
    rw [Clock.slotDue_eq_false_of_invalid hinvalid, hinvalid]
    rfl
  case stops =>
    intro s hon hok ha
    refine ⟨_, (State.onTime_on hon _).trans (congrArg _ (if_pos ha)), ?_, rfl, rfl, rfl, rfl, rfl⟩
    have hfar : s.clock.advance (lastTotal * 1000 - s.clock.totalMs) = { s.clock with day := Config.lastDay, sec := Config.lastSecond, ms := 0 } :=
      Clock.advance_far ha (by show lastTotal * 1000 ≤ _; omega)
    show { s.clock.advance (lastTotal * 1000 - s.clock.totalMs) with advancing := false } = _
    rw [hfar]
    rfl
  case stopped =>
    intro s hon ha
    exact (State.onTime_on hon _).trans (congrArg _ (if_neg (by rw [ha]; nofun)))
  case written =>
    intro s hon hw hr
    constructor
    · exact (congrArg _ (State.whenOn_on hon)).trans (congrArg _ ((if_pos ⟨hw, hr⟩).trans rfl))
    · exact (congrArg _ (State.whenOn_on hon)).trans (congrArg _ ((if_pos ⟨hw, hr⟩).trans rfl))
  case notWriting =>
    intro s agrees hon hw
    exact (congrArg _ (State.whenOn_on hon)).trans (congrArg _ (if_neg fun hc => hw hc.1))

end Sys2Proof.Machine

/-! # Loop recovery (R169, R177, R76) -/

namespace Sys2Proof.Machine

variable {s t u w : State} {b : Bank} {v : Fin 8}

/-! ## The occurrence held back -/

theorem State.raiseAt_notRaised (s : State) {src x : Fin 74} (o : Occurrence) (h : x ≠ src) : s.NotRaised (s.raiseAt src o) x := by
  rintro e rfl
  unfold State.raiseAt
  split
  · exact s.attn.mem_occur_of_ne _ _ h
  · exact Iff.rfl

theorem State.raiseAt_on {x : Fin 74} (h : (attnMap s.tables.live x).1 = true) (o : Occurrence) :
    s.raiseAt x o = s.setAttn (s.attn.occur x (attnMap s.tables.live x).2 o) := if_pos h

theorem State.raiseAt_off {x : Fin 74} (h : (attnMap s.tables.live x).1 = false) (o : Occurrence) : s.raiseAt x o = s :=
  if_neg (Bool.eq_false_iff.1 h)

theorem State.enterDeferred_setAttn (s : State) : ∃ a, s.enterDeferred = s.setAttn a := by
  unfold State.enterDeferred State.raiseAt
  split
  · split
    · exact ⟨_, rfl⟩
    · exact ⟨_, rfl⟩
  · exact ⟨s.attn, rfl⟩

/-- R177: the LOOP LOST occurrence held back is entered with the time held. -/
theorem State.enterDeferred_entered (s : State) : s.LossEntered s.enterDeferred := by
  unfold State.enterDeferred
  cases hd : s.attn.deferred with
  | none => exact ⟨hd, fun o ho => (nomatch hd.symm.trans ho), fun _ => rfl, fun x _ => .refl s x⟩
  | some o =>
    have hnot (x : Fin 74) (hx : x ≠ srcLoopLost) : s.NotRaised ((s.setAttn { s.attn with deferred := none }).raiseAt srcLoopLost o) x :=
      State.NotRaised.trans (.of_items rfl x) (State.raiseAt_notRaised _ o hx)
    dsimp only
    cases hm : (attnMap s.tables.live srcLoopLost).1 with
    | true =>
      rw [State.raiseAt_on (s := s.setAttn { s.attn with deferred := none }) hm] at hnot ⊢
      refine ⟨Attention.occur_deferred _ _ _ _, fun o' ho _ => ?_, fun h => ?_, hnot⟩
      · cases hd.symm.trans ho
        exact Attention.occur_gained { s.attn with deferred := none } srcLoopLost (attnMap s.tables.live srcLoopLost).2 o
      · rcases h with h | h
        · exact nomatch hd.symm.trans h
        · exact Bool.noConfusion (hm.symm.trans h)
    | false =>
      rw [State.raiseAt_off (s := s.setAttn { s.attn with deferred := none }) hm] at hnot ⊢
      exact ⟨rfl, fun _ _ h => Bool.noConfusion (hm.symm.trans h), fun _ => rfl, hnot⟩

/-! ## The valves at the recovery (R76) -/

theorem State.setUnknown_atRest (hd : s.valves[v].demand = none) : s.setUnknown v = s.setValve v { s.valves[v] with
    state := .unknown, reported := none, phase := .idle, answerTimer := none, travelTimer := none, reissue := 0 } := by
  unfold State.setUnknown
  dsimp only
  rw [hd]

theorem State.setUnknown_demand {d : Demand} (hd : s.valves[v].demand = some d) (hl : s.loop.lost = false) : s.setUnknown v = { s with
    valves := upd s.valves v { s.valves[v].starting d s.valves[v].joined with reported := none, travelTimer := none }
    loop := s.loop.placeValve v false d.dir (s.valves[v].tag + 1) (d.origin == .trip) } := by
  unfold State.setUnknown
  dsimp only
  rw [hd]
  dsimp only
  rw [State.startOperation_eq_begun, State.begun_up (s := s.setValve v _) hl, State.setValve_at]
  dsimp only [State.setValve]
  rw [upd_upd]
  rfl

/-- The valves of a list have taken the recovery. -/
structure RecoveredAmong (b : Bank) (l : List (Fin 8)) (s t : State) : Prop where
  out : ∀ v : Fin 8, v ∉ l ∨ b.fitted (holderOf v) = false → t.valves[v] = s.valves[v]
  unknown : ∀ v ∈ l, b.fitted (holderOf v) = true → s.valves[v].demand = none →
    t.valves[v] = { s.valves[v] with
      state := .unknown, reported := none, phase := .idle, answerTimer := none, travelTimer := none, reissue := 0 }
  afresh : ∀ v ∈ l, ∀ d, b.fitted (holderOf v) = true → s.valves[v].demand = some d →
    t.valves[v] = { s.valves[v].starting d s.valves[v].joined with reported := none, travelTimer := none } ∧
      .valve v false d.dir (s.valves[v].tag + 1) (d.origin == .trip) ∈ t.loop.commands
  commands : ∀ c : Command, (∀ v ∈ l, c.isValve v = false) → c ∈ s.loop.commands → c ∈ t.loop.commands
  others : ∃ vs cs x, t = { s with valves := vs, loop := { s.loop with commands := cs, tx := x } }

theorem RecoveredAmong.none (s : State) : RecoveredAmong b [] s s :=
  ⟨fun _ _ => rfl, fun _ hv => (nomatch hv), fun _ hv => (nomatch hv), fun _ _ hc => hc, _, _, _, rfl⟩

theorem RecoveredAmong.one (hl : s.loop.lost = false) (v : Fin 8) :
    RecoveredAmong b [v] s (if b.fitted (holderOf v) then s.setUnknown v else s) := by
  have only {w : Fin 8} (hw : w ∈ [v]) : w = v := List.mem_singleton.1 hw
  cases hf : b.fitted (holderOf v) with
  | false =>
    rw [if_neg nofun]
    have unfitted {w : Fin 8} (hw : w ∈ [v]) : ¬b.fitted (holderOf w) = true := by rw [only hw, hf]; nofun
    exact ⟨fun _ _ => rfl, fun w hw hfw => absurd hfw (unfitted hw), fun w hw _ hfw => absurd hfw (unfitted hw), fun _ _ hc => hc, _, _, _, rfl⟩
  | true =>
    rw [if_pos rfl]
    have other {w : Fin 8} {r : ValveRec} (hw : w ∉ [v] ∨ b.fitted (holderOf w) = false) : (upd s.valves v r)[w] = s.valves[w] := by
      refine upd_other _ _ _ _ fun e => ?_
      subst e
      rcases hw with hw | hw
      · exact hw (.head _)
      · exact Bool.noConfusion (hf.symm.trans hw)
    cases hd : s.valves[v].demand with
    | none =>
      rw [State.setUnknown_atRest hd]
      refine ⟨fun w hw => other hw, fun w hw _ _ => ?_, fun w hw d _ hwd => ?_, fun _ _ hc => hc, _, _, _, rfl⟩
      · cases only hw
        exact State.setValve_at ..
      · cases only hw
        exact (nomatch hd.symm.trans hwd)
    | some d =>
      rw [State.setUnknown_demand hd hl]
      refine ⟨fun w hw => other hw, fun w hw _ hwd => ?_, fun w hw d' _ hwd => ?_,
        fun c hc h => (LoopPort.mem_placeValve_other _ _ _ _ _ (hc v (.head _))).2 h, _, _, _, rfl⟩
      · cases only hw
        exact (nomatch hd.symm.trans hwd)
      · cases only hw
        cases hd.symm.trans hwd
        exact ⟨upd_at .., LoopPort.mem_placeValve ..⟩

theorem RecoveredAmong.lost {l : List (Fin 8)} (h : RecoveredAmong b l s t) : t.loop.lost = s.loop.lost := by
  obtain ⟨_, _, _, rfl⟩ := h.others
  rfl

theorem RecoveredAmong.cons {l : List (Fin 8)} (hv : v ∉ l) (h : RecoveredAmong b [v] s t) (k : RecoveredAmong b l t u) :
    RecoveredAmong b (v :: l) s u := by
  have first {w : Fin 8} (hw : w ∈ l) : t.valves[w] = s.valves[w] :=
    h.out w (.inl fun hm => hv (List.mem_singleton.1 hm ▸ hw))
  have after (hself : v ∉ l) : u.valves[v] = t.valves[v] := k.out v (.inl hself)
  refine ⟨fun w hw => ?_, fun w hw hf hd => ?_, fun w hw d hf hd => ?_, fun c hc hin => ?_, ?_⟩
  · refine (k.out w (hw.imp_left fun hw hm => hw (.tail _ hm))).trans (h.out w (hw.imp_left fun hw hm => hw ?_))
    exact List.mem_singleton.1 hm ▸ .head _
  · rcases List.mem_cons.1 hw with rfl | hw
    · exact (after hv).trans (h.unknown w (.head _) hf hd)
    · rw [k.unknown w hw hf (by rw [first hw]; exact hd), first hw]
  · rcases List.mem_cons.1 hw with rfl | hw
    · obtain ⟨hrec, hcmd⟩ := h.afresh w (.head _) d hf hd
      refine ⟨(after hv).trans hrec, k.commands _ (fun x hx => ?_) hcmd⟩
      exact decide_eq_false fun e => hv (e ▸ hx)
    · have := k.afresh w hw d hf (by rw [first hw]; exact hd)
      rw [first hw] at this
      exact this
  · exact k.commands c (fun w hw => hc w (.tail _ hw)) (h.commands c (fun w hw => hc w (List.mem_singleton.1 hw ▸ .head _)) hin)
  · obtain ⟨_, _, _, rfl⟩ := h.others
    obtain ⟨_, _, _, rfl⟩ := k.others
    exact ⟨_, _, _, rfl⟩

/-- R76: loop recovery at the Valve Controller. -/
theorem State.valvesRecover_recovered (hl : s.loop.lost = false) : s.ValvesRecovered (s.valvesRecover b) b := by
  have go (l : List (Fin 8)) (hn : l.Nodup) : ∀ s : State, s.loop.lost = false →
      RecoveredAmong b l s (l.foldl (fun s v => if b.fitted (holderOf v) then s.setUnknown v else s) s) := by
    induction l with
    | nil => exact fun s _ => .none s
    | cons v l ih =>
      intro s hl
      obtain ⟨hv, hn⟩ := List.nodup_cons.1 hn
      have h := RecoveredAmong.one (b := b) hl v
      exact .cons hv h (ih hn _ (h.lost.trans hl))
  have all := go (List.finRange 8) (by decide) s hl
  refine ⟨fun v hf => all.out v (.inr hf), fun v => all.unknown v (List.mem_finRange v), fun v => all.afresh v (List.mem_finRange v), ?_⟩
  obtain ⟨vs, cs, x, h⟩ := all.others
  rw [show s.valvesRecover b = _ from h]

/-! ## The recovery -/

/-- R37, R122, R169: the state in which the Valve Controller and the Programme Unit take the recovery. -/
def State.recovering (s : State) (b : Bank) (l : LoopPort) : State :=
  (State.metersRecover { s with loop := l } b).governorsRecover b

theorem exec_scanHead_lost {dest src cycle : Byte} {first : Bool} (hon : s.power = .on) (hl : s.loop.lost = true) :
    let l := (s.passed dest src kindScanHead [cycle]).loop
    let up : LoopPort := { l with
      lost := false, lossExpiry := s.timebase + 10000, cycle := some cycle, checkErrors := 0, checkMark := false,
      window := if l.window = .armed then .idle else l.window, rearm := false }
    let z := State.enterDeferred { s with loop := up }
    exec (.scanHead dest src cycle first) s = .next (match s.live with
      | some b => z.blocksRecover b first
      | none => z) := by
  intro l up z
  rw [exec_scanHead hon]
  unfold State.receiveHead
  dsimp only
  rw [if_pos hl]
  unfold State.recover
  rfl

theorem State.blocksRecover_eq (s : State) (b : Bank) (first : Bool) :
    s.blocksRecover b first = if first then ((((s.metersRecover b).governorsRecover b).settled).valvesRecover b).settled
      else (((s.metersRecover b).governorsRecover b).valvesRecover b).settled := rfl

theorem State.ValvesRecovered.only (h : s.ValvesRecovered t b) : OnlyValves s t ∧ t.perms = s.perms ∧ t.prog = s.prog := by
  have e := h.others
  have field {α : Type} (f : State → α) (hf : f t = f { t with valves := s.valves, loop := { t.loop with commands := s.loop.commands, tx := s.loop.tx } }) :
      f t = f s := hf.trans (congrArg f e)
  refine ⟨?_, field State.perms rfl, field State.prog rfl⟩
  constructor
  case loop =>
    have loop {α : Type} (f : LoopPort → α) (hf : f t.loop = f { t.loop with commands := s.loop.commands, tx := s.loop.tx }) :
        f t.loop = f s.loop := hf.trans (congrArg (fun z : State => f z.loop) e)
    constructor
    · exact loop LoopPort.lost rfl
    · exact loop LoopPort.lossExpiry rfl
    · exact loop LoopPort.cycle rfl
    · exact loop LoopPort.window rfl
    · exact loop LoopPort.rearm rfl
    · exact loop LoopPort.buffer rfl
    · exact loop LoopPort.responses rfl
    · exact loop LoopPort.checkErrors rfl
    · exact loop LoopPort.checkMark rfl
    · exact loop LoopPort.lineQuiet rfl
    · exact loop LoopPort.tailForwarded rfl
  case deferred => exact field (fun z => z.attn.deferred) rfl
  · exact field State.pending rfl
  · exact field State.power rfl
  · exact field State.own rfl
  · exact field State.timebase rfl
  · exact field State.drawn rfl
  · exact field State.clock rfl
  · exact field State.accounts rfl
  · exact field State.tables rfl
  · exact field State.holders rfl
  · exact field State.channels rfl
  · exact field State.points rfl
  · exact field State.barometer rfl
  · exact field State.calorimeter rfl
  · exact field State.districts rfl
  · exact field State.nv rfl

/-- The recovery of the valves gives the Programme Unit nothing to take. -/
theorem State.ValvesRecovered.idle (h : s.ValvesRecovered t b) (hi : s.ProgrammeIdle) : t.ProgrammeIdle := by
  obtain ⟨only, _, hprog⟩ := h.only
  exact hi.congr (.of_valves only) hprog

/-- Settles O26: the recovery in the order given, with what the Programme Unit takes after each part of it. -/
theorem loopRecovery : Obligations.LoopRecovery := by
  intro s dest src cycle first hon hl l up
  have hexec := exec_scanHead_lost (dest := dest) (src := src) (cycle := cycle) (first := first) hon hl
  dsimp only at hexec
  obtain ⟨a, ha⟩ := State.enterDeferred_setAttn { s with loop := up }
  have hentered : s.LossEntered { s with loop := up, attn := a } := by
    have h := State.enterDeferred_entered { s with loop := up }
    rw [ha] at h
    exact h
  rw [show State.enterDeferred { s with loop := _ } = _ from ha] at hexec
  refine ⟨fun hlive => ?unconfigured, fun b hlive => ?running⟩
  case unconfigured =>
    rw [hlive] at hexec
    exact ⟨_, hexec, hentered, rfl, rfl⟩
  case running =>
    rw [hlive] at hexec
    dsimp only at hexec
    rw [State.blocksRecover_eq] at hexec
    generalize hw : ((State.setAttn { s with loop := up } a).metersRecover b).governorsRecover b = w at hexec
    have hup : w.loop.lost = false := by rw [← hw]; rfl
    have hwlive : w.live = some b := by rw [← hw]; exact hlive
    have hprog : w.prog = s.prog := by rw [← hw]; rfl
    have hclock : w.clock = s.clock := by rw [← hw]; rfl
    have hrec := State.valvesRecover_recovered (b := b) hup
    refine ⟨w, ⟨?entered, ?loop, fun m => ?channels, fun d => ?districts, ?rest⟩, fun hn hd => ?idle, fun x xs hn ht hc hd => ?taken, ?always⟩
    case entered => rw [← hw]; exact hentered
    case loop => rw [← hw]; rfl
    case channels =>
      rw [← hw]
      exact Vector.getElem_mapFinIdx ..
    case districts =>
      rw [← hw]
      exact Vector.getElem_mapFinIdx ..
    case rest => rw [← hw]; rfl
    case idle =>
      have hidle : w.ProgrammeIdle := by
        refine ⟨by rw [hprog]; exact hn, ?_⟩
        rw [hprog]
        refine hd.imp_right fun hd => ?_
        unfold State.mayTake
        rw [hprog, hclock]
        rcases hd with hd | hd
        · rw [Option.isNone_eq_false_iff.2 hd]
          rfl
        · rw [hd, Bool.and_false]
          rfl
      rw [w.settled_idle hidle, State.settled_idle _ (hrec.idle hidle), ite_self] at hexec
      exact ⟨_, hexec, hrec⟩
    case taken =>
      intro built
      have may {v : State} (only : OnlyValves w v) (hp : v.prog = w.prog) : v.mayTake = true :=
        State.mayTake_true (by rw [show v.live = w.live from congrArg TableStore.live only.tables]; exact hwlive) (by rw [hp, hprog]; exact ht)
          (by rw [only.clock, hclock]; exact hc) (by rw [only.loop.lost]; exact hup)
      have settles {v : State} (only : OnlyValves w v) (hp : v.prog = w.prog) (hi : (built v).ProgrammeIdle) : v.settled = built v :=
        (State.settle_trigger (by rw [show v.live = w.live from congrArg TableStore.live only.tables]; exact hwlive)
          (by rw [hp, hprog]; exact hn) (may only hp) (by rw [hp, hprog]; exact hd) _).trans (State.settle_idle hi _)
      constructor
      · rintro rfl hi
        have hbuilt : OnlyValves w (built w) :=
          Steps.onlyValves ((w.setProg_steps _).trans (State.buildTrigger_steps { w with prog := { w.prog with deferred := xs } } b x))
        have hrec := State.valvesRecover_recovered (b := b) (hbuilt.loop.lost.trans hup)
        rw [if_pos rfl, settles (.refl w) rfl hi, State.settled_idle _ (hrec.idle hi)] at hexec
        exact ⟨_, hexec, hrec⟩
      · rintro rfl
        obtain ⟨only, _, hp⟩ := hrec.only
        refine ⟨_, hrec, fun hi => ?_⟩
        rw [if_neg nofun, settles only hp hi] at hexec
        exact hexec
    case always =>
      have sound {v u : State} (h : v.ValvesRecovered u b) (steps : ProgrammeSteps w v) :
          OnlyValves w u.settled ∧ u.settled.perms = w.perms := by
        obtain ⟨only, hperms, _⟩ := h.only
        have last := u.settled_steps
        exact ⟨(steps.onlyValves.trans only).trans last.onlyValves,
          (Steps.programme_perms last).trans (hperms.trans (Steps.programme_perms steps))⟩
      have finish {t : State} (only : OnlyValves w t) (hperms : t.perms = w.perms) :
          t.attn.deferred = none ∧ t.loop.lost = false ∧ t.loop.lossExpiry = s.timebase + 10000 ∧ t.loop.cycle = some cycle ∧
          t.channels = w.channels ∧ t.districts = w.districts ∧ t.holders = s.holders ∧ t.points = s.points ∧
          t.barometer = s.barometer ∧ t.calorimeter = s.calorimeter ∧ t.perms = s.perms ∧ t.clock = s.clock ∧ t.accounts = s.accounts ∧
          t.tables = s.tables ∧ t.nv = s.nv ∧ t.timebase = s.timebase := by
        refine ⟨only.deferred.trans ?_, only.loop.lost.trans hup, only.loop.lossExpiry.trans ?_, only.loop.cycle.trans ?_, only.channels,
          only.districts, only.holders.trans ?_, only.points.trans ?_, only.barometer.trans ?_, only.calorimeter.trans ?_, hperms.trans ?_,
          only.clock.trans ?_, only.accounts.trans ?_, only.tables.trans ?_, only.nv.trans ?_, only.timebase.trans ?_⟩
        · rw [← hw]; exact hentered.1
        all_goals rw [← hw]; rfl
      cases first with
      | true =>
        have hfirst := w.settled_steps
        have h := State.valvesRecover_recovered (b := b) (hfirst.onlyValves.loop.lost.trans hup)
        obtain ⟨only, hperms⟩ := sound h hfirst
        exact ⟨_, hexec, ⟨_, _, h, fun _ => ⟨rfl, rfl⟩, nofun⟩, finish only hperms⟩
      | false =>
        obtain ⟨only, hperms⟩ := sound hrec (.refl w)
        exact ⟨_, hexec, ⟨_, _, hrec, nofun, fun _ => ⟨rfl, rfl⟩⟩, finish only hperms⟩

end Sys2Proof.Machine

/-! # The close of an interval

The record that a close makes, its entry into the logs, the saves, and the interval that opens after it (R129, R134 to R137, R141). -/

namespace Sys2Proof.Machine

variable {s t u : State} {b n : Bank} {iv jv : OpenInterval} {r : IntervalRecord}

/-! ## A fold over numbered records, each step at its own record -/

theorem foldl_at {n : Nat} {α : Type} {f : Fin n → State → State} {get : Fin n → State → α} {g : Fin n → α → α} {inv : State → Prop}
    (hinv : ∀ k s, inv s → inv (f k s)) (hown : ∀ k s, inv s → get k (f k s) = g k (get k s))
    (hother : ∀ j k s, inv s → j ≠ k → get j (f k s) = get j s) {l : List (Fin n)} (hl : l.Nodup) (s : State) (hs : inv s) (k : Fin n) :
    get k (l.foldl (fun s k => f k s) s) = if k ∈ l then g k (get k s) else get k s := by
  induction l generalizing s with
  | nil => exact (if_neg nofun).symm
  | cons j l ih =>
    obtain ⟨hj, hl⟩ := List.nodup_cons.1 hl
    rw [List.foldl_cons, ih hl _ (hinv j s hs)]
    by_cases hk : k = j
    · subst hk
      rw [if_neg hj, if_pos (List.mem_cons_self ..), hown k s hs]
    · rw [hother k j s hs hk]
      simp [hk]

/-- What `forEach` leaves of a record that its own step alone changes. -/
theorem forEach_at {n : Nat} {α : Type} {f : Fin n → State → State} (get : Fin n → State → α) (g : Fin n → α → α) (inv : State → Prop)
    (hinv : ∀ k s, inv s → inv (f k s)) (hown : ∀ k s, inv s → get k (f k s) = g k (get k s))
    (hother : ∀ j k s, inv s → j ≠ k → get j (f k s) = get j s) (s : State) (hs : inv s) (k : Fin n) :
    get k (forEach f s) = g k (get k s) :=
  (foldl_at hinv hown hother (List.nodup_finRange n) s hs k).trans (if_pos (List.mem_finRange k))

/-! ## The record (R134 to R136) -/

theorem sum_filter_map {α : Type} (p : α → Bool) (f : α → Nat) (l : List α) :
    ((l.filter p).map f).sum = (l.map fun x => if p x then f x else 0).sum := by
  induction l with
  | nil => rfl
  | cons x xs ih => cases hp : p x <;> simp [hp, ih]

/-- R136: the sum of the whole volumes of the channels of a role. -/
theorem sumRole_closed (role : Nat) (cs : Vector ChannelShare 12) : sumRole role (cs.map ChannelShare.closed) =
    ((List.finRange 12).map fun m => if cs[m].role = role then cs[m].volume / 10000 else 0).sum := by
  rw [sumRole, sum_filter_map, Vector.toList_places, List.map_map]
  refine congrArg List.sum (List.map_congr_left fun m _ => ?_)
  simp [ChannelShare.closed]

theorem State.stockUncertain_iff (s : State) (b : Bank) :
    s.stockUncertain b = true ↔ ∃ h, b.fitted h = true ∧ s.holders[h].certain = false := by
  simp [State.stockUncertain]

theorem State.stocks_at (s : State) (b : Bank) (h : Fin 4) : (s.stocks b)[h.val] = s.holderStock b h := by simp [State.stocks]

theorem State.stockHeld_iff (s : State) (b : Bank) : stockHeld (s.stocks b) = true ↔
    ∃ h, (s.holderStock b h).2.held = true ∨ (s.holderStock b h).2.reference = true := by
  simp [stockHeld, Vector.toList_places, State.stocks_at]

/-- The record of a close is the one of R134 to R136, and its stocks and totals are those at close. -/
theorem State.closeRecord_recorded (s : State) (b : Bank) (iv : OpenInterval) (extra : YardFlags) (w : Option WallTime) :
    s.Recorded b iv extra (s.closeRecord b iv extra w) where
  taken := ⟨rfl, rfl, rfl, rfl⟩
  channels m := by
    have closed : (s.closeRecord b iv extra w).channels[m] = iv.channels[m].closed := by simp [State.closeRecord]
    rw [closed]
    exact ⟨rfl, rfl, rfl, rfl, rfl, rfl, Nat.div_add_mod' .., Nat.mod_lt _ (by decide), Nat.div_add_mod' .., Nat.mod_lt _ (by decide)⟩
  holders h := by simp [State.closeRecord, State.stocks_at]
  totals := ⟨stockTotal_eq _, by simp [State.closeRecord, stockTotal_eq, State.stocks_at]⟩
  sums := by
    refine ⟨sumRole_closed 1 _, sumRole_closed 2 _, ?_⟩
    dsimp only
    rw [← sumRole_closed 1, ← sumRole_closed 2]
    rfl
  uncertain := by
    rw [← s.stockUncertain_iff b]
    simp [State.closeRecord, YardFlags.union, or_assoc]
  held := by
    rw [← s.stockHeld_iff b]
    simp [State.closeRecord, YardFlags.union, or_assoc]
  otherFlags := by simp [State.closeRecord, YardFlags.union, YardFlags.none]

/-! ## The logs (R136, R141) -/

theorem enterLog_getLast? {α : Type} {n : Nat} (hn : 0 < n) (l : List α) (x : α) : (enterLog n l x).getLast? = some x := by
  unfold enterLog
  rw [List.getLast?_drop, List.length_append, List.length_singleton, if_neg (by omega), List.getLast?_concat]

theorem Logs.enter_log (l : Logs) (r : IntervalRecord) : (l.enter r).log = enterLog Config.logSize l.log r := Logs.addDay_log ..
theorem Logs.enter_lastSeq (l : Logs) (r : IntervalRecord) : (l.enter r).lastSeq = r.sequence := Logs.addDay_lastSeq ..

theorem Logs.enter_getLast? (l : Logs) (r : IntervalRecord) : (l.enter r).log.getLast? = some r := by
  rw [l.enter_log]
  exact enterLog_getLast? (by decide) ..

/-- R136, R141: the logs after the entry of a record of no gas day. -/
theorem Logs.enter_unplaced (l : Logs) (hi : r.identity = none) :
    l.enter r = { l with log := enterLog Config.logSize l.log r, lastSeq := r.sequence } := by
  unfold Logs.enter Logs.addDay
  rw [hi]

section
variable {l : Logs} {i : Identity} {d : DayRecord}

theorem Logs.enter_begins (hi : r.identity = some i) (ho : l.openDay = none) : l.enter r =
    { l with log := enterLog Config.logSize l.log r, lastSeq := r.sequence, openDay := some (.begun i.gasDay r) } := by
  unfold Logs.enter Logs.addDay
  rw [hi, ho]

theorem Logs.enter_adds (hi : r.identity = some i) (ho : l.openDay = some d) (hday : d.gasDay = i.gasDay) : l.enter r =
    { l with log := enterLog Config.logSize l.log r, lastSeq := r.sequence, openDay := some (d.add r) } := by
  unfold Logs.enter Logs.addDay
  rw [hi, ho]
  exact if_pos hday

theorem Logs.enter_turns (hi : r.identity = some i) (ho : l.openDay = some d) (hday : d.gasDay ≠ i.gasDay) : l.enter r =
    ⟨enterLog Config.logSize l.log r, enterLog Config.dailySize l.daily d, some (.begun i.gasDay r), r.sequence⟩ := by
  unfold Logs.enter Logs.addDay
  rw [hi, ho]
  exact if_neg hday

end

/-- R141: the open day record and the daily log after the entry of a record. -/
theorem Logs.enter_dayKept (l : Logs) (r : IntervalRecord) : l.DayKept (l.enter r) r := by
  have daily (o : DayRecord) : (enterLog Config.dailySize l.daily o).getLast? = some o ∧
      (l.daily.length < 14 → enterLog Config.dailySize l.daily o = l.daily ++ [o]) ∧
      (l.daily.length = 14 → enterLog Config.dailySize l.daily o = l.daily.drop 1 ++ [o]) := by
    have size : Config.dailySize = 14 := rfl
    refine ⟨enterLog_getLast? (by decide) .., fun hlt => ?_, fun heq => ?_⟩
    · rw [enterLog_eq _ _ _ (by omega), if_pos (by omega)]
    · rw [enterLog_eq _ _ _ (by omega), if_neg (by omega), List.drop_append_of_le_length (by omega)]
  have begun (g : Nat) (m : Fin 12) : (DayRecord.begun g r).channels[m] =
      ⟨r.channels[m].corrected, r.channels[m].energy, r.channels[m].flags⟩ := by simp [DayRecord.begun]
  refine ⟨fun hnone => ?_, fun i hi => ?_⟩
  · rw [l.enter_unplaced hnone]
    exact ⟨rfl, rfl⟩
  · cases ho : l.openDay with
    | none =>
      rw [Logs.enter_begins hi ho]
      exact ⟨_, rfl, fun _ => ⟨⟨rfl, rfl, rfl, rfl, rfl, rfl, rfl, rfl, rfl, rfl, begun _⟩, rfl⟩, nofun⟩
    | some d =>
      by_cases hday : d.gasDay = i.gasDay
      · rw [Logs.enter_adds hi ho hday]
        refine ⟨_, rfl, nofun, fun o hd => ?_⟩
        obtain rfl := Option.some.inj hd
        exact ⟨fun hne => absurd hday hne, fun _ => ⟨rfl, rfl, rfl, rfl, rfl, rfl, rfl, rfl, rfl, rfl, rfl, fun m => by simp [DayRecord.add]⟩⟩
      · rw [Logs.enter_turns hi ho hday]
        refine ⟨_, rfl, nofun, fun o hd => ?_⟩
        obtain rfl := Option.some.inj hd
        exact ⟨fun _ => ⟨⟨rfl, rfl, rfl, rfl, rfl, rfl, rfl, rfl, rfl, rfl, begun _⟩, daily d⟩, fun he => absurd he hday⟩

/-! ## The saves (R19) -/

/-- R19: a holder record once it is saved. -/
def HolderRec.saved (r : HolderRec) : HolderRec := { r with savedCertain := r.certain }

/-- R136, R137, R19: a close changes the logs, in hand and in the store, and saves the fitted holders; it leaves no open interval. -/
structure ClosedInto (s : State) (b : Bank) (r : IntervalRecord) (t : State) : Prop where
  holder : ∀ h : Fin 4, t.holders[h] = if b.fitted h then s.holders[h].saved else s.holders[h]
  save : ∀ h : Fin 4, t.nv.saves[h] = if b.fitted h then some ⟨s.holders[h].count, s.holders[h].certain⟩ else s.nv.saves[h]
  rest : ∃ before, t = { s with
    accounts := { s.accounts with logs := s.accounts.logs.enter r, interval := none }, holders := t.holders,
    nv := ⟨t.nv.saves, before, s.accounts.logs.enter r, s.nv.logs⟩ }

theorem State.saveHolder_self (s : State) (h : Fin 4) : s.saveHolder h = { s with
    holders := upd s.holders h s.holders[h].saved
    nv := { s.nv with
      saves := upd s.nv.saves h (some ⟨s.holders[h].count, s.holders[h].certain⟩),
      savesBefore := upd s.nv.savesBefore h s.nv.saves[h] } } := rfl

theorem State.recordClose_into (s : State) (b : Bank) (r : IntervalRecord) : ClosedInto s b r (s.recordClose b r) := by
  let save (h : Fin 4) (x : HolderRec × Option HolderSave) : HolderRec × Option HolderSave :=
    if b.fitted h then (x.1.saved, some ⟨x.1.count, x.1.certain⟩) else x
  have saves := forEach_at (f := fun h s => if b.fitted h then s.saveHolder h else s) (fun h s => (s.holders[h], s.nv.saves[h])) save
    (fun _ => True) (fun _ _ _ => trivial)
    (fun h s _ => by cases hf : b.fitted h <;> simp [save, hf, State.saveHolder_self])
    (fun j k s _ hjk => by
      cases hf : b.fitted k
      · rfl
      · simp [State.saveHolder_self, upd_other _ _ _ _ (Ne.symm hjk)])
    (s.writeLogs (s.accounts.logs.enter r)) trivial
  have rest (s : State) : ∃ before, s.saveHolders b = { s with
      holders := (s.saveHolders b).holders, nv := { s.nv with saves := (s.saveHolders b).nv.saves, savesBefore := before } } :=
    forEach_keeps (fun s t => ∃ before, t = { s with holders := t.holders, nv := { s.nv with saves := t.nv.saves, savesBefore := before } })
      (fun s => ⟨_, rfl⟩) (fun ⟨_, h⟩ ⟨y, k⟩ => ⟨y, by rw [k, h]⟩) _ (fun h s => by split <;> exact ⟨_, rfl⟩) s
  refine ⟨fun h => (congrArg Prod.fst (saves h)).trans ?_, fun h => (congrArg Prod.snd (saves h)).trans ?_, ?_⟩
  · cases hf : b.fitted h <;> simp [save, hf, State.writeLogs]
  · cases hf : b.fitted h <;> simp [save, hf, State.writeLogs]
  obtain ⟨before, h⟩ := rest (s.writeLogs (s.accounts.logs.enter r))
  exact ⟨before, h⟩

/-! ## The interval that opens (R129) -/

/-- R22, R137: an interval whose STOCK_UNCERTAIN flag may have been set since. -/
def OpenInterval.Since (iv jv : OpenInterval) : Prop :=
  ∃ x : Bool, jv = { iv with yard := { iv.yard with stockUncertain := iv.yard.stockUncertain || x } }

theorem OpenInterval.Since.refl (iv : OpenInterval) : iv.Since iv := ⟨false, by rw [Bool.or_false]⟩

theorem OpenInterval.Since.trans {kv : OpenInterval} (h : iv.Since jv) (k : jv.Since kv) : iv.Since kv := by
  obtain ⟨x, rfl⟩ := h
  obtain ⟨y, rfl⟩ := k
  exact ⟨x || y, by rw [Bool.or_assoc]⟩

theorem OpenInterval.Since.flagged (iv : OpenInterval) : iv.Since { iv with yard := { iv.yard with stockUncertain := true } } :=
  ⟨true, by rw [Bool.or_true]⟩

/-- R129: the place of an interval in the wall time is that of the clock. -/
theorem State.newInterval_openTime (s : State) (b : Bank) (o : Opening) :
    (s.newInterval b o).openTime = if s.clock.valid = true then some ⟨s.clock.day, s.clock.sec⟩ else none := rfl

theorem State.newInterval_channels (s : State) (b : Bank) (o : Opening) (m : Fin 12) : (s.newInterval b o).channels[m] =
    ⟨b.meters[m].role, 0, 0, o.residues[m].volume, o.residues[m].energy, o.residues[m].volume, o.residues[m].energy,
      ⟨false, false, false, false, s.channels[m].state == .stalled⟩⟩ := by
  simp [State.newInterval, newShare, ChannelFlags.none]

/-- R129, R137: the interval opened in the state `u` with what a close carries, and flagged since. -/
theorem State.Opened.of_newInterval {extra : YardFlags} (since :
      (u.newInterval n (r.carried (s.stockUncertain b) (stockHeld (s.stocks b)) extra)).Since jv) (hlost : u.loop.lost = s.loop.lost)
    (hclock : t.clock = u.clock) (hgeneration : t.tables.generation = u.tables.generation) (hchannels : t.channels = u.channels) :
    s.Opened t b n r extra jv := by
  obtain ⟨x, rfl⟩ := since
  constructor
  case placed =>
    rw [hclock]
    exact ⟨rfl, rfl, rfl⟩
  case openTime =>
    rw [hclock]
    exact u.newInterval_openTime n (r.carried (s.stockUncertain b) (stockHeld (s.stocks b)) extra)
  case generation => exact hgeneration.symm
  case channels =>
    intro m
    rw [hchannels]
    refine (u.newInterval_channels n (r.carried (s.stockUncertain b) (stockHeld (s.stocks b)) extra) m).trans ?_
    simp [IntervalRecord.carried]
  case stock =>
    exact fun h => by simp [State.newInterval, IntervalRecord.carried]
  case uncertain =>
    refine ⟨s.stockUncertain_iff b, fun h => ?_⟩
    have hu : s.stockUncertain b = true := h
    simp [State.newInterval, State.openingFlags, IntervalRecord.carried, YardFlags.union, hu]
  case held =>
    exact ⟨s.stockHeld_iff b, rfl⟩
  case otherFlags =>
    rw [← hlost, hclock]
    simp [State.newInterval, State.openingFlags, IntervalRecord.carried, YardFlags.union, YardFlags.none]

theorem State.openInterval_eq (hl : s.live = some b) (o : Opening) :
    s.openInterval o = s.setAccounts { s.accounts with interval := some (s.newInterval b o) } := by
  unfold State.openInterval
  rw [hl]

/-- R133, R137: a close with an interval open. -/
theorem State.closeInterval_eq (hiv : s.accounts.interval = some iv) (b : Bank) (extra next : YardFlags) (w : Option WallTime) :
    s.closeInterval b extra next w =
      let r := s.closeRecord b iv extra w
      let o := r.carried (s.stockUncertain b) (stockHeld (s.stocks b)) next
      if s.tables.committed then (s.recordClose b r).swapAndOpen b o else (s.recordClose b r).openInterval o := by
  unfold State.closeInterval
  rw [hiv]

end Sys2Proof.Machine

/-! # Sources raised, and the attention list at a swap

What any number of occurrences leaves of the attention list (R176), and the list that a swap classes afresh (R154, R175). -/

namespace Sys2Proof.Machine

variable {p q : Fin 74 → Prop} {s t u : State} {x : Fin 74} {new : Bank}

/-! ## What a number of occurrences leaves -/

/-- Two states between which only sources of which `p` holds have been raised, under one map and at one time. -/
structure Raises (p : Fin 74 → Prop) (s t : State) : Prop where
  same : SameTimes s t
  notRaised : ∀ x, ¬p x → s.NotRaised t x
  order : s.attn.InOrder → t.attn.InOrder
  sorted : s.attn.items.Pairwise (fun x y => x.cls.code ≤ y.cls.code) → t.attn.items.Pairwise (fun x y => x.cls.code ≤ y.cls.code)
  classes : (∀ e ∈ s.attn.items, e.cls = (attnMap s.tables.live e.source).2) → ∀ e ∈ t.attn.items, e.cls = (attnMap s.tables.live e.source).2
  kept : ∀ e ∈ s.attn.items, ∃ e' ∈ t.attn.items,
    e'.source = e.source ∧ e'.cls = e.cls ∧ e'.serial = e.serial ∧ e'.first = e.first ∧ min 255 e.count ≤ e'.count
  deferred : t.attn.deferred = s.attn.deferred

namespace Raises

/-- A step that leaves the list, the map in force and the clock. -/
theorem of_same (same : SameTimes s t) (ha : t.attn = s.attn) : Raises p s t := by
  refine ⟨same, fun x _ => .of_items (by rw [ha]) x, ?_, ?_, ?_, ?_, by rw [ha]⟩ <;> rw [ha]
  · exact id
  · exact id
  · exact id
  · exact fun e he => ⟨e, he, rfl, rfl, rfl, rfl, Nat.min_le_right ..⟩

theorem refl (s : State) : Raises p s s := .of_same ⟨rfl, rfl⟩ rfl

theorem trans (h : Raises p s t) (k : Raises p t u) : Raises p s u where
  same := h.same.trans k.same
  notRaised x hx := (h.notRaised x hx).trans (k.notRaised x hx)
  order := k.order ∘ h.order
  sorted := k.sorted ∘ h.sorted
  classes hs := by
    have ht := k.classes (by rw [h.same.live]; exact h.classes hs)
    rwa [h.same.live] at ht
  kept e he := by
    obtain ⟨e1, he1, h1, h2, h3, h4, h5⟩ := h.kept e he
    obtain ⟨e2, he2, k1, k2, k3, k4, k5⟩ := k.kept e1 he1
    exact ⟨e2, he2, k1.trans h1, k2.trans h2, k3.trans h3, k4.trans h4, by omega⟩
  deferred := k.deferred.trans h.deferred

theorem mono (h : Raises p s t) (hpq : ∀ x, p x → q x) : Raises q s t :=
  { h with notRaised := fun x hx => h.notRaised x (hx ∘ hpq x) }

theorem ite {c : Prop} [Decidable c] (h : Raises p s t) (k : Raises p s u) : Raises p s (if c then t else u) := by
  split
  · exact h
  · exact k

theorem forEach {n : Nat} {f : Fin n → State → State} (h : ∀ i s, Raises p s (f i s)) (s : State) : Raises p s (Machine.forEach f s) :=
  forEach_keeps (Raises p) refl trans f h s

end Raises

/-- R176: an occurrence stands in the list in class order. -/
theorem Attention.occur_sorted {a : Attention} (cls : AttnClass) (o : Occurrence) (h : a.items.Pairwise fun x y => x.cls.code ≤ y.cls.code) :
    (a.occur x cls o).items.Pairwise fun x y => x.cls.code ≤ y.cls.code := by
  by_cases hmem : x ∈ a.items.map AttnItem.source
  · rw [Attention.occur_again cls o hmem]
    exact List.pairwise_map.2 (h.imp fun {y z} hyz => by rwa [(y.againIf_eq x).2.1, (z.againIf_eq x).2.1])
  · rw [Attention.occur_new cls o hmem]
    exact insertItem_pairwise h (fun _ _ hle => hle) (fun _ _ hlt => Nat.le_of_lt hlt)
      fun _ _ _ _ hle hlt => Nat.le_of_lt (Nat.lt_of_le_of_lt hle hlt)

theorem Attention.occur_classes {a : Attention} {f : Fin 74 → AttnClass} (o : Occurrence) (h : ∀ e ∈ a.items, e.cls = f e.source) :
    ∀ e ∈ (a.occur x (f x) o).items, e.cls = f e.source := by
  by_cases hmem : x ∈ a.items.map AttnItem.source
  · rw [Attention.occur_again _ o hmem]
    intro e he
    obtain ⟨y, hy, rfl⟩ := List.mem_map.1 he
    rw [(y.againIf_eq x).2.1, (y.againIf_eq x).1]
    exact h y hy
  · rw [Attention.occur_new _ o hmem]
    intro e he
    rcases List.mem_cons.1 ((insertItem_perm _ _).mem_iff.1 he) with rfl | he
    · rfl
    · exact h e he

theorem Attention.occur_kept (a : Attention) (x : Fin 74) (cls : AttnClass) (o : Occurrence) (e : AttnItem) (he : e ∈ a.items) :
    ∃ e' ∈ (a.occur x cls o).items,
      e'.source = e.source ∧ e'.cls = e.cls ∧ e'.serial = e.serial ∧ e'.first = e.first ∧ min 255 e.count ≤ e'.count := by
  by_cases hmem : x ∈ a.items.map AttnItem.source
  · rw [Attention.occur_again _ o hmem]
    refine ⟨e.againIf x, List.mem_map_of_mem he, (e.againIf_eq x).1, (e.againIf_eq x).2.1, (e.againIf_eq x).2.2, ?_, ?_⟩ <;>
      unfold AttnItem.againIf <;> split
    · rfl
    · rfl
    · dsimp only [AttnItem.again]
      omega
    · exact Nat.min_le_right ..
  · rw [Attention.occur_new _ o hmem]
    exact ⟨e, (insertItem_perm _ _).mem_iff.2 (.tail _ he), rfl, rfl, rfl, rfl, Nat.min_le_right ..⟩

theorem State.raise_raises (s : State) (hx : p x) : Raises p s (s.raise x) where
  same := .raise s x
  notRaised y hy := s.raise_notRaised fun e => hy (e ▸ hx)
  order := State.raiseAt_attn_inOrder x _
  sorted h := by
    unfold State.raise State.raiseAt
    split
    · exact Attention.occur_sorted _ _ h
    · exact h
  classes h := by
    unfold State.raise State.raiseAt
    split
    · exact Attention.occur_classes (f := fun x => (attnMap s.tables.live x).2) _ h
    · exact h
  kept e he := by
    unfold State.raise State.raiseAt
    split
    · exact s.attn.occur_kept x _ _ e he
    · exact ⟨e, he, rfl, rfl, rfl, rfl, Nat.min_le_right ..⟩
  deferred := (s.raise_only x).deferred

/-! ## What events raise -/

/-- The sources of a side without a candidate, and the TRIP sources. -/
def EventSource (x : Fin 74) : Prop := (∃ sd : Side, x = sd.source) ∨ ∃ h sd, x = tripSource h sd

theorem State.withdraw_raises (s : State) (h : Fin 4) (sd : Side) (c : PermCause) (n : Nat) : Raises EventSource s (s.withdraw h sd c n) := by
  cases hg : s.perms[valveOf h sd].granted with
  | false =>
    rw [State.withdraw_withdrawn hg]
    exact .refl s
  | true =>
    rw [State.withdraw_granted hg]
    refine Raises.trans (t := State.offered (s.setPerm _ _) _ _) (.of_same ⟨?_, ?_⟩ (State.offered_atValve ..).attn) (State.raise_raises _ (Or.inr ⟨h, sd, rfl⟩ : EventSource (tripSource h sd)))
    · exact (State.offered_only ..).live
    · exact congrArg (fun c : Clock => (⟨c.day, c.sec, c.valid⟩ : Occurrence)) (State.offered_only ..).clock

theorem EventStep.raises {r : Fin 4 → Side → Prop} (step : EventStep r s t) : Raises EventSource s t := by
  cases step with
  | programme step =>
    cases step with
    | records p => exact .of_same ⟨rfl, rfl⟩ rfl
    | noCandidate sd => exact s.raise_raises (Or.inl ⟨sd, rfl⟩ : EventSource sd.source)
    | demand v d =>
      exact .of_same (OnlyEvents.of_valves (ProgrammeStep.only (.demand s v d))).sameTimes (s.offered_atValve v ⟨d, .programme⟩).attn
  | withdrawal h sd c n hp => exact s.withdraw_raises h sd c n
  | flag f => exact .of_same ⟨rfl, rfl⟩ rfl

theorem Steps.raises {r : Fin 4 → Side → Prop} (steps : EventSteps r s t) : Raises EventSource s t :=
  steps.keeps Raises.refl Raises.trans EventStep.raises

theorem eventSource_ne_bankSwapped : ¬EventSource srcBankSwapped := by
  rintro (⟨sd, h⟩ | ⟨h, sd, e⟩)
  · exact absurd h (by cases sd <;> decide)
  · have hv := congrArg Fin.val e
    cases sd <;> simp [tripSource, srcLowTrip, srcHighTrip, srcBankSwapped] at hv <;> omega

/-! ## The list classed afresh (R154, R175) -/

theorem Attention.mem_reclass {a : Attention} {live : Option Bank} {e : AttnItem} :
    e ∈ (a.reclass live).items ↔ ∃ y ∈ a.items, y.classed live = e := by
  rw [(a.reclass_perm live).mem_iff, List.mem_map]

/-- R175: a source keeps the entry it has when the list is classed afresh, under its class. -/
theorem Attention.reclass_source {a a' : Attention} {live : Option Bank} (h : ∀ e, e.source = x → (e ∈ a'.items ↔ e ∈ a.items)) (e : AttnItem)
    (he : e.source = x) : e ∈ (a'.reclass live).items ↔ e ∈ (a.reclass live).items := by
  rw [Attention.mem_reclass, Attention.mem_reclass]
  refine ⟨fun ⟨y, hy, hye⟩ => ⟨y, (h y ?_).1 hy, hye⟩, fun ⟨y, hy, hye⟩ => ⟨y, (h y ?_).2 hy, hye⟩⟩ <;>
    exact (congrArg AttnItem.source hye).trans he

/-- R154, R175: a swap, between occurrences of other sources than BANK SWAPPED. -/
theorem State.Reclassed.of_swap (pre : Raises p s t) (hp : ¬p srcBankSwapped) (post : Raises q t.swapTables u) (hq : ¬q srcBankSwapped) :
    s.Reclassed u t.tables.pending := by
  generalize hnew : t.tables.pending = new
  let live : Option Bank := some new
  generalize ha : (t.setTables t.tables.swapped).setAttn (t.attn.reclass live) = a
  have hattn : a.attn = t.attn.reclass live := by rw [← ha]; rfl
  have hlive : a.tables.live = live := by rw [← ha]; exact congrArg some hnew
  have hnow : a.now = s.now := by rw [← ha]; exact pre.same.now
  have hswap : t.swapTables = a.raise srcBankSwapped := by subst hnew; rw [← ha]; rfl
  rw [hswap] at post
  have raised : a.Raised u srcBankSwapped := (a.raise_raised srcBankSwapped).after (post.notRaised _ hq)
  have all : Raises (fun _ => True) a u := (a.raise_raises trivial).trans (post.mono fun _ _ => trivial)
  obtain ⟨hon, hoff⟩ := raised
  rw [hlive, hattn, hnow] at hon
  rw [hlive] at hoff
  have classed {e : AttnItem} (he : e ∈ s.attn.items) (hx : e.source = srcBankSwapped) : e.classed live ∈ (t.attn.reclass live).items :=
    Attention.mem_reclass.2 ⟨e, ((pre.notRaised _ hp) e hx).2 he, rfl⟩
  constructor
  case swapped =>
    intro hm
    obtain ⟨hnone, hsome⟩ := hon hm
    refine ⟨fun hno => hnone fun hin => hno ?_, fun e he hx => hsome (e.classed live) (classed he hx) hx⟩
    obtain ⟨y, hy, hyx⟩ := List.mem_map.1 hin
    obtain ⟨z, hz, rfl⟩ := Attention.mem_reclass.1 hy
    exact List.mem_map.2 ⟨z, ((pre.notRaised _ hp) z hyx).1 hz, hyx⟩
  case notSwapped =>
    intro hm e hx
    rw [hoff hm { e with cls := (attnMap (some new) srcBankSwapped).2 } hx, hattn, Attention.mem_reclass]
    constructor
    · rintro ⟨y, hy, hye⟩
      have hyx : y.source = srcBankSwapped := (congrArg AttnItem.source hye).trans hx
      have hey : ({ e with cls := y.cls } : AttnItem) = y := (congrArg (fun z : AttnItem => { z with cls := y.cls }) hye).symm
      exact ⟨y.cls, hey ▸ ((pre.notRaised _ hp) y hyx).1 hy⟩
    · rintro ⟨c, hc⟩
      refine ⟨{ e with cls := c }, ((pre.notRaised _ hp) { e with cls := c } hx).2 hc, ?_⟩
      rw [← hx]
      rfl
  case classes =>
    have h := all.classes fun e he => by
      rw [hattn] at he
      obtain ⟨y, -, rfl⟩ := Attention.mem_reclass.1 he
      rw [hlive]
      rfl
    rwa [hlive] at h
  case ordered =>
    refine all.sorted ?_
    rw [hattn]
    refine t.attn.reclass_pairwise live (fun _ _ => Nat.le_of_lt) fun c => ?_
    refine List.pairwise_of_forall_mem_list fun y hy z hz => Nat.le_of_eq ?_
    rw [of_decide_eq_true (List.mem_filter.1 hy).2, of_decide_eq_true (List.mem_filter.1 hz).2]
  case created =>
    intro h
    refine all.order ?_
    rw [hattn]
    exact Attention.reclass_inOrder _ (pre.order h)
  case kept =>
    intro e he
    obtain ⟨e1, he1, h1, -, h3, h4, h5⟩ := pre.kept e he
    obtain ⟨e2, he2, k1, -, k3, k4, k5⟩ := all.kept (e1.classed live) (by rw [hattn]; exact Attention.mem_reclass.2 ⟨e1, he1, rfl⟩)
    refine ⟨e2, he2, k1.trans h1, k3.trans h3, k4.trans h4, ?_⟩
    have : (e1.classed live).count = e1.count := rfl
    omega

end Sys2Proof.Machine

/-! # The SETs of the queue, beside the valve commands

What the Valve Controller and the events of a change of holders leave of the unsent SETs, and of one on the line (R120, R123). -/

namespace Sys2Proof.Machine

variable {l k m : LoopPort} {s t u : State} {v : Fin 8} {d : Fin 6}

/-- A loop port with the same unsent SETs, and the same SET on the line. -/
structure LoopPort.SetsAs (l k : LoopPort) : Prop where
  unsent : ∀ d, k.unsentSet d = l.unsentSet d
  line : ∀ d, k.tx.setOnLine d = l.tx.setOnLine d

theorem LoopPort.SetsAs.refl (l : LoopPort) : l.SetsAs l := ⟨fun _ => rfl, fun _ => rfl⟩
theorem LoopPort.SetsAs.trans (h : l.SetsAs k) (g : k.SetsAs m) : l.SetsAs m :=
  ⟨fun d => (g.unsent d).trans (h.unsent d), fun d => (g.line d).trans (h.line d)⟩
theorem LoopPort.SetsAs.ite {c : Prop} [Decidable c] (h : l.SetsAs k) (g : l.SetsAs m) : l.SetsAs (if c then k else m) := by
  split
  · exact h
  · exact g

/-- The setpoint of a SET of a district. -/
def Command.setOf (d : Fin 6) (c : Command) : Option Nat :=
  match c with
  | .set e v => if e = d then some v else none
  | .valve _ _ _ _ _ => none

theorem LoopPort.unsentSet_eq (l : LoopPort) (d : Fin 6) : l.unsentSet d = l.commands.findSome? (Command.setOf d) := rfl

theorem findSome?_filter_of {α β : Type} {p : α → Bool} {f : α → Option β} (h : ∀ x, p x = false → f x = none) (l : List α) :
    (l.filter p).findSome? f = l.findSome? f := by
  induction l with
  | nil => rfl
  | cons x xs ih => cases hp : p x <;> simp [List.findSome?_cons, hp, ih, h x]

theorem Tx.voidIf_setOnLine (t : Tx) {p : Command → Bool} (d : Fin 6) (hp : ∀ x, p (.set d x) = false) :
    (t.voidIf p).setOnLine d = t.setOnLine d := by
  unfold Tx.voidIf
  split
  · next c f void =>
    cases c with
    | valve => rfl
    | set e x =>
      by_cases he : e = d
      · subst he
        rw [hp x, Bool.or_false]
      · cases void <;> cases p (.set e x) <;> simp [Tx.setOnLine, he]
  · rfl

/-- Commands withdrawn that are none of a district's SETs. -/
theorem LoopPort.withdraw_sets (l : LoopPort) {p : Command → Bool} (hp : ∀ x, p (.set d x) = false) :
    (l.withdraw p).unsentSet d = l.unsentSet d ∧ (l.withdraw p).tx.setOnLine d = l.tx.setOnLine d := by
  refine ⟨findSome?_filter_of (fun c hc => ?_) _, Tx.voidIf_setOnLine _ d hp⟩
  cases c with
  | valve => rfl
  | set e x =>
    refine if_neg fun he => ?_
    subst he
    rw [hp x] at hc
    exact nomatch hc

theorem LoopPort.withdraw_setsAs (l : LoopPort) {p : Command → Bool} (hp : ∀ d x, p (.set d x) = false) : l.SetsAs (l.withdraw p) :=
  ⟨fun d => (l.withdraw_sets (hp d)).1, fun d => (l.withdraw_sets (hp d)).2⟩

/-- The SETs of a district withdrawn. -/
theorem LoopPort.withdraw_isSet (l : LoopPort) (d : Fin 6) : (l.withdraw (·.isSet d)).unsentSet d = none := by
  rw [LoopPort.unsentSet_none]
  simp [LoopPort.withdraw]

theorem LoopPort.placeValve_setsAs (l : LoopPort) (v : Fin 8) (o : Bool) (x : Dir) (t : Byte) (y : Bool) : l.SetsAs (l.placeValve v o x t y) := by
  obtain ⟨hunsent, hline⟩ := l.withdraw_setsAs (p := (·.isValve v)) fun _ _ => rfl
  refine ⟨fun d => ?_, hline⟩
  exact List.findSome?_append.trans ((congrArg (Option.or · _) (hunsent d)).trans (Option.or_none ..))

theorem Command.promoted_setOf (v : Fin 8) (d : Fin 6) (c : Command) : (c.promoted v).setOf d = c.setOf d := by
  cases c with
  | set => rfl
  | valve => rfl

theorem Tx.promoted_setOnLine (v : Fin 8) (d : Fin 6) (t : Tx) : (t.promoted v).setOnLine d = t.setOnLine d := by
  unfold Tx.promoted
  split
  · next c f void => cases c <;> cases void <;> rfl
  · rfl

theorem LoopPort.promote_setsAs (l : LoopPort) (v : Fin 8) : l.SetsAs (l.promote v) := by
  refine ⟨fun d => ?_, fun d => ?_⟩
  · rw [LoopPort.unsentSet_eq, LoopPort.promote_commands, List.findSome?_map]
    exact congrArg (List.findSome? · _) (funext fun c => c.promoted_setOf v d)
  · rw [LoopPort.promote_tx, Tx.promoted_setOnLine]

/-! ## Demands and withdrawals -/

theorem State.beginExchange_sets (s : State) (v : Fin 8) (d : Dir) (x : Bool) : s.loop.SetsAs (s.beginExchange v d x).loop := by
  unfold State.beginExchange
  split
  · exact .refl _
  · exact s.loop.placeValve_setsAs ..

theorem State.offerAtRest_sets (s : State) (v : Fin 8) (d : Demand) : s.loop.SetsAs (s.offerAtRest v d).1.loop := by
  have refused : s.loop.SetsAs (s.refuseDemand v d).loop := by unfold State.refuseDemand; split <;> exact .refl _
  have satisfied : s.loop.SetsAs (s.satisfyDemand v d).loop := by unfold State.satisfyDemand; split <;> exact .refl _
  unfold State.offerAtRest
  split
  · exact State.beginExchange_sets (s.setValve v _) ..
  · exact satisfied
  · exact .refl _
  · exact refused

theorem State.offerInFlight_sets (s : State) (v : Fin 8) (old d : Demand) : s.loop.SetsAs (s.offerInFlight v old d).1.loop := by
  have refused : s.loop.SetsAs (s.refuseDemand v d).loop := by unfold State.refuseDemand; split <;> exact .refl _
  unfold State.offerInFlight
  split
  · unfold State.joinOperation
    dsimp only
    split
    · exact s.loop.promote_setsAs v
    · exact .refl _
  · split
    · refine LoopPort.SetsAs.trans ?_ (State.beginExchange_sets ..)
      unfold State.notifyJoined
      split <;> exact .refl _
    · exact refused

theorem State.offered_sets (s : State) (v : Fin 8) (d : Demand) : s.loop.SetsAs (s.offered v d).loop := by
  have refused : s.loop.SetsAs (s.refuseDemand v d).loop := by unfold State.refuseDemand; split <;> exact .refl _
  unfold State.offered State.offer
  split
  · exact refused
  · split
    · exact s.offerInFlight_sets ..
    · exact s.offerAtRest_sets ..

theorem State.withdraw_setsAs (s : State) (h : Fin 4) (sd : Side) (c : PermCause) (n : Nat) : s.loop.SetsAs (s.withdraw h sd c n).loop := by
  cases hg : s.perms[valveOf h sd].granted with
  | false => rw [State.withdraw_withdrawn hg]; exact .refl _
  | true => rw [State.withdraw_granted hg, State.raise_loop]; exact State.offered_sets (s.setPerm _ _) ..

theorem EventStep.sets {p : Fin 4 → Side → Prop} (step : EventStep p s t) : s.loop.SetsAs t.loop := by
  cases step with
  | programme step =>
    cases step with
    | records p => exact .refl _
    | noCandidate sd => rw [State.raise_loop]; exact .refl _
    | demand v d => exact s.offered_sets ..
  | withdrawal h sd c n hp => exact s.withdraw_setsAs ..
  | flag f => exact .refl _

theorem Steps.sets {p : Fin 4 → Side → Prop} (steps : EventSteps p s t) : s.loop.SetsAs t.loop :=
  steps.keeps (K := fun s t => s.loop.SetsAs t.loop) (fun s => .refl s.loop) .trans EventStep.sets

end Sys2Proof.Machine

/-! # The records at a swap

Each block takes the new bank, record by record (R22, R39, R47, R82, R105, R123): what the takeover leaves of each record, and that it
changes nothing else. -/

namespace Sys2Proof.Machine

variable {s t u : State} {old new : Bank}

/-! ## Holders (R22) -/

/-- R22: a holder record at a swap, its save, and the time. -/
def HolderRec.swapped (old new : Bank) (h : Fin 4) (save : Option HolderSave) (now : Nat) (r : HolderRec) : HolderRec :=
  match old.fitted h, new.fitted h with
  | true, true => (HolderRec.swapTo old new h r now).1
  | false, true => HolderRec.bring new h (HolderRec.restored save now) now
  | _, false => r

/-- A state that differs from another at most in the records of the jobs and in the attention list. -/
structure OnlyRecords (s t : State) : Prop where
  rest : ∃ hs ch ps ba ca at_, t = { s with holders := hs, channels := ch, points := ps, barometer := ba, calorimeter := ca, attn := at_ }

theorem OnlyRecords.refl (s : State) : OnlyRecords s s := ⟨_, _, _, _, _, _, rfl⟩
theorem OnlyRecords.trans (h : OnlyRecords s t) (k : OnlyRecords t u) : OnlyRecords s u := by
  obtain ⟨hs, ch, ps, ba, ca, at_, rfl⟩ := h
  obtain ⟨hs, ch, ps, ba, ca, at_, rfl⟩ := k
  exact ⟨_, _, _, _, _, _, rfl⟩

/-- What the records of the jobs and the attention list do not hold. -/
structure SameFrame (s t : State) : Prop where
  pending : t.pending = s.pending
  power : t.power = s.power
  own : t.own = s.own
  timebase : t.timebase = s.timebase
  clock : t.clock = s.clock
  tables : t.tables = s.tables
  accounts : t.accounts = s.accounts
  nv : t.nv = s.nv

theorem SameFrame.refl (s : State) : SameFrame s s := ⟨rfl, rfl, rfl, rfl, rfl, rfl, rfl, rfl⟩
theorem SameFrame.trans (h : SameFrame s t) (k : SameFrame t u) : SameFrame s u :=
  ⟨k.pending.trans h.pending, k.power.trans h.power, k.own.trans h.own, k.timebase.trans h.timebase, k.clock.trans h.clock,
    k.tables.trans h.tables, k.accounts.trans h.accounts, k.nv.trans h.nv⟩

theorem OnlyValves.sameFrame (h : OnlyValves s t) : SameFrame s t :=
  ⟨h.pending, h.power, h.own, h.timebase, h.clock, h.tables, h.accounts, h.nv⟩

theorem OnlyRecords.sameFrame (h : OnlyRecords s t) : SameFrame s t := by
  obtain ⟨_, _, _, _, _, _, rfl⟩ := h
  exact ⟨rfl, rfl, rfl, rfl, rfl, rfl, rfl, rfl⟩

theorem OnlyRecords.loop (h : OnlyRecords s t) : t.loop = s.loop := by
  obtain ⟨_, _, _, _, _, _, rfl⟩ := h
  rfl

theorem OnlyRecords.raise (s : State) (x : Fin 74) : OnlyRecords s (s.raise x) := by
  rw [s.raise_setAttn]
  exact ⟨_, _, _, _, _, _, rfl⟩

/-- The sources that a swap raises for the records that it takes over. -/
def TakeSource (x : Fin 74) : Prop := (∃ h, x = srcUncertain h) ∨ (∃ m, x = srcMeterStall m) ∨ x = srcCvDeclared

/-- One record set, and a source raised or not. -/
theorem OnlyRecords.ite_raise {c : Prop} [Decidable c] (x : Fin 74) (h : OnlyRecords s t) : OnlyRecords s (if c then t.raise x else t) := by
  split
  · exact h.trans (.raise t x)
  · exact h

theorem Raises.ite_raise {p : Fin 74 → Prop} {c : Prop} [Decidable c] {x : Fin 74} (hx : p x) (h : Raises p s t) :
    Raises p s (if c then t.raise x else t) := .ite (h.trans (t.raise_raises hx)) h

theorem State.ite_raise {α : Type} (f : State → α) (hf : ∀ (s : State) x, f (s.raise x) = f s) (c : Prop) [Decidable c] (s : State) (x : Fin 74) :
    f (if c then s.raise x else s) = f s := by
  split
  · exact hf s x
  · rfl

theorem State.liftSwap_eq (s : State) (old new : Bank) (h : Fin 4) : s.liftSwap old new h =
    if old.fitted h && new.fitted h && decide (new.holders[h].travel < s.holders[h].count) then
      (s.setHolder h (s.holders[h].swapped old new h s.nv.saves[h] s.timebase)).raise (srcUncertain h)
    else s.setHolder h (s.holders[h].swapped old new h s.nv.saves[h] s.timebase) := by
  have unchanged : s = s.setHolder h s.holders[h] := (congrArg (fun x => { s with holders := x }) (upd_same s.holders h)).symm
  unfold State.liftSwap HolderRec.swapped
  cases old.fitted h <;> cases new.fitted h
  · exact unchanged
  · rfl
  · exact unchanged
  · rfl

/-! ## Channels (R39) -/

/-- R39: a channel record at a swap, under the loop's state and the time. -/
def ChannelRec.swapped (old new : Bank) (m : Fin 12) (lost : Bool) (now : Nat) (c : ChannelRec) : ChannelRec :=
  match old.meters[m].inUse, new.meters[m].inUse with
  | false, true => ChannelRec.initial
  | _, false => c
  | true, true =>
    let c1 := c.swapTo old.meters[m] new.meters[m] (addressesChanged old new (.meter m))
    if old.meters[m].stall ≠ new.meters[m].stall ∧ lost = false ∧ c1.stallDue new.meters[m] now then c1.toStalled now else c1

theorem State.mapInterval_none (hi : s.accounts.interval = none) (f : OpenInterval → OpenInterval) : s.mapInterval f = s := by
  have same : ({ s.accounts with interval := none } : Accounts) = s.accounts := by rw [← hi]
  unfold State.mapInterval
  rw [hi]
  exact congrArg (fun a => { s with accounts := a }) same

theorem State.enterStalled_eq (hi : s.accounts.interval = none) (m : Fin 12) :
    s.enterStalled m = (s.setChannel m (s.channels[m].toStalled s.timebase)).raise (srcMeterStall m) := by
  refine State.mapInterval_none ?_ _
  rw [(State.raise_only ..).accounts]
  exact hi

/-- R39: a new stall time makes a channel STALLED. -/
def ChannelRec.stallsAt (old new : Bank) (m : Fin 12) (lost : Bool) (now : Nat) (c : ChannelRec) : Bool :=
  old.meters[m].inUse && new.meters[m].inUse && old.meters[m].stall != new.meters[m].stall && !lost &&
    (c.swapTo old.meters[m] new.meters[m] (addressesChanged old new (.meter m))).stallDue new.meters[m] now

theorem State.meterSwap_eq (hi : s.accounts.interval = none) (old new : Bank) (m : Fin 12) : s.meterSwap old new m =
    if s.channels[m].stallsAt old new m s.loop.lost s.timebase then
      (s.setChannel m (s.channels[m].swapped old new m s.loop.lost s.timebase)).raise (srcMeterStall m)
    else s.setChannel m (s.channels[m].swapped old new m s.loop.lost s.timebase) := by
  have unchanged : s = s.setChannel m s.channels[m] := (congrArg (fun x => { s with channels := x }) (upd_same s.channels m)).symm
  unfold State.meterSwap ChannelRec.swapped ChannelRec.stallsAt
  dsimp only
  cases old.meters[m].inUse <;> cases new.meters[m].inUse
  · exact unchanged
  · rfl
  · exact unchanged
  · have hi' (c : ChannelRec) : (s.setChannel m c).accounts.interval = none := hi
    dsimp only
    simp only [State.enterStalled_eq (hi' _), Bool.true_and, bne_iff_ne, Bool.and_eq_true, Bool.not_eq_true', and_assoc]
    split
    · dsimp only [State.setChannel]
      rw [upd_at, upd_upd]
    · rfl

/-! ## Holders, channels and points in turn -/

theorem forEach_inv {n : Nat} {f : Fin n → State → State} {inv : State → Prop} (h : ∀ k s, inv s → inv (f k s)) (hs : inv s) :
    inv (forEach f s) := by
  unfold forEach
  induction List.finRange n generalizing s with
  | nil => exact hs
  | cons k l ih => exact ih (h k s hs)

/-- What the takeover leaves of the records of the jobs. -/
structure JobsTaken (s t : State) (old new : Bank) : Prop where
  holders : ∀ h : Fin 4, t.holders[h] = s.holders[h].swapped old new h s.nv.saves[h] s.timebase
  channels : ∀ m : Fin 12, t.channels[m] = s.channels[m].swapped old new m s.loop.lost s.timebase
  points : t.points = s.points.map fun r => r.afresh new.yard.pointStale s.timebase
  barometer : t.barometer = s.barometer.afresh new.yard.pointStale s.timebase
  calorimeter : t.calorimeter = s.calorimeter.afresh new.yard.cvStale s.timebase
  raises : Raises TakeSource s t
  only : OnlyRecords s t

theorem State.liftSwaps (s : State) (old new : Bank) :
    (∀ h : Fin 4, (forEach (fun h s => s.liftSwap old new h) s).holders[h] = s.holders[h].swapped old new h s.nv.saves[h] s.timebase) ∧
    OnlyRecords s (forEach (fun h s => s.liftSwap old new h) s) ∧ Raises TakeSource s (forEach (fun h s => s.liftSwap old new h) s) ∧
    (forEach (fun h s => s.liftSwap old new h) s).channels = s.channels ∧
    (forEach (fun h s => s.liftSwap old new h) s).points = s.points ∧
    (forEach (fun h s => s.liftSwap old new h) s).barometer = s.barometer ∧
    (forEach (fun h s => s.liftSwap old new h) s).calorimeter = s.calorimeter := by
  have holders (k : Fin 4) (s : State) :
      (s.liftSwap old new k).holders = upd s.holders k (s.holders[k].swapped old new k s.nv.saves[k] s.timebase) := by
    rw [State.liftSwap_eq, State.ite_raise State.holders fun s x => (s.raise_only x).holders]
    rfl
  have one (h : Fin 4) (s : State) : OnlyRecords s (s.liftSwap old new h) ∧ Raises TakeSource s (s.liftSwap old new h) := by
    rw [State.liftSwap_eq]
    exact ⟨.ite_raise _ ⟨_, _, _, _, _, _, rfl⟩, .ite_raise (.inl ⟨h, rfl⟩) (.of_same ⟨rfl, rfl⟩ rfl)⟩
  have same {α : Type} (f : State → α) (hf : ∀ (s : State) x, f (s.raise x) = f s) (hset : ∀ (s : State) h r, f (s.setHolder h r) = f s) :
      f (forEach (fun h s => s.liftSwap old new h) s) = f s :=
    forEach_keeps (fun s t => f t = f s) (fun _ => rfl) (fun h k => k.trans h) _ (fun h s => by
      rw [State.liftSwap_eq, State.ite_raise f hf, hset]) s
  refine ⟨fun h => ?_, forEach_keeps OnlyRecords .refl .trans _ (fun h s => (one h s).1) s, .forEach (fun h s => (one h s).2) s,
    same _ (fun s x => (s.raise_only x).channels) fun _ _ _ => rfl, same _ (fun s x => (s.raise_only x).points) fun _ _ _ => rfl,
    same _ (fun s x => (s.raise_only x).barometer) fun _ _ _ => rfl, same _ (fun s x => (s.raise_only x).calorimeter) fun _ _ _ => rfl⟩
  refine forEach_at (fun h s => s.holders[h]) (fun h r => r.swapped old new h s.nv.saves[h] s.timebase)
    (fun t => t.nv = s.nv ∧ t.timebase = s.timebase) (fun k t ⟨hn, ht⟩ => ?_) (fun k t ⟨hn, ht⟩ => ?_) (fun j k t _ hjk => ?_) s ⟨rfl, rfl⟩ h
  · have frame := (one k t).1.sameFrame
    exact ⟨frame.nv.trans hn, frame.timebase.trans ht⟩
  · rw [holders, upd_at, hn, ht]
  · rw [holders]
    exact upd_other _ _ _ _ (Ne.symm hjk)

theorem State.meterSwaps (hi : s.accounts.interval = none) (old new : Bank) :
    (∀ m : Fin 12, (forEach (fun m s => s.meterSwap old new m) s).channels[m] =
      s.channels[m].swapped old new m s.loop.lost s.timebase) ∧
    OnlyRecords s (forEach (fun m s => s.meterSwap old new m) s) ∧ Raises TakeSource s (forEach (fun m s => s.meterSwap old new m) s) ∧
    (forEach (fun m s => s.meterSwap old new m) s).holders = s.holders ∧
    (forEach (fun m s => s.meterSwap old new m) s).points = s.points ∧
    (forEach (fun m s => s.meterSwap old new m) s).barometer = s.barometer ∧
    (forEach (fun m s => s.meterSwap old new m) s).calorimeter = s.calorimeter := by
  let inv (t : State) : Prop := OnlyRecords s t ∧ Raises TakeSource s t ∧ t.holders = s.holders ∧ t.points = s.points ∧
    t.barometer = s.barometer ∧ t.calorimeter = s.calorimeter
  have interval {t : State} (h : inv t) : t.accounts.interval = none ∧ t.loop = s.loop ∧ t.timebase = s.timebase := by
    exact ⟨(congrArg Accounts.interval h.1.sameFrame.accounts).trans hi, h.1.loop, h.1.sameFrame.timebase⟩
  have step (m : Fin 12) (t : State) (h : inv t) : inv (t.meterSwap old new m) := by
    rw [State.meterSwap_eq (interval h).1]
    obtain ⟨only, raises, hh, hp, hb, hc⟩ := h
    refine ⟨.ite_raise _ (only.trans ⟨_, _, _, _, _, _, rfl⟩), .ite_raise (.inr (.inl ⟨m, rfl⟩)) (raises.trans (.of_same ⟨rfl, rfl⟩ rfl)),
      ?_, ?_, ?_, ?_⟩
    · rw [State.ite_raise State.holders fun s x => (s.raise_only x).holders]; exact hh
    · rw [State.ite_raise State.points fun s x => (s.raise_only x).points]; exact hp
    · rw [State.ite_raise State.barometer fun s x => (s.raise_only x).barometer]; exact hb
    · rw [State.ite_raise State.calorimeter fun s x => (s.raise_only x).calorimeter]; exact hc
  have channels {t : State} (h : inv t) (k : Fin 12) :
      (t.meterSwap old new k).channels = upd t.channels k (t.channels[k].swapped old new k s.loop.lost s.timebase) := by
    obtain ⟨h1, h2, h3⟩ := interval h
    rw [State.meterSwap_eq h1, State.ite_raise State.channels fun s x => (s.raise_only x).channels, h2, h3]
    rfl
  have start : inv s := ⟨.refl s, .refl s, rfl, rfl, rfl, rfl⟩
  refine ⟨fun m => ?_, ?_⟩
  · refine forEach_at (fun m s => s.channels[m]) (fun m r => r.swapped old new m s.loop.lost s.timebase) inv step (fun k t h => ?_)
      (fun j k t h hjk => ?_) s start m
    · rw [channels h, upd_at]
    · rw [channels h]
      exact upd_other _ _ _ _ (Ne.symm hjk)
  · exact forEach_inv step start

theorem State.pointsSwap_eq (s : State) (b : Bank) : s.pointsSwap b =
    if s.calorimeter.state = .fresh ∧ (s.calorimeter.afresh b.yard.cvStale s.timebase).state = .held then
      State.raise { s with
        points := s.points.map fun r => r.afresh b.yard.pointStale s.timebase,
        barometer := s.barometer.afresh b.yard.pointStale s.timebase,
        calorimeter := s.calorimeter.afresh b.yard.cvStale s.timebase } srcCvDeclared
    else { s with
      points := s.points.map fun r => r.afresh b.yard.pointStale s.timebase,
      barometer := s.barometer.afresh b.yard.pointStale s.timebase,
      calorimeter := s.calorimeter.afresh b.yard.cvStale s.timebase } := rfl

/-- R22, R39, R47: the jobs have taken the new bank. -/
theorem State.jobsTaken (hi : s.accounts.interval = none) (old new : Bank) : JobsTaken s
    ((forEach (fun m s => s.meterSwap old new m) (forEach (fun h s => s.liftSwap old new h) s)).pointsSwap new) old new := by
  obtain ⟨hh, honly, hraises, hc, hp, hb, hcal⟩ := s.liftSwaps old new
  generalize forEach (fun h s => s.liftSwap old new h) s = a at *
  have hlost : a.loop.lost = s.loop.lost := congrArg LoopPort.lost honly.loop
  have htime : a.timebase = s.timebase := honly.sameFrame.timebase
  obtain ⟨kc, konly, kraises, kh, kp, kb, kcal⟩ := State.meterSwaps (s := a) ((congrArg Accounts.interval honly.sameFrame.accounts).trans hi) old new
  generalize forEach (fun m s => s.meterSwap old new m) a = c at *
  have htime' : c.timebase = s.timebase := konly.sameFrame.timebase.trans htime
  rw [State.pointsSwap_eq]
  constructor
  case holders =>
    rw [State.ite_raise State.holders fun s x => (s.raise_only x).holders]
    exact fun h => (congrArg (fun v : Vector HolderRec 4 => v[h]) kh).trans (hh h)
  case channels =>
    rw [State.ite_raise State.channels fun s x => (s.raise_only x).channels]
    intro m
    rw [← hlost, ← htime, ← congrArg (fun v : Vector ChannelRec 12 => v[m]) hc]
    exact kc m
  case points =>
    rw [State.ite_raise State.points fun s x => (s.raise_only x).points, ← hp, ← kp, ← htime']
  case barometer =>
    rw [State.ite_raise State.barometer fun s x => (s.raise_only x).barometer, ← hb, ← kb, ← htime']
  case calorimeter =>
    rw [State.ite_raise State.calorimeter fun s x => (s.raise_only x).calorimeter, ← hcal, ← kcal, ← htime']
  case raises => exact .ite_raise (.inr (.inr rfl)) ((hraises.trans kraises).trans (.of_same ⟨rfl, rfl⟩ rfl))
  case only => exact .ite_raise _ ((honly.trans konly).trans ⟨_, _, _, _, _, _, rfl⟩)

end Sys2Proof.Machine

/-! # Valves, roles and districts at a swap

What the takeover leaves of each valve, permission, role and district (R82, R105, R123), and of the commands and notices. -/

namespace Sys2Proof.Machine

variable {s t u : State} {old new : Bank} {v : Fin 8}

/-- What `forEach` establishes of each record, from what it finds: each step at its own record, and the other steps leave that. -/
theorem forEach_own {n : Nat} {α : Type} {f : Fin n → State → State} (get : Fin n → State → α) (Q : Fin n → α → State → Prop)
    (inv : State → Prop) (hinv : ∀ k s, inv s → inv (f k s)) (hown : ∀ k s, inv s → Q k (get k s) (f k s))
    (hget : ∀ j k s, inv s → j ≠ k → get j (f k s) = get j s) (hkeep : ∀ j k x s, inv s → j ≠ k → Q j x s → Q j x (f k s))
    (s : State) (hs : inv s) (k : Fin n) : Q k (get k s) (forEach f s) := by
  have later (l : List (Fin n)) : ∀ (x : α) (s : State), inv s → k ∉ l → Q k x s → Q k x (l.foldl (fun s k => f k s) s) := by
    induction l with
    | nil => exact fun _ _ _ _ h => h
    | cons j l ih =>
      intro x s hs hk h
      have hjk : k ≠ j := fun e => hk (e ▸ List.mem_cons_self ..)
      exact ih x _ (hinv j s hs) (fun hm => hk (.tail _ hm)) (hkeep k j x s hs hjk h)
  have fold (l : List (Fin n)) : ∀ s, inv s → l.Nodup → k ∈ l → Q k (get k s) (l.foldl (fun s k => f k s) s) := by
    induction l with
    | nil => exact fun _ _ _ h => nomatch h
    | cons j l ih =>
      intro s hs hl hk
      obtain ⟨hj, hl⟩ := List.nodup_cons.1 hl
      by_cases h : k = j
      · subst h
        exact later l _ _ (hinv k s hs) hj (hown k s hs)
      · rw [← hget k j s hs h]
        exact ih _ (hinv j s hs) hl ((List.mem_cons.1 hk).resolve_left h)
  exact fold _ s hs (List.nodup_finRange n) (List.mem_finRange k)

/-! ## Valves (R82) -/

/-- R76, R82: a valve set UNKNOWN, its demand taken afresh. -/
def ValveRec.afresh (lost : Bool) (r : ValveRec) : ValveRec :=
  match r.demand with
  | none => { r with state := .unknown, reported := none, phase := .idle, answerTimer := none, travelTimer := none, reissue := 0 }
  | some d =>
    if lost then { r with
      state := if d.dir = .toOpen then .opening else .shutting, reported := none, phase := .idle, answerTimer := none,
      travelTimer := none, reissue := 0 }
    else { r.starting d r.joined with reported := none, travelTimer := none }

/-- R82: a valve record at a swap. -/
def ValveRec.swapped (old new : Bank) (v : Fin 8) (lost : Bool) (r : ValveRec) : ValveRec :=
  match old.fitted (holderOf v), new.fitted (holderOf v) with
  | false, true => ValveRec.initial
  | true, false => r.unfit
  | true, true => if addressesChanged old new (.valve v) then r.afresh lost else r
  | false, false => r

/-- R82: a permission at a swap. -/
def PermRec.swapped (old new : Bank) (v : Fin 8) (p : PermRec) : PermRec :=
  if !old.fitted (holderOf v) && new.fitted (holderOf v) then PermRec.initial else p

section
variable {r : ValveRec} {d : Demand}

theorem ValveRec.afresh_none (hd : r.demand = none) (lost : Bool) : r.afresh lost =
    { r with state := .unknown, reported := none, phase := .idle, answerTimer := none, travelTimer := none, reissue := 0 } := by
  unfold ValveRec.afresh
  split
  · rfl
  · next h => exact nomatch hd.symm.trans h

theorem ValveRec.afresh_lost (hd : r.demand = some d) : r.afresh true = { r with
    state := if d.dir = .toOpen then .opening else .shutting, reported := none, phase := .idle, answerTimer := none,
    travelTimer := none, reissue := 0 } := by
  unfold ValveRec.afresh
  split
  · next h => exact nomatch hd.symm.trans h
  · next h =>
    cases hd.symm.trans h
    rfl

theorem ValveRec.afresh_up (hd : r.demand = some d) :
    r.afresh false = { r.starting d r.joined with reported := none, travelTimer := none } := by
  unfold ValveRec.afresh
  split
  · next h => exact nomatch hd.symm.trans h
  · next h =>
    cases hd.symm.trans h
    rfl

end

theorem State.setUnknown_lost {d : Demand} (hd : s.valves[v].demand = some d) (hl : s.loop.lost = true) :
    s.setUnknown v = { s with valves := upd s.valves v (s.valves[v].afresh true) } := by
  have same : ({ s.valves[v] with demand := some d } : ValveRec) = s.valves[v] := by rw [← hd]
  unfold State.setUnknown
  dsimp only
  rw [hd]
  dsimp only
  rw [State.startOperation_eq_begun, State.begun_lost (s := s.setValve v _) hl, State.setValve_at, ValveRec.afresh_lost hd]
  dsimp only [State.setValve]
  rw [upd_upd]
  exact congrArg (fun r : ValveRec => { s with valves := upd s.valves v { r with
    state := (if d.dir = Dir.toOpen then ValveState.opening else ValveState.shutting), reported := none, phase := .idle,
    answerTimer := none, travelTimer := none, reissue := 0 } }) same

theorem State.setUnknown_valves (s : State) (v : Fin 8) : (s.setUnknown v).valves = upd s.valves v (s.valves[v].afresh s.loop.lost) := by
  cases hd : s.valves[v].demand with
  | none => rw [State.setUnknown_atRest hd, ValveRec.afresh_none hd]; rfl
  | some d =>
    cases hl : s.loop.lost with
    | false => rw [State.setUnknown_demand hd hl, ValveRec.afresh_up hd]
    | true => rw [State.setUnknown_lost hd hl]

theorem State.setUnknown_atValve (s : State) (v : Fin 8) : AtValve v s (s.setUnknown v) := by
  unfold State.setUnknown
  dsimp only
  split
  · exact s.setValve_atValve ..
  · exact (s.setValve_atValve ..).trans (State.startOperation_atValve ..)

theorem State.setUnknown_sets (s : State) (v : Fin 8) : s.loop.SetsAs (s.setUnknown v).loop := by
  unfold State.setUnknown
  dsimp only
  split
  · exact .refl _
  · unfold State.startOperation
    exact State.beginExchange_sets (State.setValve (s.setValve v _) v _) v _ _

/-- What the takeover of one valve leaves. -/
structure ValveTaken (old new : Bank) (v : Fin 8) (s t : State) : Prop where
  valves : t.valves = upd s.valves v (s.valves[v].swapped old new v s.loop.lost)
  perms : t.perms = upd s.perms v (s.perms[v].swapped old new v)
  commands : ∀ c : Command, c.isValve v = false → (c ∈ t.loop.commands ↔ c ∈ s.loop.commands)
  afresh : ∀ d, old.fitted (holderOf v) = true → new.fitted (holderOf v) = true → addressesChanged old new (.valve v) = true →
    s.valves[v].demand = some d → s.loop.lost = false → .valve v false d.dir (s.valves[v].tag + 1) (d.origin == .trip) ∈ t.loop.commands
  sets : s.loop.SetsAs t.loop
  attn : t.attn = s.attn
  prog : { t.prog with notices := s.prog.notices } = s.prog
  only : OnlyValves s t

theorem State.valveSwap_taken (s : State) (old new : Bank) (v : Fin 8) : ValveTaken old new v s (s.valveSwap old new v) := by
  have only := (s.valveSwap_quiet old new v).only
  unfold State.valveSwap at only ⊢
  cases ho : old.fitted (holderOf v) <;> cases hn : new.fitted (holderOf v) <;> rw [ho, hn] at only
  · have unchanged : s.valves[v].swapped old new v s.loop.lost = s.valves[v] := by unfold ValveRec.swapped; rw [ho, hn]
    have kept : s.perms[v].swapped old new v = s.perms[v] := by unfold PermRec.swapped; rw [ho, hn]; rfl
    exact ⟨by rw [unchanged]; exact (upd_same ..).symm, by rw [kept]; exact (upd_same ..).symm, fun _ _ => Iff.rfl,
      fun _ h => (Bool.noConfusion (ho.symm.trans h)), .refl _, rfl, rfl, only⟩
  · refine ⟨?_, ?_, fun _ _ => Iff.rfl, fun _ h => (Bool.noConfusion (ho.symm.trans h)), .refl _, rfl, rfl, only⟩
    · unfold ValveRec.swapped; rw [ho, hn]; rfl
    · unfold PermRec.swapped; rw [ho, hn]; rfl
  · have kept : s.perms[v].swapped old new v = s.perms[v] := by unfold PermRec.swapped; rw [ho, hn]; rfl
    have notice : AtValve v ((s.setValve v s.valves[v].unfit).setLoop (s.loop.withdraw (·.isValve v)))
        (((s.setValve v s.valves[v].unfit).setLoop (s.loop.withdraw (·.isValve v))).notifyJoined v s.valves[v] false) :=
      State.notifyJoined_atValve ..
    refine ⟨?_, ?_, fun c hc => ?_, fun _ _ h => (Bool.noConfusion (hn.symm.trans h)), ?_, notice.attn, notice.prog, only⟩
    · unfold ValveRec.swapped
      rw [ho, hn]
      unfold State.notifyJoined
      dsimp only
      split <;> rfl
    · rw [kept, upd_same]
      exact notice.perms
    · rw [notice.commands c hc]
      exact List.mem_filter.trans ⟨And.left, fun h => ⟨h, congrArg (!·) hc⟩⟩
    · rw [State.notifyJoined_loop]
      exact s.loop.withdraw_setsAs fun _ _ => rfl
  · have kept : s.perms[v].swapped old new v = s.perms[v] := by unfold PermRec.swapped; rw [ho, hn]; rfl
    dsimp only at only ⊢
    cases hc : addressesChanged old new (.valve v) with
    | false =>
      have unchanged : s.valves[v].swapped old new v s.loop.lost = s.valves[v] := by unfold ValveRec.swapped; rw [ho, hn]; exact if_neg (Bool.eq_false_iff.1 hc)
      exact ⟨by rw [unchanged]; exact (upd_same ..).symm, by rw [kept]; exact (upd_same ..).symm, fun _ _ => Iff.rfl,
        fun _ _ _ h => Bool.noConfusion (hc.symm.trans h), .refl _, rfl, rfl, .refl s⟩
    | true =>
      have afresh : s.valves[v].swapped old new v s.loop.lost = s.valves[v].afresh s.loop.lost := by
        unfold ValveRec.swapped; rw [ho, hn]; exact if_pos hc
      have at_ := s.setUnknown_atValve v
      refine ⟨by rw [afresh]; exact s.setUnknown_valves v, ?_, at_.commands, fun d _ _ _ hd hl => ?_, s.setUnknown_sets v, at_.attn, at_.prog,
        s.setUnknown_only v⟩
      · rw [kept, upd_same]
        exact at_.perms
      · rw [if_pos rfl, State.setUnknown_demand hd hl]
        exact LoopPort.mem_placeValve ..

/-- What the takeover of the valves leaves. -/
structure ValvesTaken (s t : State) (old new : Bank) : Prop where
  valves : ∀ v : Fin 8, t.valves[v] = s.valves[v].swapped old new v s.loop.lost
  perms : ∀ v : Fin 8, t.perms[v] = s.perms[v].swapped old new v
  afresh : ∀ (v : Fin 8) d, old.fitted (holderOf v) = true → new.fitted (holderOf v) = true → addressesChanged old new (.valve v) = true →
    s.valves[v].demand = some d → s.loop.lost = false → .valve v false d.dir (s.valves[v].tag + 1) (d.origin == .trip) ∈ t.loop.commands
  sets : s.loop.SetsAs t.loop
  attn : t.attn = s.attn
  prog : { t.prog with notices := s.prog.notices } = s.prog
  only : OnlyValves s t

theorem State.valveSwaps (s : State) (old new : Bank) : ValvesTaken s (forEach (fun v s => s.valveSwap old new v) s) old new := by
  let inv (t : State) : Prop := OnlyValves s t ∧ s.loop.SetsAs t.loop ∧ t.attn = s.attn ∧ { t.prog with notices := s.prog.notices } = s.prog
  have step (v : Fin 8) (t : State) (h : inv t) : inv (t.valveSwap old new v) := by
    obtain ⟨only, sets, attn, prog⟩ := h
    have k := t.valveSwap_taken old new v
    exact ⟨only.trans k.only, sets.trans k.sets, k.attn.trans attn,
      (congrArg (fun p : Programme => { p with notices := s.prog.notices }) k.prog).trans prog⟩
  have start : inv s := ⟨.refl s, .refl _, rfl, rfl⟩
  let Q (v : Fin 8) (x : ValveRec × PermRec) (t : State) : Prop :=
    t.valves[v] = x.1.swapped old new v s.loop.lost ∧ t.perms[v] = x.2.swapped old new v ∧
    ∀ d, old.fitted (holderOf v) = true → new.fitted (holderOf v) = true → addressesChanged old new (.valve v) = true →
      x.1.demand = some d → s.loop.lost = false → .valve v false d.dir (x.1.tag + 1) (d.origin == .trip) ∈ t.loop.commands
  have each (v : Fin 8) : Q v (s.valves[v], s.perms[v]) (forEach (fun v s => s.valveSwap old new v) s) := by
    refine forEach_own (fun v s => (s.valves[v], s.perms[v])) Q inv step (fun v t h => ?_) (fun j k t _ hjk => ?_)
      (fun j k x t h hjk ⟨hv, hp, hc⟩ => ?_) s start v
    · have k := t.valveSwap_taken old new v
      have hlost : t.loop.lost = s.loop.lost := h.1.loop.lost
      refine ⟨?_, ?_, ?_⟩
      · rw [k.valves, ← hlost]; exact upd_at ..
      · rw [k.perms]; exact upd_at ..
      · rw [← hlost]; exact k.afresh
    · have k' := t.valveSwap_taken old new k
      rw [k'.valves, k'.perms]
      exact congr (congrArg Prod.mk (upd_other _ _ _ _ (Ne.symm hjk))) (upd_other _ _ _ _ (Ne.symm hjk))
    · have k' := t.valveSwap_taken old new k
      refine ⟨?_, ?_, fun d h1 h2 h3 h4 h5 => (k'.commands (.valve j false d.dir (x.1.tag + 1) (d.origin == .trip))
        (Command.isValve_other (v := j) (decide_eq_true rfl) (Ne.symm hjk))).2 (hc d h1 h2 h3 h4 h5)⟩
      · rw [k'.valves, ← hv]; exact upd_other _ _ _ _ (Ne.symm hjk)
      · rw [k'.perms, ← hp]; exact upd_other _ _ _ _ (Ne.symm hjk)
  obtain ⟨only, sets, attn, prog⟩ := forEach_inv step start
  exact ⟨fun v => (each v).1, fun v => (each v).2.1, fun v => (each v).2.2, sets, attn, prog, only⟩

/-! ## Roles and triggers (R105) -/

/-- R105: a role record at a swap. -/
def RoleRec.swapped (old new : Bank) (h : Fin 4) (r : RoleRec) : RoleRec :=
  let r1 := if old.fitted h = new.fitted h then r else RoleRec.initial
  if decide (old.slots ≠ new.slots) && new.fitted h && !r1.held then { r1 with retake := true } else r1

/-- R105: the programme tables differ between two banks. -/
def Bank.programmeDiffers (old new : Bank) : Prop := old.slots ≠ new.slots ∨ old.sendOrder ≠ new.sendOrder ∨ old.fillOrder ≠ new.fillOrder

/-- What the takeover of the programme leaves. -/
structure ProgrammeTaken (s t : State) (old new : Bank) : Prop where
  roles : ∀ h : Fin 4, t.prog.roles[h] = s.prog.roles[h].swapped old new h
  transition : s.prog.transition = none → t.prog.transition = none
  notices : t.prog.notices = s.prog.notices
  differs : old.programmeDiffers new →
    t.prog.deferred = if .reEvaluate ∈ s.prog.deferred then s.prog.deferred else s.prog.deferred ++ [.reEvaluate]
  same : ¬old.programmeDiffers new → t.prog.deferred = s.prog.deferred
  only : ∃ p, t = { s with prog := p }

theorem State.roleSwaps (s : State) (old new : Bank) : ∃ p, forEach (fun h s => s.roleSwap old new h) s = { s with prog := p } ∧
    (∀ h : Fin 4, p.roles[h] = if old.fitted h = new.fitted h then s.prog.roles[h] else RoleRec.initial) ∧
    (s.prog.transition = none → p.transition = none) ∧ p.notices = s.prog.notices ∧ p.deferred = s.prog.deferred := by
  have one (h : Fin 4) (s : State) : ∃ p, s.roleSwap old new h = { s with prog := p } ∧
      p.roles = upd s.prog.roles h (if old.fitted h = new.fitted h then s.prog.roles[h] else RoleRec.initial) ∧
      (s.prog.transition = none → p.transition = none) ∧ p.notices = s.prog.notices ∧ p.deferred = s.prog.deferred := by
    unfold State.roleSwap
    cases old.fitted h <;> cases new.fitted h
    · exact ⟨_, rfl, (upd_same ..).symm, id, rfl, rfl⟩
    · exact ⟨_, rfl, rfl, id, rfl, rfl⟩
    · exact ⟨_, rfl, rfl, fun ht => by dsimp only [State.mapRole, State.setProg]; rw [ht]; rfl, rfl, rfl⟩
    · exact ⟨_, rfl, (upd_same ..).symm, id, rfl, rfl⟩
  let inv (t : State) : Prop := ∃ p, t = { s with prog := p } ∧ (s.prog.transition = none → p.transition = none) ∧
    p.notices = s.prog.notices ∧ p.deferred = s.prog.deferred
  have step (h : Fin 4) (t : State) : inv t → inv (t.roleSwap old new h) := by
    rintro ⟨p, rfl, ht, hn, hd⟩
    obtain ⟨p', he, -, ht', hn', hd'⟩ := one h { s with prog := p }
    exact ⟨p', he, ht' ∘ ht, hn'.trans hn, hd'.trans hd⟩
  have start : inv s := ⟨_, rfl, id, rfl, rfl⟩
  have roles (h : Fin 4) : (forEach (fun h s => s.roleSwap old new h) s).prog.roles[h] =
      if old.fitted h = new.fitted h then s.prog.roles[h] else RoleRec.initial := by
    refine forEach_at (fun h s => s.prog.roles[h]) (fun h r => if old.fitted h = new.fitted h then r else RoleRec.initial) inv step
      (fun k t _ => ?_) (fun j k t _ hjk => ?_) s start h <;> obtain ⟨p, he, hr, -⟩ := one k t <;> rw [he] <;> dsimp only <;> rw [hr]
    · exact upd_at ..
    · exact upd_other _ _ _ _ (Ne.symm hjk)
  obtain ⟨p, he, ht, hn, hd⟩ := forEach_inv step start
  refine ⟨p, he, fun h => ?_, ht, hn, hd⟩
  have := roles h
  rwa [he] at this

theorem State.retakeAll_roles (s : State) (b : Bank) : ∃ R : Vector RoleRec 4, s.retakeAll b = { s with prog := { s.prog with roles := R } } ∧
    ∀ h : Fin 4, R[h] = if b.fitted h && !s.prog.roles[h].held then { s.prog.roles[h] with retake := true } else s.prog.roles[h] := by
  have hf : (fun (h : Fin 4) (s : State) => if b.fitted h && !(s.roleRec h).held then s.mapRole h fun r => { r with retake := true } else s) =
      fun h s => s.mapRole h fun r => if b.fitted h && !r.held then { r with retake := true } else r :=
    funext fun h => funext fun s => s.mapRole_ite h (fun r => b.fitted h && !r.held) _
  unfold State.retakeAll
  rw [hf]
  exact forEach_mapRole (fun h r => if b.fitted h && !r.held then { r with retake := true } else r) s

theorem State.programmeSwap_taken (s : State) (old new : Bank) : ProgrammeTaken s (s.programmeSwap old new) old new := by
  obtain ⟨p, he, hr, ht, hn, hd⟩ := s.roleSwaps old new
  unfold State.programmeSwap
  dsimp only
  rw [he]
  by_cases hs : old.slots = new.slots
  · have roles (h : Fin 4) : p.roles[h] = s.prog.roles[h].swapped old new h := by
      rw [hr h]
      unfold RoleRec.swapped
      exact (if_neg (by simp [hs])).symm
    rw [if_neg (fun h => h hs)]
    by_cases ho : old.sendOrder ≠ new.sendOrder ∨ old.fillOrder ≠ new.fillOrder
    · rw [if_pos ho, State.enterTrigger_eq]
      exact ⟨roles, ht, hn, fun _ => by dsimp only; rw [hd], fun h => absurd (.inr ho) h, _, rfl⟩
    · rw [if_neg ho]
      exact ⟨roles, ht, hn, fun h => absurd h (fun h => h.elim (fun h => h hs) ho), fun _ => hd, _, rfl⟩
  · obtain ⟨R, hR, hroles⟩ := State.retakeAll_roles { s with prog := p } new
    rw [if_pos hs, hR, State.enterTrigger_eq]
    refine ⟨fun h => ?_, ht, hn, fun _ => by dsimp only; rw [hd], fun h => absurd (.inl hs) h, _, rfl⟩
    dsimp only
    rw [hroles h]
    dsimp only
    rw [hr h]
    unfold RoleRec.swapped
    dsimp only
    rw [decide_eq_true hs, Bool.true_and]

/-! ## Districts (R123) -/

/-- R123: a district record at a swap, with whether a SET lies outside its bounds, and the time. -/
def DistrictRec.swapped (old new : Bank) (d : Fin 6) (outside : Bool) (now : Nat) (r : DistrictRec) : DistrictRec :=
  match old.districts[d].used, new.districts[d].used with
  | true, true => r.swapTo old.districts[d] new.districts[d] (addressesChanged old new (.governor d)) outside
  | false, true => { DistrictRec.initial with reviewTimer := some (now + Config.reviewTime) }
  | true, false => { r with reviewTimer := none }
  | false, false => r

/-- R123: whether the unsent SET of a district is withdrawn at a swap. -/
def Bank.withdrawsSet (old new : Bank) (d : Fin 6) (outside : Bool) : Bool :=
  old.districts[d].used && (!new.districts[d].used || outside)

theorem State.districtSwap_eq (s : State) (old new : Bank) (d : Fin 6) : s.districtSwap old new d =
    (s.setDistrict d (s.districts[d].swapped old new d (s.loop.setOutside d new.districts[d]) s.timebase)).setLoop
      (if old.withdrawsSet new d (s.loop.setOutside d new.districts[d]) then s.loop.withdraw (·.isSet d) else s.loop) := by
  unfold State.districtSwap DistrictRec.swapped Bank.withdrawsSet
  dsimp only
  cases old.districts[d].used <;> cases new.districts[d].used
  · exact (congrArg (fun x => { s with districts := x }) (upd_same s.districts d)).symm
  · rfl
  · rfl
  · dsimp only
    cases s.loop.setOutside d new.districts[d] <;> rfl

/-- What the takeover of the districts leaves. -/
structure DistrictsTaken (s t : State) (old new : Bank) : Prop where
  districts : ∀ d : Fin 6, t.districts[d] = s.districts[d].swapped old new d (s.loop.setOutside d new.districts[d]) s.timebase
  unsent : ∀ d, t.loop.unsentSet d = if old.withdrawsSet new d (s.loop.setOutside d new.districts[d]) then none else s.loop.unsentSet d
  commands : ∀ c : Command, (∀ d, c.isSet d = false) → (c ∈ t.loop.commands ↔ c ∈ s.loop.commands)
  only : ∃ ds cs x, t = { s with districts := ds, loop := { s.loop with commands := cs, tx := x } }

theorem State.districtSwaps (s : State) (old new : Bank) : DistrictsTaken s (forEach (fun d s => s.districtSwap old new d) s) old new := by
  have loop (d : Fin 6) (t : State) : ∃ ds cs x,
      t.districtSwap old new d = { t with districts := ds, loop := { t.loop with commands := cs, tx := x } } ∧
      ∀ c : Command, c.isSet d = false → (c ∈ cs ↔ c ∈ t.loop.commands) := by
    rw [State.districtSwap_eq]
    split
    · exact ⟨_, _, _, rfl, fun c hc => List.mem_filter.trans ⟨And.left, fun h => ⟨h, congrArg (!·) hc⟩⟩⟩
    · exact ⟨_, _, _, rfl, fun _ _ => Iff.rfl⟩
  let inv (t : State) : Prop := (∃ ds cs x, t = { s with districts := ds, loop := { s.loop with commands := cs, tx := x } }) ∧
    ∀ c : Command, (∀ d, c.isSet d = false) → (c ∈ t.loop.commands ↔ c ∈ s.loop.commands)
  have step (d : Fin 6) (t : State) : inv t → inv (t.districtSwap old new d) := by
    rintro ⟨⟨ds, cs, x, rfl⟩, hc⟩
    obtain ⟨ds', cs', x', he, hc'⟩ := loop d { s with districts := ds, loop := { s.loop with commands := cs, tx := x } }
    rw [he]
    exact ⟨⟨ds', cs', x', rfl⟩, fun c h => (hc' c (h d)).trans (hc c h)⟩
  have start : inv s := ⟨⟨_, _, _, rfl⟩, fun _ _ => Iff.rfl⟩
  let get (d : Fin 6) (s : State) : DistrictRec × Option Nat × Option Nat := (s.districts[d], s.loop.unsentSet d, s.loop.tx.setOnLine d)
  let Q (d : Fin 6) (x : DistrictRec × Option Nat × Option Nat) (t : State) : Prop :=
    let out := x.2.1.any new.districts[d].excludes || x.2.2.any new.districts[d].excludes
    t.districts[d] = x.1.swapped old new d out s.timebase ∧
    t.loop.unsentSet d = if old.withdrawsSet new d out then none else x.2.1
  have other {j k : Fin 6} {t : State} (hjk : j ≠ k) : (t.districtSwap old new k).districts[j] = t.districts[j] ∧
      (t.districtSwap old new k).loop.unsentSet j = t.loop.unsentSet j ∧
      (t.districtSwap old new k).loop.tx.setOnLine j = t.loop.tx.setOnLine j := by
    refine ⟨t.districtSwap_other old new (Ne.symm hjk), ?_⟩
    rw [State.districtSwap_eq]
    dsimp only [State.setLoop]
    split
    · exact t.loop.withdraw_sets fun x => decide_eq_false hjk
    · exact ⟨rfl, rfl⟩
  have each (d : Fin 6) : Q d (get d s) (forEach (fun d s => s.districtSwap old new d) s) := by
    refine forEach_own get Q inv step (fun d t h => ?_) (fun j k t _ hjk => ?_) (fun j k x t _ hjk h => ?_) s start d
    · have htime : t.timebase = s.timebase := by obtain ⟨⟨_, _, _, rfl⟩, -⟩ := h; rfl
      rw [State.districtSwap_eq]
      refine ⟨?_, ?_⟩
      · rw [← htime]
        exact upd_at ..
      dsimp only [State.setLoop]
      have out : t.loop.setOutside d new.districts[d] =
        ((get d t).2.1.any new.districts[d].excludes || (get d t).2.2.any new.districts[d].excludes) := rfl
      rw [← out]
      split
      · exact t.loop.withdraw_isSet d
      · rfl
    · obtain ⟨h1, h2, h3⟩ := other (t := t) hjk
      dsimp only [get]
      rw [h1, h2, h3]
    · obtain ⟨h1, h2, -⟩ := other (t := t) hjk
      exact ⟨h1.trans h.1, h2.trans h.2⟩
  obtain ⟨only, commands⟩ := forEach_inv step start
  exact ⟨fun d => (each d).1, fun d => (each d).2, commands, only⟩

end Sys2Proof.Machine

/-! # The takeover of a bank

All blocks in turn (R154, Table 25), and the state in which the events of a swap begin. -/

namespace Sys2Proof.Machine

variable {s t u : State} {old new : Bank}

theorem LoopPort.SetsAs.outside {l k : LoopPort} (h : l.SetsAs k) (d : Fin 6) (e : DistrictEntry) : k.setOutside d e = l.setOutside d e := by
  unfold LoopPort.setOutside
  rw [h.unsent, h.line]

/-- What the takeover leaves of every record, of the triggers and of the SETs. -/
structure RecordsSwapped (s t : State) (old new : Bank) : Prop where
  holders : ∀ h : Fin 4, t.holders[h] = s.holders[h].swapped old new h s.nv.saves[h] s.timebase
  channels : ∀ m : Fin 12, t.channels[m] = s.channels[m].swapped old new m s.loop.lost s.timebase
  points : t.points = s.points.map fun r => r.afresh new.yard.pointStale s.timebase
  barometer : t.barometer = s.barometer.afresh new.yard.pointStale s.timebase
  calorimeter : t.calorimeter = s.calorimeter.afresh new.yard.cvStale s.timebase
  valves : ∀ v : Fin 8, t.valves[v] = s.valves[v].swapped old new v s.loop.lost
  perms : ∀ v : Fin 8, t.perms[v] = s.perms[v].swapped old new v
  afresh : ∀ (v : Fin 8) d, old.fitted (holderOf v) = true → new.fitted (holderOf v) = true → addressesChanged old new (.valve v) = true →
    s.valves[v].demand = some d → s.loop.lost = false → .valve v false d.dir (s.valves[v].tag + 1) (d.origin == .trip) ∈ t.loop.commands
  roles : ∀ h : Fin 4, t.prog.roles[h] = s.prog.roles[h].swapped old new h
  transition : s.prog.transition = none → t.prog.transition = none
  differs : old.programmeDiffers new →
    t.prog.deferred = if .reEvaluate ∈ s.prog.deferred then s.prog.deferred else s.prog.deferred ++ [.reEvaluate]
  same : ¬old.programmeDiffers new → t.prog.deferred = s.prog.deferred
  districts : ∀ d : Fin 6, t.districts[d] = s.districts[d].swapped old new d (s.loop.setOutside d new.districts[d]) s.timebase
  unsent : ∀ d, t.loop.unsentSet d = if old.withdrawsSet new d (s.loop.setOutside d new.districts[d]) then none else s.loop.unsentSet d
  loop : OnlyCommands s.loop t.loop

/-- What the takeover leaves of a part. -/
structure Taken (s t : State) (old new : Bank) : Prop extends RecordsSwapped s t old new where
  raises : Raises TakeSource s t
  frame : SameFrame s t

theorem OnlyValves.sameTimes (h : OnlyValves s t) : SameTimes s t := (OnlyEvents.of_valves h).sameTimes

theorem State.takeOver_taken (hi : s.accounts.interval = none) (old new : Bank) : Taken s (s.takeOver old new) old new := by
  unfold State.takeOver
  dsimp only
  obtain jobs := State.jobsTaken hi old new
  generalize (forEach (fun m s => s.meterSwap old new m) (forEach (fun h s => s.liftSwap old new h) s)).pointsSwap new = a at *
  obtain ⟨holders, channels, points, barometer, calorimeter, raises, only⟩ := jobs
  have loop := only.loop
  have frame := only.sameFrame
  have controller : a.valves = s.valves ∧ a.perms = s.perms ∧ a.prog = s.prog ∧ a.districts = s.districts := by
    obtain ⟨_, _, _, _, _, _, rfl⟩ := only
    exact ⟨rfl, rfl, rfl, rfl⟩
  obtain ⟨avalves, aperms, aprog, adistricts⟩ := controller
  obtain ⟨valves, perms, afresh, sets, attn, prog, vonly⟩ := a.valveSwaps old new
  generalize forEach (fun v s => s.valveSwap old new v) a = c at *
  obtain ⟨roles, transition, notices, differs, same, p, hp⟩ := c.programmeSwap_taken old new
  rw [hp] at roles transition notices differs same ⊢
  obtain ⟨districts, unsent, commands, ds, cs, x, hd⟩ := State.districtSwaps { c with prog := p } old new
  rw [hd] at districts unsent commands ⊢
  rw [loop] at sets valves afresh
  rw [avalves] at valves afresh
  rw [aperms] at perms
  rw [aprog] at prog
  have croles : c.prog.roles = s.prog.roles := (congrArg Programme.roles prog :)
  have ctransition : c.prog.transition = s.prog.transition := (congrArg Programme.transition prog :)
  have cdeferred : c.prog.deferred = s.prog.deferred := (congrArg Programme.deferred prog :)
  have cframe := frame.trans vonly.sameFrame
  refine ⟨?_, raises.trans (.of_same ⟨vonly.sameTimes.live, vonly.sameTimes.now⟩ attn),
    ⟨cframe.pending, cframe.power, cframe.own, cframe.timebase, cframe.clock, cframe.tables, cframe.accounts, cframe.nv⟩⟩
  constructor
  case holders => exact fun h => (congrArg (fun v : Vector HolderRec 4 => v[h]) vonly.holders).trans (holders h)
  case channels => exact fun m => (congrArg (fun v : Vector ChannelRec 12 => v[m]) vonly.channels).trans (channels m)
  case points => exact vonly.points.trans points
  case barometer => exact vonly.barometer.trans barometer
  case calorimeter => exact vonly.calorimeter.trans calorimeter
  case valves => exact valves
  case perms => exact perms
  case afresh => exact fun v d h1 h2 h3 h4 h5 => (commands _ fun _ => rfl).2 (afresh v d h1 h2 h3 h4 h5)
  case roles =>
    rw [← croles]
    exact roles
  case transition => exact fun h => transition (ctransition.trans h)
  case differs =>
    rw [← cdeferred]
    exact differs
  case same =>
    rw [← cdeferred]
    exact same
  case districts =>
    intro d
    refine (districts d).trans ?_
    rw [← cframe.timebase, ← adistricts, ← vonly.districts, ← sets.outside]
  case unsent =>
    intro d
    refine (unsent d).trans ?_
    rw [← sets.outside, ← sets.unsent]
  case loop =>
    have k : OnlyCommands s.loop c.loop := loop ▸ vonly.loop
    exact ⟨k.lost, k.lossExpiry, k.cycle, k.window, k.rearm, k.buffer, k.responses, k.checkErrors, k.checkMark, k.lineQuiet, k.tailForwarded⟩

/-! ## Up to the events of a swap -/

/-- R129, R137, R154: the state in which the events of a swap at a close begin, the record being made in the state `s`. -/
def State.swappedState (s : State) (old : Bank) (o : Opening) : State := (s.swapTables.takeOver old s.tables.pending).openInterval o

theorem State.swapAndOpen_eq (s : State) (old : Bank) (o : Opening) :
    s.swapAndOpen old o = (s.swappedState old o).swapEvents s.holders old s.tables.pending := rfl

/-- What stands when the events of a swap begin: the records swapped, and the next interval open. -/
structure SwapBegins (s u : State) (old new : Bank) (o : Opening) : Prop extends RecordsSwapped s u old new where
  tables : u.tables = s.tables.swapped
  accounts : u.accounts = { s.accounts with interval := some (u.newInterval new o) }
  raises : Raises TakeSource s.swapTables u
  clock : u.clock = s.clock
  timebase : u.timebase = s.timebase
  own : u.own = s.own
  power : u.power = s.power
  pending : u.pending = s.pending
  nv : u.nv = s.nv

theorem State.swapTables_eq (s : State) : ∃ a, s.swapTables = { s with tables := s.tables.swapped, attn := a } := by
  unfold State.swapTables
  dsimp only
  rw [State.raise_setAttn]
  exact ⟨_, rfl⟩

theorem State.swappedState_begins (hi : s.accounts.interval = none) (old : Bank) (o : Opening) :
    SwapBegins s (s.swappedState old o) old s.tables.pending o := by
  obtain ⟨a, ha⟩ := s.swapTables_eq
  have taken := State.takeOver_taken (s := s.swapTables) (by rw [ha]; exact hi) old s.tables.pending
  have hlive : (s.swapTables.takeOver old s.tables.pending).live = some s.tables.pending := by
    refine (congrArg TableStore.live taken.frame.tables).trans ?_
    rw [ha]
    rfl
  unfold State.swappedState
  rw [State.openInterval_eq hlive]
  generalize s.swapTables.takeOver old s.tables.pending = c at *
  have raises := taken.raises
  rw [ha] at taken
  obtain ⟨⟨holders, channels, points, barometer, calorimeter, valves, perms, afresh, roles, transition, differs, same, districts, unsent, loop⟩,
    -, frame⟩ := taken
  obtain ⟨hpending, hpower, hown, htime, hclock, htables, haccounts, hnv⟩ := frame
  exact ⟨⟨holders, channels, points, barometer, calorimeter, valves, perms, afresh, roles, transition, differs, same, districts, unsent, loop⟩,
    htables, by rw [State.setAccounts_accounts, haccounts]; rfl, raises.trans (.of_same ⟨rfl, rfl⟩ rfl), hclock, htime, hown, hpower, hpending, hnv⟩

end Sys2Proof.Machine

/-! # The records that a swap leaves

The records of holders, channels, points and districts as R22, R39, R47 and R123 give them. -/

namespace Sys2Proof.Machine

variable {s t u : State} {old new : Bank}

/-! ## Holders (R22) -/

section
variable {h : Fin 4} {save : Option HolderSave} {now : Nat} {r : HolderRec}

theorem HolderRec.swapped_kept (ho : old.fitted h = true) (hn : new.fitted h = true) :
    r.swapped old new h save now = (HolderRec.swapTo old new h r now).1 := by unfold HolderRec.swapped; rw [ho, hn]
theorem HolderRec.swapped_joins (ho : old.fitted h = false) (hn : new.fitted h = true) :
    r.swapped old new h save now = HolderRec.bring new h (HolderRec.restored save now) now := by unfold HolderRec.swapped; rw [ho, hn]
theorem HolderRec.swapped_unfit (hn : new.fitted h = false) : r.swapped old new h save now = r := by
  unfold HolderRec.swapped
  rw [hn]
  cases old.fitted h <;> rfl

/-- R22: a holder that stays fitted. -/
structure HolderRec.StaysFitted (old new : Bank) (h : Fin 4) (now : Nat) (r r' : HolderRec) : Prop where
  count : r'.count = min r.count new.holders[h].travel
  ref : r'.ref = r.ref
  lastDatum : r'.lastDatum = r.lastDatum
  liftFault : r'.liftFault = r.liftFault
  cupped : r'.cupped = new.holders[h].cuppedAt r'.count
  expected : r'.expected = new.holders[h].expectedAt r'.count
  geoVolume : r'.geoVolume = volumeAt (new.breakpoints h) r'.count
  within : r.count ≤ new.holders[h].travel → r'.certain = r.certain ∧ r'.note = r.note
  limited : new.holders[h].travel < r.count → r'.certain = false ∧ r'.note = ⟨.limitedAtSwap, none, now⟩
  runs : old.holders[h].cupChanged new.holders[h] = true → r'.outRun = 0 ∧ r'.inRun = 0

theorem HolderRec.swapTo_stays (old new : Bank) (h : Fin 4) (now : Nat) (r : HolderRec) :
    r.StaysFitted old new h now (HolderRec.swapTo old new h r now).1 := by
  unfold HolderRec.swapTo HolderRec.placeAt
  dsimp only
  by_cases hl : new.holders[h].travel < r.count
  · have hle : ¬r.count ≤ new.holders[h].travel := Nat.not_le.2 hl
    cases hc : old.holders[h].cupChanged new.holders[h] <;> constructor <;>
      simp only [hl, hle, hc, decide_true, ↓reduceIte, Bool.false_eq_true, false_implies, and_self, ite_self, implies_true]
  · cases hc : old.holders[h].cupChanged new.holders[h] <;> constructor <;>
      simp only [hl, hc, decide_false, ↓reduceIte, Bool.false_eq_true, false_implies, and_self, ite_self, implies_true]

/-- R21: a record brought to a bank. -/
theorem HolderRec.bring_eq (b : Bank) (h : Fin 4) (r : HolderRec) (now : Nat) :
    (HolderRec.bring b h r now).count = min r.count b.holders[h].travel ∧ (HolderRec.bring b h r now).certain = r.certain ∧
    (HolderRec.bring b h r now).ref = r.ref ∧ (HolderRec.bring b h r now).lastDatum = r.lastDatum ∧
    (HolderRec.bring b h r now).liftFault = r.liftFault ∧ (HolderRec.bring b h r now).savedCertain = r.savedCertain := by
  unfold HolderRec.bring
  dsimp only
  split <;> refine ⟨?_, rfl, rfl, rfl, rfl, rfl⟩ <;> dsimp only [HolderRec.placeAt] <;> omega

end

/-! ## Channels (R39) -/

section
variable {m : Fin 12} {lost : Bool} {now : Nat} {c : ChannelRec}

/-- R39: a channel that stays in use, but for a new stall time. -/
def ChannelRec.keptAt (old new : Bank) (m : Fin 12) (c : ChannelRec) : ChannelRec :=
  { c with
    reference := if addressesChanged old new (.meter m) then none else c.reference,
    waiver := c.waiver && !addressesChanged old new (.meter m),
    window := if old.meters[m].k ≠ new.meters[m].k ∧ c.state = .measuring then none else c.window }

theorem ChannelRec.swapTo_eq (old new : Bank) (m : Fin 12) (c : ChannelRec) :
    c.swapTo old.meters[m] new.meters[m] (addressesChanged old new (.meter m)) = c.keptAt old new m := by
  unfold ChannelRec.swapTo ChannelRec.keptAt
  cases addressesChanged old new (.meter m) <;> simp <;> split <;> rfl

theorem ChannelRec.swapped_initial (ho : old.meters[m].inUse = false) (hn : new.meters[m].inUse = true) :
    c.swapped old new m lost now = ChannelRec.initial := by unfold ChannelRec.swapped; rw [ho, hn]
theorem ChannelRec.swapped_unused (hn : new.meters[m].inUse = false) : c.swapped old new m lost now = c := by
  unfold ChannelRec.swapped
  rw [hn]
  cases old.meters[m].inUse <;> rfl

theorem ChannelRec.swapped_kept (ho : old.meters[m].inUse = true) (hn : new.meters[m].inUse = true) : c.swapped old new m lost now =
    if old.meters[m].stall ≠ new.meters[m].stall ∧ lost = false ∧ (c.keptAt old new m).stallDue new.meters[m] now = true then
      (c.keptAt old new m).toStalled now else c.keptAt old new m := by
  unfold ChannelRec.swapped
  rw [ho, hn, ← ChannelRec.swapTo_eq]

theorem ChannelRec.swapped_runs (ho : old.meters[m].inUse = true) (hn : new.meters[m].inUse = true)
    (h : old.meters[m].stall = new.meters[m].stall ∨ lost = true ∨ c.state ≠ .measuring) :
    c.swapped old new m lost now = c.keptAt old new m := by
  rw [ChannelRec.swapped_kept ho hn]
  refine if_neg ?_
  rintro ⟨hs, hl, hd⟩
  rcases h with h | h | h
  · exact hs h
  · exact Bool.noConfusion (h.symm.trans hl)
  · unfold ChannelRec.stallDue at hd
    have hm : (c.keptAt old new m).state = c.state := rfl
    rw [hm] at hd
    simp only [Bool.and_eq_true, beq_iff_eq] at hd
    exact h hd.1.1

theorem ChannelRec.swapped_stalls (ho : old.meters[m].inUse = true) (hn : new.meters[m].inUse = true)
    (hs : old.meters[m].stall ≠ new.meters[m].stall) (hm : c.state = .measuring) {x : Nat} (hx : c.stallStart = some x) :
    c.swapped old new m false now = if now < x + new.meters[m].stall * 1000 then c.keptAt old new m
      else { c.keptAt old new m with state := .stalled, rate := 0, rateTime := some now, window := none } := by
  have due : (c.keptAt old new m).stallDue new.meters[m] now = true ↔ ¬now < x + new.meters[m].stall * 1000 := by
    unfold ChannelRec.stallDue
    rw [hn, show (c.keptAt old new m).state = .measuring from hm, show (c.keptAt old new m).stallStart = some x from hx]
    simp [timerBy]
  rw [ChannelRec.swapped_kept ho hn]
  by_cases hd : now < x + new.meters[m].stall * 1000
  · rw [if_pos hd, if_neg fun h => due.1 h.2.2 hd]
  · rw [if_neg hd, if_pos ⟨hs, rfl, due.2 hd⟩]
    rfl

end

/-! ## Districts (R123) -/

theorem LoopPort.setOutside_iff (l : LoopPort) (d : Fin 6) (e : DistrictEntry) : l.setOutside d e = true ↔
    ∃ x, (l.unsentSet d = some x ∨ l.tx.setOnLine d = some x) ∧ (x < e.minSet ∨ e.maxSet < x) := by
  unfold LoopPort.setOutside
  simp only [Bool.or_eq_true, Option.any_eq_true, DistrictEntry.excludes, decide_eq_true_eq]
  constructor
  · rintro (⟨x, hx, h⟩ | ⟨x, hx, h⟩)
    · exact ⟨x, .inl hx, h⟩
    · exact ⟨x, .inr hx, h⟩
  · rintro ⟨x, hx | hx, h⟩
    · exact .inl ⟨x, hx, h⟩
    · exact .inr ⟨x, hx, h⟩

theorem DistrictEntry.endChanged_iff (e f : DistrictEntry) : e.endChanged f = true ↔
    e.endLow ≠ f.endLow ∨ e.endHigh ≠ f.endHigh ∨ e.confirm ≠ f.confirm ∨ e.endPoint ≠ f.endPoint := by
  unfold DistrictEntry.endChanged
  simp only [Bool.or_eq_true, bne_iff_ne, or_assoc]

/-- R123: a district that stays in use. -/
structure DistrictRec.StaysUsed (e f : DistrictEntry) (moved outside : Bool) (r r' : DistrictRec) : Prop where
  trim : r'.trim = min r.trim f.trimMax
  reviewTimer : r'.reviewTimer = r.reviewTimer
  refresh : r'.refresh = r.refresh
  lastSent : r'.lastSent = if moved then none else r.lastSent
  reported : r'.reported = if moved then none else r.reported
  runs : e.endChanged f = false → r'.lowRun = r.lowRun ∧ r'.highRun = r.highRun ∧ r'.endLowStanding = r.endLowStanding
  cleared : e.endChanged f = true → r'.lowRun = 0 ∧ r'.highRun = 0 ∧ r'.endLowStanding = false
  due : r'.sendDue = (outside || r.sendDue || moved)

theorem DistrictRec.swapTo_stays (e f : DistrictEntry) (moved outside : Bool) (r : DistrictRec) :
    r.StaysUsed e f moved outside (r.swapTo e f moved outside) := by
  unfold DistrictRec.swapTo
  cases hc : e.endChanged f <;> cases moved <;> cases outside <;> constructor <;> simp [hc]

section
variable {d : Fin 6} {outside : Bool} {now : Nat} {r : DistrictRec}

theorem DistrictRec.swapped_kept (ho : old.districts[d].used = true) (hn : new.districts[d].used = true) : r.StaysUsed old.districts[d]
    new.districts[d] (addressesChanged old new (.governor d)) outside (r.swapped old new d outside now) := by
  unfold DistrictRec.swapped
  rw [ho, hn]
  exact DistrictRec.swapTo_stays ..

theorem DistrictRec.swapped_starts (ho : old.districts[d].used = false) (hn : new.districts[d].used = true) :
    r.swapped old new d outside now = { DistrictRec.initial with reviewTimer := some (now + 60000) } := by
  unfold DistrictRec.swapped
  rw [ho, hn]
  rfl

theorem DistrictRec.swapped_stops (ho : old.districts[d].used = true) (hn : new.districts[d].used = false) :
    r.swapped old new d outside now = { r with reviewTimer := none } := by
  unfold DistrictRec.swapped
  rw [ho, hn]

end

end Sys2Proof.Machine

/-! # A programme that stands still

With no transition in flight and no trigger that may be taken, the Programme Unit only disregards its notices; and a change of a holder
that is UNCERTAIN enters no trigger. So such changes trip the valves of the sides they withdraw, and leave all others. -/

namespace Sys2Proof.Machine

variable {p q : Fin 4 → Side → Prop} {s t u : State} {b : Bank} {h : Fin 4} {sd : Side}

/-- No transition is in flight, and no trigger may be taken. -/
def State.Still (s : State) : Prop := s.prog.transition = none ∧ (s.mayTake = false ∨ s.prog.deferred = [])

/-- What events of a programme that stands still leave, the sides of which `p` holds being withdrawn. -/
structure Stilled (p : Fin 4 → Side → Prop) (s t : State) : Prop where
  valves : ∀ v, ¬p (holderOf v) (sideOf v) → t.valves[v] = s.valves[v]
  perms : ∀ v, ¬p (holderOf v) (sideOf v) → t.perms[v] = s.perms[v]
  commands : ∀ v c, ¬p (holderOf v) (sideOf v) → c.isValve v = true → (c ∈ t.loop.commands ↔ c ∈ s.loop.commands)
  role : ∀ h : Fin 4, t.prog.roles[h].role = s.prog.roles[h].role
  held : ∀ h : Fin 4, t.prog.roles[h].held = s.prog.roles[h].held
  retake : ∀ h : Fin 4, t.prog.roles[h].retake = s.prog.roles[h].retake
  lowMark : ∀ h : Fin 4, s.prog.roles[h].lowMark = false → t.prog.roles[h].lowMark = false
  highMark : ∀ h : Fin 4, s.prog.roles[h].highMark = false → t.prog.roles[h].highMark = false
  transition : t.prog.transition = s.prog.transition
  deferred : t.prog.deferred = s.prog.deferred
  only : OnlyEvents s t

namespace Stilled

theorem of_same (only : OnlyEvents s t) (hv : t.valves = s.valves) (hp : t.perms = s.perms) (hl : t.loop = s.loop)
    (hprog : { t.prog with notices := s.prog.notices } = s.prog) : Stilled p s t := by
  have roles : t.prog.roles = s.prog.roles := (congrArg Programme.roles hprog :)
  refine ⟨fun v _ => by rw [hv], fun v _ => by rw [hp], fun v c _ _ => by rw [hl], fun h => ?_, fun h => ?_, fun h => ?_, fun h => ?_,
    fun h => ?_, (congrArg Programme.transition hprog :), (congrArg Programme.deferred hprog :), only⟩ <;> rw [roles]
  · exact id
  · exact id

theorem refl (s : State) : Stilled p s s := .of_same (.refl s) rfl rfl rfl rfl

theorem trans (k : Stilled p s t) (l : Stilled p t u) : Stilled p s u where
  valves v hv := (l.valves v hv).trans (k.valves v hv)
  perms v hv := (l.perms v hv).trans (k.perms v hv)
  commands v c hv hc := (l.commands v c hv hc).trans (k.commands v c hv hc)
  role h := (l.role h).trans (k.role h)
  held h := (l.held h).trans (k.held h)
  retake h := (l.retake h).trans (k.retake h)
  lowMark h := l.lowMark h ∘ k.lowMark h
  highMark h := l.highMark h ∘ k.highMark h
  transition := l.transition.trans k.transition
  deferred := l.deferred.trans k.deferred
  only := k.only.trans l.only

theorem mono (k : Stilled p s t) (hpq : ∀ h sd, p h sd → q h sd) : Stilled q s t :=
  { k with
    valves := fun v hv => k.valves v (hv ∘ hpq _ _)
    perms := fun v hv => k.perms v (hv ∘ hpq _ _)
    commands := fun v c hv hc => k.commands v c (hv ∘ hpq _ _) hc }

theorem ite {c : Prop} [Decidable c] (k : c → Stilled p s t) (l : ¬c → Stilled p s u) : Stilled p s (if c then t else u) := by
  split
  · next h => exact k h
  · next h => exact l h

theorem still (k : Stilled p s t) (hs : s.Still) : t.Still := by
  obtain ⟨ht, hd⟩ := hs
  refine ⟨k.transition.trans ht, ?_⟩
  rwa [State.mayTake_congr k.only k.transition, k.deferred]

end Stilled

/-! ## The Programme Unit (R63, R88, R90, R100) -/

/-- A programme that stands still disregards its notices. -/
theorem State.settle_still (n : Nat) (hs : s.Still) : ∃ ns, s.settle n = { s with prog := { s.prog with notices := ns } } := by
  induction n generalizing s with
  | zero => exact ⟨_, rfl⟩
  | succ n ih =>
    cases hl : s.live with
    | none =>
      refine ⟨s.prog.notices, ?_⟩
      unfold State.settle
      rw [hl]
    | some b =>
      cases hn : s.prog.notices with
      | nil =>
        refine ⟨s.prog.notices, ?_⟩
        rw [State.settle_idle ⟨hn, hs.2.symm⟩]
      | cons x xs =>
        obtain ⟨v, d, r⟩ := x
        rw [State.settle_notice hl hn, State.takeNotice_disregarded (s := { s with prog := { s.prog with notices := xs } }) fun t ht => (nomatch hs.1.symm.trans ht)]
        exact ih (s := { s with prog := { s.prog with notices := xs } }) hs

theorem State.settled_still (hs : s.Still) : Stilled p s s.settled := by
  obtain ⟨ns, hn⟩ := s.settle_still Config.settleBound hs
  refine .of_same (.of_valves s.settled_only) ?_ ?_ ?_ ?_ <;> unfold State.settled <;> rw [hn]

theorem State.giveUp_none (ht : s.prog.transition = none) (b : Bank) (h : Fin 4) : s.giveUp b h = s := by
  unfold State.giveUp
  rw [ht]

theorem State.mapRole_still (s : State) (h : Fin 4) (sd : Side) : Stilled p s (s.mapRole h fun r => r.setMark sd false) := by
  have record (r : RoleRec) : (r.setMark sd false).role = r.role ∧ (r.setMark sd false).held = r.held ∧ (r.setMark sd false).retake = r.retake ∧
      (r.lowMark = false → (r.setMark sd false).lowMark = false) ∧ (r.highMark = false → (r.setMark sd false).highMark = false) := by
    cases sd <;> exact ⟨rfl, rfl, rfl, by intro h; first | exact h | rfl, by intro h; first | exact h | rfl⟩
  have each (k : Fin 4) : let r := s.prog.roles[k]; let r' := (upd s.prog.roles h (s.prog.roles[h].setMark sd false))[k]
      r'.role = r.role ∧ r'.held = r.held ∧ r'.retake = r.retake ∧ (r.lowMark = false → r'.lowMark = false) ∧
        (r.highMark = false → r'.highMark = false) := by
    dsimp only
    by_cases hk : h = k
    · subst hk
      rw [upd_at]
      exact record _
    · have other : (upd s.prog.roles h (s.prog.roles[h].setMark sd false))[k] = s.prog.roles[k] := upd_other _ _ _ _ hk
      rw [other]
      exact ⟨rfl, rfl, rfl, id, id⟩
  exact ⟨fun _ _ => rfl, fun _ _ => rfl, fun _ _ _ _ => Iff.rfl, fun k => (each k).1, fun k => (each k).2.1, fun k => (each k).2.2.1,
    fun k => (each k).2.2.2.1, fun k => (each k).2.2.2.2, rfl, rfl, .of_valves ⟨rfl, rfl, rfl, rfl, rfl, rfl, rfl, rfl, rfl, rfl, rfl, rfl, rfl, rfl, rfl, .refl _, rfl⟩⟩

/-- R88: a change of a holder that is UNCERTAIN enters no trigger. -/
theorem State.markSide_still (hc : s.holders[h].certain = false) (e : HolderEntry) (sd : Side) (lo hi : Nat) :
    Stilled p s (s.markSide e h sd lo hi) := by
  unfold State.markSide
  dsimp only
  simp only [hc, Bool.false_and, Bool.false_eq_true, ↓reduceIte]
  exact .ite (fun _ => s.mapRole_still h sd) fun _ => .refl s

/-! ## Trips (R78) -/

theorem State.withdraw_still (s : State) (hp : p h sd) (c : PermCause) (n : Nat) : Stilled p s (s.withdraw h sd c n) := by
  have other {v : Fin 8} (hv : ¬p (holderOf v) (sideOf v)) : v ≠ valveOf h sd := by
    rintro rfl
    rw [holderOf_valveOf, sideOf_valveOf] at hv
    exact hv hp
  have prog : { (s.withdraw h sd c n).prog with notices := s.prog.notices } = s.prog := by
    cases hg : s.perms[valveOf h sd].granted with
    | false => rw [State.withdraw_withdrawn hg]
    | true =>
      rw [State.withdraw_granted hg, State.raise_prog]
      exact (State.offered_atValve (s.setPerm _ _) ..).prog
  have roles : (s.withdraw h sd c n).prog.roles = s.prog.roles := (congrArg Programme.roles prog :)
  refine ⟨fun v hv => s.withdraw_valves h sd c n (other hv), fun v hv => s.withdraw_perms h sd c n (other hv), fun v x hv hx => ?_,
    fun h => by rw [roles], fun h => by rw [roles], fun h => by rw [roles], fun h => by rw [roles]; exact id,
    fun h => by rw [roles]; exact id, (congrArg Programme.transition prog :), (congrArg Programme.deferred prog :),
    .of_valves (s.withdraw_only h sd c n)⟩
  exact s.withdraw_commands h sd c n (Command.isValve_other hx (other hv).symm)

theorem State.evaluateTrips_still (s : State) (e : HolderEntry) (lo hi : Nat) (ho : lo ≤ e.lowStop → p h .outlet)
    (hi' : e.highStop ≤ hi → p h .inlet) : Stilled p s (s.evaluateTrips e h lo hi) := by
  have low : Stilled p s (if lo ≤ e.lowStop then s.withdraw h .outlet .lowStop lo else s) :=
    .ite (fun hlo => s.withdraw_still (ho hlo) _ _) fun _ => .refl s
  exact .ite (fun hhi => low.trans (State.withdraw_still _ (hi' hhi) _ _)) fun _ => low

/-- R3: a change of a holder that is UNCERTAIN, the programme standing still. -/
theorem State.holderChange_still (hs : s.Still) (hc : s.holders[h].certain = false) (lo hi : Nat)
    (ho : lo ≤ b.holders[h].lowStop → p h .outlet) (hi' : b.holders[h].highStop ≤ hi → p h .inlet) :
    Stilled p s (s.holderChange b h lo hi) := by
  have trips := s.evaluateTrips_still (b.holders[h]) lo hi ho hi'
  rw [State.holderChange_split]
  unfold State.afterTrips
  dsimp only
  have certain {a : State} (k : Stilled p s a) : a.holders[h].certain = false := by rw [k.only.holders]; exact hc
  generalize s.evaluateTrips b.holders[h] h lo hi = a at *
  have k1 := trips.trans (State.settled_still (trips.still hs))
  have k2 := k1.trans (State.markSide_still (certain k1) b.holders[h] .outlet lo hi)
  have k3 := k2.trans (State.markSide_still (certain k2) b.holders[h] .inlet lo hi)
  rw [State.giveUp_none (k3.still hs).1]
  have k4 := k3.trans (State.settled_still (k3.still hs))
  exact .ite (fun _ => k4) fun _ => k4.trans (.of_same ⟨_, .refl _⟩ rfl rfl rfl rfl)

end Sys2Proof.Machine

/-! # The events of a swap

The holder changes that a swap issues and the trips of changed stops (R22, R78, R79, R154). -/

namespace Sys2Proof.Machine

variable {p q : Fin 4 → Side → Prop} {s t u : State} {b old new : Bank} {before : Vector HolderRec 4} {h : Fin 4} {sd : Side} {n : Nat}

/-! ## One step of `forEach` among the others -/

theorem foldl_inv {n : Nat} {f : Fin n → State → State} {inv : State → Prop} {l : List (Fin n)} (h : ∀ k ∈ l, ∀ s, inv s → inv (f k s))
    {s : State} (hs : inv s) : inv (l.foldl (fun s k => f k s) s) := by
  induction l generalizing s with
  | nil => exact hs
  | cons k l ih => exact ih (fun j hj => h j (.tail _ hj)) (h k (.head _) s hs)

theorem forEach_split {n : Nat} (f : Fin n → State → State) (k : Fin n) (s : State) : ∃ pre post : List (Fin n), k ∉ pre ∧ k ∉ post ∧
    forEach f s = post.foldl (fun s k => f k s) (f k (pre.foldl (fun s k => f k s) s)) := by
  obtain ⟨pre, post, hl⟩ := List.append_of_mem (List.mem_finRange k)
  have hn := List.nodup_finRange n
  rw [hl] at hn
  obtain ⟨-, hpost, hacross⟩ := List.nodup_append.1 hn
  refine ⟨pre, post, fun hk => hacross k hk k (.head _) rfl, (List.nodup_cons.1 hpost).1, ?_⟩
  unfold forEach
  rw [hl, List.foldl_append, List.foldl_cons]

/-! ## A stop compared again -/

/-- A stop stays as it was compared, where later events compare it only with counts that do not meet it sooner. -/
theorem State.StopCompared.later (k : s.StopCompared t b h sd n) (steps : EventSteps q t u) (hq : q h sd → b.MeetsStop h sd n) :
    s.StopCompared u b h sd n := by
  obtain ⟨htrip, hkept⟩ := k
  by_cases hm : b.MeetsStop h sd n
  · refine ⟨fun hg _ => ?_, fun hno => ?_⟩
    · obtain ⟨hperm, hraised, hvalve⟩ := htrip hg hm
      have stands := steps.tripStands (h := h) (sd := sd) (by rw [hperm])
      refine ⟨stands.perm.trans hperm, hraised.after stands.notRaised, fun h1 h2 => ?_⟩
      have hr : t.valves[valveOf h sd].Tripped := hvalve h1 h2
      obtain ⟨j, hj⟩ := stands.valve hr
      rw [hj]
      exact hr.joined j
    · obtain ⟨hperm, hraised⟩ := hkept hno
      have hg := hno.resolve_right fun h => h hm
      have stands := steps.tripStands (h := h) (sd := sd) (by rw [hperm]; exact hg)
      exact ⟨stands.perm.trans hperm, hraised.trans stands.notRaised⟩
  · exact State.StopCompared.after ⟨htrip, hkept⟩ (steps.sideKept fun hp => hm (hq hp))

/-- A stop compared in a state whose permission, times and source are those of another, and whose valve flies as there. -/
theorem State.StopCompared.since (k : t.StopCompared u b h sd n) (hp : t.perms[valveOf h sd] = s.perms[valveOf h sd])
    (hn : s.NotRaised t (tripSource h sd)) (hf : s.valves[valveOf h sd].Flies → t.valves[valveOf h sd].Flies) (same : SameTimes s t)
    (ht : t.timebase = s.timebase) : s.StopCompared u b h sd n := by
  obtain ⟨htrip, hkept⟩ := k
  rw [hp] at htrip hkept
  refine ⟨fun hg hm => ?_, fun hno => ?_⟩
  · obtain ⟨hperm, hraised, hvalve⟩ := htrip hg hm
    refine ⟨?_, hraised.before hn same.live same.now, fun h1 h2 => ?_⟩
    · rw [hperm, ht]
    · obtain ⟨f1, f2⟩ := hf ⟨h1, h2⟩
      exact hvalve f1 f2
  · obtain ⟨hperm, hraised⟩ := hkept hno
    exact ⟨hperm, hn.trans hraised⟩

/-! ## The holder changes and the trips of a swap -/

/-- R22: the records that a swap has made of the holders `before`. -/
def HoldersSwapped (old new : Bank) (saves : Vector (Option HolderSave) 4) (now : Nat) (before after : Vector HolderRec 4) : Prop :=
  ∀ h : Fin 4, after[h] = before[h].swapped old new h saves[h] now

/-- R22, R78: a side of a holder that a holder change of a swap withdraws. -/
def ChangeTrips (old new : Bank) (before after : Vector HolderRec 4) (h : Fin 4) (sd : Side) : Prop :=
  new.fitted h = true ∧ ((old.fitted h = false ∧ new.MeetsStop h sd after[h].count) ∨
    (old.fitted h = true ∧ new.holders[h].travel < before[h].count ∧ new.MeetsStop h sd (sd.of after[h].count before[h].count)))

/-- R79: the stops of a holder differ between two banks. -/
def Bank.stopsDiffer (old new : Bank) (h : Fin 4) : Prop :=
  old.holders[h].lowStop ≠ new.holders[h].lowStop ∨ old.holders[h].highStop ≠ new.holders[h].highStop

/-- R79: a side of a holder that the stops of the new bank withdraw. -/
def StopTrips (old new : Bank) (after : Vector HolderRec 4) (h : Fin 4) (sd : Side) : Prop :=
  new.fitted h = true ∧ old.stopsDiffer new h ∧ new.MeetsStop h sd after[h].count

/-- What a swap issues for a holder: a change of one that becomes fitted, or that the new maximum travel limits. -/
inductive ChangeAfterSwap (old new : Bank) (before after : Vector HolderRec 4) (h : Fin 4) (s : State) : State → Prop where
  | joins : new.fitted h = true → old.fitted h = false → after[h].certain = false →
      ChangeAfterSwap old new before after h s (s.holderChange new h after[h].count after[h].count)
  | limited : new.fitted h = true → old.fitted h = true → new.holders[h].travel < before[h].count → after[h].certain = false →
      ChangeAfterSwap old new before after h s (s.holderChange new h after[h].count before[h].count)
  | none : new.fitted h = false ∨ (old.fitted h = true ∧ before[h].count ≤ new.holders[h].travel) → ChangeAfterSwap old new before after h s s

section
variable {saves : Vector (Option HolderSave) 4} {now : Nat} {after : Vector HolderRec 4}

theorem HoldersSwapped.stays (hs : HoldersSwapped old new saves now before after) (ho : old.fitted h = true) (hn : new.fitted h = true) :
    before[h].StaysFitted old new h now after[h] := by
  rw [hs h, HolderRec.swapped_kept ho hn]
  exact HolderRec.swapTo_stays ..

theorem HoldersSwapped.joins (hs : HoldersSwapped old new saves now before after) (ho : old.fitted h = false) (hn : new.fitted h = true) :
    after[h].count = min ((saves[h].map HolderSave.count).getD 0) new.holders[h].travel ∧ after[h].certain = false ∧ after[h].ref = none := by
  rw [hs h, HolderRec.swapped_joins ho hn]
  obtain ⟨hc, hcert, href, -⟩ := HolderRec.bring_eq new h (HolderRec.restored saves[h] now) now
  exact ⟨hc, hcert, href⟩

theorem State.changeAfterSwap_is (hs : HoldersSwapped old new saves now before after) (hh : s.holders = after) :
    ChangeAfterSwap old new before after h s (State.changeAfterSwap before old new h s) := by
  subst hh
  unfold State.changeAfterSwap
  dsimp only
  cases hn : new.fitted h with
  | false => exact .none (.inl hn)
  | true =>
    cases ho : old.fitted h with
    | false =>
      simp only [Bool.not_false, ↓reduceIte]
      exact .joins hn ho (hs.joins ho hn).2.1
    | true =>
      have stays := hs.stays ho hn
      have hcount := stays.count
      simp only [Bool.not_true, Bool.false_eq_true, ↓reduceIte]
      by_cases hl : new.holders[h].travel < before[h].count
      · have hlt : s.holders[h].count < before[h].count := by omega
        rw [if_pos (.inl (Nat.ne_of_gt hlt)), Nat.min_eq_right (Nat.le_of_lt hlt), Nat.max_eq_left (Nat.le_of_lt hlt)]
        exact .limited hn ho hl (stays.limited hl).1
      · have hle := Nat.le_of_not_lt hl
        rw [if_neg]
        · exact .none (.inr ⟨ho, hle⟩)
        · rintro (h1 | h1 | h1)
          · exact h1 (by omega)
          · exact h1 (stays.within hle).1.symm
          · exact h1 stays.liftFault.symm

theorem Side.of_same_count (sd : Side) (n : Nat) : sd.of n n = n := by
  unfold Side.of
  split <;> rfl

/-- R22, R78: a holder change of a swap withdraws the sides that meet their stops, of its holder alone. -/
theorem ChangeAfterSwap.events (k : ChangeAfterSwap old new before after h s t) :
    EventSteps (fun k sd => k = h ∧ ChangeTrips old new before after k sd) s t := by
  cases k with
  | joins hn ho =>
    exact s.holderChange_events new _ _ (fun hlo => ⟨rfl, hn, .inl ⟨ho, Bank.meetsStop_outlet.2 hlo⟩⟩)
      fun hhi => ⟨rfl, hn, .inl ⟨ho, Bank.meetsStop_inlet.2 hhi⟩⟩
  | limited hn ho hl =>
    exact s.holderChange_events new _ _ (fun hlo => ⟨rfl, hn, .inr ⟨ho, hl, Bank.meetsStop_outlet.2 hlo⟩⟩)
      fun hhi => ⟨rfl, hn, .inr ⟨ho, hl, Bank.meetsStop_inlet.2 hhi⟩⟩
  | none => exact .refl s

theorem State.tripsAfterSwap_pos (hn : new.fitted h = true) (hd : old.stopsDiffer new h) : State.tripsAfterSwap old new h s =
    (s.evaluateTrips new.holders[h] h s.holders[h].count s.holders[h].count).settled := by
  have c : (new.fitted h && (old.holders[h].lowStop != new.holders[h].lowStop || old.holders[h].highStop != new.holders[h].highStop)) = true := by
    rw [hn, Bool.true_and, Bool.or_eq_true, bne_iff_ne, bne_iff_ne]
    exact hd
  exact if_pos c

theorem State.tripsAfterSwap_neg (hd : ¬(new.fitted h = true ∧ old.stopsDiffer new h)) : State.tripsAfterSwap old new h s = s := by
  refine if_neg fun c => hd ?_
  rw [Bool.and_eq_true, Bool.or_eq_true, bne_iff_ne, bne_iff_ne] at c
  exact c

/-- R79: the trips of changed stops withdraw the sides that meet them, of their holder alone. -/
theorem State.tripsAfterSwap_events (hh : s.holders = after) :
    EventSteps (fun k sd => k = h ∧ StopTrips old new after k sd) s (State.tripsAfterSwap old new h s) := by
  subst hh
  by_cases hd : new.fitted h = true ∧ old.stopsDiffer new h
  · rw [State.tripsAfterSwap_pos hd.1 hd.2]
    refine (s.evaluateTrips_events _ _ _ (fun hlo => ⟨rfl, hd.1, hd.2, Bank.meetsStop_outlet.2 hlo⟩)
      fun hhi => ⟨rfl, hd.1, hd.2, Bank.meetsStop_inlet.2 hhi⟩).trans (State.settled_steps _).events
  · rw [State.tripsAfterSwap_neg hd]
    exact .refl s

/-- R22, R79: the sides that a swap withdraws. -/
def SwapTrips (old new : Bank) (before after : Vector HolderRec 4) (h : Fin 4) (sd : Side) : Prop :=
  ChangeTrips old new before after h sd ∨ StopTrips old new after h sd

/-- The events of a list of holders, each with the events of its own. -/
theorem EventSteps.foldl {r : Fin 4 → Side → Prop} {f : Fin 4 → State → State} {l : List (Fin 4)} (hh : s.holders = after)
    (hf : ∀ h ∈ l, ∀ s : State, s.holders = after → EventSteps r s (f h s)) : EventSteps r s (l.foldl (fun s h => f h s) s) :=
  foldl_inv (inv := fun t => EventSteps r s t) (fun h hm _ k => k.trans (hf h hm _ (k.onlyEvents.holders.trans hh))) (.refl s)

theorem State.swapEvents_steps (hs : HoldersSwapped old new saves now before u.holders) :
    EventSteps (SwapTrips old new before u.holders) u (u.swapEvents before old new) := by
  have changes : EventSteps (SwapTrips old new before u.holders) u (forEach (State.changeAfterSwap before old new) u) :=
    EventSteps.foldl rfl fun h _ s hh => EventSteps.weaken (State.changeAfterSwap_is hs hh).events fun _ _ k => .inl k.2
  have trips := EventSteps.foldl (r := SwapTrips old new before u.holders) (f := State.tripsAfterSwap old new) (l := List.finRange 4)
    changes.onlyEvents.holders fun h _ s hh => EventSteps.weaken (State.tripsAfterSwap_events hh) fun _ _ k => .inr k.2
  exact (changes.trans trips).trans (State.settled_steps _).events

/-- R22, R78, R79: the stops of a holder that the swap concerns have been compared. -/
theorem State.swapEvents_stop (hs : HoldersSwapped old new saves now before u.holders) (hn : new.fitted h = true)
    (hc : old.fitted h = false ∨ old.stopsDiffer new h ∨ new.holders[h].travel < before[h].count) :
    u.StopCompared (u.swapEvents before old new) new h sd
      (if sd = .outlet ∨ old.fitted h = false then u.holders[h].count else before[h].count) := by
  generalize hcount : (if sd = .outlet ∨ old.fitted h = false then u.holders[h].count else before[h].count) = n
  have changes : EventSteps (ChangeTrips old new before u.holders) u (forEach (State.changeAfterSwap before old new) u) :=
    EventSteps.foldl rfl fun h _ s hh => EventSteps.weaken (State.changeAfterSwap_is hs hh).events fun _ _ k => k.2
  have trips : EventSteps (StopTrips old new u.holders) (forEach (State.changeAfterSwap before old new) u) (u.swapEvents before old new) :=
    (EventSteps.foldl changes.onlyEvents.holders fun h _ s hh =>
      EventSteps.weaken (State.tripsAfterSwap_events hh) fun _ _ k => k.2).trans (State.settled_steps _).events
  by_cases changed : old.fitted h = false ∨ new.holders[h].travel < before[h].count
  · obtain ⟨pre, post, hpre, hpost, hsplit⟩ := forEach_split (State.changeAfterSwap before old new) h u
    have first : EventSteps (fun k _ => k ≠ h) u (pre.foldl (fun s k => State.changeAfterSwap before old new k s) u) :=
      EventSteps.foldl rfl fun k hk s hh => EventSteps.weaken (State.changeAfterSwap_is hs hh).events
        fun _ _ j e => hpre (by rw [← e, j.1]; exact hk)
    generalize pre.foldl (fun s k => State.changeAfterSwap before old new k s) u = a at *
    have hself := State.changeAfterSwap_is (h := h) hs first.onlyEvents.holders
    have last : EventSteps (fun k _ => k ≠ h) (State.changeAfterSwap before old new h a) (forEach (State.changeAfterSwap before old new) u) := by
      rw [hsplit]
      exact EventSteps.foldl (hself.events.onlyEvents.holders.trans first.onlyEvents.holders) fun k hk s hh =>
        EventSteps.weaken (State.changeAfterSwap_is hs hh).events fun _ _ j e => hpost (by rw [← e, j.1]; exact hk)
    generalize State.changeAfterSwap before old new h a = c at *
    have compared : a.StopCompared c new h sd n := by
      cases hself with
      | joins _ ho =>
        have := a.holderChange_stop new h sd u.holders[h].count u.holders[h].count
        have hof : sd.of u.holders[h].count u.holders[h].count = n := by rw [sd.of_same_count, ← hcount, if_pos (.inr ho)]
        rwa [hof] at this
      | limited _ ho =>
        have := a.holderChange_stop new h sd u.holders[h].count before[h].count
        have hof : sd.of u.holders[h].count before[h].count = n := by
          rw [← hcount, Side.of]
          simp [ho]
        rwa [hof] at this
      | none hno =>
        rcases hno with hno | ⟨ho, hle⟩
        · exact Bool.noConfusion (hn.symm.trans hno)
        · rcases changed with hc | hc
          · exact Bool.noConfusion (ho.symm.trans hc)
          · omega
    refine ((compared.before (first.sideKept fun hp => hp rfl)).after (last.sideKept fun hp => hp rfl)).later trips ?_
    rintro ⟨-, -, hm⟩
    rw [← hcount]
    split
    · exact hm
    · next hno =>
      have ho : old.fitted h = true := by
        cases ho : old.fitted h
        · exact absurd (.inr ho) hno
        · rfl
      have hsd : sd = .inlet := by
        cases sd
        · rfl
        · exact absurd (.inl rfl) hno
      subst hsd
      have hle : u.holders[h].count ≤ before[h].count := by rw [(hs.stays ho hn).count]; exact Nat.min_le_left ..
      exact Bank.meetsStop_inlet.2 (Nat.le_trans (Bank.meetsStop_inlet.1 hm) hle)
  · have ho : old.fitted h = true := by
      cases ho : old.fitted h
      · exact absurd (.inl ho) changed
      · rfl
    have hle : before[h].count ≤ new.holders[h].travel := Nat.le_of_not_lt fun hl => changed (.inr hl)
    have hcountEq : u.holders[h].count = n := by
      have := (hs.stays ho hn).count
      rw [← hcount]
      split
      · rfl
      · omega
    have hd : old.stopsDiffer new h := (hc.resolve_left fun h' => changed (.inl h')).resolve_right fun h' => changed (.inr h')
    have unchanged : ¬ChangeTrips old new before u.holders h sd := by
      rintro ⟨-, ⟨h1, -⟩ | ⟨-, h1, -⟩⟩
      · exact changed (.inl h1)
      · exact changed (.inr h1)
    obtain ⟨pre, post, hpre, hpost, hsplit⟩ := forEach_split (State.tripsAfterSwap old new) h (forEach (State.changeAfterSwap before old new) u)
    have first : EventSteps (fun k _ => k ≠ h) (forEach (State.changeAfterSwap before old new) u)
        (pre.foldl (fun s k => State.tripsAfterSwap old new k s) (forEach (State.changeAfterSwap before old new) u)) :=
      EventSteps.foldl changes.onlyEvents.holders fun k hk s hh => EventSteps.weaken (State.tripsAfterSwap_events hh)
        fun _ _ j e => hpre (by rw [← e, j.1]; exact hk)
    have pres := (changes.sideKept unchanged).trans (first.sideKept fun hp => hp rfl)
    have holders := first.onlyEvents.holders.trans changes.onlyEvents.holders
    generalize pre.foldl (fun s k => State.tripsAfterSwap old new k s) (forEach (State.changeAfterSwap before old new) u) = a at *
    have self : State.tripsAfterSwap old new h a = (a.evaluateTrips new.holders[h] h u.holders[h].count u.holders[h].count).settled := by
      rw [State.tripsAfterSwap_pos hn hd, holders]
    have compared : a.StopCompared (State.tripsAfterSwap old new h a) new h sd n := by
      have := State.evaluateTrips_stop a new h sd u.holders[h].count u.holders[h].count (State.settled_steps _).events
      rwa [sd.of_same_count, ← self, hcountEq] at this
    have last : EventSteps (fun k _ => k ≠ h) (State.tripsAfterSwap old new h a)
        (forEach (State.tripsAfterSwap old new) (forEach (State.changeAfterSwap before old new) u)) := by
      rw [hsplit]
      exact EventSteps.foldl ((State.tripsAfterSwap_events holders).onlyEvents.holders.trans holders) fun k hk s hh =>
        EventSteps.weaken (State.tripsAfterSwap_events hh) fun _ _ j e => hpost (by rw [← e, j.1]; exact hk)
    exact (compared.before pres).after ((last.trans (State.settled_steps _).events).sideKept fun hp => hp rfl)

end

end Sys2Proof.Machine

/-! # What a swap leaves

The events of a swap, from the records that they find, to the statements of the swap (R22, R39, R47, R78, R79, R82, R105, R123, R154). -/

namespace Sys2Proof.Machine

variable {p s t u : State} {old new b : Bank} {before : Vector HolderRec 4} {h : Fin 4} {sd : Side}

/-! ## The interval that the events find (R22) -/

/-- What changes of holders leave of the accounts: the open interval may have been flagged STOCK_UNCERTAIN. -/
def State.Flagged (s t : State) : Prop := ∀ iv, s.accounts.interval = some iv →
  ∃ jv, iv.Since jv ∧ t.accounts = { s.accounts with interval := some jv }

theorem State.Flagged.of_same (h : t.accounts = s.accounts) : s.Flagged t := fun iv hiv =>
  ⟨iv, .refl iv, by rw [h, ← hiv]⟩

theorem State.Flagged.trans (h : s.Flagged t) (k : t.Flagged u) : s.Flagged u := fun iv hiv => by
  obtain ⟨jv, hj, ht⟩ := h iv hiv
  obtain ⟨kv, hk, hu⟩ := k jv (by rw [ht])
  exact ⟨kv, hj.trans hk, by rw [hu, ht]⟩

theorem State.holderChange_flagged (s : State) (b : Bank) (h : Fin 4) (lo hi : Nat) : s.Flagged (s.holderChange b h lo hi) := by
  have k := s.holderChange_accounts b h lo hi
  by_cases hc : s.holders[h].certain = true
  · rw [if_pos hc] at k
    exact .of_same k
  · rw [if_neg hc] at k
    intro iv hiv
    have flagged := s.yardFlag_uncertain_interval
    refine ⟨{ iv with yard := { iv.yard with stockUncertain := true } }, .flagged iv, ?_⟩
    rw [hiv] at flagged
    rw [k]
    exact congrArg (fun i => ({ s.accounts with interval := i } : Accounts)) flagged

theorem State.swapEvents_flagged (s : State) (before : Vector HolderRec 4) (old new : Bank) : s.Flagged (s.swapEvents before old new) := by
  have changes : s.Flagged (forEach (State.changeAfterSwap before old new) s) :=
    forEach_keeps State.Flagged (fun s => .of_same rfl) .trans _ (fun h s => by
      unfold State.changeAfterSwap
      dsimp only
      split
      · split
        · exact s.holderChange_flagged _ _ _ _
        · split
          · exact s.holderChange_flagged _ _ _ _
          · exact .of_same rfl
      · exact .of_same rfl) s
  have trips := forEach_keeps State.Flagged (fun s => .of_same rfl) .trans (State.tripsAfterSwap old new) (fun h s => by
      unfold State.tripsAfterSwap
      dsimp only
      split
      · exact .of_same ((State.evaluateTrips_only ..).trans (State.settled_only _)).accounts
      · exact .of_same rfl) (forEach (State.changeAfterSwap before old new) s)
  exact (changes.trans trips).trans (.of_same (State.settled_only _).accounts)

/-! ## The events of a programme that stands still -/

section
variable {saves : Vector (Option HolderSave) 4} {now : Nat}

theorem ChangeAfterSwap.stilled {after : Vector HolderRec 4} (k : ChangeAfterSwap old new before after h s t) (hs : s.Still)
    (hh : s.holders = after) : Stilled (SwapTrips old new before after) s t := by
  subst hh
  cases k with
  | joins hn ho hc =>
    exact State.holderChange_still hs hc _ _ (fun hlo => .inl ⟨hn, .inl ⟨ho, Bank.meetsStop_outlet.2 hlo⟩⟩)
      fun hhi => .inl ⟨hn, .inl ⟨ho, Bank.meetsStop_inlet.2 hhi⟩⟩
  | limited hn ho hl hc =>
    exact State.holderChange_still hs hc _ _ (fun hlo => .inl ⟨hn, .inr ⟨ho, hl, Bank.meetsStop_outlet.2 hlo⟩⟩)
      fun hhi => .inl ⟨hn, .inr ⟨ho, hl, Bank.meetsStop_inlet.2 hhi⟩⟩
  | none => exact .refl s

theorem State.tripsAfterSwap_stilled (hs : s.Still) : Stilled (SwapTrips old new before s.holders) s (State.tripsAfterSwap old new h s) := by
  by_cases hd : new.fitted h = true ∧ old.stopsDiffer new h
  · rw [State.tripsAfterSwap_pos hd.1 hd.2]
    have trips := s.evaluateTrips_still (p := SwapTrips old new before s.holders) new.holders[h] s.holders[h].count s.holders[h].count
      (fun hlo => .inr ⟨hd.1, hd.2, Bank.meetsStop_outlet.2 hlo⟩) fun hhi => .inr ⟨hd.1, hd.2, Bank.meetsStop_inlet.2 hhi⟩
    exact trips.trans (State.settled_still (trips.still hs))
  · rw [State.tripsAfterSwap_neg hd]
    exact .refl s

/-- R22, R79: the events of a swap trip valves alone, where the programme stands still. -/
theorem State.swapEvents_still (hu : u.Still) (hs : HoldersSwapped old new saves now before u.holders) :
    Stilled (SwapTrips old new before u.holders) u (u.swapEvents before old new) := by
  have changes : Stilled (SwapTrips old new before u.holders) u (forEach (State.changeAfterSwap before old new) u) :=
    foldl_inv (inv := Stilled (SwapTrips old new before u.holders) u) (fun h _ s k =>
      k.trans ((State.changeAfterSwap_is hs k.only.holders).stilled (k.still hu) k.only.holders)) (.refl u)
  have trips : Stilled (SwapTrips old new before u.holders) u
      (forEach (State.tripsAfterSwap old new) (forEach (State.changeAfterSwap before old new) u)) :=
    foldl_inv (inv := Stilled (SwapTrips old new before u.holders) u) (fun h _ s k =>
      k.trans (k.only.holders ▸ State.tripsAfterSwap_stilled (before := before) (k.still hu))) changes
  exact trips.trans (State.settled_still (trips.still hu))

end

/-! ## Valves that fly, and sources, over a takeover -/

theorem ValveRec.afresh_flies (r : ValveRec) (lost : Bool) : (r.afresh lost).Flies := by
  cases hd : r.demand with
  | none =>
    rw [ValveRec.afresh_none hd]
    exact ⟨nofun, nofun⟩
  | some d =>
    have moving (dir : Dir) : (if dir = .toOpen then ValveState.opening else .shutting) = dir.moving := by cases dir <;> rfl
    cases lost
    · rw [ValveRec.afresh_up hd]
      exact ValveRec.flies_moving (moving d.dir) rfl
    · rw [ValveRec.afresh_lost hd]
      exact ValveRec.flies_moving (moving d.dir) hd

theorem ValveRec.swapped_flies {r : ValveRec} {v : Fin 8} {lost : Bool} (hn : new.fitted (holderOf v) = true)
    (hf : old.fitted (holderOf v) = true → r.Flies) : (r.swapped old new v lost).Flies := by
  unfold ValveRec.swapped
  rw [hn]
  cases ho : old.fitted (holderOf v) with
  | false => exact ⟨nofun, nofun⟩
  | true =>
    dsimp only
    split
    · exact r.afresh_flies lost
    · exact hf ho

theorem bankSwapped_ne_tripSource (h : Fin 4) (sd : Side) : srcBankSwapped ≠ tripSource h sd :=
  fun e => eventSource_ne_bankSwapped (.inr ⟨h, sd, e⟩)

theorem not_takeSource_tripSource (h : Fin 4) (sd : Side) : ¬TakeSource (tripSource h sd) := by
  rintro (⟨k, e⟩ | ⟨m, e⟩ | e) <;> have hv := congrArg Fin.val e <;> cases sd <;>
    simp [tripSource, srcLowTrip, srcHighTrip, srcUncertain, srcMeterStall, srcCvDeclared] at hv <;> omega

theorem not_takeSource_bankSwapped : ¬TakeSource srcBankSwapped := by
  rintro (⟨k, e⟩ | ⟨m, e⟩ | e) <;> have hv := congrArg Fin.val e <;>
    simp [srcBankSwapped, srcUncertain, srcMeterStall, srcCvDeclared] at hv <;> omega

/-! ## The records taken over -/

/-- A state whose records a swap in `s` takes over: what the swap reads of them is as it is in `p`. -/
structure SwapBase (p s : State) (old : Bank) : Prop where
  holders : ∀ h : Fin 4, s.holders[h] = { p.holders[h] with savedCertain := s.holders[h].savedCertain }
  saves : ∀ h : Fin 4, old.fitted h = false → s.nv.saves[h] = p.nv.saves[h]
  channels : s.channels = p.channels
  points : s.points = p.points
  barometer : s.barometer = p.barometer
  calorimeter : s.calorimeter = p.calorimeter
  perms : s.perms = p.perms
  districts : s.districts = p.districts
  timebase : s.timebase = p.timebase
  lost : s.loop.lost = p.loop.lost
  sets : p.loop.SetsAs s.loop
  flies : ∀ v : Fin 8, p.valves[v].Flies → s.valves[v].Flies
  trips : ∀ h sd, p.NotRaised s (tripSource h sd)

namespace SwapBase

theorem count (k : SwapBase p s old) (h : Fin 4) : s.holders[h].count = p.holders[h].count := (congrArg HolderRec.count (k.holders h) :)
theorem certain (k : SwapBase p s old) (h : Fin 4) : s.holders[h].certain = p.holders[h].certain := (congrArg HolderRec.certain (k.holders h) :)
theorem ref (k : SwapBase p s old) (h : Fin 4) : s.holders[h].ref = p.holders[h].ref := (congrArg HolderRec.ref (k.holders h) :)
theorem lastDatum (k : SwapBase p s old) (h : Fin 4) : s.holders[h].lastDatum = p.holders[h].lastDatum :=
  (congrArg HolderRec.lastDatum (k.holders h) :)
theorem liftFault (k : SwapBase p s old) (h : Fin 4) : s.holders[h].liftFault = p.holders[h].liftFault :=
  (congrArg HolderRec.liftFault (k.holders h) :)
theorem note (k : SwapBase p s old) (h : Fin 4) : s.holders[h].note = p.holders[h].note := (congrArg HolderRec.note (k.holders h) :)

theorem refl (s : State) (old : Bank) : SwapBase s s old :=
  ⟨fun _ => rfl, fun _ _ => rfl, rfl, rfl, rfl, rfl, rfl, rfl, rfl, rfl, .refl _, fun _ => id, fun _ _ => .of_items rfl _⟩

theorem trans {q : State} (k : SwapBase p q old) (l : SwapBase q s old) : SwapBase p s old where
  holders h := by rw [l.holders h, k.holders h]
  saves h ho := (l.saves h ho).trans (k.saves h ho)
  channels := l.channels.trans k.channels
  points := l.points.trans k.points
  barometer := l.barometer.trans k.barometer
  calorimeter := l.calorimeter.trans k.calorimeter
  perms := l.perms.trans k.perms
  districts := l.districts.trans k.districts
  timebase := l.timebase.trans k.timebase
  lost := l.lost.trans k.lost
  sets := k.sets.trans l.sets
  flies v := l.flies v ∘ k.flies v
  trips h sd := (k.trips h sd).trans (l.trips h sd)

end SwapBase

theorem SwapBegins.holdersSwapped {o : Opening} (k : SwapBegins s u old new o) :
    HoldersSwapped old new s.nv.saves s.timebase s.holders u.holders := k.holders

/-- R79, R154: a stop compared by the events of a swap, seen from the state of which the swap takes the records over. -/
theorem SwapBegins.stop {o : Opening} (base : SwapBase p s old) (k : SwapBegins s u old s.tables.pending o) {n : Nat}
    (hn : s.tables.pending.fitted h = true) (only : OnlyEvents u t) (compared : u.StopCompared t b h sd n) :
    (p.atSwap t old s.tables.pending).StopCompared t b h sd n := by
  have hv : holderOf (valveOf h sd) = h := holderOf_valveOf h sd
  refine compared.since ?_ ?_ ?_ ⟨?_, ?_⟩ ?_
  · rw [k.perms, base.perms]
    unfold PermRec.swapped State.atSwap
    simp only [Fin.getElem_fin, Vector.getElem_ofFn, Fin.eta]
  · have items : s.swapTables = ({ s with tables := s.tables.swapped, attn := s.attn.reclass (some s.tables.pending) } : State).raise srcBankSwapped := rfl
    have swap : (p.atSwap t old s.tables.pending).NotRaised s.swapTables (tripSource h sd) := by
      rw [items]
      exact State.NotRaised.trans (t := { s with tables := s.tables.swapped, attn := s.attn.reclass (some s.tables.pending) })
        (fun e he => Attention.reclass_source (base.trips h sd) e he) (State.raise_notRaised _ (bankSwapped_ne_tripSource h sd).symm)
    exact swap.trans (k.raises.notRaised _ (not_takeSource_tripSource h sd))
  · intro hf
    rw [k.valves]
    refine ValveRec.swapped_flies (by rw [hv]; exact hn) fun ho => base.flies _ ?_
    have same : (p.atSwap t old s.tables.pending).valves[valveOf h sd] = p.valves[valveOf h sd] := by
      unfold State.atSwap
      simp only [Fin.getElem_fin, Vector.getElem_ofFn, Fin.eta, ho, Bool.not_true, Bool.false_and, Bool.false_eq_true, ↓reduceIte]
    rwa [same] at hf
  · exact only.sameTimes.live.symm
  · exact only.sameTimes.now.symm
  · exact k.timebase.trans base.timebase

end Sys2Proof.Machine

/-! # The statements of a swap

`State.RecordsTaken` and `State.TakenOver` of a swap (R22, R39, R47, R78, R79, R82, R105, R123). -/

namespace Sys2Proof.Machine

variable {p s t u : State} {old new b : Bank} {h : Fin 4} {sd : Side} {o : Opening}

theorem State.perms_own (s : State) (v : Fin 8) : s.perms[valveOf (holderOf v) (sideOf v)] = s.perms[v] :=
  congrArg (fun w : Fin 8 => s.perms[w]) (valveOf_holderOf v)

/-- R22, R39, R47, R78, R79, R82, R123: what a swap makes of the records, whatever the programme does. -/
theorem SwapBegins.recordsTaken (base : SwapBase p s old) (k : SwapBegins s u old s.tables.pending o) :
    p.RecordsTaken (u.swapEvents s.holders old s.tables.pending) old s.tables.pending := by
  have events := State.swapEvents_steps k.holdersSwapped
  have only := events.onlyEvents
  have stops := fun h sd => State.swapEvents_stop (h := h) (sd := sd) k.holdersSwapped
  have stop := fun h sd n hn => k.stop (h := h) (sd := sd) (b := s.tables.pending) (n := n) base hn only
  have sets := base.sets
  have unsent := fun d => events.sets.unsent d
  generalize hnew : s.tables.pending = new at *
  generalize u.swapEvents s.holders old new = t at *
  have holders := only.holders
  have jobs : t.channels = u.channels ∧ t.points = u.points ∧ t.barometer = u.barometer ∧ t.calorimeter = u.calorimeter := by
    obtain ⟨f, only⟩ := only
    exact ⟨only.channels, only.points, only.barometer, only.calorimeter⟩
  obtain ⟨channels, points, barometer, calorimeter⟩ := jobs
  constructor
  case lifts =>
    intro h
    have hs := k.holders h
    rw [holders]
    refine ⟨fun ho hn => ?_, fun ho hn => ?_, fun hn => ?_⟩
    · have stays := k.holdersSwapped.stays ho hn
      have hcount : u.holders[h].count = min p.holders[h].count new.holders[h].travel := by rw [← base.count]; exact stays.count
      refine ⟨hcount, stays.ref.trans (base.ref h), stays.lastDatum.trans (base.lastDatum h), stays.liftFault.trans (base.liftFault h),
        hcount ▸ stays.cupped, hcount ▸ stays.expected, hcount ▸ stays.geoVolume, fun hle => ?_, fun hlt => ?_, stays.runs⟩
      · obtain ⟨h1, h2⟩ := stays.within (by rw [base.count]; exact hle)
        exact ⟨h1.trans (base.certain h), h2.trans (base.note h)⟩
      · rw [← base.timebase]
        exact stays.limited (by rw [base.count]; exact hlt)
    · rw [← base.saves h ho]
      exact k.holdersSwapped.joins ho hn
    · rw [hs, HolderRec.swapped_unfit hn]
      exact ⟨base.count h, base.certain h, base.ref h⟩
  case meters =>
    intro m
    have hm : t.channels[m] = p.channels[m].swapped old new m p.loop.lost p.timebase := by
      rw [channels, k.channels, base.channels, base.lost, base.timebase]
    dsimp only
    rw [hm]
    refine ⟨ChannelRec.swapped_initial, ChannelRec.swapped_unused, fun ho hn => ⟨ChannelRec.swapped_runs ho hn, fun x hs hl hms hx => ?_⟩⟩
    rw [hl]
    exact ChannelRec.swapped_stalls ho hn hs hms hx
  case points =>
    intro i
    rw [points, k.points, base.points, base.timebase]
    exact Vector.getElem_map ..
  case barometer => rw [barometer, k.barometer, base.barometer, base.timebase]
  case calorimeter => rw [calorimeter, k.calorimeter, base.calorimeter, base.timebase]
  case perms =>
    intro v
    dsimp only
    intro hkeep
    have untouched := (events.untouched (h := holderOf v) (sd := sideOf v) ?_).1
    · rw [State.perms_own, State.perms_own] at untouched
      rw [untouched, k.perms, base.perms]
      unfold PermRec.swapped
      rw [if_neg]
      rcases hkeep with hn | ⟨ho, -⟩ <;> simp [*]
    · rcases hkeep with hn | ⟨ho, hlow, hhigh, hle⟩
      · rintro (⟨h1, -⟩ | ⟨h1, -⟩) <;> exact Bool.noConfusion (hn.symm.trans h1)
      · rintro (⟨-, ⟨h1, -⟩ | ⟨-, h1, -⟩⟩ | ⟨-, h1, -⟩)
        · exact Bool.noConfusion (ho.symm.trans h1)
        · rw [base.count] at h1
          omega
        · exact h1.elim (absurd hlow) (absurd hhigh)
  case stops =>
    intro h sd hn hc
    rw [holders, ← base.count]
    refine stop h sd _ hn (stops h sd hn ?_)
    rw [base.count]
    rcases hc with hc | hc | hc | hc
    · exact .inl hc
    · exact .inr (.inl (.inl hc))
    · exact .inr (.inl (.inr hc))
    · exact .inr (.inr hc)
  case districts =>
    intro d
    have outside : s.loop.setOutside d new.districts[d] = p.loop.setOutside d new.districts[d] := sets.outside ..
    have hd : t.districts[d] = p.districts[d].swapped old new d (p.loop.setOutside d new.districts[d]) p.timebase := by
      rw [only.districts, k.districts, base.districts, base.timebase, outside]
    have hu : t.loop.unsentSet d = if old.withdrawsSet new d (p.loop.setOutside d new.districts[d]) then none else p.loop.unsentSet d := by
      rw [unsent, k.unsent, outside, sets.unsent]
    have hout := p.loop.setOutside_iff d new.districts[d]
    dsimp only
    rw [hd, hu]
    refine ⟨DistrictRec.swapped_starts, fun ho hn => ⟨DistrictRec.swapped_stops ho hn, ?_⟩, fun ho hn => ?_⟩
    · unfold Bank.withdrawsSet
      rw [ho, hn]
      rfl
    · have stays := DistrictRec.swapped_kept (r := p.districts[d]) (now := p.timebase)
        (outside := p.loop.setOutside d new.districts[d]) ho hn
      refine ⟨stays.trim, stays.reviewTimer, stays.refresh, stays.lastSent, stays.reported, fun h1 h2 h3 h4 => stays.runs ?_,
        fun hc => stays.cleared ((DistrictEntry.endChanged_iff ..).2 hc), fun hx => ⟨?_, ?_⟩, fun hx => ⟨?_, ?_⟩⟩
      · refine Bool.eq_false_iff.2 fun hc => ?_
        rcases (DistrictEntry.endChanged_iff ..).1 hc with hc | hc | hc | hc
        · exact hc h1
        · exact hc h2
        · exact hc h3
        · exact hc h4
      · rw [stays.due, hout.2 hx]
        rfl
      · unfold Bank.withdrawsSet
        rw [ho, hn, hout.2 hx]
        rfl
      · rw [stays.due, Bool.eq_false_iff.2 (hx ∘ hout.1)]
        rfl
      · unfold Bank.withdrawsSet
        rw [ho, hn, Bool.eq_false_iff.2 (hx ∘ hout.1)]
        rfl

/-- R22, R39, R47, R82, R105, R123: what a swap makes of all the blocks, where the programme stands still. -/
theorem SwapBegins.takenOver (base : SwapBase p s old) (k : SwapBegins s u old s.tables.pending o) (hv : s.valves = p.valves)
    (hr : s.prog.roles = p.prog.roles) (still : u.Still) :
    p.TakenOver (u.swapEvents s.holders old s.tables.pending) old s.tables.pending := by
  have taken := k.recordsTaken base
  have stilled := State.swapEvents_still still k.holdersSwapped
  generalize s.tables.pending = new at *
  generalize u.swapEvents s.holders old new = t at *
  refine { taken with valves := fun v => ?_, roles := fun h => ?_, triggers := fun hd => ?_ }
  · dsimp only
    have holders := stilled.only.holders
    have kept (hk : ¬SwapTrips old new s.holders u.holders (holderOf v) (sideOf v)) :
        t.valves[v] = p.valves[v].swapped old new v p.loop.lost ∧ t.perms[v] = p.perms[v].swapped old new v := by
      rw [stilled.valves v hk, stilled.perms v hk, k.valves, k.perms, base.perms, base.lost, hv]
      exact ⟨rfl, rfl⟩
    have unfit (hn : new.fitted (holderOf v) = false) : ¬SwapTrips old new s.holders u.holders (holderOf v) (sideOf v) := by
      rintro (⟨h1, -⟩ | ⟨h1, -⟩) <;> exact Bool.noConfusion (hn.symm.trans h1)
    refine ⟨fun ho hn hb => ?_, fun ho hn => ?_, fun ho hn => ?_, fun ho hn hc => ?_⟩
    · have hno (sd : Side) : ¬new.MeetsStop (holderOf v) sd u.holders[holderOf v].count := by
        rw [← holders]
        obtain ⟨hlo, hhi⟩ := hb
        cases sd
        · exact fun hm => Nat.not_lt.2 (Bank.meetsStop_inlet.1 hm) hhi
        · exact fun hm => Nat.not_lt.2 (Bank.meetsStop_outlet.1 hm) hlo
      obtain ⟨h1, h2⟩ := kept (by
        rintro (⟨-, ⟨-, hm⟩ | ⟨h1, -⟩⟩ | ⟨-, -, hm⟩)
        · exact hno _ hm
        · exact Bool.noConfusion (ho.symm.trans h1)
        · exact hno _ hm)
      rw [h1, h2]
      unfold ValveRec.swapped PermRec.swapped
      rw [ho, hn]
      exact ⟨rfl, rfl⟩
    · obtain ⟨h1, h2⟩ := kept (unfit hn)
      rw [h1, h2]
      unfold ValveRec.swapped PermRec.swapped
      rw [ho, hn]
      exact ⟨rfl, rfl⟩
    · obtain ⟨h1, h2⟩ := kept (unfit hn)
      rw [h1, h2]
      unfold ValveRec.swapped PermRec.swapped
      rw [ho, hn]
      exact ⟨rfl, rfl⟩
    · obtain ⟨hle, hclear⟩ := hc
      have hno : ¬SwapTrips old new s.holders u.holders (holderOf v) (sideOf v) := by
        rintro (⟨-, ⟨h1, -⟩ | ⟨-, h1, -⟩⟩ | ⟨-, hd, hm⟩)
        · exact Bool.noConfusion (ho.symm.trans h1)
        · rw [base.count] at h1
          omega
        · rcases hclear with ⟨hlow, hhigh⟩ | ⟨hlo, hhi⟩
          · exact hd.elim (absurd hlow) (absurd hhigh)
          · rw [(k.holdersSwapped.stays ho hn).count, base.count, Nat.min_eq_left hle] at hm
            revert hm
            cases sideOf v
            · exact fun hm => Nat.not_lt.2 (Bank.meetsStop_inlet.1 hm) hhi
            · exact fun hm => Nat.not_lt.2 (Bank.meetsStop_outlet.1 hm) hlo
      obtain ⟨h1, h2⟩ := kept hno
      have record : p.valves[v].swapped old new v p.loop.lost =
          if addressesChanged old new (.valve v) then p.valves[v].afresh p.loop.lost else p.valves[v] := by
        unfold ValveRec.swapped
        rw [ho, hn]
      rw [h1, h2, record]
      refine ⟨?_, fun ha => if_neg (ha ▸ nofun), fun ha hd => ?_, fun d ha hd hl => ⟨?_, ?_⟩, fun d ha hd hl => ?_⟩
      · unfold PermRec.swapped
        rw [ho, hn]
        rfl
      · rw [ha]
        exact ValveRec.afresh_none hd _
      · rw [ha, hl]
        exact ValveRec.afresh_up hd
      · have hmem := k.afresh v d ho hn ha (hv ▸ hd) (base.lost.trans hl)
        rw [hv] at hmem
        exact (stilled.commands v (.valve v false d.dir (p.valves[v].tag + 1) (d.origin == .trip)) hno (decide_eq_true rfl)).2 hmem
      · rw [ha, hl]
        exact ValveRec.afresh_lost hd
  · have hroles := k.roles h
    rw [hr] at hroles
    dsimp only
    rw [stilled.role, stilled.held, stilled.retake, hroles]
    unfold RoleRec.swapped
    dsimp only
    generalize (if old.fitted h = new.fitted h then p.prog.roles[h] else RoleRec.initial) = r
    cases hc : (decide (old.slots ≠ new.slots) && new.fitted h && !r.held) with
    | false => exact ⟨rfl, rfl, (Bool.or_false _).symm⟩
    | true => exact ⟨rfl, rfl, (Bool.or_true _).symm⟩
  · rw [stilled.deferred, k.differs hd]
    split
    · next h => exact h
    · exact List.mem_append_right _ (.head _)

/-! ## The close before a swap -/

theorem ClosedInto.swapBase {r : IntervalRecord} (k : ClosedInto s b r t) : SwapBase s t b := by
  obtain ⟨holder, save, before, rest⟩ := k
  generalize t.holders = hs, t.nv.saves = ss at *
  subst rest
  refine ⟨fun h => ?_, fun h ho => ?_, rfl, rfl, rfl, rfl, rfl, rfl, rfl, rfl, .refl _, fun _ => id, fun _ _ => .of_items rfl _⟩
  · refine (holder h).trans ?_
    rw [show hs[h] = _ from holder h]
    split <;> rfl
  · refine (save h).trans ?_
    rw [ho]
    rfl

end Sys2Proof.Machine

/-! # A close, whole

What `closeInterval` leaves, without a bank COMMITTED and with one that it swaps in (R133 to R137, R141, R154). -/

namespace Sys2Proof.Machine

variable {p s t u : State} {old new b : Bank} {iv jv : OpenInterval} {r : IntervalRecord} {extra next : YardFlags} {w : Option WallTime}

/-! ## The state in which the events of a swap begin -/

/-- A swap that finds no transition finds the programme still, where the clock or the loop forbids triggers, or none waits and the
programme tables are equal. -/
theorem SwapBegins.still {o : Opening} (k : SwapBegins s u old new o) (ht : s.prog.transition = none)
    (hs : s.loop.lost = true ∨ s.clock.valid = false ∨ (s.prog.deferred = [] ∧ ¬old.programmeDiffers new)) : u.Still := by
  refine ⟨k.transition ht, ?_⟩
  unfold State.mayTake
  rw [k.clock, k.loop.lost]
  rcases hs with h | h | ⟨h1, h2⟩
  · rw [h]
    exact .inl (Bool.and_false _)
  · rw [h, Bool.and_false]
    exact .inl (Bool.false_and _)
  · exact .inr ((k.same h2).trans h1)

/-! ## Any close (R133 to R137) -/

/-- R133 to R137: what every close leaves: the record `r` entered, the interval `jv` open under the bank `n`, and the saves. -/
structure Closed (s : State) (b n : Bank) (r : IntervalRecord) (next : YardFlags) (jv : OpenInterval) (t : State) : Prop where
  opened : s.Opened t b n r next jv
  accounts : t.accounts = { s.accounts with logs := s.accounts.logs.enter r, interval := some jv }
  save : ∀ h : Fin 4, t.nv.saves[h] = if b.fitted h then some ⟨s.holders[h].count, s.holders[h].certain⟩ else s.nv.saves[h]
  logs : t.nv.logs = s.accounts.logs.enter r
  live : t.live = some n
  committed : t.tables.committed = false
  clock : t.clock = s.clock
  timebase : t.timebase = s.timebase
  own : t.own = s.own
  power : t.power = s.power
  pending : t.pending = s.pending
  loop : OnlyCommands s.loop t.loop

/-! ## A close without a swap (R133 to R137) -/

/-- What a close without a swap leaves beside. -/
structure ClosedOpen (s : State) (b : Bank) (next : YardFlags) (t : State) : Prop where
  holder : ∀ h : Fin 4, t.holders[h] = if b.fitted h then s.holders[h].saved else s.holders[h]
  uncertain : ∀ jv, t.accounts.interval = some jv → jv.yard.stockUncertain = (next.stockUncertain || jv.stockUncertainOpen)
  rest : t = { s with accounts := t.accounts, holders := t.holders, nv := t.nv }

theorem State.newInterval_uncertain (s : State) (b : Bank) (o : Opening) :
    (s.newInterval b o).yard.stockUncertain = (o.flags.stockUncertain || (s.newInterval b o).stockUncertainOpen) := by
  simp [State.newInterval, State.openingFlags, YardFlags.union, YardFlags.none]

theorem State.closeInterval_opens (hiv : s.accounts.interval = some iv) (hl : s.live = some b) (hc : s.tables.committed = false) :
    ClosedOpen s b next (s.closeInterval b extra next w) ∧
    ∃ jv, Closed s b b (s.closeRecord b iv extra w) next jv (s.closeInterval b extra next w) := by
  rw [State.closeInterval_eq hiv]
  dsimp only
  rw [hc]
  generalize s.closeRecord b iv extra w = r
  obtain ⟨holder, save, before, rest⟩ := s.recordClose_into b r
  generalize s.recordClose b r = a at *
  have live : a.live = some b := by rw [rest]; exact hl
  have hlost : a.loop.lost = s.loop.lost := by rw [rest]
  rw [if_neg nofun, State.openInterval_eq live]
  have opened (t : State) (hclock : t.clock = a.clock) (hg : t.tables.generation = a.tables.generation) (hch : t.channels = a.channels) :=
    State.Opened.of_newInterval (s := s) (t := t) (b := b) (r := r) (extra := next) (.refl (a.newInterval b _)) hlost hclock hg hch
  have uncertain := a.newInterval_uncertain b (r.carried (s.stockUncertain b) (stockHeld (s.stocks b)) next)
  generalize a.newInterval b (r.carried (s.stockUncertain b) (stockHeld (s.stocks b)) next) = jv at *
  generalize a.holders = hs, a.nv.saves = ss at *
  subst rest
  refine ⟨⟨holder, ?_, rfl⟩, jv, opened _ rfl rfl rfl, rfl, save, rfl, hl, hc, rfl, rfl, rfl, rfl, rfl, .refl _⟩
  rintro _ ⟨rfl⟩
  exact uncertain

/-! ## A close with a swap (R137, R154) -/

/-- R154: what a close with a swap leaves beside. -/
structure ClosedSwapped (s : State) (b : Bank) (t : State) : Prop where
  tables : t.tables = s.tables.swapped
  taken : ∀ p, SwapBase p s b → p.RecordsTaken t b s.tables.pending
  takenOver : ∀ p, SwapBase p s b → s.valves = p.valves → s.prog.roles = p.prog.roles → s.prog.transition = none →
    s.loop.lost = true ∨ s.clock.valid = false ∨ (s.prog.deferred = [] ∧ ¬b.programmeDiffers s.tables.pending) →
    p.TakenOver t b s.tables.pending
  reclassed : ∀ p q, Raises q p s → ¬q srcBankSwapped → p.Reclassed t s.tables.pending

theorem State.closeInterval_swaps (hiv : s.accounts.interval = some iv) (hc : s.tables.committed = true) :
    ClosedSwapped s b (s.closeInterval b extra next w) ∧
    ∃ jv, Closed s b s.tables.pending (s.closeRecord b iv extra w) next jv (s.closeInterval b extra next w) := by
  rw [State.closeInterval_eq hiv]
  dsimp only
  generalize s.closeRecord b iv extra w = r
  have close := s.recordClose_into b r
  have base := close.swapBase
  obtain ⟨holder, save, before, rest⟩ := close
  generalize s.recordClose b r = a at *
  rw [if_pos hc, State.swapAndOpen_eq]
  generalize ho : r.carried (s.stockUncertain b) (stockHeld (s.stocks b)) next = o
  have pending : a.tables.pending = s.tables.pending := by rw [rest]
  have k := State.swappedState_begins (s := a) (by rw [rest]) b o
  generalize a.swappedState b o = u at *
  have flagged := u.swapEvents_flagged a.holders b a.tables.pending
  have events := State.swapEvents_steps k.holdersSwapped
  have only := events.onlyEvents
  have raises : Raises (fun x => TakeSource x ∨ EventSource x) a.swapTables (u.swapEvents a.holders b a.tables.pending) :=
    (k.raises.mono fun _ => .inl).trans (events.raises.mono fun _ => .inr)
  have taken := fun (p : State) (hp : SwapBase p s b) => k.recordsTaken (hp.trans base)
  have takes := fun (p : State) (hp : SwapBase p s b) => k.takenOver (hp.trans base)
  have still := k.still
  have reclassed := fun (p : State) q (hq : Raises q p a) hno => State.Reclassed.of_swap hq hno raises
    (fun h => h.elim not_takeSource_bankSwapped eventSource_ne_bankSwapped)
  rw [pending] at *
  have valves : a.valves = s.valves := by rw [rest]
  have prog : a.prog = s.prog := by rw [rest]
  have lost : a.loop.lost = s.loop.lost := by rw [rest]
  have clock : a.clock = s.clock := by rw [rest]
  have raised : ∀ q, Raises q s a := fun q => .of_same ⟨by rw [rest], by unfold State.now; rw [clock]⟩ (by rw [rest])
  have tables : a.tables = s.tables := by rw [rest]
  generalize u.swapEvents a.holders b s.tables.pending = t at *
  obtain ⟨jv, since, haccounts⟩ := flagged (u.newInterval s.tables.pending o) (by rw [k.accounts])
  obtain ⟨f, onlyValves⟩ := only
  have htables : t.tables = s.tables.swapped := by rw [← tables, ← k.tables]; exact onlyValves.tables
  refine ⟨⟨htables, taken, ?_, fun p q hq => reclassed p q (hq.trans (raised q))⟩, jv, ?_⟩
  · exact fun p hp hv hr ht hs => takes p hp (valves.trans hv) ((congrArg Programme.roles prog :).trans hr) (still (by rw [prog]; exact ht)
      (by rw [lost, clock, prog]; exact hs))
  constructor
  case opened =>
    subst ho
    exact State.Opened.of_newInterval since (k.loop.lost.trans lost) onlyValves.clock
      (congrArg TableStore.generation onlyValves.tables :) onlyValves.channels
  case accounts => rw [haccounts, k.accounts, rest]
  case save =>
    intro h
    rw [← save h, ← k.nv]
    exact congrArg (fun n : Nonvolatile => n.saves[h]) onlyValves.nv
  case logs =>
    refine (congrArg Nonvolatile.logs onlyValves.nv).trans ((congrArg Nonvolatile.logs k.nv).trans ?_)
    rw [rest]
  case live => exact congrArg TableStore.live htables
  case committed => rw [htables]; rfl
  case clock => exact onlyValves.clock.trans (k.clock.trans clock)
  case timebase => exact onlyValves.timebase.trans (k.timebase.trans (by rw [rest]))
  case own => exact onlyValves.own.trans (k.own.trans (by rw [rest]))
  case power => exact onlyValves.power.trans (k.power.trans (by rw [rest]))
  case pending => exact onlyValves.pending.trans (k.pending.trans (by rw [rest]))
  case loop => exact OnlyCommands.trans (by have := k.loop; rw [rest] at this; exact this) onlyValves.loop

/-- R133 to R137, R154: a close, with a bank COMMITTED and without one. -/
theorem State.closeInterval_closed (hiv : s.accounts.interval = some iv) (hl : s.live = some b) :
    ∃ jv, Closed s b (if s.tables.committed then s.tables.pending else b) (s.closeRecord b iv extra w) next jv
      (s.closeInterval b extra next w) := by
  cases hc : s.tables.committed with
  | false => exact (State.closeInterval_opens hiv hl hc).2
  | true => exact (State.closeInterval_swaps hiv hc).2

end Sys2Proof.Machine

/-! # The nominal end of an interval

The close at the nominal end of the open interval (R133), with and without a bank COMMITTED. -/

namespace Sys2Proof.Machine

variable {s t : State} {b n : Bank} {iv jv : OpenInterval} {r : IntervalRecord} {extra : YardFlags} {e : WallTime}

/-! ## Reaching the nominal end (R133) -/

theorem State.nominalEnd_eq (hiv : s.accounts.interval = some iv) (he : iv.nominalEnd = some e) : s.nominalEnd = some e.total := by
  unfold State.nominalEnd
  rw [hiv]
  exact congrArg (Option.map WallTime.total) he

theorem State.nominalEndReached_past (hend : s.nominalEnd = some e.total) (hv : s.clock.valid = true) (h : e.total ≤ s.clock.totalSec) :
    s.nominalEndReached = s.closeNow := by
  unfold State.nominalEndReached
  rw [hend]
  dsimp only
  rw [if_pos hv, if_pos h]

theorem State.nominalEndReached_before (hend : s.nominalEnd = some e.total) (hv : s.clock.valid = true) (h : s.clock.totalSec < e.total) :
    s.nominalEndReached = if s.clock.advancing && decide (e.total ≤ lastTotal) then (s.passToSec e.total).closeNow else s := by
  unfold State.nominalEndReached
  rw [hend]
  dsimp only
  rw [if_pos hv, if_neg (Nat.not_le.2 h)]

/-- R125: the clock has come to the second that it was brought to. -/
theorem Clock.advance_reaches {c : Clock} (ha : c.advancing = true) {n : Nat} (hn : n ≤ lastTotal) :
    n ≤ (c.advance (n * 1000 - c.totalMs)).totalSec := by
  rcases Nat.lt_or_ge (c.totalMs + (n * 1000 - c.totalMs)) lastMs with hlt | hge
  · rw [Clock.advance_short ha hlt]
    unfold Clock.totalSec
    dsimp only
    omega
  · rw [Clock.advance_far ha hge]
    exact hn

theorem State.closeNow_eq (hl : s.live = some b) : s.closeNow = s.closeInterval b YardFlags.none YardFlags.none s.clock.wall := by
  unfold State.closeNow
  rw [hl]

/-! ## The record and the interval after it, channel by channel -/

/-- R134, R137: the accumulators divided, and carried on. -/
theorem State.Opened.carried (k : s.Opened t b n r extra jv) (hr : s.Recorded b iv extra r) (m : Fin 12) :
    r.channels[m].corrected * 10000 + r.channels[m].volumeOut = iv.channels[m].volume ∧ r.channels[m].volumeOut < 10000 ∧
    r.channels[m].energy * 100000000 + r.channels[m].energyOut = iv.channels[m].energy ∧ r.channels[m].energyOut < 100000000 ∧
    r.channels[m].pulses = iv.channels[m].pulses ∧ r.channels[m].raw = iv.channels[m].raw ∧
    jv.channels[m].volumeIn = r.channels[m].volumeOut ∧ jv.channels[m].volume = r.channels[m].volumeOut ∧
    jv.channels[m].energyIn = r.channels[m].energyOut ∧ jv.channels[m].energy = r.channels[m].energyOut ∧
    jv.channels[m].pulses = 0 ∧ jv.channels[m].raw = 0 ∧ jv.channels[m].role = n.meters[m].role := by
  obtain ⟨-, hpulses, hraw, -, -, -, hvolume, hvrest, henergy, herest⟩ := hr.channels m
  have hj := k.channels m
  dsimp only at hj
  refine ⟨hvolume, hvrest, henergy, herest, hpulses, hraw, ?_⟩
  rw [hj]
  exact ⟨rfl, rfl, rfl, rfl, rfl, rfl, rfl⟩

theorem YardEntry.placeClock_valid {c : Clock} (hv : c.valid = true) (y : YardEntry) : y.placeClock c = y.place ⟨c.day, c.sec⟩ := by
  unfold YardEntry.placeClock Clock.wall
  rw [if_pos hv]

/-- Settles O45: before the nominal end by the clock that reaches it; past it by what every close leaves (`Closed`), with and without a swap. -/
theorem nominalEnd : Obligations.NominalEnd := by
  intro s b iv e hon hlive hvalid hiv he
  dsimp only
  have hend := State.nominalEnd_eq hiv he
  have hexec : exec .nominalEndReached s = .next s.nominalEndReached := State.onTime_on hon _
  refine ⟨fun hlt hno => ?_, fun hlt ha hle => ?_, fun hge => ?_⟩
  · rw [hexec, State.nominalEndReached_before hend hvalid hlt, if_neg]
    rw [Bool.and_eq_true, decide_eq_true_eq]
    rintro ⟨h1, h2⟩
    exact hno.elim (fun h => Bool.noConfusion (h1.symm.trans h)) fun h => absurd (show e.total ≤ 65535 * 86400 + 86399 from h2) (Nat.not_le.2 h)
  · have reached : e.total ≤ (s.passToSec e.total).clock.totalSec := Clock.advance_reaches ha hle
    refine ⟨?_, reached⟩
    have there := State.nominalEndReached_past (s := s.passToSec e.total) (e := e) hend ((Clock.advance_valid ..).trans hvalid) reached
    rw [hexec, State.nominalEndReached_before hend hvalid hlt, if_pos (by rw [ha]; exact decide_eq_true hle), ← there]
    exact (State.onTime_on (s := s.passToSec e.total) hon _).symm
  · refine ⟨_, hexec, ?_⟩
    rw [State.nominalEndReached_past hend hvalid hge, State.closeNow_eq hlive]
    have recorded := s.closeRecord_recorded b iv YardFlags.none s.clock.wall
    have htime : (s.closeRecord b iv YardFlags.none s.clock.wall).closeTime = some ⟨s.clock.day, s.clock.sec⟩ := by
      unfold State.closeRecord Clock.wall
      rw [if_pos hvalid]
    obtain ⟨hsequence, hidentity, hopenTime, hgeneration⟩ := recorded.taken
    obtain ⟨jv, closed⟩ := State.closeInterval_closed (extra := YardFlags.none) (next := YardFlags.none) (w := s.clock.wall) hiv hlive
    have kept := fun hc => (State.closeInterval_opens (extra := YardFlags.none) (next := YardFlags.none) (w := s.clock.wall) hiv hlive hc).1
    have swapped := fun hc => (State.closeInterval_swaps (b := b) (extra := YardFlags.none) (next := YardFlags.none) (w := s.clock.wall) hiv hc).1
    generalize s.closeRecord b iv YardFlags.none s.clock.wall = r at *
    generalize s.closeInterval b YardFlags.none YardFlags.none s.clock.wall = t at *
    have interval : t.accounts.interval = some jv := by rw [closed.accounts]
    have tlogs : t.accounts.logs = s.accounts.logs.enter r := by rw [closed.accounts]
    have placed := closed.opened.placed
    rw [closed.clock, YardEntry.placeClock_valid hvalid] at placed
    have frame (hc : s.tables.committed = false) : t.tables = s.tables ∧ t.attn = s.attn ∧ s.Keeps t ∧ t.valves = s.valves ∧
        t.perms = s.perms ∧ t.prog = s.prog ∧ t.districts = s.districts ∧ t.loop = s.loop := by
      rw [(kept hc).rest]
      exact ⟨rfl, rfl, ⟨rfl, rfl, rfl, rfl, rfl, rfl, rfl, rfl, rfl, rfl⟩, rfl, rfl, rfl, rfl, rfl⟩
    refine ⟨r, jv, recorded, closed.opened, ?_, closed.live, closed.committed, fun hc => ?_, fun hc => ?_, ?_, interval, hsequence, ?_, ?_,
      hidentity, hopenTime, htime, hgeneration, closed.opened.carried recorded, fun h => ⟨?_, ?_, closed.opened.stock h, fun hf => ?_,
      fun hf => ?_, fun hc hf => ?_, fun hc hf => ?_⟩, ?_, placed.1, placed.2.1, placed.2.2, closed.clock, closed.timebase, closed.own,
      closed.power, closed.pending, ?_, closed.loop.responses, closed.loop.buffer, closed.loop.window, closed.loop.lost, fun hc => ?_⟩
    · rw [tlogs]
      exact Logs.enter_dayKept ..
    · obtain ⟨tables, attn, -⟩ := frame hc
      exact ⟨tables, attn, (kept hc).uncertain jv interval⟩
    · rw [if_pos hc]
      have swap := swapped hc
      refine ⟨swap.tables, closed.opened.generation, swap.taken s (.refl s b), swap.reclassed s (fun _ => False) (.refl s) id,
        fun ht _ hs => swap.takenOver s (.refl s b) rfl rfl ht ?_⟩
      rcases hs with hs | ⟨hd, hslots, hsend, hfill⟩
      · exact .inl hs
      · exact .inr (.inr ⟨hd, fun h => h.elim (absurd hslots) fun h => h.elim (absurd hsend) (absurd hfill)⟩)
    · rw [tlogs, Logs.enter_getLast?]
    · rw [tlogs, Logs.enter_lastSeq]
    · rw [tlogs, closed.logs]
    · rw [recorded.holders h]
    · rw [recorded.holders h]
    · rw [closed.save h, if_pos hf]
    · rw [closed.save h, if_neg (hf ▸ nofun)]
    · rw [(kept hc).holder h, if_pos hf]
      rfl
    · rw [(kept hc).holder h, if_neg (hf ▸ nofun)]
    · obtain ⟨hmake, hsend, hbalance⟩ := recorded.sums
      rw [hmake, hsend]
      exact hbalance
    · rw [closed.accounts]
    · obtain ⟨tables, -, keeps, valves, perms, prog, districts, loop⟩ := frame hc
      exact ⟨closed.opened.generation.trans (congrArg TableStore.generation tables :), keeps, valves, perms, prog, districts, loop⟩

end Sys2Proof.Machine

/-! # The taking of the live bank

The blocks take a live bank (Table 25): the records brought to it, the first interval, and the changes of the restored counts (R21, R77,
R79, R143). -/

namespace Sys2Proof.Machine

variable {s t u : State} {b : Bank} {h : Fin 4} {sd : Side} {iv : OpenInterval}

/-! ## The records brought to the bank (R21, R77, R108) -/

/-- R21, R77, R108: the state in which the changes of the restored counts begin, with the accounts of `u`. -/
structure Brought (s : State) (b : Bank) (u : State) : Prop where
  holders : ∀ h : Fin 4, u.holders[h] = if b.fitted h then HolderRec.bring b h s.holders[h] s.timebase else s.holders[h]
  perms : ∀ v : Fin 8, u.perms[v] = if b.fitted (holderOf v) then PermRec.initial else s.perms[v]
  districts : ∀ d : Fin 6, u.districts[d] = if b.districts[d].used then { s.districts[d] with reviewTimer := some (s.timebase + 60000) } else s.districts[d]
  rest : u = { s with holders := u.holders, perms := u.perms, districts := u.districts, accounts := u.accounts }

/-- Table 25: the state in which the changes of the restored counts begin. -/
def State.broughtTo (s : State) (b : Bank) (first : Bool) : State :=
  let s1 := ((s.bringHolders b).grantAll b).startReviews b
  if first then s1.openInterval (s1.firstOpening b) else s1

theorem State.takeLive_eq (s : State) (b : Bank) (first : Bool) :
    s.takeLive b first = (((s.broughtTo b first).restoredChanges b).enterTrigger .slot).settled := rfl

theorem State.bringHolders_at (s : State) (b : Bank) : ∃ hs, s.bringHolders b = { s with holders := hs } ∧
    ∀ h : Fin 4, hs[h] = if b.fitted h then HolderRec.bring b h s.holders[h] s.timebase else s.holders[h] := by
  have rest : ∃ hs, s.bringHolders b = { s with holders := hs } :=
    forEach_keeps (fun s t => ∃ hs, t = { s with holders := hs }) (fun s => ⟨_, rfl⟩) (fun ⟨_, h⟩ ⟨y, k⟩ => ⟨y, by rw [k, h]⟩) _
      (fun h s => by split <;> exact ⟨_, rfl⟩) s
  have each := forEach_at (f := fun h s => if b.fitted h then s.setHolder h (s.holders[h].bring b h s.timebase) else s)
    (fun h s => s.holders[h]) (fun h r => if b.fitted h then HolderRec.bring b h r s.timebase else r) (fun t => t.timebase = s.timebase)
    (fun h t ht => by split <;> exact ht)
    (fun h t ht => by cases hf : b.fitted h <;> simp [ht])
    (fun j k t _ hjk => by
      cases hf : b.fitted k
      · rfl
      · simp [upd_other _ _ _ _ (Ne.symm hjk)]) s rfl
  obtain ⟨hs, hrest⟩ := rest
  refine ⟨hs, hrest, fun h => ?_⟩
  have := each h
  rwa [show forEach _ s = s.bringHolders b from rfl, hrest] at this

theorem State.grantAll_at (s : State) (b : Bank) : ∃ ps, s.grantAll b = { s with perms := ps } ∧
    ∀ v : Fin 8, ps[v] = if b.fitted (holderOf v) then PermRec.initial else s.perms[v] := by
  have rest : ∃ ps, s.grantAll b = { s with perms := ps } :=
    forEach_keeps (fun s t => ∃ ps, t = { s with perms := ps }) (fun s => ⟨_, rfl⟩) (fun ⟨_, h⟩ ⟨y, k⟩ => ⟨y, by rw [k, h]⟩) _
      (fun h s => by split <;> exact ⟨_, rfl⟩) s
  have each := forEach_at (f := fun v s => if b.fitted (holderOf v) then s.setPerm v PermRec.initial else s)
    (fun v s => s.perms[v]) (fun v r => if b.fitted (holderOf v) then PermRec.initial else r) (fun _ => True) (fun _ _ _ => trivial)
    (fun v t _ => by cases hf : b.fitted (holderOf v) <;> simp)
    (fun j k t _ hjk => by
      cases hf : b.fitted (holderOf k)
      · rfl
      · simp [upd_other _ _ _ _ (Ne.symm hjk)]) s trivial
  obtain ⟨ps, hrest⟩ := rest
  refine ⟨ps, hrest, fun v => ?_⟩
  have := each v
  rwa [show forEach _ s = s.grantAll b from rfl, hrest] at this

theorem State.startReviews_at (s : State) (b : Bank) : ∃ ds, s.startReviews b = { s with districts := ds } ∧
    ∀ d : Fin 6, ds[d] = if b.districts[d].used then { s.districts[d] with reviewTimer := some (s.timebase + 60000) } else s.districts[d] := by
  refine ⟨_, rfl, fun d => ?_⟩
  simp [Config.reviewTime]

theorem State.startedReviews_at (s : State) (b : Bank) : ∃ hs ps ds,
    ((s.bringHolders b).grantAll b).startReviews b = { s with holders := hs, perms := ps, districts := ds } ∧
    (∀ h : Fin 4, hs[h] = if b.fitted h then HolderRec.bring b h s.holders[h] s.timebase else s.holders[h]) ∧
    (∀ v : Fin 8, ps[v] = if b.fitted (holderOf v) then PermRec.initial else s.perms[v]) ∧
    ∀ d : Fin 6, ds[d] = if b.districts[d].used then { s.districts[d] with reviewTimer := some (s.timebase + 60000) } else s.districts[d] := by
  obtain ⟨hs, hbring, holders⟩ := s.bringHolders_at b
  obtain ⟨ps, hgrant, perms⟩ := (s.bringHolders b).grantAll_at b
  obtain ⟨ds, hstart, districts⟩ := ((s.bringHolders b).grantAll b).startReviews_at b
  rw [hbring] at perms hgrant
  rw [hbring, hgrant] at hstart districts
  exact ⟨hs, ps, ds, by rw [hbring, hgrant, hstart], holders, perms, districts⟩

theorem State.broughtTo_brought (s : State) (b : Bank) (first : Bool) : Brought s b (s.broughtTo b first) := by
  obtain ⟨hs, ps, ds, h, holders, perms, districts⟩ := s.startedReviews_at b
  unfold State.broughtTo
  dsimp only
  rw [h]
  cases first with
  | false => exact ⟨holders, perms, districts, rfl⟩
  | true =>
    rw [if_pos rfl]
    unfold State.openInterval
    split <;> exact ⟨holders, perms, districts, rfl⟩

theorem State.broughtTo_accounts (hl : s.live = some b) : (s.broughtTo b true).accounts =
    { s.accounts with interval := some ((s.broughtTo b true).newInterval b ((s.broughtTo b true).firstOpening b)) } := by
  obtain ⟨hs, ps, ds, h, -⟩ := s.startedReviews_at b
  unfold State.broughtTo
  dsimp only
  rw [h, if_pos rfl, State.openInterval_eq (s := { s with holders := hs, perms := ps, districts := ds }) hl]
  rfl

theorem State.broughtTo_accounts_kept (s : State) (b : Bank) : (s.broughtTo b false).accounts = s.accounts := by
  obtain ⟨hs, ps, ds, h, -⟩ := s.startedReviews_at b
  unfold State.broughtTo
  dsimp only
  rw [h]
  rfl

/-! ## The changes of the restored counts (R21, R79) -/

/-- R78, R79: the sides of fitted holders whose counts meet their stops. -/
def RestoredTrips (b : Bank) (holders : Vector HolderRec 4) (h : Fin 4) (sd : Side) : Prop :=
  b.fitted h = true ∧ b.MeetsStop h sd holders[h].count

/-- R21, R79: the change of a restored count. -/
def State.restoredChange (b : Bank) (h : Fin 4) (s : State) : State :=
  if b.fitted h then s.holderChange b h s.holders[h].count s.holders[h].count else s

theorem State.restoredChanges_eq (s : State) (b : Bank) : s.restoredChanges b = forEach (State.restoredChange b) s := rfl

section
variable {after : Vector HolderRec 4}

theorem State.restoredChange_events (hh : s.holders = after) :
    EventSteps (fun k sd => k = h ∧ RestoredTrips b after k sd) s (State.restoredChange b h s) := by
  subst hh
  unfold State.restoredChange
  split
  · next hf =>
    exact s.holderChange_events b _ _ (fun hlo => ⟨rfl, hf, Bank.meetsStop_outlet.2 hlo⟩) fun hhi => ⟨rfl, hf, Bank.meetsStop_inlet.2 hhi⟩
  · exact .refl s

theorem State.restoredChanges_events (s : State) (b : Bank) : EventSteps (RestoredTrips b s.holders) s (s.restoredChanges b) :=
  EventSteps.foldl rfl fun _ _ _ hh => EventSteps.weaken (State.restoredChange_events hh) fun _ _ k => k.2

/-- R79: the stops of every fitted holder have been compared with its restored count. -/
theorem State.restoredChanges_stop (hf : b.fitted h = true) :
    s.StopCompared (s.restoredChanges b) b h sd s.holders[h].count := by
  obtain ⟨pre, post, hpre, hpost, hsplit⟩ := forEach_split (State.restoredChange b) h s
  have first : EventSteps (fun k _ => k ≠ h) s (pre.foldl (fun s k => State.restoredChange b k s) s) :=
    EventSteps.foldl rfl fun k hk s hh => EventSteps.weaken (State.restoredChange_events hh) fun _ _ j e => hpre (by rw [← e, j.1]; exact hk)
  rw [State.restoredChanges_eq, hsplit]
  generalize pre.foldl (fun s k => State.restoredChange b k s) s = a at *
  have holders := first.onlyEvents.holders
  have self := State.restoredChange_events (b := b) (h := h) holders
  have last : EventSteps (fun k _ => k ≠ h) (State.restoredChange b h a)
      (post.foldl (fun s k => State.restoredChange b k s) (State.restoredChange b h a)) :=
    EventSteps.foldl (self.onlyEvents.holders.trans holders) fun k hk s hh =>
      EventSteps.weaken (State.restoredChange_events hh) fun _ _ j e => hpost (by rw [← e, j.1]; exact hk)
  have compared : a.StopCompared (State.restoredChange b h a) b h sd s.holders[h].count := by
    have := a.holderChange_stop b h sd s.holders[h].count s.holders[h].count
    rw [sd.of_same_count] at this
    unfold State.restoredChange
    rwa [if_pos hf, holders]
  exact (compared.before (first.sideKept fun hp => hp rfl)).after (last.sideKept fun hp => hp rfl)

/-- R79, R90: the stops stay compared as the SLOT trigger is entered and taken. -/
theorem State.takeLive_stop (hf : b.fitted h = true) (first : Bool) :
    (s.broughtTo b first).StopCompared (s.takeLive b first) b h sd (s.broughtTo b first).holders[h].count := by
  rw [State.takeLive_eq]
  have steps : EventSteps (fun _ _ => False) ((s.broughtTo b first).restoredChanges b)
      ((((s.broughtTo b first).restoredChanges b).enterTrigger .slot).settled) :=
    (State.enterTrigger_steps ..).events.trans (State.settled_steps _).events
  exact (State.restoredChanges_stop hf).later steps False.elim

theorem State.takeLive_events (s : State) (b : Bank) (first : Bool) :
    EventSteps (RestoredTrips b (s.broughtTo b first).holders) (s.broughtTo b first) (s.takeLive b first) := by
  rw [State.takeLive_eq]
  exact ((State.restoredChanges_events ..).trans (State.enterTrigger_steps ..).events).trans (State.settled_steps _).events

end

/-! ## The first interval (R143) -/

/-- R22: the change of a holder keeps the accounts where the open interval is flagged already, as it must be with an UNCERTAIN holder. -/
theorem State.holderChange_accounts_kept (hiv : s.accounts.interval = some iv)
    (hu : s.holders[h].certain = false → iv.yard.stockUncertain = true) (lo hi : Nat) : (s.holderChange b h lo hi).accounts = s.accounts := by
  rw [State.holderChange_accounts]
  split
  · rfl
  · next hc =>
    have flagged := hu (Bool.eq_false_iff.2 hc)
    have interval := s.yardFlag_uncertain_interval
    rw [hiv] at interval
    have same : ({ iv with yard := { iv.yard with stockUncertain := true } } : OpenInterval) = iv := by rw [← flagged]
    refine (congrArg (fun i => ({ s.accounts with interval := i } : Accounts)) interval).trans ?_
    rw [Option.map_some, same, ← hiv]

theorem State.restoredChanges_accounts (hiv : s.accounts.interval = some iv)
    (hu : ∀ h, b.fitted h = true → s.holders[h].certain = false → iv.yard.stockUncertain = true) :
    (s.restoredChanges b).accounts = s.accounts :=
  (foldl_inv (inv := fun t => t.accounts = s.accounts ∧ t.holders = s.holders) (l := List.finRange 4) (f := State.restoredChange b)
    (fun h _ t ⟨ha, hh⟩ => by
      refine ⟨?_, (State.restoredChange_events (h := h) rfl).onlyEvents.holders.trans hh⟩
      unfold State.restoredChange
      split
      · next hf =>
        rw [State.holderChange_accounts_kept (iv := iv) (by rw [ha]; exact hiv) (by rw [hh]; exact hu h hf)]
        exact ha
      · exact ha) (s := s) ⟨rfl, rfl⟩).1

theorem State.takeLive_accounts (hl : s.live = some b) : (s.takeLive b true).accounts = (s.broughtTo b true).accounts := by
  have tail := (State.enterTrigger_only ((s.broughtTo b true).restoredChanges b) .slot).trans (State.settled_only _)
  rw [State.takeLive_eq, tail.accounts]
  refine State.restoredChanges_accounts (by rw [State.broughtTo_accounts hl]) fun h hf hc => ?_
  rw [State.newInterval_uncertain]
  have : (s.broughtTo b true).stockUncertain b = true := (State.stockUncertain_iff ..).2 ⟨h, hf, hc⟩
  exact Bool.or_eq_true_iff.2 (.inr this)

theorem State.holderStock_congr (hh : t.holders = s.holders) (hp : t.points = s.points) (hb : t.barometer = s.barometer) (b : Bank) (k : Fin 4) :
    t.holderStock b k = s.holderStock b k := by
  unfold State.holderStock State.holderGauge State.pointRec
  rw [hh, hp, hb]

theorem State.holderStock_of_events (h : OnlyEvents s t) (b : Bank) (k : Fin 4) : t.holderStock b k = s.holderStock b k := by
  obtain ⟨f, only⟩ := h
  exact State.holderStock_congr only.holders only.points only.barometer b k

/-- R143: the first interval opens, and the changes of the restored counts leave it. -/
theorem State.takeLive_first (hl : s.live = some b) : ∃ iv,
    (s.takeLive b true).accounts = { s.accounts with interval := some iv } ∧ (s.takeLive b true).FirstOpened b iv := by
  have events := (s.takeLive_events b true).onlyEvents
  have accounts := State.takeLive_accounts hl
  rw [State.broughtTo_accounts hl] at accounts
  have stocks := State.holderStock_of_events events b
  have uncertain := (s.broughtTo b true).stockUncertain_iff b
  have held := (s.broughtTo b true).stockHeld_iff b
  have stockAt := (s.broughtTo b true).stocks_at b
  generalize s.takeLive b true = t at *
  generalize s.broughtTo b true = u at *
  refine ⟨_, accounts, ?_⟩
  have holders := events.holders
  have frame : t.loop.lost = u.loop.lost ∧ t.clock = u.clock ∧ t.tables = u.tables ∧ t.channels = u.channels := by
    obtain ⟨f, only⟩ := events
    exact ⟨only.loop.lost, only.clock, only.tables, only.channels⟩
  obtain ⟨lost, clock, tables, channels⟩ := frame
  constructor
  case placed =>
    intro hv
    rw [clock] at hv
    have wall : u.clock.wall = none := if_neg (hv ▸ nofun)
    have place : b.yard.placeClock u.clock = ⟨none, none, none⟩ := by
      unfold YardEntry.placeClock
      rw [wall]
    exact ⟨congrArg Placing.identity place, congrArg Placing.nominalStart place, congrArg Placing.nominalEnd place, wall⟩
  case generation => rw [tables]; rfl
  case channels =>
    intro m
    rw [State.newInterval_channels, channels]
    simp [State.firstOpening]
  case stock =>
    intro h
    rw [stocks h, ← stockAt h]
    simp [State.newInterval, State.firstOpening]
  case uncertain =>
    rw [holders]
    exact ⟨uncertain, (u.newInterval_uncertain b (u.firstOpening b)).trans (Bool.false_or _)⟩
  case held =>
    simp only [stocks]
    exact ⟨held, by simp [State.newInterval, State.openingFlags, State.firstOpening, YardFlags.union, YardFlags.none]⟩
  case otherFlags =>
    rw [lost]
    simp [State.newInterval, State.openingFlags, State.firstOpening, YardFlags.union, YardFlags.none]

end Sys2Proof.Machine

/-! # COMMIT

The refusals of COMMIT (R150), the bank that waits, and the two swaps it makes (R152, R154). -/

namespace Sys2Proof.Machine

variable {p s t u : State} {old new b n : Bank} {r : IntervalRecord} {iv jv : OpenInterval} {extra : YardFlags} {h : Fin 4} {sd : Side} {k : Nat}
  {code ref : Byte} {reply : Reply}

/-! ## Closes of states with the same jobs -/

theorem State.Recorded.of_same {w : State} (k : w.Recorded b iv extra r) (hs : w.accounts.logs.lastSeq = s.accounts.logs.lastSeq)
    (hh : w.holders = s.holders) (hp : w.points = s.points) (hb : w.barometer = s.barometer) : s.Recorded b iv extra r := by
  obtain ⟨taken, channels, holders, totals, sums, uncertain, held, otherFlags⟩ := k
  simp only [State.holderStock_congr hh hp hb] at holders totals held
  rw [hs] at taken
  rw [hh] at holders uncertain
  exact ⟨taken, channels, holders, totals, sums, uncertain, held, otherFlags⟩

theorem State.Opened.of_same {w : State} (k : w.Opened t b n r extra jv) (hh : w.holders = s.holders) (hp : w.points = s.points)
    (hb : w.barometer = s.barometer) (hl : w.loop.lost = s.loop.lost) : s.Opened t b n r extra jv := by
  obtain ⟨placed, openTime, generation, channels, stock, uncertain, held, otherFlags⟩ := k
  simp only [State.holderStock_congr hh hp hb] at held
  rw [hh] at uncertain
  rw [hl] at otherFlags
  exact ⟨placed, openTime, generation, channels, stock, uncertain, held, otherFlags⟩

/-! ## The response after a swap -/

theorem State.RecordsTaken.respond (k : p.RecordsTaken t old new) : p.RecordsTaken (t.respond code ref reply) old new :=
  ⟨k.lifts, k.meters, k.points, k.barometer, k.calorimeter, k.perms, k.stops, k.districts⟩

theorem State.TakenOver.respond (k : p.TakenOver t old new) : p.TakenOver (t.respond code ref reply) old new :=
  { k.toRecordsTaken.respond with valves := k.valves, roles := k.roles, triggers := k.triggers }

theorem State.Reclassed.respond (k : s.Reclassed t new) : s.Reclassed (t.respond code ref reply) new :=
  ⟨k.swapped, k.notSwapped, k.classes, k.ordered, k.created, k.kept⟩

theorem State.Opened.respond (k : s.Opened t b n r extra jv) : s.Opened (t.respond code ref reply) b n r extra jv :=
  ⟨k.placed, k.openTime, k.generation, k.channels, k.stock, k.uncertain, k.held, k.otherFlags⟩

theorem State.FirstOpened.respond (k : t.FirstOpened n iv) : (t.respond code ref reply).FirstOpened n iv :=
  ⟨k.placed, k.generation, k.channels, k.stock, k.uncertain, k.held, k.otherFlags⟩

theorem State.respond_responses (t : State) (code ref : Byte) (data : List Byte) :
    (t.respond code ref (one data)).loop.responses = t.loop.responses ++ [[[code, ref, 0, 1, 1] ++ data]] := by
  rw [State.respond_one]

/-! ## What COMMIT does -/

theorem State.actCommit_committed (hc : s.tables.committed = true) : s.actCommit = (s, .refused .committed []) := if_pos hc

theorem State.actCommit_broken {k : Break} (hc : s.tables.committed = false) (hk : s.commitBreak = some k) :
    s.actCommit = (s, .refused .badTable (s.breakData k)) := by
  unfold State.actCommit
  rw [if_neg (hc ▸ nofun), hk]

theorem State.actCommit_passed (hc : s.tables.committed = false) (hk : s.commitBreak = none) :
    s.actCommit = (s.commitPassed, one s.commitPassed.commitData) := by
  unfold State.actCommit
  rw [if_neg (hc ▸ nofun), hk]

/-- R150: in RUNNING mode the loaded marks are not asked for. -/
theorem State.commitBreak_running (hl : s.live = some b) : s.commitBreak = s.tables.pending.broken s.own := by
  have hr : s.running = true := congrArg Option.isSome hl
  unfold State.commitBreak
  rw [if_pos hr, Option.none_or]

theorem finRange_find? {n : Nat} {f : Fin n → Bool} {i : Fin n} (hi : f i = true) (hbefore : ∀ j, j < i → f j = false) :
    (List.finRange n).find? f = some i := by
  obtain ⟨pre, post, h⟩ := List.append_of_mem (List.mem_finRange i)
  have order := List.pairwise_lt_finRange n
  rw [h] at order
  refine List.find?_eq_some_iff_append.2 ⟨hi, pre, post, h, fun j hj => ?_⟩
  rw [hbefore j ((List.pairwise_append.1 order).2.2 j hj i (.head _))]
  rfl

/-- R150: in UNCONFIGURED mode the first table not loaded. -/
theorem State.commitBreak_notLoaded {i : Fin 12} (hl : s.live = none) (hbefore : ∀ j, j < i → s.tables.marks[j] = true)
    (hi : s.tables.marks[i] = false) : s.commitBreak = some ⟨i.val + 1, 0, 0, .listed 0⟩ := by
  have hr : s.running = false := congrArg Option.isSome hl
  have first : (List.finRange 12).find? (fun j => !s.tables.marks[j]) = some i :=
    finRange_find? (f := fun j => !s.tables.marks[j]) (congrArg not hi) fun j hj => congrArg not (hbefore j hj)
  unfold State.commitBreak notLoaded
  rw [if_neg (hr ▸ nofun), first]
  rfl

theorem State.commitBreak_loaded (hl : s.live = none) (hm : ∀ i : Fin 12, s.tables.marks[i] = true) :
    s.commitBreak = s.tables.pending.broken s.own := by
  have hr : s.running = false := congrArg Option.isSome hl
  have none : (List.finRange 12).find? (fun j => !s.tables.marks[j]) = none := by
    rw [List.find?_eq_none]
    intro j _
    rw [hm j]
    decide
  unfold State.commitBreak notLoaded
  rw [if_neg (hr ▸ nofun), none]
  rfl

/-- R152: with the clock INVALID the bank is swapped in by a close. -/
theorem State.commitPassed_closes (hl : s.live = some b) (hv : s.clock.valid = false) :
    s.commitPassed = (s.setTables { s.tables with committed := true }).closeInterval b YardFlags.none YardFlags.none none := by
  unfold State.commitPassed
  rw [hl]
  dsimp only
  rw [if_neg (hv ▸ nofun)]

theorem State.commitPassed_waits (hl : s.live = some b) (hv : s.clock.valid = true) :
    s.commitPassed = { s with tables := { s.tables with committed := true } } := by
  unfold State.commitPassed
  rw [hl]
  dsimp only
  rw [if_pos hv]
  rfl

theorem State.commitPassed_starts (hl : s.live = none) : s.commitPassed = s.swapTables.takeLive s.tables.pending true := by
  unfold State.commitPassed
  rw [hl]

/-! ## The swap of a part without a live bank (R143, R154) -/

/-- R143, R154: what the first swap leaves. -/
structure Started (s : State) (n : Bank) (t : State) : Prop where
  tables : t.tables = s.tables.swapped
  accounts : ∃ iv, t.accounts = { s.accounts with interval := some iv } ∧ t.FirstOpened n iv
  holders : ∀ h : Fin 4, t.holders[h] = if n.fitted h then HolderRec.bring n h s.holders[h] s.timebase else s.holders[h]
  stops : s.PermitOk → ∀ h sd, n.fitted h = true → (s.atSwap t Bank.blank n).StopCompared t n h sd t.holders[h].count
  reclassed : ∀ p q, Raises q p s → ¬q srcBankSwapped → p.Reclassed t n
  clock : t.clock = s.clock
  loop : OnlyCommands s.loop t.loop

theorem Bank.blank_fitted (h : Fin 4) : Bank.blank.fitted h = false := by
  revert h
  decide

theorem State.startsOn (hl : s.live = none) : Started s s.tables.pending (s.swapTables.takeLive s.tables.pending true) := by
  have raised : s.swapTables = ({ s with tables := s.tables.swapped, attn := s.attn.reclass (some s.tables.pending) } : State).raise srcBankSwapped := rfl
  obtain ⟨at_, hswap⟩ := s.swapTables_eq
  have live : s.swapTables.live = some s.tables.pending := by rw [hswap]; rfl
  have stop := fun h sd (hf : s.tables.pending.fitted h = true) => State.takeLive_stop (s := s.swapTables) (sd := sd) hf true
  have first := State.takeLive_first live
  have events := s.swapTables.takeLive_events s.tables.pending true
  obtain ⟨holders, perms, -, rest⟩ := s.swapTables.broughtTo_brought s.tables.pending true
  have same : SameTimes s.swapTables (s.swapTables.broughtTo s.tables.pending true) := by rw [rest]; exact ⟨rfl, rfl⟩
  have attn : (s.swapTables.broughtTo s.tables.pending true).attn = s.swapTables.attn := by rw [rest]
  generalize s.swapTables.takeLive s.tables.pending true = t at *
  generalize s.swapTables.broughtTo s.tables.pending true = u at *
  have only := events.onlyEvents
  have raises : Raises EventSource s.swapTables t := (Raises.of_same same attn).trans events.raises
  have reclassed := fun (p : State) q (hq : Raises q p s) hno => State.Reclassed.of_swap hq hno raises eventSource_ne_bankSwapped
  have notRaised (h : Fin 4) (sd : Side) : (s.atSwap t Bank.blank s.tables.pending).NotRaised u (tripSource h sd) := by
    refine State.NotRaised.trans (t := s.swapTables) ?_ (.of_items (congrArg Attention.items attn) _)
    rw [raised]
    exact State.raise_notRaised (s := { s with tables := s.tables.swapped, attn := s.attn.reclass (some s.tables.pending) })
      (bankSwapped_ne_tripSource h sd).symm
  have frame : t.tables = u.tables ∧ t.clock = u.clock ∧ OnlyCommands u.loop t.loop := by
    obtain ⟨f, only⟩ := only
    exact ⟨only.tables, only.clock, only.loop⟩
  obtain ⟨tables, clock, loop⟩ := frame
  have rest : u.tables = s.tables.swapped ∧ u.clock = s.clock ∧ u.loop = s.loop ∧ u.valves = s.valves ∧ u.timebase = s.timebase := by
    rw [rest, hswap]
    exact ⟨rfl, rfl, rfl, rfl, rfl⟩
  obtain ⟨utables, uclock, uloop, uvalves, utime⟩ := rest
  have before : s.swapTables.holders = s.holders ∧ s.swapTables.timebase = s.timebase ∧ s.swapTables.accounts = s.accounts := by
    rw [hswap]
    exact ⟨rfl, rfl, rfl⟩
  obtain ⟨hholders, htime, haccounts⟩ := before
  rw [hholders, htime] at holders
  rw [haccounts] at first
  rw [← only.holders] at holders stop
  refine ⟨tables.trans utables, first, holders, fun hok h sd hf => ?_, reclassed, clock.trans uclock, uloop ▸ loop⟩
  have joins : (!Bank.blank.fitted (holderOf (valveOf h sd)) && s.tables.pending.fitted (holderOf (valveOf h sd))) = true := by
    rw [Bank.blank_fitted, holderOf_valveOf, hf]
    rfl
  refine (stop h sd hf).since ?_ (notRaised h sd) (fun _ => ?_) ⟨only.sameTimes.live.symm, only.sameTimes.now.symm⟩ utime
  · rw [perms, if_pos (by rw [holderOf_valveOf]; exact hf)]
    unfold State.atSwap
    simp only [Fin.getElem_fin, Vector.getElem_ofFn, Fin.eta, joins, ↓reduceIte]
  · rw [uvalves]
    have hstate := ((hok (valveOf h sd)).2.2.2 hl).1
    exact ⟨fun h => ValveState.noConfusion (hstate.symm.trans h), fun h => ValveState.noConfusion (hstate.symm.trans h)⟩

/-! ## COMMIT (R150, R152) -/

theorem State.commitData_done (t : State) (h : t.tables.committed = false) : t.commitData = putN 2 t.tables.generation ++ [0] := by
  unfold State.commitData
  rw [h]
  rfl

/-- Settles O49: each refusal by the condition found, and the swap by what every close leaves (`Closed`). -/
theorem commit : Obligations.Commit := by
  intro s ref hcan
  have hi : directiveOf (.commit ref []) = some (2, ref, []) := rfl
  have refused {reason : Reason} {data : List Byte} (h : s.absorb.actCommit = (s.absorb, .refused reason data)) :
      exec (.commit ref []) s = .next (s.refuses 2 ref (b8 reason.code) data) := exec_directive_refused hi hcan (by decide) rfl h
  have passed (hc : s.tables.committed = false) (hk : s.commitBreak = none) : exec (.commit ref []) s =
      .next (s.absorb.commitPassed.respond 2 ref (one s.absorb.commitPassed.commitData)) := by
    have h := exec_directive_acts hi hcan (by decide) rfl
    rw [show State.actOf 2 [] s.absorb = s.absorb.actCommit from rfl, State.actCommit_passed (s := s.absorb) hc hk] at h
    exact h
  refine ⟨fun hc => refused (State.actCommit_committed (s := s.absorb) hc), fun t i k n hc hk => ?_, fun t i k n hc hk => ?_,
    fun t hl hc hbefore ht => ?_, fun b hc hl hk hv => ?_, fun b iv hc hl hk hv hiv => ?_, fun hc hl hm hk => ?_⟩
  case refine_1 => exact refused (State.actCommit_broken (s := s.absorb) hc hk)
  case refine_2 => exact ⟨_, refused (State.actCommit_broken (s := s.absorb) hc hk)⟩
  case refine_3 =>
    have data : s.absorb.breakData ⟨t.val + 1, 0, 0, .listed 0⟩ = [b8 (t.val + 1), 0, 0, 0, 0] := by
      unfold State.breakData
      rw [show putN 2 0 = [0, 0] by decide]
      rfl
    rw [← data]
    exact refused (State.actCommit_broken (s := s.absorb) hc (State.commitBreak_notLoaded hl hbefore ht))
  case refine_4 =>
    rw [passed hc ((State.commitBreak_running hl).trans hk), State.commitPassed_waits (s := s.absorb) hl hv]
    exact congrArg _ (State.absorb_answer ({ s with tables := { s.tables with committed := true } }) 2 ref _)
  case refine_5 =>
    refine ⟨_, passed hc ((State.commitBreak_running hl).trans hk), ?_⟩
    rw [State.commitPassed_closes (s := s.absorb) hl hv]
    generalize hw : s.absorb.setTables { s.absorb.tables with committed := true } = w
    have hlw : w.live = some b := by subst hw; exact hl
    have hivw : w.accounts.interval = some iv := by subst hw; exact hiv
    have hcw : w.tables.committed = true := by subst hw; rfl
    have jobs : w.holders = s.holders ∧ w.points = s.points ∧ w.barometer = s.barometer ∧ w.loop.lost = s.loop.lost := by
      subst hw
      exact ⟨rfl, rfl, rfl, rfl⟩
    obtain ⟨hholders, hpoints, hbarometer, hlost⟩ := jobs
    have base : SwapBase s w b := by subst hw; exact ⟨fun _ => rfl, fun _ _ => rfl, rfl, rfl, rfl, rfl, rfl, rfl, rfl, rfl, ⟨fun _ => rfl, fun _ => rfl⟩, fun _ => id, fun _ _ => .of_items rfl _⟩
    have loop : w.loop.responses = s.loop.responses ∧ w.prog = s.prog ∧ w.valves = s.valves ∧ w.clock = s.clock := by
      subst hw
      exact ⟨rfl, rfl, rfl, rfl⟩
    obtain ⟨hresponses, hprog, hvalves, hclock⟩ := loop
    have hlogs : w.accounts = s.accounts := by subst hw; rfl
    have htables : w.tables.swapped = s.tables.swapped ∧ w.tables.pending = s.tables.pending := by subst hw; exact ⟨rfl, rfl⟩
    have raises : Raises (fun _ => False) s w := by subst hw; exact .of_same ⟨rfl, rfl⟩ rfl
    obtain ⟨swap, jv, closed⟩ := State.closeInterval_swaps (b := b) (extra := YardFlags.none) (next := YardFlags.none) (w := none) hivw hcw
    have htime : (w.closeRecord b iv YardFlags.none none).closeTime = none := rfl
    have recorded := (w.closeRecord_recorded b iv YardFlags.none none).of_same (congrArg (fun a : Accounts => a.logs.lastSeq) hlogs) hholders
      hpoints hbarometer
    generalize w.closeRecord b iv YardFlags.none none = r at *
    generalize w.closeInterval b YardFlags.none YardFlags.none none = t at *
    obtain ⟨tables, taken, takenOver, reclassed⟩ := swap
    rw [htables.2] at closed taken takenOver reclassed
    rw [htables.1] at tables
    rw [State.commitData_done t closed.committed]
    have accounts := closed.accounts
    rw [hlogs] at accounts
    have hsequence := recorded.taken.1
    have tlogs : t.accounts.logs = s.accounts.logs.enter r := by rw [accounts]
    refine ⟨closed.live, congrArg TableStore.generation tables, closed.committed, congrArg TableStore.store tables, ?_, ?_, closed.clock.trans hclock,
      ?_, fun ht _ => (takenOver s base hvalves (congrArg _ hprog) (hprog ▸ ht) (.inr (.inl (hclock ▸ hv)))).respond, (taken s base).respond,
      (reclassed s _ raises id).respond, r, jv, ?_, ?_, htime, recorded, ?_, (closed.opened.of_same hholders hpoints hbarometer hlost).respond⟩
    · exact (congrArg Logs.lastSeq tlogs).trans ((Logs.enter_lastSeq ..).trans hsequence)
    · exact congrArg (fun a : Accounts => a.interval.isSome) accounts
    · rw [State.respond_responses, closed.loop.responses, hresponses]
      rfl
    · exact (congrArg (fun l : Logs => l.log.getLast?) tlogs).trans (Logs.enter_getLast? ..)
    · exact congrArg Accounts.interval accounts
    · refine (?_ : s.accounts.logs.DayKept t.accounts.logs r)
      rw [tlogs]
      exact Logs.enter_dayKept ..
  case refine_6 =>
    refine ⟨_, passed hc ((State.commitBreak_loaded hl hm).trans hk), ?_⟩
    rw [State.commitPassed_starts (s := s.absorb) hl]
    obtain ⟨tables, ⟨iv, accounts, first⟩, holders, stops, reclassed, clock, loop⟩ := State.startsOn (s := s.absorb) hl
    generalize s.absorb.swapTables.takeLive s.absorb.tables.pending true = t at *
    have committed : t.tables.committed = false := by rw [tables]; rfl
    rw [State.commitData_done t committed]
    refine ⟨congrArg TableStore.live tables, congrArg TableStore.generation tables, committed, congrArg TableStore.store tables,
      (congrArg Accounts.logs accounts :), clock, ⟨iv, congrArg Accounts.interval accounts, first.respond⟩, fun h => ?_, stops,
      (reclassed s (fun _ => False) (.of_same ⟨rfl, rfl⟩ rfl) id).respond, ?_⟩
    · refine (?_ : t.holders[h].certain = s.holders[h].certain ∧ (s.tables.pending.fitted h = true →
        t.holders[h].count = min s.holders[h].count s.tables.pending.holders[h].travel))
      have hh := holders h
      obtain ⟨hcount, hcertain, -⟩ := HolderRec.bring_eq s.tables.pending h s.holders[h] s.timebase
      cases hf : s.tables.pending.fitted h with
      | false =>
        rw [show s.absorb.tables.pending = s.tables.pending from rfl, if_neg (hf ▸ nofun)] at hh
        exact ⟨congrArg HolderRec.certain hh, nofun⟩
      | true =>
        rw [show s.absorb.tables.pending = s.tables.pending from rfl, if_pos hf] at hh
        exact ⟨(congrArg HolderRec.certain hh).trans hcertain, fun _ => (congrArg HolderRec.count hh).trans hcount⟩
    · rw [State.respond_responses, loop.responses]
      rfl

end Sys2Proof.Machine

/-! # Triggers wait under LOOP_LOST

Under LOOP_LOST the Programme Unit takes no trigger (R90), so that whatever is deferred stays so, through notices, trips and a swap. -/

namespace Sys2Proof.Machine

variable {s t u : State} {b : Bank} {h : Fin 4} {old new : Bank}

/-- Between two states no trigger has left the deferred list, and the loop state is as it was. -/
structure Defers (s t : State) : Prop where
  lost : t.loop.lost = s.loop.lost
  deferred : ∀ x ∈ s.prog.deferred, x ∈ t.prog.deferred

namespace Defers

theorem of_same (hl : t.loop.lost = s.loop.lost) (hd : t.prog.deferred = s.prog.deferred) : Defers s t := ⟨hl, fun _ hx => hd ▸ hx⟩
theorem refl (s : State) : Defers s s := .of_same rfl rfl
theorem trans (k : Defers s t) (l : Defers t u) : Defers s u := ⟨l.lost.trans k.lost, fun x hx => l.deferred x (k.deferred x hx)⟩
theorem ite {c : Prop} [Decidable c] (k : Defers s t) (l : Defers s u) : Defers s (if c then t else u) := by
  split
  · exact k
  · exact l

end Defers

/-! ## Records, sources and demands -/

theorem State.enterTrigger_defers (s : State) (x : Trigger) : Defers s (s.enterTrigger x) := by
  rw [State.enterTrigger_eq]
  refine ⟨rfl, fun y hy => ?_⟩
  dsimp only
  split
  · exact hy
  · exact List.mem_append_left _ hy

theorem State.raise_defers (s : State) (x : Fin 74) : Defers s (s.raise x) := .of_same (s.raise_lost x) (congrArg _ (s.raise_prog x))

theorem State.offered_defers (s : State) (v : Fin 8) (d : Demand) : Defers s (s.offered v d) :=
  .of_same (s.offered_only v d).loop.lost (congrArg Programme.deferred (s.offered_atValve v d).prog :)

theorem State.withdraw_defers (s : State) (h : Fin 4) (sd : Side) (c : PermCause) (n : Nat) : Defers s (s.withdraw h sd c n) := by
  cases hg : s.perms[valveOf h sd].granted with
  | false => rw [State.withdraw_withdrawn hg]; exact .refl s
  | true =>
    rw [State.withdraw_granted hg]
    exact Defers.trans (t := State.offered (s.setPerm _ _) _ _) (.trans (t := s.setPerm _ _) (.of_same rfl rfl) (State.offered_defers _ _ _))
      (State.raise_defers _ _)

/-! ## The transition (R95 to R99) -/

theorem State.endTransition_defers (s : State) (t : Transition) : Defers s (s.endTransition t) := by
  have record : Defers s (s.setTransition none) := .of_same rfl rfl
  unfold State.endTransition
  dsimp only
  split
  · exact .ite (record.trans (State.enterTrigger_defers _ _)) record
  · exact record.trans (forEach_keeps Defers .refl .trans (fun h s => s.mapRole h fun r => { r with lowMark := false, highMark := false })
      (fun _ _ => .of_same rfl rfl) _)

theorem State.takeShut_defers (s : State) (b : Bank) (v : Fin 8) : Defers s (s.takeShut b v) := by
  unfold State.takeShut
  split
  · exact .refl s
  · next t _ =>
    split
    · split
      · exact Defers.trans (t := (s.setTransition (some (t.markShut v .waiting .withheld))).raise (sideOf v).source)
          (Defers.trans (t := s.setTransition (some (t.markShut v .waiting .withheld))) (.of_same rfl rfl) (State.raise_defers _ _)) (.of_same rfl rfl)
      · exact Defers.trans (t := s.setTransition (some (t.markShut v .waiting .inFlight))) (.of_same rfl rfl) (State.offered_defers _ _ _)
    · exact .refl s

theorem State.settleShutting_defers (s : State) : Defers s s.settleShutting := by
  unfold State.settleShutting
  split
  · exact .ite (State.endTransition_defers ..) (.refl s)
  · exact .refl s

theorem State.finishOpening_defers (s : State) (b : Bank) (t : Transition) : Defers s (s.finishOpening b t) := by
  have roles (l : List TargetEntry) (a : State) : Defers a (l.foldl (fun s e =>
      if t.failedHolder e.holder then s else s.mapRole e.holder fun r => { r with role := e.target }) a) := by
    induction l generalizing a with
    | nil => exact .refl a
    | cons e l ih =>
      rw [List.foldl_cons]
      exact Defers.trans (.ite (.refl a) (.of_same (t := a.mapRole e.holder _) rfl rfl)) (ih _)
  unfold State.finishOpening
  dsimp only
  have entered := roles t.entries s
  generalize t.entries.foldl (fun s e => if t.failedHolder e.holder then s else s.mapRole e.holder fun r => { r with role := e.target }) s = a at *
  have tail (a : State) (x : Transition) : Defers a (forEach (fun v s => s.takeShut b v) (a.setTransition (some x))).settleShutting :=
    Defers.trans (t := a.setTransition (some x)) (.of_same rfl rfl) (.trans
      (forEach_keeps Defers .refl .trans _ (fun v s => s.takeShut_defers b v) _) (State.settleShutting_defers _))
  refine entered.trans (.trans ?_ (tail _ _))
  split
  · exact .of_same rfl rfl
  · exact .refl a

theorem State.settleOpening_defers (s : State) (b : Bank) : Defers s (s.settleOpening b) := by
  unfold State.settleOpening
  split
  · exact .ite (State.finishOpening_defers ..) (.refl s)
  · exact .refl s

theorem State.abandon_defers (s : State) (t : Transition) (sd : Side) : Defers s (s.abandon t sd) :=
  (s.raise_defers _).trans (State.endTransition_defers ..)

theorem State.failedIncoming_defers (s : State) (b : Bank) (t : Transition) (sd : Side) (h : Fin 4) : Defers s (s.failedIncoming b t sd h) := by
  unfold State.failedIncoming
  dsimp only
  split
  · exact s.abandon_defers ..
  · split
    · exact s.abandon_defers ..
    · refine .ite ?_ ?_
      · exact Defers.trans (t := s.setTransition (some _)) (.of_same rfl rfl) (State.offered_defers _ _ _)
      · exact Defers.trans (t := s.setTransition (some _)) (.of_same rfl rfl) (State.settleOpening_defers _ _)

theorem State.openEnded_defers (s : State) (b : Bank) (t : Transition) (h : Fin 4) (reached : Bool) : Defers s (s.openEnded b t h reached) := by
  unfold State.openEnded
  split
  · exact s.failedIncoming_defers ..
  · exact Defers.trans (t := s.setTransition (some t)) (.of_same rfl rfl) (State.settleOpening_defers _ _)

theorem State.takeNotice_defers (s : State) (b : Bank) (n : Notice) : Defers s (s.takeNotice b n) := by
  unfold State.takeNotice
  split
  · exact .refl s
  · next t _ =>
    split
    · exact .ite (s.openEnded_defers ..) (.refl s)
    · exact .ite (Defers.trans (t := s.setTransition (some _)) (.of_same rfl rfl) (State.settleShutting_defers _)) (.refl s)

/-- R90: under LOOP_LOST no trigger is taken. -/
theorem State.settle_defers (n : Nat) (hl : s.loop.lost = true) : Defers s (s.settle n) := by
  induction n generalizing s with
  | zero => exact .refl s
  | succ n ih =>
    unfold State.settle
    split
    · exact .refl s
    · next b _ =>
      split
      · next x xs _ =>
        have taken : Defers s ((s.setProg { s.prog with notices := xs }).takeNotice b x) :=
          Defers.trans (t := s.setProg { s.prog with notices := xs }) (.of_same rfl rfl) (State.takeNotice_defers _ b x)
        exact taken.trans (ih (taken.lost.trans hl))
      · rw [State.mayTake_false (.inl hl)]
        exact .refl s

theorem State.settled_defers (hl : s.loop.lost = true) : Defers s s.settled := State.settle_defers _ hl

/-! ## Holder changes, and a swap -/

theorem State.evaluateTrips_defers (s : State) (e : HolderEntry) (h : Fin 4) (lo hi : Nat) : Defers s (s.evaluateTrips e h lo hi) := by
  unfold State.evaluateTrips
  dsimp only
  have low : Defers s (if lo ≤ e.lowStop then s.withdraw h .outlet .lowStop lo else s) := .ite (s.withdraw_defers ..) (.refl s)
  exact .ite (low.trans (State.withdraw_defers ..)) low

theorem State.markSide_defers (s : State) (e : HolderEntry) (h : Fin 4) (sd : Side) (lo hi : Nat) : Defers s (s.markSide e h sd lo hi) := by
  unfold State.markSide
  dsimp only
  have marked : Defers s (if (s.holders[h].certain && includesSide (s.roleRec h).role sd && !(s.roleRec h).held && !(s.roleRec h).mark sd &&
      (match sd with
        | .outlet => decide (lo ≤ e.nearEmpty)
        | .inlet => decide (e.nearFull ≤ hi))) = true then (s.mapRole h fun p => p.setMark sd true).enterTrigger sd.trigger else s) :=
    .ite (Defers.trans (t := s.mapRole h fun p => p.setMark sd true) (.of_same rfl rfl) (State.enterTrigger_defers _ _)) (.refl s)
  exact .ite (marked.trans (.of_same rfl rfl)) marked

theorem State.giveUp_defers (s : State) (b : Bank) (h : Fin 4) : Defers s (s.giveUp b h) := by
  unfold State.giveUp
  split
  · exact .refl s
  · exact .ite (s.openEnded_defers ..) (.refl s)

theorem State.holderChange_defers (hl : s.loop.lost = true) (b : Bank) (h : Fin 4) (lo hi : Nat) : Defers s (s.holderChange b h lo hi) := by
  have k0 := s.evaluateTrips_defers b.holders[h] h lo hi
  have k1 := k0.trans (State.settled_defers (k0.lost.trans hl))
  have k2 := k1.trans (State.markSide_defers _ b.holders[h] h .outlet lo hi)
  have k3 := k2.trans (State.markSide_defers _ b.holders[h] h .inlet lo hi)
  have k4 := k3.trans (State.giveUp_defers _ b h)
  have k5 := k4.trans (State.settled_defers (k4.lost.trans hl))
  unfold State.holderChange
  dsimp only
  exact .ite k5 (k5.trans (.of_same rfl rfl))

theorem State.swapEvents_defers (hl : s.loop.lost = true) (before : Vector HolderRec 4) (old new : Bank) :
    Defers s (s.swapEvents before old new) := by
  have changes : Defers s (forEach (State.changeAfterSwap before old new) s) :=
    foldl_inv (inv := Defers s) (fun h _ t k => k.trans (by
      have lost := k.lost.trans hl
      unfold State.changeAfterSwap
      dsimp only
      split
      · split
        · exact State.holderChange_defers lost ..
        · exact .ite (State.holderChange_defers lost ..) (.refl t)
      · exact .refl t)) (.refl s)
  have trips : Defers s (forEach (State.tripsAfterSwap old new) (forEach (State.changeAfterSwap before old new) s)) :=
    foldl_inv (inv := Defers s) (fun h _ t k => k.trans (by
      have trips := t.evaluateTrips_defers new.holders[h] h t.holders[h].count t.holders[h].count
      unfold State.tripsAfterSwap
      exact .ite (trips.trans (State.settled_defers (trips.lost.trans (k.lost.trans hl)))) (.refl t))) changes
  exact trips.trans (State.settled_defers (trips.lost.trans hl))

theorem SwapBegins.defers {o : Opening} (k : SwapBegins s u old new o) : Defers s u := by
  refine ⟨k.loop.lost, fun x hx => ?_⟩
  by_cases hd : old.programmeDiffers new
  · rw [k.differs hd]
    split
    · exact hx
    · exact List.mem_append_left _ hx
  · rw [k.same hd]
    exact hx

/-- R90: a close under LOOP_LOST takes no trigger. -/
theorem State.closeInterval_defers {iv : OpenInterval} (hiv : s.accounts.interval = some iv) (hc : s.tables.committed = true)
    (hl : s.loop.lost = true) (b : Bank) (extra next : YardFlags) (w : Option WallTime) : Defers s (s.closeInterval b extra next w) := by
  rw [State.closeInterval_eq hiv]
  dsimp only
  rw [if_pos hc]
  have close := s.recordClose_into b (s.closeRecord b iv extra w)
  have closed : Defers s (s.recordClose b (s.closeRecord b iv extra w)) := by
    obtain ⟨-, -, before, rest⟩ := close
    rw [rest]
    exact .of_same rfl rfl
  obtain ⟨-, -, before, rest⟩ := close
  generalize s.recordClose b (s.closeRecord b iv extra w) = a at *
  rw [State.swapAndOpen_eq]
  have begins := (State.swappedState_begins (s := a) (by rw [rest]) b
    ((s.closeRecord b iv extra w).carried (s.stockUncertain b) (stockHeld (s.stocks b)) next)).defers
  exact (closed.trans begins).trans (State.swapEvents_defers ((closed.trans begins).lost.trans hl) ..)

end Sys2Proof.Machine

/-! # SET CLOCK: the time set

A SET CLOCK taken, addressed or broadcast (R138 to R140, R161): the state with the new time, its slot and its trigger, and the step at the open
interval. -/

namespace Sys2Proof.Machine

variable {s p t u : State} {b : Bank} {iv jv : OpenInterval} {w : WallTime} {ref : Byte}

/-! ## The frame (R161, R166) -/

/-- R161: the state in which a SET CLOCK is taken: absorbed, or forwarded where it is broadcast. -/
def State.heardClock (s : State) (broadcast : Bool) (ref : Byte) (ps : List Byte) : State :=
  if broadcast then s.passed 255 0 kindDirective (13 :: ref :: ps) else s.absorb

theorem exec_setClock (hon : s.power = .on) (broadcast : Bool) {ps : List Byte} (hlen : ps.length ≤ 198) :
    exec (.setClock broadcast ref ps) s = .next ((s.heardClock broadcast ref ps).takeSetClock ref ps) := by
  cases broadcast with
  | false => exact s.fromDesk_on hon (body := 13 :: ref :: ps) (by simp only [List.length_cons]; omega) fun s => s.takeSetClock ref ps
  | true =>
    exact congrArg _ ((State.whenOn_whole (f := fun _ => ⟨255, 0, kindDirective, 13 :: ref :: ps⟩)
      (act := fun s => s.receiveDirective 255 0 (13 :: ref :: ps)) hon (by simp only [List.length_cons]; omega)).trans
      (s.receiveDirective_setClock ref ps))

theorem State.heardClock_loop (s : State) (broadcast : Bool) (ref : Byte) (ps : List Byte) :
    ∃ l, s.heardClock broadcast ref ps = { s with loop := l } ∧ l.lost = s.loop.lost := by
  cases broadcast
  · exact ⟨_, rfl, rfl⟩
  · exact ⟨_, rfl, (s.loop.enter_only _).lost⟩

theorem param_third {n : Nat} (h : n < 2 ^ 24) : param [3] (bytesOf 3 n) 0 = n := by
  simp [param, fieldsOf, fld, natOf, bytesOf]
  omega

/-- R138: a SET CLOCK that finds room for its response. -/
theorem State.takeSetClock_acts {day sec : Nat} (hroom : p.loop.responses.length < 8) (hday : day ≤ 65535) (hsec : sec < 2 ^ 24) :
    p.takeSetClock ref (bytesOf 2 day ++ bytesOf 3 sec) = (p.actSetClock ⟨day, sec⟩).1.respond 13 ref (p.actSetClock ⟨day, sec⟩).2 := by
  have hlen : ((bytesOf 2 day ++ bytesOf 3 sec).length == 5) = true := by simp [bytesOf_length]
  have first : param [2, 3] (bytesOf 2 day ++ bytesOf 3 sec) 0 = day := param_half [3] (by omega) _
  have second : param [2, 3] (bytesOf 2 day ++ bytesOf 3 sec) 1 = sec := (param_half_next [3] day _ 0).trans (param_third hsec)
  unfold State.takeSetClock
  rw [hlen, p.directive_acts 13 ref _ hroom, first, second]

theorem State.actSetClock_refused (hl : p.live = some b) (h : 86399 < w.sec ∨ (w.day = 0 ∧ w.sec < b.yard.gasHour * 3600)) :
    p.actSetClock w = (p, .refused .outOfRange []) := by
  unfold State.actSetClock
  rw [State.withBank_live hl]
  exact if_pos h

theorem State.actSetClock_taken (hl : p.live = some b) (h : ¬(86399 < w.sec ∨ (w.day = 0 ∧ w.sec < b.yard.gasHour * 3600))) :
    p.actSetClock w = ((p.clockTo w).applyStep b p.clock w, one (p.clock.setData w)) := by
  unfold State.actSetClock
  rw [State.withBank_live hl]
  exact if_neg h

/-! ## The new time, its slot and its trigger (R126, R138) -/

/-- R126, R138: the state with a new time, its slot and its trigger. -/
def State.givenTime (p : State) (c : Clock) : State :=
  { p with clock := c, prog := { p.prog with deferred := if .slot ∈ p.prog.deferred then p.prog.deferred else p.prog.deferred ++ [.slot] } }

theorem State.clockTo_eq (p : State) (w : WallTime) : p.clockTo w = (p.givenTime (p.clock.setTo w)).settled := by
  unfold State.clockTo
  rw [State.enterTrigger_eq]
  rfl

theorem ProgrammeStep.perms (step : ProgrammeStep s t) : t.perms = s.perms := by
  cases step with
  | records => rfl
  | noCandidate => exact s.raise_perms _
  | demand v d => exact (s.offered_atValve v ⟨d, .programme⟩).perms

theorem Steps.perms (steps : ProgrammeSteps s t) : t.perms = s.perms :=
  steps.keeps (K := fun s t => t.perms = s.perms) (fun _ => rfl) (fun h k => k.trans h) ProgrammeStep.perms

/-- R138: once the Programme Unit has settled, the state is the base of a swap, whatever its accounts. -/
theorem State.givenTime_base (p : State) (c : Clock) (a : Accounts) (b : Bank) : SwapBase p ((p.givenTime c).settled.setAccounts a) b := by
  have steps := (p.givenTime c).settled_steps
  have only := (p.givenTime c).settled_only
  have side := fun h sd => steps.events.sideKept (p := fun _ _ => False) (h := h) (sd := sd) id
  have perms := steps.perms
  have sets := (steps.events (p := fun _ _ => False)).sets
  generalize (p.givenTime c).settled = g at *
  refine ⟨fun h => ?_, fun _ _ => ?_, only.channels, only.points, only.barometer, only.calorimeter, perms, only.districts, only.timebase,
    only.loop.lost, sets, fun v hf => ?_, fun h sd => (side h sd).notRaised⟩
  · have holders : (g.setAccounts a).holders = p.holders := only.holders
    rw [holders]
  · exact congrArg (fun n : Nonvolatile => n.saves[_]) only.nv
  · have := (side (holderOf v) (sideOf v)).flies
    rw [State.valves_own, State.valves_own] at this
    exact this hf

/-- R138: under LOOP_LOST, or with a transition in flight, and without a notice, nothing follows from the new time. -/
theorem State.givenTime_idle (c : Clock) (hn : p.prog.notices = []) (h : p.loop.lost = true ∨ p.prog.transition.isSome = true) :
    (p.givenTime c).settled = p.givenTime c :=
  State.settled_idle _ ⟨hn, .inr (State.mayTake_false (s := p.givenTime c) h)⟩

theorem State.givenTime_slot (p : State) (c : Clock) : .slot ∈ (p.givenTime c).prog.deferred := by
  unfold State.givenTime
  dsimp only
  split
  · assumption
  · exact List.mem_append_right _ (.head _)

/-- R126: the SLOT trigger waits under LOOP_LOST. -/
theorem State.givenTime_waits (c : Clock) (hl : p.loop.lost = true) : .slot ∈ (p.givenTime c).settled.prog.deferred :=
  (State.settled_defers (s := p.givenTime c) hl).deferred _ (p.givenTime_slot c)

theorem State.givenTime_raises (p : State) (c : Clock) (a : Accounts) :
    Raises EventSource (p.setClock c) ((p.givenTime c).settled.setAccounts a) :=
  Raises.trans (t := p.givenTime c) (.of_same ⟨rfl, rfl⟩ rfl)
    (((p.givenTime c).settled_steps.events (p := fun _ _ => False)).raises.trans (.of_same ⟨rfl, rfl⟩ rfl))

/-! ## The step (R138 to R140) -/

theorem Clock.caseOf_invalid {c : Clock} (h : c.valid = false) (w : WallTime) : c.caseOf w = .fromInvalid := if_neg (h ▸ nofun)
theorem Clock.caseOf_zero {c : Clock} (h : c.valid = true) (hs : c.stepTo w = 0) : c.caseOf w = .stepOfZero :=
  (if_pos h).trans (if_pos hs)
theorem Clock.caseOf_adjusted {c : Clock} (h : c.valid = true) (hs : c.stepTo w ≠ 0) (hle : (c.stepTo w).natAbs ≤ 300) :
    c.caseOf w = .adjusted := (if_pos h).trans ((if_neg hs).trans (if_pos hle))
theorem Clock.caseOf_step {c : Clock} (h : c.valid = true) (hlt : 300 < (c.stepTo w).natAbs) : c.caseOf w = .clockStep :=
  (if_pos h).trans ((if_neg (by intro hs; rw [hs] at hlt; omega)).trans (if_neg (Nat.not_le.2 hlt)))

/-- The open interval with CLOCK ADJUSTED set. -/
def OpenInterval.adjusted (iv : OpenInterval) : OpenInterval := { iv with yard := { iv.yard with clockAdjusted := true } }

theorem State.yardFlag_adjusted (hiv : s.accounts.interval = some iv) : s.yardFlag { YardFlags.none with clockAdjusted := true } =
    s.setAccounts { s.accounts with interval := some iv.adjusted } := by
  unfold State.yardFlag State.mapInterval
  rw [hiv]
  simp [YardFlags.union, YardFlags.none, OpenInterval.adjusted]

/-- R128, R138: the open interval placed by a new time. -/
def OpenInterval.placedAt (iv : OpenInterval) (b : Bank) (w : WallTime) : OpenInterval :=
  { iv with identity := (b.yard.place w).identity, nominalStart := (b.yard.place w).nominalStart, nominalEnd := (b.yard.place w).nominalEnd }

theorem State.applyStep_invalid (hiv : s.accounts.interval = some iv) {c : Clock} (h : c.caseOf w = .fromInvalid) :
    s.applyStep b c w = s.setAccounts { s.accounts with interval := some (iv.placedAt b w) } := by
  unfold State.applyStep State.identify State.mapInterval
  rw [h, hiv]
  rfl

theorem State.applyStep_zero {c : Clock} (h : c.caseOf w = .stepOfZero) : s.applyStep b c w = s := by
  unfold State.applyStep
  rw [h]

theorem State.applyStep_within (hiv : s.accounts.interval = some iv) {c : Clock} (h : c.caseOf w = .adjusted)
    (hno : ∀ e, iv.nominalEnd = some e → w.total < e.total) :
    s.applyStep b c w = s.setAccounts { s.accounts with interval := some iv.adjusted } := by
  have ends : s.nominalEnd = iv.nominalEnd.map WallTime.total := by unfold State.nominalEnd; rw [hiv]; rfl
  unfold State.applyStep State.adjustTo
  rw [h]
  dsimp only
  rw [ends, State.yardFlag_adjusted hiv]
  cases he : iv.nominalEnd with
  | none => rfl
  | some e => exact if_neg (Nat.not_le.2 (hno e he))

theorem State.applyStep_past (hiv : s.accounts.interval = some iv) {c : Clock} (h : c.caseOf w = .adjusted) {e : WallTime}
    (he : iv.nominalEnd = some e) (hle : e.total ≤ w.total) :
    s.applyStep b c w = (s.setAccounts { s.accounts with interval := some iv.adjusted }).closeInterval b YardFlags.none
      { YardFlags.none with clockAdjusted := true } (some w) := by
  have ends : s.nominalEnd = some e.total := State.nominalEnd_eq hiv he
  unfold State.applyStep State.adjustTo
  rw [h]
  dsimp only
  rw [ends, State.yardFlag_adjusted hiv]
  exact if_pos hle

theorem State.applyStep_step {c : Clock} (h : c.caseOf w = .clockStep) : s.applyStep b c w =
    s.closeInterval b { YardFlags.none with clockStep := true } { YardFlags.none with clockStep := true } (some ⟨c.day, c.sec⟩) := by
  unfold State.applyStep
  rw [h]

end Sys2Proof.Machine

/-! # SET CLOCK: the close at a step

A step that closes the open interval (R139, R140), with and without a bank COMMITTED. -/

namespace Sys2Proof.Machine

variable {s p t u : State} {b : Bank} {iv jv : OpenInterval} {w : WallTime} {ref : Byte} {f extra next : YardFlags}

/-- A state that differs from another in the accounts, the holders and the store alone. -/
def SameYard (g t : State) : Prop := ∃ a hs n, t = { g with accounts := a, holders := hs, nv := n }

/-- R139, R140, R154: what a SET CLOCK that closes the interval `iv` at `ct` leaves, from the state `p` in which it is taken, with the clock
set to `w`. -/
structure StepCloses (s p : State) (b : Bank) (iv : OpenInterval) (w : WallTime) (f : YardFlags) (ct : WallTime) (t : State) : Prop where
  live : t.live = some (if s.tables.committed then s.tables.pending else b)
  committed : t.tables.committed = false
  clock : t.clock = s.clock.setTo w
  timebase : t.timebase = s.timebase
  own : t.own = s.own
  responses : t.loop.responses = p.loop.responses
  kept : s.tables.committed = false → t.tables = s.tables ∧ SameYard (p.givenTime (s.clock.setTo w)).settled t
  swapped : s.tables.committed = true → t.tables = s.tables.swapped ∧ (s.setClock t.clock).Reclassed t s.tables.pending ∧
    p.RecordsTaken t b s.tables.pending ∧ (s.loop.lost = true → .slot ∈ t.prog.deferred) ∧
    (s.prog.transition = none → s.prog.notices = [] → s.loop.lost = true → p.TakenOver t b s.tables.pending)
  record : ∃ r jv, t.accounts = { s.accounts with logs := s.accounts.logs.enter r, interval := some jv } ∧ s.Recorded b iv f r ∧
    s.Opened t b (if s.tables.committed then s.tables.pending else b) r f jv ∧ r.closeTime = some ct

/-- R139, R140: a close at the new time, of an interval `iv'` in place of `iv`. -/
theorem State.stepCloses {l : LoopPort} (hp : p = { s with loop := l }) (hlost : l.lost = s.loop.lost) (hlive : s.live = some b)
    {iv' : OpenInterval} {ct : WallTime} (hr : ∀ r, s.Recorded b iv' extra r → s.Recorded b iv f r) :
    StepCloses s p b iv w f ct (((p.givenTime (s.clock.setTo w)).settled.setAccounts { s.accounts with interval := some iv' }).closeInterval b
      extra f (some ct)) := by
  have base := p.givenTime_base (s.clock.setTo w) { s.accounts with interval := some iv' } b
  have raises := p.givenTime_raises (s.clock.setTo w) { s.accounts with interval := some iv' }
  have only := (p.givenTime (s.clock.setTo w)).settled_only
  have idle := p.givenTime_idle (s.clock.setTo w)
  have waits := p.givenTime_waits (s.clock.setTo w)
  generalize hg : (p.givenTime (s.clock.setTo w)).settled = g at *
  have frame : g.clock = s.clock.setTo w ∧ g.timebase = s.timebase ∧ g.own = s.own ∧ g.tables = s.tables ∧ g.holders = s.holders ∧
      g.points = s.points ∧ g.barometer = s.barometer ∧ g.loop.lost = s.loop.lost ∧ g.loop.responses = p.loop.responses := by
    rw [only.clock, only.timebase, only.own, only.tables, only.holders, only.points, only.barometer, only.loop.lost, only.loop.responses]
    subst hp
    exact ⟨rfl, rfl, rfl, rfl, rfl, rfl, rfl, hlost, rfl⟩
  obtain ⟨gclock, gtime, gown, gtables, gholders, gpoints, gbarometer, glost, gresponses⟩ := frame
  have glive : g.live = some b := (congrArg TableStore.live gtables).trans hlive
  generalize hx : g.setAccounts { s.accounts with interval := some iv' } = x at *
  have xiv : x.accounts.interval = some iv' := by subst hx; rfl
  have xlive : x.live = some b := by subst hx; exact glive
  have xframe : x.clock = g.clock ∧ x.timebase = g.timebase ∧ x.own = g.own ∧ x.tables = g.tables ∧ x.holders = g.holders ∧ x.points = g.points ∧
      x.barometer = g.barometer ∧ x.loop = g.loop ∧ x.valves = g.valves ∧ x.prog = g.prog ∧
      x.accounts = { s.accounts with interval := some iv' } := by
    subst hx
    exact ⟨rfl, rfl, rfl, rfl, rfl, rfl, rfl, rfl, rfl, rfl, rfl⟩
  obtain ⟨xclock, xtime, xown, xtables, xholders, xpoints, xbarometer, xloop, xvalves, xprog, xaccounts⟩ := xframe
  have xtablesEq : x.tables = s.tables := xtables.trans gtables
  obtain ⟨jv, closed⟩ := State.closeInterval_closed (extra := extra) (next := f) (w := some ct) xiv xlive
  have kept := fun hc => (State.closeInterval_opens (extra := extra) (next := f) (w := some ct) xiv xlive hc).1
  have swapped := fun hc => (State.closeInterval_swaps (b := b) (extra := extra) (next := f) (w := some ct) xiv hc).1
  have defers := fun hc hl => State.closeInterval_defers xiv hc hl b extra f (some ct)
  have recorded := (x.closeRecord_recorded b iv' extra (some ct)).of_same (s := s) (by rw [xaccounts]) (xholders.trans gholders)
    (xpoints.trans gpoints) (xbarometer.trans gbarometer)
  have htime : (x.closeRecord b iv' extra (some ct)).closeTime = some ct := rfl
  generalize x.closeRecord b iv' extra (some ct) = r at *
  generalize x.closeInterval b extra f (some ct) = t at *
  rw [xtablesEq] at closed kept swapped
  constructor
  case live => exact closed.live
  case committed => exact closed.committed
  case clock => exact closed.clock.trans (xclock.trans gclock)
  case timebase => exact closed.timebase.trans (xtime.trans gtime)
  case own => exact closed.own.trans (xown.trans gown)
  case responses => exact closed.loop.responses.trans ((congrArg LoopPort.responses xloop).trans gresponses)
  case kept =>
    intro hc
    rw [hg]
    have rest := (kept hc).rest
    refine ⟨?_, t.accounts, t.holders, t.nv, ?_⟩
    · rw [rest]
      exact xtablesEq
    · subst hx
      exact rest
  case swapped =>
    intro hc
    have swap := swapped hc
    obtain ⟨tables, taken, takenOver, reclassed⟩ := swap
    rw [xtablesEq] at tables taken takenOver reclassed
    refine ⟨tables, ?_, taken p base, fun hl => ?_, fun ht hn hl => ?_⟩
    · refine reclassed (s.setClock t.clock) EventSource ?_ eventSource_ne_bankSwapped
      refine Raises.trans (t := p.setClock (s.clock.setTo w)) ?_ raises
      rw [closed.clock, xclock, gclock, hp]
      exact .of_same ⟨rfl, rfl⟩ rfl
    · refine (defers (xtablesEq ▸ hc) (by rw [xloop, glost, hl])).deferred _ ?_
      rw [xprog]
      exact waits (by rw [hp]; exact hlost.trans hl)
    · have same := idle (by rw [hp]; exact hn) (.inl (by rw [hp]; exact hlost.trans hl))
      refine takenOver p base ?_ ?_ ?_ (.inl (by rw [xloop, glost, hl]))
      · rw [xvalves, same]
        rfl
      · rw [xprog, same]
        rfl
      · rw [xprog, same, hp]
        exact ht
  case record =>
    refine ⟨r, jv, ?_, hr r recorded, closed.opened.of_same (xholders.trans gholders) (xpoints.trans gpoints) (xbarometer.trans gbarometer)
      ((congrArg LoopPort.lost xloop).trans glost), htime⟩
    rw [closed.accounts, xaccounts]

end Sys2Proof.Machine

/-! # SET CLOCK

Every case of a SET CLOCK, addressed and broadcast (R138 to R140, R161, R166). -/

namespace Sys2Proof.Machine

variable {s p t u : State} {b : Bank} {iv jv : OpenInterval} {w : WallTime} {ref : Byte} {f extra next : YardFlags} {r : IntervalRecord} {n : Bank}

/-! ## What a SET CLOCK leaves where it closes nothing -/

/-- R138, R139: what a SET CLOCK that closes nothing leaves. -/
structure StepKeeps (s p : State) (w : WallTime) (t : State) : Prop where
  clock : t.clock = s.clock.setTo w
  timebase : t.timebase = s.timebase
  own : t.own = s.own
  responses : t.loop.responses = p.loop.responses
  tables : t.tables = s.tables
  holders : t.holders = s.holders
  nv : t.nv = s.nv
  yard : SameYard (p.givenTime (s.clock.setTo w)).settled t

section
variable {l : LoopPort}

theorem State.stepKeeps (hp : p = { s with loop := l }) (a : Accounts) :
    StepKeeps s p w ((p.givenTime (s.clock.setTo w)).settled.setAccounts a) := by
  have only := (p.givenTime (s.clock.setTo w)).settled_only
  refine ⟨only.clock, only.timebase.trans ?_, only.own.trans ?_, only.loop.responses, only.tables.trans ?_, only.holders.trans ?_,
    only.nv.trans ?_, a, _, _, rfl⟩ <;> rw [hp] <;> rfl

theorem State.givenTime_accounts (hp : p = { s with loop := l }) (c : Clock) : (p.givenTime c).settled.accounts = s.accounts := by
  rw [(p.givenTime c).settled_only.accounts, hp]
  rfl

/-- R139, R140: a SET CLOCK to `w` closes the open interval. -/
def State.ClosesAt (s : State) (iv : OpenInterval) (w : WallTime) : Prop :=
  s.clock.valid = true ∧ (300 < (s.clock.stepTo w).natAbs ∨
    (s.clock.stepTo w ≠ 0 ∧ ∃ e, iv.nominalEnd = some e ∧ e.total ≤ w.total))

/-- R138 to R140: the state that a SET CLOCK taken in `p` leaves, before its response. -/
def State.setTime (p : State) (b : Bank) (w : WallTime) : State := (p.clockTo w).applyStep b p.clock w

theorem State.setTime_eq (hp : p = { s with loop := l }) :
    p.setTime b w = (p.givenTime (s.clock.setTo w)).settled.applyStep b s.clock w := by
  have hc : p.clock = s.clock := by rw [hp]
  unfold State.setTime
  rw [State.clockTo_eq, hc]

theorem State.setTime_invalid (hp : p = { s with loop := l }) (hiv : s.accounts.interval = some iv) (hv : s.clock.valid = false) :
    p.setTime b w = (p.givenTime (s.clock.setTo w)).settled.setAccounts { s.accounts with interval := some (iv.placedAt b w) } := by
  have accounts := State.givenTime_accounts hp (s.clock.setTo w)
  rw [State.setTime_eq hp, State.applyStep_invalid (iv := iv) (by rw [accounts, hiv]) (Clock.caseOf_invalid hv w), accounts]

theorem State.setTime_zero (hp : p = { s with loop := l }) (hv : s.clock.valid = true) (hs : s.clock.stepTo w = 0) :
    p.setTime b w = (p.givenTime (s.clock.setTo w)).settled.setAccounts s.accounts := by
  have accounts := State.givenTime_accounts hp (s.clock.setTo w)
  rw [State.setTime_eq hp, State.applyStep_zero (Clock.caseOf_zero hv hs), ← accounts]
  rfl

theorem State.setTime_within (hp : p = { s with loop := l }) (hiv : s.accounts.interval = some iv) (hv : s.clock.valid = true)
    (hs : s.clock.stepTo w ≠ 0) (hle : (s.clock.stepTo w).natAbs ≤ 300) (hno : ∀ e, iv.nominalEnd = some e → w.total < e.total) :
    p.setTime b w = (p.givenTime (s.clock.setTo w)).settled.setAccounts { s.accounts with interval := some iv.adjusted } := by
  have accounts := State.givenTime_accounts hp (s.clock.setTo w)
  rw [State.setTime_eq hp, State.applyStep_within (iv := iv) (by rw [accounts, hiv]) (Clock.caseOf_adjusted hv hs hle) hno, accounts]

/-- R139: the flag of an adjustment that an interval carries is one of its close. -/
theorem State.Recorded.of_adjusted (h : s.Recorded b iv.adjusted YardFlags.none r) :
    s.Recorded b iv { YardFlags.none with clockAdjusted := true } r := by
  obtain ⟨taken, channels, holders, totals, sums, uncertain, held, otherFlags⟩ := h
  refine ⟨taken, channels, holders, totals, sums, uncertain, held, otherFlags.trans ?_⟩
  simp [OpenInterval.adjusted, YardFlags.union, YardFlags.none]

theorem State.setTime_past (hp : p = { s with loop := l }) (hlost : l.lost = s.loop.lost) (hlive : s.live = some b)
    (hiv : s.accounts.interval = some iv) (hv : s.clock.valid = true) (hs : s.clock.stepTo w ≠ 0)
    (hle : (s.clock.stepTo w).natAbs ≤ 300) {e : WallTime} (he : iv.nominalEnd = some e) (hpast : e.total ≤ w.total) :
    StepCloses s p b iv w { YardFlags.none with clockAdjusted := true } w (p.setTime b w) := by
  have accounts := State.givenTime_accounts hp (s.clock.setTo w)
  rw [State.setTime_eq hp, State.applyStep_past (iv := iv) (by rw [accounts, hiv]) (Clock.caseOf_adjusted hv hs hle) he hpast, accounts]
  exact State.stepCloses hp hlost hlive fun r => State.Recorded.of_adjusted

theorem State.setTime_step (hp : p = { s with loop := l }) (hlost : l.lost = s.loop.lost) (hlive : s.live = some b)
    (hiv : s.accounts.interval = some iv) (hv : s.clock.valid = true) (hlt : 300 < (s.clock.stepTo w).natAbs) :
    StepCloses s p b iv w { YardFlags.none with clockStep := true } ⟨s.clock.day, s.clock.sec⟩ (p.setTime b w) := by
  have accounts := State.givenTime_accounts hp (s.clock.setTo w)
  have same : (p.givenTime (s.clock.setTo w)).settled =
      (p.givenTime (s.clock.setTo w)).settled.setAccounts { s.accounts with interval := some iv } := by
    rw [← hiv, show ({ s.accounts with interval := s.accounts.interval } : Accounts) = s.accounts from rfl, ← accounts]
    rfl
  rw [State.setTime_eq hp, State.applyStep_step (Clock.caseOf_step hv hlt), same]
  exact State.stepCloses hp hlost hlive fun _ => id

theorem State.setTime_keeps (hp : p = { s with loop := l }) (hiv : s.accounts.interval = some iv) (hno : ¬s.ClosesAt iv w) :
    StepKeeps s p w (p.setTime b w) := by
  cases hv : s.clock.valid with
  | false => rw [State.setTime_invalid hp hiv hv]; exact State.stepKeeps hp _
  | true =>
    have hle : (s.clock.stepTo w).natAbs ≤ 300 := Nat.le_of_not_lt fun h => hno ⟨hv, .inl h⟩
    by_cases hs : s.clock.stepTo w = 0
    · rw [State.setTime_zero hp hv hs]
      exact State.stepKeeps hp _
    · rw [State.setTime_within hp hiv hv hs hle fun e he => Nat.lt_of_not_le fun h => hno ⟨hv, .inr ⟨hs, e, he, h⟩⟩]
      exact State.stepKeeps hp _

theorem State.setTime_closes (hp : p = { s with loop := l }) (hlost : l.lost = s.loop.lost) (hlive : s.live = some b)
    (hiv : s.accounts.interval = some iv) (h : s.ClosesAt iv w) : ∃ f ct, StepCloses s p b iv w f ct (p.setTime b w) := by
  obtain ⟨hv, hc⟩ := h
  by_cases hlt : 300 < (s.clock.stepTo w).natAbs
  · exact ⟨_, _, State.setTime_step hp hlost hlive hiv hv hlt⟩
  · obtain ⟨hs, e, he, hpast⟩ := hc.resolve_left hlt
    exact ⟨_, _, State.setTime_past hp hlost hlive hiv hv hs (Nat.le_of_not_lt hlt) he hpast⟩

/-- R138: without an open interval there is nothing to step. -/
theorem State.setTime_none (hp : p = { s with loop := l }) (hiv : s.accounts.interval = none) : StepKeeps s p w (p.setTime b w) := by
  have accounts := State.givenTime_accounts hp (s.clock.setTo w)
  rw [State.setTime_eq hp]
  have none : (p.givenTime (s.clock.setTo w)).settled.accounts.interval = none := by rw [accounts, hiv]
  have keeps := State.stepKeeps (w := w) hp
  generalize (p.givenTime (s.clock.setTo w)).settled = g at *
  have same : StepKeeps s p w g := keeps g.accounts
  have flag (x : YardFlags) : ∃ a, g.yardFlag x = g.setAccounts a := ⟨_, rfl⟩
  unfold State.applyStep
  split
  · exact keeps _
  · exact same
  · unfold State.adjustTo State.nominalEnd
    rw [none]
    obtain ⟨a, ha⟩ := flag { YardFlags.none with clockAdjusted := true }
    dsimp only [Option.bind_none, Option.map_none]
    rw [ha]
    exact keeps a
  · unfold State.closeInterval
    rw [none]
    exact same

/-- R138: the clock, and the responses, whatever the step. -/
theorem State.setTime_frame (hp : p = { s with loop := l }) (hlost : l.lost = s.loop.lost) (hlive : s.live = some b) :
    (p.setTime b w).clock = s.clock.setTo w ∧ (p.setTime b w).timebase = s.timebase ∧ (p.setTime b w).own = s.own ∧
      (p.setTime b w).loop.responses = p.loop.responses := by
  cases hiv : s.accounts.interval with
  | none =>
    have k := State.setTime_none (b := b) (w := w) hp hiv
    exact ⟨k.clock, k.timebase, k.own, k.responses⟩
  | some iv =>
    by_cases h : s.ClosesAt iv w
    · obtain ⟨_, _, k⟩ := State.setTime_closes hp hlost hlive hiv h
      exact ⟨k.clock, k.timebase, k.own, k.responses⟩
    · have k := State.setTime_keeps (b := b) hp hiv h
      exact ⟨k.clock, k.timebase, k.own, k.responses⟩

end

/-! ## The response (Table 40) -/

theorem ClockCase.code_caseOf (c : Clock) (w : WallTime) : (c.caseOf w).code =
    if c.valid = false then 0 else if c.stepTo w = 0 then 1 else if (c.stepTo w).natAbs ≤ 300 then 2 else 3 := by
  unfold Clock.caseOf
  cases c.valid
  · rfl
  · by_cases h0 : c.stepTo w = 0
    · simp [h0, ClockCase.code]
    · by_cases h1 : (c.stepTo w).natAbs ≤ 300 <;> simp [h0, h1, ClockCase.code]

/-- Table 40: the data of an accepted SET CLOCK. -/
theorem Clock.setData_eq {c : Clock} (hok : c.Ok) {day sec : Nat} (hday : day ≤ 65535) (hsec : sec ≤ 86399)
    (hstep : (c.stepTo ⟨day, sec⟩).natAbs < 2 ^ 31) : c.setData ⟨day, sec⟩ =
      [if c.valid then 0 else 1] ++ bytesOf 2 c.day ++ bytesOf 3 c.sec ++ (bytesOf 2 day ++ bytesOf 3 sec) ++
        (if c.valid then 1 :: bytesOf 4 (c.stepTo ⟨day, sec⟩ % 2 ^ 32).toNat else [0, 0, 0, 0, 0]) ++
        [if c.valid = false then 0 else if c.stepTo ⟨day, sec⟩ = 0 then 1 else if (c.stepTo ⟨day, sec⟩).natAbs ≤ 300 then 2 else 3] := by
  obtain ⟨hcday, hcsec, -⟩ := hok
  have hcday : c.day < 256 ^ 2 := Nat.lt_of_le_of_lt hcday (by decide)
  have hcsec : c.sec < 256 ^ 3 := Nat.lt_of_le_of_lt hcsec (by decide)
  have hdays : day < 256 ^ 2 := Nat.lt_of_le_of_lt hday (by decide)
  have hsecs : sec < 256 ^ 3 := Nat.lt_of_le_of_lt hsec (by decide)
  unfold Clock.setData WallTime.bytes
  rw [putN_fits hcday, putN_fits hcsec, putN_fits hdays, putN_fits hsecs, ClockCase.code_caseOf]
  cases hv : c.valid with
  | false => rfl
  | true =>
    have signed : putS 4 (c.stepTo ⟨day, sec⟩) = bytesOf 4 (c.stepTo ⟨day, sec⟩ % 2 ^ 32).toNat := putS_four (by omega) (by omega)
    rw [if_pos rfl, putOpt, signed, apply_ite b8, apply_ite b8, apply_ite b8]
    rfl

/-! ## The response queue (R166) -/

theorem LoopPort.startThrough_responses (l : LoopPort) : l.startThrough.responses = l.responses := by
  unfold LoopPort.startThrough
  split <;> rfl

theorem LoopPort.enter_room (l : LoopPort) (f : LineFrame) (h : l.buffer.length < 8) : (l.enter f).responses = l.responses := by
  unfold LoopPort.enter
  rw [if_pos (show l.buffer.length < Config.bufferSize from h), LoopPort.startThrough_responses]

theorem LoopPort.enter_own {l : LoopPort} {o : OwnFrame} (f : LineFrame) (h : 8 ≤ l.buffer.length) (ho : l.tx = .own o) :
    (l.enter f).responses = (l.giveBack o).responses := by
  unfold LoopPort.enter
  rw [if_neg (show ¬l.buffer.length < Config.bufferSize from Nat.not_lt.2 h), ho]
  dsimp only
  rw [LoopPort.startThrough_responses, LoopPort.endWindow_eq]

theorem LoopPort.enter_kept {l : LoopPort} (f : LineFrame) (h : ∀ o, l.tx ≠ .own o) : (l.enter f).responses = l.responses := by
  unfold LoopPort.enter
  split
  · rw [LoopPort.startThrough_responses]
  · split
    · rfl
    · next o ho => exact absurd ho (h o)
    · rw [LoopPort.startThrough_responses]

end Sys2Proof.Machine

/-! # SET CLOCK: what it answers and leaves

SET CLOCK assembled (R138 to R140): the response queue that the frame leaves, the response, and the records of each case. -/

namespace Sys2Proof.Machine

variable {s p g t u : State} {b : Bank} {iv jv : OpenInterval} {w : WallTime} {ref : Byte} {f : YardFlags} {ct : WallTime}

/-! ## The response queue (R160, R161, R166) -/

/-- R161: an addressed SET CLOCK leaves the response queue, and so does a broadcast one that finds room in the through-buffer. -/
theorem State.heardClock_queue (broadcast : Bool) (ps : List Byte) (h : ¬(broadcast = true ∧ 8 ≤ s.loop.buffer.length)) :
    (s.heardClock broadcast ref ps).loop.responses = s.loop.responses := by
  cases broadcast with
  | false => rfl
  | true => exact LoopPort.enter_room _ _ (Nat.lt_of_not_le fun hle => h ⟨rfl, hle⟩)

/-- R160, R166: a response broken off by a broadcast SET CLOCK goes back to the queue. -/
theorem State.heardClock_full (ps : List Byte) (h : 8 ≤ s.loop.buffer.length) : (s.heardClock true ref ps).loop.responses =
    match s.loop.tx, s.loop.responses with
    | .own (.response x true), r :: rs => (x.body :: r) :: rs
    | .own (.response x _), rs => [x.body] :: rs
    | _, rs => rs := by
  cases htx : s.loop.tx with
  | idle => exact LoopPort.enter_kept _ fun o ho => Tx.noConfusion (htx.symm.trans ho)
  | through x => exact LoopPort.enter_kept _ fun o ho => Tx.noConfusion (htx.symm.trans ho)
  | own o =>
    refine (LoopPort.enter_own _ h htx).trans ?_
    unfold LoopPort.giveBack
    cases o with
    | command c x void => cases void <;> rfl
    | response x more => cases more <;> cases s.loop.responses <;> rfl
    | status x => rfl

theorem State.respond_refused (p : State) (code ref : Byte) (r : Reason) (data : List Byte) :
    (p.respond code ref (.refused r data)).loop.responses = p.loop.responses ++ [[[code, ref, b8 r.code, 1, 1] ++ data]] := by
  simp [State.respond, Reply.frames, responseBody, b8]

/-! ## The records that a close leaves (R136, R137) -/

/-- R139, R140: the record of the close and the interval opened at the new time. -/
theorem StepCloses.interval (k : StepCloses s p b iv w f ct t) (code : Byte) (reply : Reply) :
    let next : Bank := if s.tables.committed then s.tables.pending else b
    ∃ r jv, t.accounts.logs.log.getLast? = some r ∧ t.accounts.interval = some jv ∧ r.sequence = s.accounts.logs.lastSeq + 1 ∧
      s.Recorded b iv f r ∧ s.accounts.logs.DayKept t.accounts.logs r ∧ s.Opened (t.respond code ref reply) b next r f jv ∧
      r.identity = iv.identity ∧ r.closeTime = some ct ∧ jv.openTime = some w ∧
      jv.identity = (next.yard.place w).identity ∧ jv.nominalEnd = (next.yard.place w).nominalEnd := by
  obtain ⟨r, jv, accounts, recorded, opened, htime⟩ := k.record
  obtain ⟨hsequence, hidentity, -⟩ := recorded.taken
  have logs : t.accounts.logs = s.accounts.logs.enter r := by rw [accounts]
  have valid : t.clock.valid = true := by rw [k.clock]; rfl
  have wall : (⟨t.clock.day, t.clock.sec⟩ : WallTime) = w := by rw [k.clock]; rfl
  have openTime := opened.openTime
  have placed := opened.placed
  rw [if_pos valid, wall] at openTime
  rw [YardEntry.placeClock_valid valid, wall] at placed
  obtain ⟨identity, -, nominalEnd⟩ := placed
  refine ⟨r, jv, ?_, by rw [accounts], hsequence, recorded, ?_, opened.respond, hidentity, htime, openTime, identity, nominalEnd⟩
  · rw [logs, Logs.enter_getLast?]
  · rw [logs]
    exact Logs.enter_dayKept ..

/-- R136: a flag that a close sets is set in its record, and in the interval that it opens. -/
theorem State.Recorded.adjusted {r : IntervalRecord} (h : s.Recorded b iv { YardFlags.none with clockAdjusted := true } r) :
    r.yard.clockAdjusted = true := (congrArg YardFlags.clockAdjusted h.otherFlags).trans (Bool.or_true _)

theorem State.Recorded.stepped {r : IntervalRecord} (h : s.Recorded b iv { YardFlags.none with clockStep := true } r) :
    r.yard.clockStep = true := (congrArg YardFlags.clockStep h.otherFlags).trans (Bool.or_true _)

/-! ## What a SET CLOCK without a swap leaves of the yard -/

/-- R87, R138: what the Programme Unit makes of the new time. -/
theorem SameYard.programme {l : LoopPort} {c : Clock} (hp : p = { s with loop := l }) (h : SameYard (p.givenTime c).settled t) :
    let g := (p.givenTime c).settled
    t.prog = g.prog ∧ t.valves = g.valves ∧ t.attn = g.attn ∧ t.loop.commands = g.loop.commands ∧ t.perms = s.perms ∧
      t.districts = s.districts ∧ t.channels = s.channels ∧ t.points = s.points ∧ t.barometer = s.barometer ∧
      t.calorimeter = s.calorimeter := by
  have only := (p.givenTime c).settled_only
  have perms := (p.givenTime c).settled_steps.perms
  have frame : (p.givenTime c).perms = s.perms ∧ (p.givenTime c).districts = s.districts ∧ (p.givenTime c).channels = s.channels ∧
      (p.givenTime c).points = s.points ∧ (p.givenTime c).barometer = s.barometer ∧ (p.givenTime c).calorimeter = s.calorimeter := by
    subst hp
    exact ⟨rfl, rfl, rfl, rfl, rfl, rfl⟩
  obtain ⟨hperms, hdistricts, hchannels, hpoints, hbarometer, hcalorimeter⟩ := frame
  obtain ⟨a, hs, n, rfl⟩ := h
  exact ⟨rfl, rfl, rfl, rfl, perms.trans hperms, only.districts.trans hdistricts, only.channels.trans hchannels, only.points.trans hpoints,
    only.barometer.trans hbarometer, only.calorimeter.trans hcalorimeter⟩

/-- Settles O53: the frame, the refusals, and the step by whether it closes the open interval (`StepKeeps`, `StepCloses`). -/
theorem setClock : Obligations.SetClock := by
  intro s b broadcast ref day sec hon hlive hday
  dsimp only
  generalize hps : bytesOf 2 day ++ bytesOf 3 sec = ps
  generalize hq : (if broadcast = true ∧ 8 ≤ s.loop.buffer.length then
        match s.loop.tx, s.loop.responses with
        | .own (.response x true), r :: rs => (x.body :: r) :: rs
        | .own (.response x _), rs => [x.body] :: rs
        | _, rs => rs
      else s.loop.responses) = queue
  have hexec : exec (.setClock broadcast ref ps) s = .next ((s.heardClock broadcast ref ps).takeSetClock ref ps) :=
    exec_setClock hon broadcast (by rw [← hps]; simp [bytesOf_length])
  rw [show (if broadcast = true then s.passed 255 0 kindDirective (13 :: ref :: ps)
    else { s with loop := { s.loop with lineQuiet := false } }) = s.heardClock broadcast ref ps from rfl]
  have responses : (s.heardClock broadcast ref ps).loop.responses = queue := by
    rw [← hq]
    split
    · next h =>
      obtain ⟨rfl, hfull⟩ := h
      exact State.heardClock_full ps hfull
    · next h => exact State.heardClock_queue broadcast ps h
  have addressed (hb : broadcast = false) : s.heardClock broadcast ref ps = s.absorb := by
    subst hb
    rfl
  obtain ⟨l, hp, hlost⟩ := s.heardClock_loop broadcast ref ps
  generalize s.heardClock broadcast ref ps = p at *
  have frame : p.clock = s.clock ∧ p.accounts = s.accounts ∧ p.live = some b ∧ p.prog = s.prog ∧ p.loop.lost = s.loop.lost := by
    rw [hp]
    exact ⟨rfl, rfl, hlive, rfl, hlost⟩
  obtain ⟨hclock, haccounts, hplive, hprog, hplost⟩ := frame
  refine ⟨fun hfull => ?_, fun hb hroom hsec hbad => ?_, fun hroom hsec hbad => ?_, fun hroom hsec hgood => ?_⟩
  case refine_1 =>
    have overrun : p.takeSetClock ref ps = p.raise srcOverrun := p.directive_overrun 13 ref _ _ (responses ▸ hfull)
    rw [overrun] at hexec
    have base : SameBefore s p := by rw [hp]; exact ⟨rfl, rfl, rfl, rfl, rfl, rfl, hlost⟩
    exact ⟨_, hexec, (p.raise_clock _).trans hclock, (p.raise_only _).accounts.trans haccounts,
      (congrArg LoopPort.responses (p.raise_loop _)).trans responses, (p.raise_raised srcOverrun).congr base ⟨rfl, rfl, rfl, rfl⟩⟩
  all_goals rw [← hps, State.takeSetClock_acts (responses ▸ hroom) hday (by omega), hps] at hexec
  case refine_2 =>
    rw [hexec, State.actSetClock_refused hplive hbad, addressed hb]
    exact congrArg _ (s.absorb_refuse 13 ref .outOfRange [])
  case refine_3 =>
    rw [State.actSetClock_refused hplive hbad] at hexec
    refine ⟨_, hexec, hclock, haccounts, ?_⟩
    rw [State.respond_refused, responses]
    rfl
  case refine_4 =>
    rw [State.actSetClock_taken hplive (w := ⟨day, sec⟩) (by dsimp only; omega)] at hexec
    refine ⟨_, hexec, ?_⟩
    rw [show ((p.clockTo ⟨day, sec⟩).applyStep b p.clock ⟨day, sec⟩) = p.setTime b ⟨day, sec⟩ from rfl]
    clear hexec
    obtain ⟨tclock, ttime, town, tresponses⟩ := State.setTime_frame (b := b) (w := ⟨day, sec⟩) hp hlost hlive
    have keeps := fun iv hiv => State.setTime_keeps (b := b) (iv := iv) (w := ⟨day, sec⟩) hp hiv
    have closes := fun iv hiv => State.setTime_closes (b := b) (iv := iv) (w := ⟨day, sec⟩) hp hlost hlive hiv
    have invalid := fun iv hiv => State.setTime_invalid (b := b) (iv := iv) (w := ⟨day, sec⟩) hp hiv
    have zero := State.setTime_zero (b := b) (w := ⟨day, sec⟩) hp
    have within := fun iv hiv => State.setTime_within (b := b) (iv := iv) (w := ⟨day, sec⟩) hp hiv
    have past := fun iv hiv hv hs hle e he => State.setTime_past (b := b) (iv := iv) (w := ⟨day, sec⟩) hp hlost hlive hiv hv hs hle (e := e) he
    have step := fun iv hiv => State.setTime_step (b := b) (iv := iv) (w := ⟨day, sec⟩) hp hlost hlive hiv
    rw [hclock]
    generalize p.setTime b ⟨day, sec⟩ = t at *
    have clock : (t.respond 13 ref (one (s.clock.setData ⟨day, sec⟩))).clock = s.clock.setTo ⟨day, sec⟩ := tclock
    have given : { p with
        clock := (t.respond 13 ref (one (s.clock.setData ⟨day, sec⟩))).clock,
        prog := { s.prog with
          deferred := if Trigger.slot ∈ s.prog.deferred then s.prog.deferred else s.prog.deferred ++ [.slot] } } =
        p.givenTime (s.clock.setTo ⟨day, sec⟩) := by
      rw [clock, ← hprog]
      rfl
    rw [given]
    refine ⟨congrArg Clock.valid clock, congrArg Clock.day clock, congrArg Clock.sec clock, congrArg Clock.slot clock, ttime, town,
      ⟨_, ?_, fun hok hs => (Clock.setData_eq hok hday hsec hs).trans (by rw [hps]; rfl)⟩, fun hn hidle => p.givenTime_idle _ (hprog ▸ hn) (by rw [hplost, hprog]; exact hidle),
      fun iv hiv => ⟨fun hno => ?_, fun hkept => ?_, fun hc => ?_, fun hv => ?_, fun hv hs => ?_, fun hv hs hle hno => ?_,
        fun e hv hs hle he hpast => ?_, fun hv hlt => ?_⟩⟩
    case refine_1 => rw [State.respond_responses, tresponses, responses]
    case refine_2 =>
      have k := keeps iv hiv hno
      exact ⟨k.tables, k.holders, k.nv⟩
    case refine_3 =>
      have yard : SameYard (p.givenTime (s.clock.setTo ⟨day, sec⟩)).settled t := by
        by_cases hc : s.ClosesAt iv ⟨day, sec⟩
        · obtain ⟨_, _, k⟩ := closes iv hiv hc
          exact (k.kept (hkept.resolve_left fun h => h hc)).2
        · exact (keeps iv hiv hc).yard
      have programme := yard.programme hp
      exact programme
    case refine_4 =>
      obtain ⟨_, _, k⟩ := closes iv hiv hc
      refine ⟨k.live, k.committed, fun hno => (k.kept hno).1, fun hyes => ?_⟩
      obtain ⟨tables, reclassed, taken, waits, takenOver⟩ := k.swapped hyes
      rw [if_pos hyes]
      exact ⟨congrArg TableStore.store tables, reclassed.respond, congrArg TableStore.generation tables, taken.respond, fun _ hl => waits hl,
        fun ht hn hl => (takenOver ht hn hl).respond⟩
    case refine_5 =>
      rw [invalid iv hiv hv]
      exact ⟨rfl, rfl⟩
    case refine_6 =>
      rw [zero hv hs]
      rfl
    case refine_7 =>
      rw [within iv hiv hv hs hle hno]
      exact ⟨rfl, rfl⟩
    case refine_8 =>
      have k := past iv hiv hv hs hle e he hpast
      obtain ⟨r, jv, hlast, hinterval, hsequence, recorded, days, opened, hidentity, htime, hopen, placed⟩ := k.interval 13 (one _)
      exact ⟨r, jv, hlast, hinterval, hsequence, recorded, days, opened, hidentity, htime, recorded.adjusted,
        congrArg YardFlags.clockAdjusted opened.otherFlags, hopen, placed⟩
    case refine_9 =>
      have k := step iv hiv hv hlt
      obtain ⟨r, jv, hlast, hinterval, hsequence, recorded, days, opened, hidentity, htime, hopen, placed⟩ := k.interval 13 (one _)
      exact ⟨r, jv, hlast, hinterval, hsequence, recorded, days, opened, hidentity, htime, recorded.stepped,
        congrArg YardFlags.clockStep opened.otherFlags, hopen, placed⟩

end Sys2Proof.Machine

/-! # A yard started afresh

From valves at their initial values and a programme without roles, with no bank's worth of history behind them, only SHUT demands come: the
trips of the restored counts, and the shutting phase of the SLOT trigger. So a valve is initial, or its first operation shuts it, with its
SELECT of tag 1 in the queue where the loop is UP (R65, R75, R79, R85, R174). -/

namespace Sys2Proof.Machine

variable {s t u : State} {b : Bank} {h : Fin 4} {sd : Side} {q : Bool} {v : Fin 8} {o : Origin}

/-! ## The invariant -/

/-- R61, R75: a valve that its first SHUT demand, of origin `o`, has reached. -/
def ValveRec.shutBy (lost : Bool) (o : Origin) (j : Bool) : ValveRec :=
  if lost then { ValveRec.initial with state := .shutting, demand := some ⟨.toShut, o⟩, joined := j }
  else ValveRec.initial.starting ⟨.toShut, o⟩ j

/-- A valve that is initial, with no command in the queue, or that is in its first operation, with its SELECT in the queue but under
LOOP_LOST; `q` says that the programme may have a part in it. -/
def State.FreshValve (s : State) (b : Bank) (q : Bool) (v : Fin 8) : Prop :=
  (s.valves[v] = ValveRec.initial ∧ ∀ c ∈ s.loop.commands, c.isValve v = false) ∨
  ∃ o j, b.fitted (holderOf v) = true ∧ (j = true → q = true) ∧ s.valves[v] = .shutBy s.loop.lost o j ∧
    ∀ c : Command, c.isValve v = true → (c ∈ s.loop.commands ↔ s.loop.lost = false ∧ c = .valve v false .toShut 1 (o == .trip))

/-- A role that is not held, with no mark. -/
def RoleRec.Unmarked (r : RoleRec) : Prop := r.held = false ∧ r.retake = false ∧ r.lowMark = false ∧ r.highMark = false

/-- A programme that holds nothing but SLOT triggers. -/
structure Programme.Fresh (p : Programme) (b : Bank) : Prop where
  notices : p.notices = []
  roles : ∀ h : Fin 4, p.roles[h].Unmarked
  deferred : ∀ x ∈ p.deferred, x = .slot
  transition : ∀ tr, p.transition = some tr → tr.trigger = .slot ∧ ∀ x ∈ tr.shuts, b.fitted (holderOf x.valve) = true

structure State.Fresh (s : State) (b : Bank) (q : Bool) : Prop where
  valve : ∀ v, s.FreshValve b q v
  commands : ∀ c ∈ s.loop.commands, ∃ v, c.isValve v = true
  prog : s.prog.Fresh b

theorem Command.isValve_eq {c : Command} (hc : c.isValve v = true) : ∃ p d x r, c = .valve v p d x r := by
  cases c with
  | valve w p d x r => exact ⟨p, d, x, r, by rw [of_decide_eq_true hc]⟩
  | set => exact nomatch hc

/-! ## SHUT demands (R61, R62) -/

theorem LoopPort.placeValve_own (l : LoopPort) (d : Dir) (x : Byte) (r : Bool) {c : Command} (hc : c.isValve v = true) :
    c ∈ (l.placeValve v false d x r).commands ↔ c = .valve v false d x r := by
  simp [LoopPort.placeValve, hc]

/-- A SHUT demand at a valve at its initial values starts its first operation. -/
theorem State.offered_initial (hv : s.valves[v] = ValveRec.initial) (o : Origin) :
    s.offered v ⟨.toShut, o⟩ = s.begun v ValveRec.initial ⟨.toShut, o⟩ (o == .programme) := by
  rw [State.offered_started (d := ⟨.toShut, o⟩) nofun (by rw [hv]; rfl), hv]

theorem State.FreshValve.of_begun (hf : b.fitted (holderOf v) = true) {j : Bool} (hj : j = true → q = true)
    (hno : ∀ c ∈ s.loop.commands, c.isValve v = false) : (s.begun v ValveRec.initial ⟨.toShut, o⟩ j).FreshValve b q v := by
  refine .inr ⟨o, j, hf, hj, ?_⟩
  unfold ValveRec.shutBy
  cases hl : s.loop.lost with
  | true =>
    rw [State.begun_lost hl]
    refine ⟨(upd_at ..).trans (if_pos hl).symm, fun c hc => ⟨fun hm => ?_, fun hm => ?_⟩⟩
    · exact Bool.noConfusion ((hno c hm).symm.trans hc)
    · exact Bool.noConfusion (hl.symm.trans hm.1)
  | false =>
    rw [State.begun_up hl]
    have lost : (s.loop.placeValve v false .toShut (ValveRec.initial.tag + 1) (o == .trip)).lost = false := hl
    refine ⟨(upd_at ..).trans (if_neg fun h => Bool.noConfusion (lost.symm.trans h)).symm, fun c hc => (LoopPort.placeValve_own _ _ _ _ hc).trans ?_⟩
    exact ⟨fun e => ⟨lost, e⟩, fun e => e.2⟩

/-- R62: the origin of an operation that a demand of its direction joins. -/
theorem State.joinOperation_fresh (hf : b.fitted (holderOf v) = true) {j : Bool} (hj : j = true → q = true) {old : Origin}
    (hv : s.valves[v] = .shutBy s.loop.lost old j)
    (hc : ∀ c : Command, c.isValve v = true → (c ∈ s.loop.commands ↔ s.loop.lost = false ∧ c = .valve v false .toShut 1 (old == .trip)))
    (hq : o = .programme → q = true) : (s.joinOperation v ⟨.toShut, old⟩ ⟨.toShut, o⟩).FreshValve b q v := by
  have promoted (c : Command) (h : c.isValve v = true) : c ∈ (s.loop.promote v).commands ↔
      s.loop.lost = false ∧ c = .valve v false .toShut 1 true := by
    rw [LoopPort.promote_commands, List.mem_map]
    constructor
    · rintro ⟨a, ha, rfl⟩
      rw [Command.promoted_isValve] at h
      obtain ⟨hl, rfl⟩ := (hc a h).1 ha
      exact ⟨hl, by simp [Command.promoted]⟩
    · rintro ⟨hl, rfl⟩
      exact ⟨_, (hc (.valve v false .toShut 1 (old == .trip)) h).2 ⟨hl, rfl⟩, by simp [Command.promoted]⟩
  have record (n : Origin) : { s.valves[v] with demand := some ⟨.toShut, n⟩, joined := s.valves[v].joined || o == .programme } =
      ValveRec.shutBy s.loop.lost n (j || o == .programme) := by
    rw [hv]
    unfold ValveRec.shutBy
    cases s.loop.lost <;> rfl
  have joined (h : (j || o == .programme) = true) : q = true := by
    rcases Bool.or_eq_true_iff.1 h with h | h
    · exact hj h
    · exact hq (by simpa using h)
  unfold State.joinOperation
  dsimp only
  cases hup : decide (old.rank < o.rank) with
  | false =>
    simp only [Bool.false_and, Bool.false_eq_true, ↓reduceIte]
    exact .inr ⟨old, _, hf, joined, (upd_at ..).trans (record old), hc⟩
  | true =>
    simp only [Bool.true_and, ↓reduceIte]
    split
    · next ht =>
      obtain rfl : o = .trip := by simpa using ht
      exact .inr ⟨.trip, _, hf, joined, (upd_at ..).trans (record .trip), promoted⟩
    · next ht =>
      have hne : (o == .trip) = false := Bool.eq_false_iff.2 ht
      have hold : (old == .trip) = false := by
        cases old
        · cases o <;> exact nomatch hup
        · rfl
        · rfl
      refine .inr ⟨o, _, hf, joined, (upd_at ..).trans (record o), fun c h => (hc c h).trans ?_⟩
      rw [hne, hold]
      exact Iff.rfl

theorem State.offered_shutBy {lost j : Bool} {old : Origin} (hv : s.valves[v] = .shutBy lost old j) (o : Origin) :
    s.offered v ⟨.toShut, o⟩ = s.joinOperation v ⟨.toShut, old⟩ ⟨.toShut, o⟩ := by
  have record : s.valves[v].state = .shutting ∧ s.valves[v].demand = some ⟨.toShut, old⟩ := by
    rw [hv]
    unfold ValveRec.shutBy
    cases lost <;> exact ⟨rfl, rfl⟩
  unfold State.offered
  rw [State.offer_inFlight (d := ⟨.toShut, o⟩) nofun (by rw [record.1]; rfl) record.2]
  unfold State.offerInFlight
  rw [if_pos rfl]

theorem State.joinOperation_prog (s : State) (v : Fin 8) (old d : Demand) : (s.joinOperation v old d).prog = s.prog := by
  unfold State.joinOperation
  dsimp only
  split <;> rfl

theorem State.begun_prog (s : State) (v : Fin 8) (r : ValveRec) (d : Demand) (j : Bool) : (s.begun v r d j).prog = s.prog := by
  unfold State.begun
  split <;> rfl

namespace State.Fresh

/-- R61, R62: a SHUT demand of a fitted holder's valve. -/
theorem offered (k : s.Fresh b q) (hf : b.fitted (holderOf v) = true) (hq : o = .programme → q = true) :
    (s.offered v ⟨.toShut, o⟩).Fresh b q := by
  have frame := s.offered_atValve v ⟨.toShut, o⟩
  have lost : (s.offered v ⟨.toShut, o⟩).loop.lost = s.loop.lost := (s.offered_only v _).loop.lost
  have own : (s.offered v ⟨.toShut, o⟩).FreshValve b q v ∧ (s.offered v ⟨.toShut, o⟩).prog = s.prog := by
    rcases k.valve v with ⟨hv, hno⟩ | ⟨old, j, -, hj, hv, hc⟩
    · rw [State.offered_initial hv]
      exact ⟨.of_begun hf (fun hp => hq (by simpa using hp)) hno, State.begun_prog ..⟩
    · rw [State.offered_shutBy hv]
      exact ⟨State.joinOperation_fresh hf hj hv hc hq, State.joinOperation_prog ..⟩
  obtain ⟨own, prog⟩ := own
  refine ⟨fun w => ?_, fun c hc => ?_, by rw [prog]; exact k.prog⟩
  · by_cases hw : w = v
    · rw [hw]
      exact own
    · have other {c : Command} (hc : c.isValve w = true) : c.isValve v = false := Command.isValve_other hc (Ne.symm hw)
      unfold State.FreshValve
      rw [frame.valves w hw, lost]
      refine (k.valve w).imp (fun ⟨hv, hno⟩ => ⟨hv, fun c hc => ?_⟩) fun ⟨o, j, hf, hj, hv, hc⟩ =>
        ⟨o, j, hf, hj, hv, fun c h => (frame.commands c (other h)).trans (hc c h)⟩
      cases hx : c.isValve w with
      | false => rfl
      | true => exact hx.symm.trans (hno c ((frame.commands c (other hx)).1 hc))
  · cases hx : c.isValve v with
    | true => exact ⟨v, hx⟩
    | false => exact k.commands c ((frame.commands c hx).1 hc)

/-- A state with the same valves and commands. -/
theorem of_same (k : s.Fresh b q) (hv : t.valves = s.valves) (hl : t.loop = s.loop) (hp : t.prog.Fresh b) : t.Fresh b q := by
  refine ⟨fun v => ?_, fun c hc => k.commands c (hl ▸ hc), hp⟩
  unfold State.FreshValve
  rw [hv, hl]
  exact k.valve v

theorem records (k : s.Fresh b q) {p : Programme} (hp : p.Fresh b) : State.Fresh { s with prog := p } b q := k.of_same rfl rfl hp

theorem raise (k : s.Fresh b q) (x : Fin 74) : (s.raise x).Fresh b q :=
  k.of_same (s.raise_valves x) (s.raise_loop x) (by rw [s.raise_prog x]; exact k.prog)

/-- R78: a trip. -/
theorem withdraw (k : s.Fresh b q) (hf : b.fitted h = true) (c : PermCause) (n : Nat) : (s.withdraw h sd c n).Fresh b q := by
  cases hg : s.perms[valveOf h sd].granted with
  | false => rw [State.withdraw_withdrawn hg]; exact k
  | true =>
    rw [State.withdraw_granted hg]
    have set : State.Fresh (s.setPerm (valveOf h sd) ⟨false, some c, some n, some s.timebase⟩) b q := k.of_same rfl rfl k.prog
    exact (set.offered (v := valveOf h sd) (o := .trip) (by rw [holderOf_valveOf]; exact hf) nofun).raise _

theorem evaluateTrips (k : s.Fresh b q) (hf : b.fitted h = true) (e : HolderEntry) (lo hi : Nat) : (s.evaluateTrips e h lo hi).Fresh b q := by
  unfold State.evaluateTrips
  dsimp only
  have low : State.Fresh (if lo ≤ e.lowStop then s.withdraw h .outlet .lowStop lo else s) b q := by
    split
    · exact k.withdraw hf _ _
    · exact k
  split
  · exact low.withdraw hf _ _
  · exact low

end State.Fresh

end Sys2Proof.Machine

/-! # A yard started afresh: the programme

The changes of the restored counts, and the SLOT trigger, as a fresh programme takes them (R79, R90, R92, R97). -/

namespace Sys2Proof.Machine

variable {s t u : State} {b : Bank} {h : Fin 4} {sd : Side} {q : Bool} {v : Fin 8} {p : Programme}

/-! ## The records of the programme -/

theorem Programme.Fresh.mapRole (k : p.Fresh b) (h : Fin 4) {f : RoleRec → RoleRec} (hf : ∀ r, r.Unmarked → (f r).Unmarked) :
    Programme.Fresh { p with roles := upd p.roles h (f p.roles[h]) } b := by
  refine { k with roles := fun j => ?_ }
  by_cases hj : h = j
  · subst hj
    have self : (upd p.roles h (f p.roles[h]))[h] = f p.roles[h] := upd_at ..
    rw [self]
    exact hf _ (k.roles h)
  · have other : (upd p.roles h (f p.roles[h]))[j] = p.roles[j] := upd_other _ _ _ _ hj
    rw [other]
    exact k.roles j

theorem Programme.Fresh.setTransition (k : p.Fresh b) {tr : Option Transition}
    (ht : ∀ x, tr = some x → x.trigger = .slot ∧ ∀ y ∈ x.shuts, b.fitted (holderOf y.valve) = true) :
    Programme.Fresh { p with transition := tr } b := { k with transition := ht }

theorem RoleRec.Unmarked.setMark {r : RoleRec} (k : r.Unmarked) (sd : Side) : (r.setMark sd false).Unmarked := by
  obtain ⟨h1, h2, h3, h4⟩ := k
  cases sd
  · exact ⟨h1, h2, h3, rfl⟩
  · exact ⟨h1, h2, rfl, h4⟩

namespace State.Fresh

theorem mapRole (k : s.Fresh b q) (h : Fin 4) {f : RoleRec → RoleRec} (hf : ∀ r, r.Unmarked → (f r).Unmarked) : (s.mapRole h f).Fresh b q :=
  k.records (k.prog.mapRole h hf)

theorem setTransition (k : s.Fresh b q) {tr : Option Transition}
    (ht : ∀ x, tr = some x → x.trigger = .slot ∧ ∀ y ∈ x.shuts, b.fitted (holderOf y.valve) = true) : (s.setTransition tr).Fresh b q :=
  k.records (k.prog.setTransition ht)

theorem forEach {n : Nat} {f : Fin n → State → State} (hf : ∀ i (s : State), s.Fresh b q → (f i s).Fresh b q) (k : s.Fresh b q) :
    (Machine.forEach f s).Fresh b q :=
  forEach_keeps (fun s t => State.Fresh s b q → State.Fresh t b q) (fun _ => id) (fun h k => k ∘ h) f hf s k

theorem valve_state (k : s.Fresh b q) (v : Fin 8) : s.valves[v].state = .unknown ∨ s.valves[v].state = .shutting := by
  rcases k.valve v with ⟨hv, -⟩ | ⟨o, j, -, -, hv, -⟩
  · exact .inl (by rw [hv]; rfl)
  · right
    rw [hv]
    unfold ValveRec.shutBy
    cases s.loop.lost <;> rfl

theorem enterSlot (k : s.Fresh b q) : (s.enterTrigger .slot).Fresh b q := by
  rw [State.enterTrigger_eq]
  refine k.records { k.prog with deferred := fun x hx => ?_ }
  dsimp only at hx
  split at hx
  · exact k.prog.deferred x hx
  · rcases List.mem_append.1 hx with hx | hx
    · exact k.prog.deferred x hx
    · exact List.mem_singleton.1 hx

/-! ## The SLOT trigger (R92, R97 to R99) -/

theorem endTransition (k : s.Fresh b q) {tr : Transition} (ht : tr.trigger = .slot) : (s.endTransition tr).Fresh b q := by
  unfold State.endTransition
  rw [ht]
  exact forEach (fun h s ks => ks.mapRole h fun r hr => ⟨hr.1, hr.2.1, rfl, rfl⟩) (k.setTransition nofun)

theorem settleShutting (k : s.Fresh b q) : s.settleShutting.Fresh b q := by
  unfold State.settleShutting
  split
  · next tr htr =>
    split
    · exact k.endTransition (k.prog.transition tr htr).1
    · exact k
  · exact k

theorem markShut {tr : Transition} (v : Fin 8) (x y : ShutState)
    (k : tr.trigger = .slot ∧ ∀ e ∈ tr.shuts, b.fitted (holderOf e.valve) = true) :
    (tr.markShut v x y).trigger = .slot ∧ ∀ e ∈ (tr.markShut v x y).shuts, b.fitted (holderOf e.valve) = true := by
  refine ⟨k.1, fun e he => ?_⟩
  obtain ⟨z, hz, rfl⟩ := List.mem_map.1 he
  split <;> exact k.2 z hz

/-- R98: a shut demand taken; no valve is OPEN, so none is withheld. -/
theorem takeShut (k : s.Fresh b true) (v : Fin 8) : (s.takeShut b v).Fresh b true := by
  unfold State.takeShut
  split
  · exact k
  · next tr htr =>
    have ktr := k.prog.transition tr htr
    split
    · next hw =>
      obtain ⟨x, hx, hxv⟩ := List.any_eq_true.1 hw
      have hv : x.valve = v := of_decide_eq_true (Bool.and_eq_true_iff.1 hxv).1
      split
      · next ho =>
        rcases k.valve_state v with h | h
        · exact nomatch h.symm.trans ho.1
        · exact nomatch h.symm.trans ho.1
      · refine offered (k.setTransition ?_) (hv ▸ ktr.2 x hx) fun _ => rfl
        rintro _ ⟨rfl⟩
        exact markShut v _ _ ktr
    · exact k

theorem setRoles (k : s.Fresh b q) (f : Fin 4 → Bool) (entries : List TargetEntry) :
    (entries.foldl (fun s e => if f e.holder then s else s.mapRole e.holder fun r => { r with role := e.target }) s).Fresh b q := by
  induction entries generalizing s with
  | nil => exact k
  | cons e es ih =>
    refine ih ?_
    dsimp only
    split
    · exact k
    · exact k.mapRole e.holder fun r hr => hr

theorem finishOpening (k : s.Fresh b true) {tr : Transition}
    (ht : tr.trigger = .slot ∧ ∀ x ∈ tr.shuts, b.fitted (holderOf x.valve) = true) : (s.finishOpening b tr).Fresh b true := by
  unfold State.finishOpening
  rw [ht.1]
  refine settleShutting (forEach (fun v s ks => ks.takeShut v) ((k.setRoles (tr.failedHolder ·) tr.entries).setTransition ?_))
  rintro _ ⟨rfl⟩
  refine ⟨rfl, fun x hx => ?_⟩
  obtain ⟨y, hy, rfl⟩ := List.mem_map.1 hx
  split <;> exact ht.2 y hy

theorem settleOpening (k : s.Fresh b true) : (s.settleOpening b).Fresh b true := by
  unfold State.settleOpening
  split
  · next tr htr =>
    split
    · exact k.finishOpening (k.prog.transition tr htr)
    · exact k
  · exact k

theorem clearRetakes (k : s.Fresh b q) : (s.clearRetakes b).Fresh b q :=
  forEach (fun h s ks => by
    split
    · exact ks.mapRole h fun r hr => ⟨hr.1, rfl, hr.2.2.1, hr.2.2.2⟩
    · exact ks) k

/-- R92: with every valve UNKNOWN or shutting, the SLOT trigger has nothing to open. -/
theorem slotTransition_opens (k : s.Fresh b q) (slot : Nat) : (s.slotTransition b .slot slot).opens = [] := by
  refine List.eq_nil_iff_forall_not_mem.2 fun o ho => ?_
  have ready := (State.slotTransition_ready (s.slotTransition_is b .slot slot) ho).1
  rcases k.valve_state o.valve with h | h
  · exact nomatch h.symm.trans ready
  · exact nomatch h.symm.trans ready

theorem slotTransition_fitted (s : State) (b : Bank) (slot : Nat) :
    ∀ x ∈ (s.slotTransition b .slot slot).shuts, b.fitted (holderOf x.valve) = true := by
  intro x hx
  obtain ⟨h, hx⟩ := (State.mem_parts (f := fun p => p.2.2)).1 hx
  obtain ⟨-, -, -, r, takes, -⟩ := State.mem_holderPart_shuts.1 hx
  exact takes.1

theorem buildSlot (k : s.Fresh b true) : (s.buildSlot b .slot).Fresh b true := by
  unfold State.buildSlot
  split
  · exact k
  · next sl hsl =>
    have opens := k.slotTransition_opens sl.slot
    have fitted := slotTransition_fitted s b sl.slot
    have start : State.Fresh ((s.clearRetakes b).setTransition (some (s.slotTransition b .slot sl.slot))) b true := by
      refine k.clearRetakes.setTransition ?_
      rintro _ ⟨rfl⟩
      exact ⟨rfl, fitted⟩
    refine settleOpening (?_ : State.Fresh (List.foldl (fun s (o : OpenEntry) => s.offerOpen o.valve)
      ((s.clearRetakes b).setTransition (some (s.slotTransition b .slot sl.slot))) (s.slotTransition b .slot sl.slot).opens) b true)
    rw [opens]
    exact start

/-- R90: a fresh programme takes only its SLOT trigger. -/
theorem settle (n : Nat) (k : s.Fresh b true) (hl : s.live = some b) : (s.settle n).Fresh b true := by
  induction n generalizing s with
  | zero => exact k
  | succ n ih =>
    by_cases hi : s.prog.deferred = [] ∨ s.mayTake = false
    · rw [State.settle_idle ⟨k.prog.notices, hi⟩]
      exact k
    · have hm : s.mayTake = true := by simpa using fun h => hi (.inr h)
      cases hd : s.prog.deferred with
      | nil => exact absurd (.inl hd) hi
      | cons x xs =>
        obtain rfl : x = .slot := k.prog.deferred x (hd ▸ .head _)
        rw [State.settle_trigger hl k.prog.notices hm hd]
        have rest : State.Fresh { s with prog := { s.prog with deferred := xs } } b true :=
          k.records { k.prog with deferred := fun y hy => k.prog.deferred y (hd ▸ .tail _ hy) }
        refine ih (State.Fresh.buildSlot rest) ?_
        exact (congrArg TableStore.live (State.buildTrigger_steps _ b .slot).onlyValves.tables).trans hl

theorem settled (k : s.Fresh b true) (hl : s.live = some b) : s.settled.Fresh b true := k.settle _ hl

/-- A fresh programme that stands still has nothing to settle. -/
theorem settled_still (k : s.Fresh b q) (hs : s.Still) : s.settled = s := State.settled_idle _ ⟨k.prog.notices, hs.2.symm⟩

end State.Fresh

/-! ## A change of an UNCERTAIN holder (R3, R78, R88) -/

theorem State.markSide_fresh (hc : s.holders[h].certain = false) (k : s.prog.Fresh b) (e : HolderEntry) (sd : Side) (lo hi : Nat) :
    ∃ p, s.markSide e h sd lo hi = { s with prog := p } ∧ p.Fresh b := by
  have cleared (c : Bool) : ∃ p, (if c then s.mapRole h fun p => p.setMark sd false else s) = { s with prog := p } ∧ p.Fresh b := by
    cases c with
    | false => exact ⟨_, rfl, k⟩
    | true => exact ⟨_, rfl, k.mapRole h fun r hr => hr.setMark sd⟩
  unfold State.markSide
  dsimp only
  simp only [hc, Bool.false_and, Bool.false_eq_true, ↓reduceIte]
  exact cleared _

/-- A change of an UNCERTAIN holder trips its stops, and changes marks alone beside. -/
theorem State.holderChange_fresh (k : s.Fresh b q) (hf : b.fitted h = true) (hs : s.Still) (hc : s.holders[h].certain = false) (lo hi : Nat) :
    ∃ p f, s.holderChange b h lo hi = State.yardFlag { s.evaluateTrips b.holders[h] h lo hi with prog := p } f ∧ p.Fresh b := by
  have ka := k.evaluateTrips hf b.holders[h] lo hi
  have trips : Stilled (fun k _ => k = h) s (s.evaluateTrips b.holders[h] h lo hi) :=
    s.evaluateTrips_still _ lo hi (fun _ => rfl) fun _ => rfl
  have certain {a : State} (l : Stilled (fun k _ => k = h) s a) : a.holders[h].certain = false := by rw [l.only.holders]; exact hc
  rw [State.holderChange_split]
  unfold State.afterTrips
  dsimp only
  generalize s.evaluateTrips b.holders[h] h lo hi = a at *
  rw [ka.settled_still (trips.still hs)]
  have k2 := trips.trans (State.markSide_still (certain trips) b.holders[h] .outlet lo hi)
  obtain ⟨p2, h2, f2⟩ := State.markSide_fresh (certain trips) ka.prog b.holders[h] .outlet lo hi
  rw [h2] at k2 ⊢
  have k3 := k2.trans (State.markSide_still (certain k2) b.holders[h] .inlet lo hi)
  obtain ⟨p3, h3, f3⟩ := State.markSide_fresh (certain k2) f2 b.holders[h] .inlet lo hi
  rw [h3] at k3 ⊢
  rw [State.giveUp_none (k3.still hs).1, State.Fresh.settled_still (b := b) (q := q) ((ka.records f2).records f3) (k3.still hs)]
  refine ⟨p3, _, if_neg ?_, f3⟩
  rw [certain k3]
  nofun

end Sys2Proof.Machine

/-! # A yard started afresh: what the start leaves

The taking of the live bank from initial records (R21, R77, R79, R143, R174): the trips of the restored counts, and the SLOT trigger. -/

namespace Sys2Proof.Machine

variable {s t u : State} {b : Bank} {h : Fin 4} {sd : Side} {q : Bool} {v : Fin 8}

/-! ## The state from which the start begins -/

/-- R60, R77, R85: a state whose valves, permissions, programme and commands are at their initial values, with every holder UNCERTAIN. -/
structure State.Afresh (s : State) : Prop where
  valves : ∀ v : Fin 8, s.valves[v] = ValveRec.initial
  perms : ∀ v : Fin 8, s.perms[v] = PermRec.initial
  prog : s.prog = Programme.initial
  commands : s.loop.commands = []
  uncertain : ∀ h : Fin 4, s.holders[h].certain = false

theorem State.Afresh.broughtTo (k : s.Afresh) (b : Bank) (first : Bool) : (s.broughtTo b first).Afresh := by
  obtain ⟨holders, perms, -, rest⟩ := s.broughtTo_brought b first
  generalize s.broughtTo b first = u at *
  have frame : u.valves = s.valves ∧ u.prog = s.prog ∧ u.loop = s.loop := by
    rw [rest]
    exact ⟨rfl, rfl, rfl⟩
  obtain ⟨hvalves, hprog, hloop⟩ := frame
  refine ⟨fun v => by rw [hvalves]; exact k.valves v, fun v => ?_, hprog.trans k.prog, by rw [hloop]; exact k.commands, fun h => ?_⟩
  · rw [perms]
    split
    · rfl
    · exact k.perms v
  · rw [holders]
    split
    · rw [(HolderRec.bring_eq b h s.holders[h] s.timebase).2.1]
      exact k.uncertain h
    · exact k.uncertain h

theorem Programme.initial_role (h : Fin 4) : Programme.initial.roles[h] = RoleRec.initial := by
  simp [Programme.initial]

theorem Programme.initial_fresh (b : Bank) : Programme.initial.Fresh b :=
  ⟨rfl, fun h => by rw [Programme.initial_role]; exact ⟨rfl, rfl, rfl, rfl⟩, nofun, nofun⟩

theorem State.Afresh.fresh (k : s.Afresh) (b : Bank) (q : Bool) : s.Fresh b q := by
  refine ⟨fun v => .inl ⟨k.valves v, fun c hc => ?_⟩, fun c hc => ?_, by rw [k.prog]; exact Programme.initial_fresh b⟩
  · rw [k.commands] at hc
    exact nomatch hc
  · rw [k.commands] at hc
    exact nomatch hc

theorem State.Afresh.still (k : s.Afresh) : s.Still := by
  unfold State.Still
  rw [k.prog]
  exact ⟨rfl, .inr rfl⟩

/-! ## The changes of the restored counts (R21, R79) -/

theorem State.evaluateTrips_side (s : State) (e : HolderEntry) (h : Fin 4) (lo hi : Nat) (sd : Side) :
    s.NotRaised (s.evaluateTrips e h lo hi) sd.source := by
  have trip (s : State) (x : Side) (c : PermCause) (n : Nat) : s.NotRaised (s.withdraw h x c n) sd.source :=
    s.withdraw_notRaised h x c n (source_ne_tripSource sd h x)
  unfold State.evaluateTrips
  dsimp only
  have low : s.NotRaised (if lo ≤ e.lowStop then s.withdraw h .outlet .lowStop lo else s) sd.source := by
    split
    · exact trip _ _ _ _
    · exact .refl s _
  split
  · exact low.trans (trip _ _ _ _)
  · exact low

/-- What the changes of the restored counts leave of a fresh yard. -/
structure Restarting (b : Bank) (q : Bool) (s t : State) : Prop where
  fresh : t.Fresh b q
  stilled : Stilled (RestoredTrips b s.holders) s t
  notRaised : ∀ sd : Side, s.NotRaised t sd.source

theorem State.restoredChange_restarting (hs : s.Still) (hc : s.holders[h].certain = false) (k : Restarting b q s t) :
    Restarting b q s (State.restoredChange b h t) := by
  have holders := k.stilled.only.holders
  have certain : t.holders[h].certain = false := by rw [holders]; exact hc
  have still := k.stilled.still hs
  unfold State.restoredChange
  split
  · next hf =>
    have stilled := State.holderChange_still (p := RestoredTrips b s.holders) (b := b) still certain t.holders[h].count t.holders[h].count
      (fun hlo => ⟨hf, Bank.meetsStop_outlet.2 (holders ▸ hlo)⟩) fun hhi => ⟨hf, Bank.meetsStop_inlet.2 (holders ▸ hhi)⟩
    obtain ⟨p, f, he, hp⟩ := State.holderChange_fresh k.fresh hf still certain t.holders[h].count t.holders[h].count
    refine ⟨?_, k.stilled.trans stilled, fun sd => (k.notRaised sd).trans ?_⟩
    · rw [he]
      exact (k.fresh.evaluateTrips hf b.holders[h] _ _).of_same rfl rfl hp
    · rw [he]
      exact (t.evaluateTrips_side b.holders[h] h t.holders[h].count t.holders[h].count sd).trans (.of_items rfl _)
  · exact k

theorem State.restoredChanges_restarting (k : s.Fresh b q) (hs : s.Still) (hc : ∀ h : Fin 4, s.holders[h].certain = false) :
    Restarting b q s (s.restoredChanges b) :=
  foldl_inv (inv := Restarting b q s) (l := List.finRange 4) (f := State.restoredChange b)
    (fun h _ _ k => State.restoredChange_restarting hs (hc h) k) ⟨k, .refl s, fun _ => .refl s _⟩

/-! ## The SLOT trigger (R85, R90) -/

/-- R79, R85: a start that may take the SLOT trigger, or not. -/
theorem State.Afresh.takeLive (k : s.Afresh) (hl : s.live = some b) (first : Bool) : (s.takeLive b first).Fresh b true := by
  have start := k.broughtTo b first
  have changes := State.restoredChanges_restarting (start.fresh b true) start.still start.uncertain
  have live : (s.broughtTo b first).live = some b := by
    have rest := (s.broughtTo_brought b first).rest
    rw [rest]
    exact hl
  rw [State.takeLive_eq]
  refine changes.fresh.enterSlot.settled ?_
  exact (congrArg TableStore.live (State.enterTrigger_only ..).tables).trans (changes.stilled.only.live.trans live)

/-- What a start that may not take the SLOT trigger leaves: the sides that are not tripped at their initial values. -/
structure Started.Still (b : Bank) (u t : State) : Prop where
  fresh : t.Fresh b false
  valves : ∀ v : Fin 8, ¬RestoredTrips b u.holders (holderOf v) (sideOf v) → t.valves[v] = ValveRec.initial
  commands : ∀ (v : Fin 8) (c : Command), ¬RestoredTrips b u.holders (holderOf v) (sideOf v) → c.isValve v = true → c ∉ t.loop.commands
  role : ∀ h : Fin 4, t.prog.roles[h].role = none
  transition : t.prog.transition = none
  deferred : t.prog.deferred = [.slot]
  notRaised : ∀ sd : Side, u.NotRaised t sd.source

/-- R90: with the clock INVALID, or under LOOP_LOST, the SLOT trigger waits. -/
theorem State.Afresh.takeLive_still (k : s.Afresh) (b : Bank) (first : Bool) (hs : s.clock.valid = false ∨ s.loop.lost = true) :
    Started.Still b (s.broughtTo b first) (s.takeLive b first) := by
  have start := k.broughtTo b first
  have changes := State.restoredChanges_restarting (start.fresh b false) start.still start.uncertain
  have rest := (s.broughtTo_brought b first).rest
  rw [State.takeLive_eq]
  generalize s.broughtTo b first = u at *
  generalize u.restoredChanges b = a at *
  have only := changes.stilled.only
  have deferred : a.prog.deferred = [] := changes.stilled.deferred.trans (by rw [start.prog]; rfl)
  have transition : a.prog.transition = none := changes.stilled.transition.trans (by rw [start.prog]; rfl)
  have clock : a.clock = s.clock := only.clock.trans (by rw [rest])
  have lost : a.loop.lost = s.loop.lost := only.loop.lost.trans (by rw [rest])
  have enter : a.enterTrigger .slot = { a with prog := { a.prog with deferred := [.slot] } } := by
    rw [State.enterTrigger_eq, deferred]
    rfl
  have idle : (a.enterTrigger .slot).settled = a.enterTrigger .slot := by
    rw [enter]
    refine State.settled_idle _ ⟨changes.fresh.prog.notices, .inr ?_⟩
    unfold State.mayTake
    dsimp only
    rw [clock, lost]
    rcases hs with h | h
    · rw [h, Bool.and_false, Bool.false_and]
    · rw [h]
      exact Bool.and_false _
  have fresh := changes.fresh.enterSlot
  obtain ⟨-, stilled, notRaised⟩ := changes
  rw [idle]
  rw [enter] at fresh ⊢
  refine ⟨fresh, fun v hv => (stilled.valves v hv).trans (start.valves v), fun v c hv hc hm => ?_, fun h => (stilled.role h).trans ?_, transition,
    rfl, fun sd => (notRaised sd).trans (.of_items rfl _)⟩
  · have := (stilled.commands v c hv hc).1 hm
    rw [start.commands] at this
    exact nomatch this
  · rw [start.prog, Programme.initial_role]
    rfl

section
variable {n : Nat}

/-- R79: a valve that its stop's trip has reached, and nothing else. -/
theorem Started.Still.tripped (k : Started.Still b u t) (hlost : t.loop.lost = u.loop.lost) (hu : u.Afresh)
    (hc : u.StopCompared t b h sd n) (hm : b.MeetsStop h sd n) : t.valves[valveOf h sd] = .shutBy u.loop.lost .trip false ∧
    ∀ c : Command, c.isValve (valveOf h sd) = true →
      (c ∈ t.loop.commands ↔ u.loop.lost = false ∧ c = .valve (valveOf h sd) false .toShut 1 true) := by
  have initial := hu.valves (valveOf h sd)
  have state := (hc.1 (by rw [hu.perms]; rfl) hm).2.2 (by rw [initial]; nofun) (by rw [initial]; nofun)
  rcases k.fresh.valve (valveOf h sd) with ⟨hv, -⟩ | ⟨o, j, -, hj, hv, hcommands⟩
  · rw [hv] at state
    rcases state with h | ⟨-, h⟩ <;> exact nomatch h
  · have record : (ValveRec.shutBy t.loop.lost o j).state = .shutting ∧ (ValveRec.shutBy t.loop.lost o j).demand = some ⟨.toShut, o⟩ := by
      unfold ValveRec.shutBy
      cases t.loop.lost <;> exact ⟨rfl, rfl⟩
    rw [hv, record.1, record.2] at state
    obtain rfl : o = .trip := by
      rcases state with h | ⟨-, h⟩
      · exact nomatch h
      · exact congrArg Demand.origin (Option.some.inj h)
    obtain rfl : j = false := Bool.eq_false_iff.2 fun h => nomatch hj h
    rw [← hlost]
    exact ⟨hv, hcommands⟩

end

end Sys2Proof.Machine

/-! # A yard started afresh: permissions, commands and accounts

What the taking of the live bank from initial records leaves of each block (R21, R22, R77 to R79, R174). -/

namespace Sys2Proof.Machine

variable {s t u : State} {b : Bank} {h : Fin 4} {sd : Side} {q : Bool} {v : Fin 8} {n : Nat}

/-! ## Stops that are met, and stops that are not -/

theorem not_restoredTrips {holders : Vector HolderRec 4} (hh : t.holders = holders) (hv : b.fitted (holderOf v) = false ∨ t.BetweenStops b (holderOf v)) :
    ¬RestoredTrips b holders (holderOf v) (sideOf v) := by
  rintro ⟨hf, hm⟩
  rcases hv with hno | ⟨hlow, hhigh⟩
  · exact Bool.noConfusion (hno.symm.trans hf)
  · rw [hh] at hlow hhigh
    cases hs : sideOf v with
    | outlet => exact absurd (Bank.meetsStop_outlet.1 (hs ▸ hm)) (Nat.not_le.2 hlow)
    | inlet => exact absurd (Bank.meetsStop_inlet.1 (hs ▸ hm)) (Nat.not_le.2 hhigh)

theorem State.takeLive_holders (s : State) (b : Bank) (first : Bool) : (s.takeLive b first).holders = (s.broughtTo b first).holders :=
  (s.takeLive_events b first).onlyEvents.holders

theorem State.broughtTo_timebase (s : State) (b : Bank) (first : Bool) : (s.broughtTo b first).timebase = s.timebase := by
  rw [(s.broughtTo_brought b first).rest]

namespace State.Afresh

/-- R77: a side that no trip reaches. -/
theorem takeLive_perm (k : s.Afresh) (first : Bool)
    (hv : b.fitted (holderOf v) = false ∨ (s.takeLive b first).BetweenStops b (holderOf v)) :
    (s.takeLive b first).perms[v] = PermRec.initial := by
  have untouched := (Steps.untouched (s.takeLive_events b first) (not_restoredTrips (s.takeLive_holders b first) hv)).1
  rw [State.perms_own, State.perms_own] at untouched
  exact untouched.trans ((k.broughtTo b first).perms v)

/-- R79: a side whose stop the restored count meets. -/
theorem takeLive_trip (k : s.Afresh) (first : Bool) (hf : b.fitted h = true) (hm : b.MeetsStop h sd (s.takeLive b first).holders[h].count) :
    (s.takeLive b first).perms[valveOf h sd] =
      ⟨false, some (if sd = .outlet then .lowStop else .highStop), some (s.takeLive b first).holders[h].count, some s.timebase⟩ ∧
    (s.broughtTo b first).Raised (s.takeLive b first) (tripSource h sd) := by
  have compared := State.takeLive_stop (s := s) (sd := sd) hf first
  rw [s.takeLive_holders b first] at hm ⊢
  rw [← s.broughtTo_timebase b first]
  obtain ⟨perm, raised, -⟩ := compared.1 (by rw [(k.broughtTo b first).perms]; rfl) hm
  exact ⟨perm, raised⟩

end State.Afresh

/-- R79: a side whose stop the restored count does not meet. -/
theorem State.takeLive_noTrip (first : Bool) (hm : ¬(b.fitted h = true ∧ b.MeetsStop h sd (s.takeLive b first).holders[h].count)) :
    (s.broughtTo b first).NotRaised (s.takeLive b first) (tripSource h sd) := by
  rw [s.takeLive_holders b first] at hm
  exact (Steps.untouched (s.takeLive_events b first) hm).2

/-! ## The command queue (R65, R75) -/

theorem State.Fresh.command (k : s.Fresh b q) {c : Command} (hc : c ∈ s.loop.commands) :
    ∃ v trip, c = .valve v false .toShut 1 trip ∧ b.fitted (holderOf v) = true ∧ s.loop.lost = false := by
  obtain ⟨v, hv⟩ := k.commands c hc
  rcases k.valve v with ⟨-, hno⟩ | ⟨o, j, hf, -, -, hcommands⟩
  · exact Bool.noConfusion ((hno c hc).symm.trans hv)
  · obtain ⟨hl, rfl⟩ := (hcommands c hv).1 hc
    exact ⟨v, _, rfl, hf, hl⟩

theorem State.Fresh.no_commands (k : s.Fresh b q) (hl : s.loop.lost = true) : s.loop.commands = [] :=
  List.eq_nil_iff_forall_not_mem.2 fun _ hc => by
    obtain ⟨_, _, -, -, hno⟩ := k.command hc
    exact Bool.noConfusion (hno.symm.trans hl)

/-- R79: with the clock INVALID the commands are the SELECTs of the trips. -/
theorem State.Afresh.takeLive_commands (k : s.Afresh) (first : Bool) (hv : s.clock.valid = false) (hl : s.loop.lost = false) (c : Command) :
    c ∈ (s.takeLive b first).loop.commands ↔ ∃ h sd, b.fitted h = true ∧ b.MeetsStop h sd (s.takeLive b first).holders[h].count ∧
      c = .valve (valveOf h sd) false .toShut 1 true := by
  have still := k.takeLive_still b first (.inl hv)
  have start := k.broughtTo b first
  have stop := fun h sd hf => State.takeLive_stop (s := s) (b := b) (h := h) (sd := sd) hf first
  have lost := (s.takeLive_events b first).onlyEvents.loop.lost
  have ulost : (s.broughtTo b first).loop.lost = false := by
    rw [(s.broughtTo_brought b first).rest]
    exact hl
  rw [s.takeLive_holders b first]
  generalize s.takeLive b first = t at *
  generalize s.broughtTo b first = u at *
  constructor
  · intro hc
    obtain ⟨v, hcv⟩ := still.fresh.commands c hc
    have trips : RestoredTrips b u.holders (holderOf v) (sideOf v) :=
      Classical.byContradiction fun hno => still.commands v c hno hcv hc
    obtain ⟨h, sd, rfl⟩ := exists_valveOf v
    rw [holderOf_valveOf, sideOf_valveOf] at trips
    obtain ⟨hf, hm⟩ := trips
    exact ⟨h, sd, hf, hm, (((still.tripped lost start (stop h sd hf) hm).2 c hcv).1 hc).2⟩
  · rintro ⟨h, sd, hf, hm, rfl⟩
    exact ((still.tripped lost start (stop h sd hf) hm).2 (.valve (valveOf h sd) false .toShut 1 true) (decide_eq_true rfl)).2 ⟨ulost, rfl⟩

/-! ## The accounts (R22) -/

theorem State.takeLive_flagged (s : State) (b : Bank) (first : Bool) : (s.broughtTo b first).Flagged (s.takeLive b first) := by
  rw [State.takeLive_eq]
  have changes : (s.broughtTo b first).Flagged ((s.broughtTo b first).restoredChanges b) :=
    forEach_keeps State.Flagged (fun s => .of_same rfl) .trans (State.restoredChange b) (fun h s => by
      unfold State.restoredChange
      split
      · exact s.holderChange_flagged _ _ _ _
      · exact .of_same rfl) _
  exact changes.trans (.of_same ((State.enterTrigger_only ..).trans (State.settled_only _)).accounts)

/-! ## The attention list after a swap (R154, R175) -/

/-- R175: occurrences of other sources than BANK SWAPPED, under the new map. -/
theorem State.Reclassed.later {p : Fin 74 → Prop} {new : Bank} (k : s.Reclassed t new) (hl : t.live = some new) (r : Raises p t u)
    (hp : ¬p srcBankSwapped) : s.Reclassed u new := by
  have same := r.notRaised srcBankSwapped hp
  have live : t.tables.live = some new := hl
  have classes := r.classes fun e he => by rw [live]; exact k.classes e he
  rw [live] at classes
  refine ⟨fun hon => ?_, fun hoff e he => (same { e with cls := (attnMap (some new) srcBankSwapped).2 } he).trans (k.notSwapped hoff e he), classes, r.sorted k.ordered, r.order ∘ k.created,
    fun e he => ?_⟩
  · obtain ⟨hnew, hold⟩ := k.swapped hon
    refine ⟨fun hno => ?_, fun e he hx => ?_⟩
    · obtain ⟨x, hx, hsource, rest⟩ := hnew hno
      exact ⟨x, (same x hsource).2 hx, hsource, rest⟩
    · obtain ⟨x, hx', hsource, rest⟩ := hold e he hx
      exact ⟨x, (same x hsource).2 hx', hsource, rest⟩
  · obtain ⟨e1, he1, h1, h2, h3, h4⟩ := k.kept e he
    obtain ⟨e2, he2, k1, -, k3, k4, k5⟩ := r.kept e1 he1
    exact ⟨e2, he2, k1.trans h1, k3.trans h2, k4.trans h3, by omega⟩

/-- R171, R180: a close keeps the LOOP LOST occurrence that is held back. -/
theorem State.closeInterval_heldBack {iv : OpenInterval} (hiv : s.accounts.interval = some iv) (hl : s.live = some b) (extra next : YardFlags)
    (w : Option WallTime) : (s.closeInterval b extra next w).attn.deferred = s.attn.deferred := by
  cases hc : s.tables.committed with
  | false => rw [(State.closeInterval_opens hiv hl hc).1.rest]
  | true =>
    rw [State.closeInterval_eq hiv]
    dsimp only
    obtain ⟨-, -, before, rest⟩ := s.recordClose_into b (s.closeRecord b iv extra w)
    rw [if_pos hc, State.swapAndOpen_eq]
    generalize s.recordClose b (s.closeRecord b iv extra w) = a at *
    generalize (s.closeRecord b iv extra w).carried (s.stockUncertain b) (stockHeld (s.stocks b)) next = o
    have begins := State.swappedState_begins (s := a) (by rw [rest]) b o
    have events := State.swapEvents_steps begins.holdersSwapped
    have swapped : a.swapTables.attn.deferred = a.attn.deferred :=
      (State.raise_only ((a.setTables a.tables.swapped).setAttn (a.attn.reclass (some a.tables.pending))) srcBankSwapped).deferred
    refine (events.raises.deferred.trans (begins.raises.deferred.trans swapped)).trans ?_
    rw [rest]

end Sys2Proof.Machine

/-! # RESTART

RESTART closes the open interval and starts the blocks afresh on the bank that is then live (R136, R142, R157, R174, R180). -/

namespace Sys2Proof.Machine

variable {s t u : State} {b n : Bank} {h : Fin 4} {sd : Side} {x : Fin 74}

/-! ## The start on the live bank -/

/-- What the taking of the live bank leaves as it was. -/
structure TakesLive (s t : State) : Prop where
  tables : t.tables = s.tables
  clock : t.clock = s.clock
  timebase : t.timebase = s.timebase
  own : t.own = s.own
  power : t.power = s.power
  channels : t.channels = s.channels
  points : t.points = s.points
  barometer : t.barometer = s.barometer
  calorimeter : t.calorimeter = s.calorimeter
  nv : t.nv = s.nv
  loop : OnlyCommands s.loop t.loop
  attn : Raises EventSource s t

theorem State.takeLive_takes (s : State) (b : Bank) (first : Bool) : TakesLive s (s.takeLive b first) := by
  have events := s.takeLive_events b first
  obtain ⟨f, only⟩ := events.onlyEvents
  have rest := (s.broughtTo_brought b first).rest
  have attn : Raises EventSource s (s.takeLive b first) :=
    Raises.trans (t := s.broughtTo b first) (by rw [rest]; exact .of_same ⟨rfl, rfl⟩ rfl) events.raises
  generalize s.broughtTo b first = u at *
  have loop := only.loop
  rw [rest] at loop
  exact ⟨only.tables.trans (by rw [rest]; rfl), only.clock.trans (by rw [rest]; rfl), only.timebase.trans (by rw [rest]; rfl),
    only.own.trans (by rw [rest]; rfl), only.power.trans (by rw [rest]; rfl), only.channels.trans (by rw [rest]; rfl),
    only.points.trans (by rw [rest]; rfl), only.barometer.trans (by rw [rest]; rfl), only.calorimeter.trans (by rw [rest]; rfl),
    only.nv.trans (by rw [rest]; rfl), loop, attn⟩

theorem State.takeLive_holder (s : State) (b : Bank) (first : Bool) (hf : b.fitted h = true) :
    (s.takeLive b first).holders[h] = HolderRec.bring b h s.holders[h] s.timebase := by
  rw [s.takeLive_holders b first]
  exact ((s.broughtTo_brought b first).holders h).trans (if_pos hf)

theorem State.takeLive_district (s : State) (b : Bank) (first : Bool) (d : Fin 6) : (s.takeLive b first).districts[d] =
    if b.districts[d].used then { s.districts[d] with reviewTimer := some (s.timebase + 60000) } else s.districts[d] := by
  have same := (s.takeLive_events b first).onlyEvents.districts
  exact (congrArg (fun ds : Vector DistrictRec 6 => ds[d]) same).trans ((s.broughtTo_brought b first).districts d)

theorem State.broughtTo_same (s : State) (b : Bank) (first : Bool) :
    (s.broughtTo b first).attn = s.attn ∧ SameTimes s (s.broughtTo b first) := by
  rw [(s.broughtTo_brought b first).rest]
  exact ⟨rfl, rfl, rfl⟩

/-- R78, R79: the TRIP sources of a start from initial records. -/
theorem State.Afresh.takeLive_raised (k : s.Afresh) (first : Bool) (hf : b.fitted h = true)
    (hm : b.MeetsStop h sd (s.takeLive b first).holders[h].count) : s.Raised (s.takeLive b first) (tripSource h sd) := by
  obtain ⟨attn, same⟩ := s.broughtTo_same b first
  exact .before (.of_items (congrArg Attention.items attn) _) (k.takeLive_trip first hf hm).2 same.live same.now

theorem State.takeLive_notTripped (first : Bool) (hm : ¬(b.fitted h = true ∧ b.MeetsStop h sd (s.takeLive b first).holders[h].count)) :
    s.NotRaised (s.takeLive b first) (tripSource h sd) :=
  (State.NotRaised.of_items (congrArg Attention.items (s.broughtTo_same b first).1) _).trans (State.takeLive_noTrip first hm)

/-- R180: the Programme Unit alone may raise a source without a trip, where it may take the SLOT trigger. -/
theorem State.Afresh.takeLive_others (k : s.Afresh) (b : Bank) (first : Bool) (hx : ∀ h sd, x ≠ tripSource h sd)
    (h : (∀ sd : Side, x ≠ sd.source) ∨ s.clock.valid = false ∨ s.loop.lost = true) : s.NotRaised (s.takeLive b first) x := by
  by_cases hs : ∃ sd : Side, x = sd.source
  · obtain ⟨sd, rfl⟩ := hs
    rcases h with h | h
    · exact absurd rfl (h sd)
    · exact (State.NotRaised.of_items (congrArg Attention.items (s.broughtTo_same b first).1) _).trans
        ((k.takeLive_still b first h).notRaised sd)
  · exact (s.takeLive_takes b first).attn.notRaised x fun he => he.elim hs fun ⟨h, sd, e⟩ => hx h sd e

/-! ## The state from which RESTART starts (R174) -/

/-- R157, R174: the blocks at their RESTART values, with the pending bank a copy of the live bank `n`. -/
def State.afresh (s : State) (n : Bank) : State :=
  (s.setTables { s.tables with pending := n, marks := Vector.replicate 12 true, committed := false }).reinitialised

theorem State.restarted_eq (hl : (s.closeInterval b { YardFlags.none with restart := true } YardFlags.none s.clock.wall).live = some n) :
    s.restarted b = ((s.closeInterval b { YardFlags.none with restart := true } YardFlags.none s.clock.wall).afresh n).takeLive n false := by
  unfold State.restarted
  dsimp only
  generalize s.closeInterval b { YardFlags.none with restart := true } YardFlags.none s.clock.wall = a at *
  rw [TableStore.restarted_of_live hl]
  have live : (a.afresh n).live = some n := hl
  split
  · next m hm =>
    obtain rfl : m = n := Option.some.inj (hm.symm.trans live)
    rfl
  · next hm => exact nomatch hm.symm.trans live

theorem State.afresh_afresh (s : State) (n : Bank) : (s.afresh n).Afresh := by
  refine ⟨fun v => ?_, fun v => ?_, rfl, ?_, fun h => ?_⟩
  · exact Vector.getElem_replicate ..
  · exact Vector.getElem_replicate ..
  · exact List.eq_nil_iff_forall_not_mem.2 fun c hc => nomatch (List.mem_filter.1 hc).2
  · exact congrArg HolderRec.certain (Vector.getElem_map ..)

theorem State.afresh_holder (s : State) (n : Bank) (h : Fin 4) :
    (s.afresh n).holders[h] = HolderRec.restored s.nv.saves[h] s.timebase := Vector.getElem_map ..

theorem State.restartData_fits (hg : s.tables.generation < 2 ^ 16) (hd : s.clock.day < 2 ^ 16) (hs : s.clock.sec < 2 ^ 24)
    (hq : s.accounts.logs.lastSeq + 1 < 2 ^ 32) : s.restartData =
      bytesOf 2 s.tables.generation ++ [if s.tables.committed then 1 else 0, if s.clock.valid then 0 else 1] ++
        bytesOf 2 s.clock.day ++ bytesOf 3 s.clock.sec ++ bytesOf 4 (s.accounts.logs.lastSeq + 1) := by
  unfold State.restartData State.commitData State.genBytes
  rw [putN_fits (w := 2) hg, putN_fits (w := 2) hd, putN_fits (w := 3) hs, putN_fits (w := 4) hq, List.append_assoc _ [_] [_]]
  cases s.tables.committed <;> cases s.clock.valid <;> rfl

end Sys2Proof.Machine

/-! # RESTART, whole -/

namespace Sys2Proof.Machine

variable {s t u : State} {b n : Bank} {h : Fin 4} {sd : Side} {x : Fin 74} {iv jv : OpenInterval} {r : IntervalRecord}

/-! ## The parts of RESTART -/

/-- R174: what RESTART leaves once the close has left `a`: the blocks started afresh on the live bank. -/
structure Restarts (a : State) (n : Bank) (t : State) : Prop where
  takes : TakesLive (a.afresh n) t
  fresh : t.Fresh n true
  holder : ∀ h : Fin 4, n.fitted h = true →
    t.holders[h] = HolderRec.bring n h (HolderRec.restored a.nv.saves[h] a.timebase) a.timebase
  perm : ∀ v : Fin 8, n.fitted (holderOf v) = false ∨ t.BetweenStops n (holderOf v) → t.perms[v] = PermRec.initial
  trip : ∀ (h : Fin 4) (sd : Side), n.fitted h = true → n.MeetsStop h sd t.holders[h].count →
    t.perms[valveOf h sd] = ⟨false, some (if sd = .outlet then .lowStop else .highStop), some t.holders[h].count, some a.timebase⟩ ∧
      (a.afresh n).Raised t (tripSource h sd)
  noTrip : ∀ (h : Fin 4) (sd : Side), ¬(n.fitted h = true ∧ n.MeetsStop h sd t.holders[h].count) → (a.afresh n).NotRaised t (tripSource h sd)
  others : ∀ x, (∀ h sd, x ≠ tripSource h sd) → (∀ sd : Side, x ≠ sd.source) ∨ a.clock.valid = false ∨ a.loop.lost = true →
    (a.afresh n).NotRaised t x
  still : a.clock.valid = false ∨ a.loop.lost = true → Started.Still n ((a.afresh n).broughtTo n false) t ∧
    t.holders = ((a.afresh n).broughtTo n false).holders
  commands : a.clock.valid = false → a.loop.lost = false → ∀ c, c ∈ t.loop.commands ↔ ∃ (h : Fin 4) (sd : Side),
    n.fitted h = true ∧ n.MeetsStop h sd t.holders[h].count ∧ c = .valve (valveOf h sd) false .toShut 1 true
  district : ∀ d : Fin 6, t.districts[d] =
    if n.districts[d].used then { DistrictRec.initial with reviewTimer := some (a.timebase + 60000) } else DistrictRec.initial
  accounts : ∀ jv, a.accounts.interval = some jv →
    ∃ kv, jv.Since kv ∧ t.accounts = { a.accounts with cursor := none, interval := some kv }

theorem State.restarts (a : State) (hl : a.live = some n) : Restarts a n ((a.afresh n).takeLive n false) := by
  have k := a.afresh_afresh n
  refine ⟨State.takeLive_takes .., k.takeLive hl false, fun h hf => ?_, fun v hv => k.takeLive_perm false hv,
    fun h sd hf hm => ⟨(k.takeLive_trip false hf hm).1, k.takeLive_raised false hf hm⟩, fun h sd => State.takeLive_notTripped false,
    fun x => k.takeLive_others n false, fun hs => ⟨k.takeLive_still n false hs, State.takeLive_holders ..⟩,
    fun hv hlost => k.takeLive_commands false hv hlost, fun d => ?_, fun jv hjv => ?_⟩
  · rw [State.takeLive_holder _ _ _ hf, a.afresh_holder]
    rfl
  · rw [State.takeLive_district]
    have initial : (a.afresh n).districts[d] = DistrictRec.initial := Vector.getElem_replicate ..
    rw [initial]
    rfl
  · have flagged := (a.afresh n).takeLive_flagged n false
    have same := (a.afresh n).broughtTo_accounts_kept n
    obtain ⟨kv, since, accounts⟩ := flagged jv (by rw [same]; exact hjv)
    rw [same] at accounts
    exact ⟨kv, since, accounts⟩

/-- R136, R137, R142: the record of a RESTART and the interval that it opens. -/
theorem Closed.restarted {a : State} (k : Closed s b n r YardFlags.none jv a) (hr : s.Recorded b iv { YardFlags.none with restart := true } r)
    {kv : OpenInterval} (since : jv.Since kv) :
    r.yard.restart = true ∧ r.identity = iv.identity ∧ s.accounts.logs.DayKept a.accounts.logs r ∧ kv.generation = a.tables.generation ∧
      kv.yard.gap = false ∧ kv.identity = (n.yard.placeClock s.clock).identity ∧ kv.nominalEnd = (n.yard.placeClock s.clock).nominalEnd ∧
      (∀ m : Fin 12, kv.channels[m].volumeIn = r.channels[m].volumeOut ∧ kv.channels[m].energyIn = r.channels[m].energyOut) ∧
      ∀ h : Fin 4, kv.stockOpen[h] = r.holders[h].stockClose := by
  obtain ⟨y, rfl⟩ := since
  obtain ⟨identity, -, nominalEnd⟩ := k.opened.placed
  rw [k.clock] at identity nominalEnd
  refine ⟨(congrArg YardFlags.restart hr.otherFlags).trans (Bool.or_true _), hr.taken.2.1, ?_, k.opened.generation,
    congrArg YardFlags.gap k.opened.otherFlags, identity, nominalEnd, fun m => ?_, k.opened.stock⟩
  · rw [k.accounts]
    exact Logs.enter_dayKept ..
  · have channel := k.opened.channels m
    dsimp only at channel ⊢
    rw [channel]
    exact ⟨rfl, rfl⟩

/-- R21: a holder's record at RESTART. -/
theorem Restarts.restored {a : State} (k : Restarts a n t) (hc : Closed s b n r YardFlags.none jv a) (hf : n.fitted h = true) :
    t.holders[h].count = min (if b.fitted h then s.holders[h].count else (s.nv.saves[h].map HolderSave.count).getD 0) n.holders[h].travel ∧
    t.holders[h].savedCertain = (if b.fitted h then s.holders[h].certain else (s.nv.saves[h].map HolderSave.certain).getD false) ∧
    t.holders[h].certain = false ∧ t.holders[h].ref = none ∧ t.holders[h].lastDatum = none ∧ t.holders[h].liftFault = false := by
  have record := k.holder h hf
  obtain ⟨count, certain, ref, datum, fault, saved⟩ := HolderRec.bring_eq n h (HolderRec.restored a.nv.saves[h] a.timebase) a.timebase
  rw [← record] at count certain ref datum fault saved
  refine ⟨count.trans ?_, saved.trans ?_, certain, ref, datum, fault⟩
  · rw [hc.save h]
    cases b.fitted h <;> rfl
  · rw [hc.save h]
    cases b.fitted h <;> rfl

/-- Settles O60: the close, then the blocks afresh on the live bank (`Restarts`), whose only demands are SHUT demands. -/
theorem restart : Obligations.Restart := by
  intro s b iv ref hcan hlive hiv
  dsimp only
  have hexec : exec (.restart ref []) s = .next ((s.absorb.restarted b).respond 22 ref (one s.absorb.restartData)) := by
    have acts := exec_directive_acts (i := .restart ref []) (code := 22) rfl hcan (by decide) rfl
    rw [show State.actOf 22 [] s.absorb = (s.absorb.restarted b, one s.absorb.restartData) from State.withBank_live (s := s.absorb) hlive _] at acts
    exact acts
  refine ⟨_, hexec, ?_⟩
  have hlive' : s.absorb.live = some b := hlive
  have hiv' : s.absorb.accounts.interval = some iv := hiv
  obtain ⟨jv, closed⟩ := State.closeInterval_closed (extra := { YardFlags.none with restart := true }) (next := YardFlags.none)
    (w := s.absorb.clock.wall) hiv' hlive'
  have opens := fun hc => (State.closeInterval_opens (extra := { YardFlags.none with restart := true }) (next := YardFlags.none)
    (w := s.absorb.clock.wall) hiv' hlive' hc).1
  have swaps := fun hc => (State.closeInterval_swaps (b := b) (extra := { YardFlags.none with restart := true }) (next := YardFlags.none)
    (w := s.absorb.clock.wall) hiv' hc).1
  have heldBack := State.closeInterval_heldBack hiv' hlive' { YardFlags.none with restart := true } YardFlags.none s.absorb.clock.wall
  have recorded := s.absorb.closeRecord_recorded b iv { YardFlags.none with restart := true } s.absorb.clock.wall
  rw [State.restarted_eq (s := s.absorb) (n := if s.tables.committed then s.tables.pending else b) closed.live]
  generalize s.absorb.closeRecord b iv { YardFlags.none with restart := true } s.absorb.clock.wall = r at *
  generalize s.absorb.closeInterval b { YardFlags.none with restart := true } YardFlags.none s.absorb.clock.wall = a at *
  have clock : a.clock = s.clock := closed.clock
  have timebase : a.timebase = s.timebase := closed.timebase
  have lost : a.loop.lost = s.loop.lost := closed.loop.lost
  have closed : Closed s.absorb b (if s.tables.committed then s.tables.pending else b) r YardFlags.none jv a := closed
  have kept (hc : s.tables.committed = false) : a.tables = s.tables ∧ a.attn = s.attn ∧ SameTimes s (a.afresh b) := by
    have rest := (opens hc).rest
    have live : a.live = some b := by rw [rest]; exact hlive
    exact ⟨by rw [rest]; rfl, by rw [rest]; rfl, live.trans hlive.symm, congrArg (fun c : Clock => (⟨c.day, c.sec, c.valid⟩ : Occurrence)) clock⟩
  have swapped (hc : s.tables.committed = true) : a.tables = s.tables.swapped ∧ s.Reclassed a s.tables.pending := by
    have swap := swaps hc
    exact ⟨swap.tables, swap.reclassed s (fun _ => False) (.of_same ⟨rfl, rfl⟩ rfl) id⟩
  clear opens swaps
  have k := State.restarts a closed.live
  have live := closed.live
  generalize hn : (if s.tables.committed then s.tables.pending else b) = n at *
  have attn : (a.afresh n).attn = a.attn := rfl
  have tables : (a.afresh n).tables = { a.tables with pending := n, marks := Vector.replicate 12 true, committed := false } := rfl
  generalize (a.afresh n).takeLive n false = t at *
  have takes := k.takes
  obtain ⟨kv, since, accounts⟩ := k.accounts jv (by rw [closed.accounts])
  obtain ⟨hrestart, hidentity, hday, hgeneration, hgap, hplace, hend, hchannels, hstock⟩ := closed.restarted recorded since
  have logs : t.accounts.logs = s.accounts.logs.enter r := by rw [accounts, closed.accounts]; rfl
  have interval : t.accounts.interval = some kv := by rw [accounts]
  have cursor : t.accounts.cursor = none := by rw [accounts]
  have hlogs : a.accounts.logs = t.accounts.logs := by rw [accounts]
  have hsequence := recorded.taken.1
  have ttables := takes.tables
  rw [tables] at ttables
  refine ⟨?_, ?_, ?_, fun hc => ?_, fun hc => ?_, ?_⟩
  · exact (congrArg TableStore.live ttables).trans live
  · exact congrArg TableStore.pending ttables
  · exact congrArg TableStore.committed ttables
  · have same := (kept hc).1
    rw [same] at ttables
    exact ⟨(congrArg TableStore.generation ttables :), (congrArg TableStore.store ttables :)⟩
  · obtain ⟨same, reclassed⟩ := swapped hc
    rw [same] at ttables
    rw [if_pos hc] at hn
    subst hn
    have raises : Raises EventSource a t := Raises.trans (t := a.afresh s.tables.pending) (.of_same ⟨rfl, rfl⟩ rfl) takes.attn
    exact ⟨(reclassed.later live raises eventSource_ne_bankSwapped).respond, (congrArg TableStore.store ttables :),
      (congrArg TableStore.generation ttables :)⟩
  refine ⟨takes.clock.trans clock, takes.timebase.trans timebase, takes.own.trans closed.own, takes.power.trans (closed.power.trans hcan.1), ?_,
    ⟨r, kv, ?_, hrestart, hidentity, recorded.of_same rfl rfl rfl rfl, hlogs ▸ hday, interval, ?_, hgap, hplace, hend, hchannels, hstock⟩, cursor,
    fun h hf => Restarts.restored (s := s.absorb) (t := t) k closed hf, fun v hv => k.perm v hv, fun h hf => ⟨fun hlo => ?_, fun hhi => ?_⟩, k.fresh.prog.roles, fun hs => ?_,
    takes.attn.deferred.trans heldBack, fun hc => ?_, fun c hc => ?_, fun hl => ?_, fun hv hl c => ?_, ?_⟩
  · exact (congrArg Logs.lastSeq logs).trans ((Logs.enter_lastSeq ..).trans hsequence)
  · exact (congrArg (fun l : Logs => l.log.getLast?) logs).trans (Logs.enter_getLast? ..)
  · exact hgeneration.trans (congrArg TableStore.generation ttables).symm
  · have trip := (k.trip h .outlet hf (Bank.meetsStop_outlet.2 hlo)).1
    rw [timebase] at trip
    exact trip
  · have trip := (k.trip h .inlet hf (Bank.meetsStop_inlet.2 hhi)).1
    rw [timebase] at trip
    exact trip
  · obtain ⟨still, holders⟩ := k.still (hs.imp (fun h => (congrArg Clock.valid clock).trans h) fun h => lost.trans h)
    exact ⟨still.role, still.transition, still.deferred, fun v hv => still.valves v (not_restoredTrips holders hv)⟩
  · obtain ⟨-, same, times⟩ := kept hc
    rw [if_neg (hc ▸ nofun)] at hn
    subst hn
    have before (x : Fin 74) : s.NotRaised (a.afresh b) x := .of_items (congrArg Attention.items (attn.trans same)) x
    refine ⟨fun e he => takes.attn.kept e ?_, fun h sd => ⟨fun hm => ?_, fun hm => ?_⟩, fun x hx hsides => ?_⟩
    · rw [attn, same]
      exact he
    · exact .before (before _) (k.trip h sd hm.1 hm.2).2 times.live times.now
    · exact (before _).trans (k.noTrip h sd hm)
    · refine (before x).trans (k.others x (fun h sd e => ?_) (hsides.imp_right (.imp (fun h => (congrArg Clock.valid clock).trans h) fun h => lost.trans h)))
      cases sd with
      | outlet => exact (hx h).1 e
      | inlet => exact (hx h).2 e
  · obtain ⟨v, trip, rfl, hf, -⟩ := k.fresh.command hc
    exact ⟨v, .toShut, trip, rfl, hf⟩
  · exact k.fresh.no_commands (takes.loop.lost.trans (lost.trans hl))
  · exact k.commands ((congrArg Clock.valid clock).trans hv) (lost.trans hl) c
  · have initial {α : Type} {m : Nat} (x : α) (i : Fin m) : (Vector.replicate m x)[i] = x := Vector.getElem_replicate ..
    refine ⟨fun m => ?_, fun p => ?_, takes.barometer, takes.calorimeter, fun d => ?_, takes.loop.lost.trans lost,
      takes.loop.window.trans closed.loop.window, takes.loop.cycle.trans closed.loop.cycle, s.absorb.restartData, ?_,
      State.restartData_fits (s := s.absorb)⟩
    · exact (congrArg (fun v : Vector ChannelRec 12 => v[m]) takes.channels).trans (initial ..)
    · exact (congrArg (fun v : Vector PointRec 24 => v[p]) takes.points).trans (initial ..)
    · have district := k.district d
      rw [timebase] at district
      refine (?_ : t.districts[d].lastSent = none ∧ t.districts[d].trim = 0 ∧
        (n.districts[d].used = true → t.districts[d].reviewTimer = some (s.timebase + 60000)))
      rw [district]
      cases n.districts[d].used
      · exact ⟨rfl, rfl, nofun⟩
      · exact ⟨rfl, rfl, fun _ => rfl⟩
    · rw [State.respond_responses, takes.loop.responses]
      exact congrArg (· ++ _) closed.loop.responses

end Sys2Proof.Machine

/-! # Power-on

The straps, the blocks at their power-on values, and the start on a bank that the store gives back (R156, R159, R180). -/

namespace Sys2Proof.Machine

variable {s t u : State} {b : Bank} {h : Fin 4} {sd : Side} {own : Nat} {sound : Bool} {x : Fin 74}

/-! ## The Table Store and the attention list at power-on (R156, R180) -/

/-- R156: the Table Store where no bank is restored. -/
def TableStore.unrestored (t : TableStore) : TableStore :=
  { t with live := none, generation := 0, pending := Bank.blank, marks := Vector.replicate 12 false, committed := false,
           store := if t.store = .valid then .failed else t.store }

/-- R156: the Table Store with a bank restored. -/
def TableStore.restored (t : TableStore) (b : Bank) : TableStore :=
  { t with live := some b, generation := t.storeGen, pending := b, marks := Vector.replicate 12 true, committed := false }

/-- Every block at its power-on values, under the tables `ts`. -/
def State.powered (s : State) (own : Nat) (ts : TableStore) : State := State.poweredOn own s.nv.settled ts s.pending s.drawn

theorem State.powerOnBlocks_none (hr : s.tables.restorable own sound = none) : s.powerOnBlocks own sound =
    if s.tables.store = .empty then (s.powered own s.tables.unrestored).raise srcClockInvalid
    else ((s.powered own s.tables.unrestored).raise srcClockInvalid).raise srcStoreFault := by
  have tables : s.tables.powerOn own sound = s.tables.unrestored := by
    unfold TableStore.powerOn
    rw [hr]
    rfl
  have fault : s.tables.faultAtPowerOn own sound = !decide (s.tables.store = .empty) := by
    unfold TableStore.faultAtPowerOn
    rw [hr]
    cases s.tables.store <;> rfl
  unfold State.powerOnBlocks
  dsimp only
  rw [tables, fault]
  by_cases he : s.tables.store = .empty
  · rw [if_pos he, decide_eq_true he]
    rfl
  · rw [if_neg he, decide_eq_false he]
    rfl

theorem State.powerOnBlocks_some (hr : s.tables.restorable own sound = some b) :
    s.powerOnBlocks own sound = (s.powered own (s.tables.restored b)).raise srcClockInvalid := by
  have tables : s.tables.powerOn own sound = s.tables.restored b := by
    unfold TableStore.powerOn
    rw [hr]
    rfl
  have fault : s.tables.faultAtPowerOn own sound = false := by
    unfold TableStore.faultAtPowerOn
    rw [hr]
    rfl
  unfold State.powerOnBlocks
  dsimp only
  rw [tables, fault]
  rfl

/-- R180: CLOCK INVALID, entered under the fixed map of R175. -/
def Attention.clockInvalid : Attention := ⟨[⟨srcClockInvalid, .prompt, 1, ⟨0, 0, false⟩, 0⟩], none, 1⟩

/-- R156, R180: STORE FAULT, entered before it in class order. -/
def Attention.storeFault : Attention :=
  ⟨[⟨srcStoreFault, .urgent, 1, ⟨0, 0, false⟩, 1⟩, ⟨srcClockInvalid, .prompt, 1, ⟨0, 0, false⟩, 0⟩], none, 2⟩

theorem State.powered_clockInvalid (s : State) (own : Nat) : (s.powered own s.tables.unrestored).raise srcClockInvalid =
    (s.powered own s.tables.unrestored).setAttn Attention.clockInvalid := rfl

theorem State.powered_storeFault (s : State) (own : Nat) :
    ((s.powered own s.tables.unrestored).raise srcClockInvalid).raise srcStoreFault =
      (s.powered own s.tables.unrestored).setAttn Attention.storeFault := rfl

/-- R156, R180: the part UNCONFIGURED. -/
theorem State.powerOn_none (h1 : 1 ≤ own) (h2 : own ≤ 250) {straps : Byte} (hs : straps.toNat = own)
    (hr : s.tables.restorable own sound = none) : s.powerOn straps sound =
    (s.powered own s.tables.unrestored).setAttn (if s.tables.store = .empty then .clockInvalid else .storeFault) := by
  have blocks : s.powerOnBlocks own sound =
      (s.powered own s.tables.unrestored).setAttn (if s.tables.store = .empty then .clockInvalid else .storeFault) := by
    rw [State.powerOnBlocks_none hr, State.powered_storeFault, State.powered_clockInvalid]
    split <;> rfl
  unfold State.powerOn
  dsimp only
  rw [hs, show strapsOk own = true from Bool.and_eq_true_iff.2 ⟨decide_eq_true h1, decide_eq_true h2⟩, blocks]
  rfl

/-- R156: the part RUNNING on the bank restored. -/
theorem State.powerOn_some (h1 : 1 ≤ own) (h2 : own ≤ 250) {straps : Byte} (hs : straps.toNat = own)
    (hr : s.tables.restorable own sound = some b) :
    s.powerOn straps sound = ((s.powered own (s.tables.restored b)).raise srcClockInvalid).takeLive b true := by
  have live : ((s.powered own (s.tables.restored b)).raise srcClockInvalid).live = some b :=
    congrArg TableStore.live (State.raise_only (s.powered own (s.tables.restored b)) srcClockInvalid).tables
  unfold State.powerOn
  dsimp only
  rw [hs, show strapsOk own = true from Bool.and_eq_true_iff.2 ⟨decide_eq_true h1, decide_eq_true h2⟩, State.powerOnBlocks_some hr]
  rw [if_pos rfl]
  split
  · next c hc =>
    obtain rfl : c = b := Option.some.inj (hc.symm.trans live)
    rfl
  · next hc => exact nomatch hc.symm.trans live

/-! ## The attention list of a start from power-on (R180) -/

theorem State.powered_afresh (s : State) (own : Nat) (ts : TableStore) : (s.powered own ts).Afresh :=
  ⟨fun _ => Vector.getElem_replicate .., fun _ => Vector.getElem_replicate .., rfl, rfl, fun _ => congrArg HolderRec.certain (Vector.getElem_map ..)⟩

theorem State.Afresh.raise (k : s.Afresh) (x : Fin 74) : (s.raise x).Afresh := by
  refine ⟨fun v => ?_, fun v => ?_, (s.raise_prog x).trans k.prog, (congrArg LoopPort.commands (s.raise_loop x)).trans k.commands, fun h => ?_⟩
  · rw [s.raise_valves x]
    exact k.valves v
  · rw [s.raise_perms x]
    exact k.perms v
  · exact (congrArg (fun hs : Vector HolderRec 4 => hs[h].certain) (s.raise_only x).holders).trans (k.uncertain h)

/-- R176: a source raised in an empty list has one entry, where the map enables it. -/
theorem State.Raised.only (he : s.attn.items = []) (k : s.Raised t x) (hon : (attnMap s.tables.live x).1 = true) :
    ∃ e ∈ t.attn.items, e.source = x ∧ e.count = 1 ∧ e.first = s.now := (k.1 hon).1 (by rw [he]; nofun)

theorem State.NotRaised.none (he : s.attn.items = []) (k : s.NotRaised t x) : ∀ e ∈ t.attn.items, e.source ≠ x := by
  intro e hm hx
  have := (k e hx).1 hm
  rw [he] at this
  exact nomatch this

theorem not_eventSource_clockInvalid : ¬EventSource srcClockInvalid := by
  rintro (⟨sd, e⟩ | ⟨h, sd, e⟩)
  · cases sd <;> exact absurd e (by decide)
  · revert h
    cases sd <;> decide

/-- R156, R180: the occurrences of a start from power-on: CLOCK INVALID, and the trips. -/
theorem State.Afresh.start_raised (k : s.Afresh) (b : Bank) (hv : s.clock.valid = false) (x : Fin 74) :
    let t := (s.raise srcClockInvalid).takeLive b true
    let raised : Prop := x = srcClockInvalid ∨ ∃ h sd, b.fitted h = true ∧ x = tripSource h sd ∧ b.MeetsStop h sd t.holders[h].count
    (raised → s.Raised t x) ∧ (¬raised → s.NotRaised t x) := by
  intro t raised
  have again := k.raise srcClockInvalid
  have takes := State.takeLive_takes (s.raise srcClockInvalid) b true
  have before {y : Fin 74} (hy : y ≠ srcClockInvalid) : s.NotRaised (s.raise srcClockInvalid) y := s.raise_notRaised hy
  have trip {h : Fin 4} {sd : Side} : tripSource h sd ≠ srcClockInvalid := fun e => not_eventSource_clockInvalid (.inr ⟨h, sd, e.symm⟩)
  have same := SameTimes.raise s srcClockInvalid
  constructor
  · rintro (rfl | ⟨h, sd, hf, rfl, hm⟩)
    · exact (s.raise_raised srcClockInvalid).after (takes.attn.notRaised _ not_eventSource_clockInvalid)
    · exact .before (before trip) (again.takeLive_raised true hf hm) same.live same.now
  · intro hno
    obtain ⟨hclock, htrips⟩ := not_or.1 hno
    refine (before hclock).trans ?_
    by_cases hx : ∃ h sd, x = tripSource h sd
    · obtain ⟨h, sd, rfl⟩ := hx
      exact State.takeLive_notTripped true fun hm => htrips ⟨h, sd, hm.1, rfl, hm.2⟩
    · refine again.takeLive_others b true (fun h sd e => hx ⟨h, sd, e⟩) (.inr (.inl ?_))
      exact (congrArg Clock.valid (s.raise_only srcClockInvalid).clock).trans hv

end Sys2Proof.Machine

/-! # Power-on, whole -/

namespace Sys2Proof.Machine

variable {s t u : State} {b : Bank} {h : Fin 4} {sd : Side} {x : Fin 74}

/-- R79, R85: what a start from power-on leaves of valves, permissions and roles. -/
structure StartsYard (s : State) (b : Bank) (t : State) : Prop where
  between : ∀ v : Fin 8, b.fitted (holderOf v) = false ∨ t.BetweenStops b (holderOf v) →
    t.valves[v] = ValveRec.initial ∧ t.perms[v] = PermRec.initial
  tripped : ∀ (h : Fin 4) (sd : Side), b.fitted h = true → b.MeetsStop h sd t.holders[h].count →
    t.perms[valveOf h sd] = ⟨false, some (if sd = .outlet then .lowStop else .highStop), some t.holders[h].count, some s.timebase⟩ ∧
      t.valves[valveOf h sd] = ValveRec.initial.starting ⟨.toShut, .trip⟩ false
  roles : ∀ h : Fin 4, t.prog.roles[h] = ⟨none, false, false, false, false⟩
  transition : t.prog.transition = none
  deferred : t.prog.deferred = [.slot]

theorem State.Afresh.startsYard (k : s.Afresh) (b : Bank) (hv : s.clock.valid = false) (hl : s.loop.lost = false) :
    StartsYard s b (s.takeLive b true) := by
  have still := k.takeLive_still b true (.inl hv)
  have start := k.broughtTo b true
  have holders := s.takeLive_holders b true
  have ulost : (s.broughtTo b true).loop.lost = false := by
    rw [(s.broughtTo_brought b true).rest]
    exact hl
  refine ⟨fun v hb => ⟨still.valves v (not_restoredTrips holders hb), k.takeLive_perm true hb⟩, fun h sd hf hm => ⟨(k.takeLive_trip true hf hm).1, ?_⟩,
    fun h => ?_, still.transition, still.deferred⟩
  · rw [holders] at hm
    have tripped := (still.tripped (s.takeLive_events b true).onlyEvents.loop.lost start (State.takeLive_stop hf true) hm).1
    rw [ulost] at tripped
    exact tripped
  · obtain ⟨held, retake, low, high⟩ := still.fresh.prog.roles h
    have role := still.role h
    generalize (s.takeLive b true).prog.roles[h] = r at *
    obtain ⟨_, _, _, _, _⟩ := r
    exact RoleRec.mk.injEq .. |>.mpr ⟨role, held, retake, low, high⟩

/-- R21: the holders of a start from their saves. -/
theorem State.takeLive_restored (b : Bank) (first : Bool) {saves : Vector (Option HolderSave) 4} {now : Nat} (ht : s.timebase = now)
    (hs : ∀ h : Fin 4, s.holders[h] = HolderRec.restored saves[h] now) (h : Fin 4) :
    (s.takeLive b first).holders[h].certain = false ∧ (s.takeLive b first).holders[h].ref = none ∧
      (b.fitted h = true →
        (s.takeLive b first).holders[h].count = min ((saves[h].map HolderSave.count).getD 0) b.holders[h].travel) := by
  have record := (s.broughtTo_brought b first).holders h
  rw [← s.takeLive_holders b first, hs h, ht] at record
  obtain ⟨count, certain, ref, -⟩ := HolderRec.bring_eq b h (HolderRec.restored saves[h] now) now
  rw [record]
  cases b.fitted h with
  | false => exact ⟨rfl, rfl, nofun⟩
  | true => exact ⟨certain, ref, fun _ => count⟩

/-- Settles O46: the blocks at power-on values, and the start on a bank restored as that of a fresh yard. -/
theorem powerOn : Obligations.PowerOn := by
  intro s straps sound
  have hexec : exec (.powerOn straps sound) s = .next (s.powerOn straps sound) := rfl
  refine ⟨fun hbad => ?_, fun h1 h2 hr => ?_, fun b h1 h2 hr => ?_⟩
  case refine_1 =>
    have held : strapsOk straps.toNat = false := by
      unfold strapsOk
      rcases hbad with h | h
      · rw [h]
        rfl
      · rw [decide_eq_false (Nat.not_le.2 h), Bool.and_false]
    rw [hexec]
    unfold State.powerOn
    dsimp only
    rw [held]
    rfl
  case refine_2 =>
    refine ⟨_, hexec, ?_⟩
    rw [State.powerOn_none h1 h2 rfl hr]
    have attn : (if s.tables.store = .empty then Attention.clockInvalid else .storeFault).deferred = none ∧
        (if s.tables.store = .empty then Attention.clockInvalid else .storeFault).items.map (fun x => (x.source, x.cls, x.count)) =
          if s.tables.store = .empty then [(srcClockInvalid, .prompt, 1)] else [(srcStoreFault, .urgent, 1), (srcClockInvalid, .prompt, 1)] := by
      split <;> exact ⟨rfl, rfl⟩
    have k := s.powered_afresh straps.toNat s.tables.unrestored
    have holder (h : Fin 4) : (s.powered straps.toNat s.tables.unrestored).holders[h] = HolderRec.restored s.nv.saves[h] 0 :=
      Vector.getElem_map ..
    refine ⟨rfl, rfl, rfl, rfl, rfl, rfl, rfl, rfl, rfl, rfl, rfl, rfl, rfl, rfl, attn.1, attn.2, fun h => ?_, fun v => ⟨k.valves v, k.perms v⟩,
      Programme.initial_role, rfl, rfl, rfl, rfl, rfl⟩
    exact ⟨congrArg HolderRec.count (holder h), congrArg HolderRec.certain (holder h), congrArg HolderRec.ref (holder h)⟩
  case refine_3 =>
    refine ⟨_, hexec, ?_⟩
    rw [State.powerOn_some h1 h2 rfl hr]
    have k := s.powered_afresh straps.toNat (s.tables.restored b)
    have stored (h : Fin 4) : (s.powered straps.toNat (s.tables.restored b)).holders[h] = HolderRec.restored s.nv.saves[h] 0 :=
      Vector.getElem_map ..
    have frame : (s.powered straps.toNat (s.tables.restored b)).attn.items = [] ∧
        (s.powered straps.toNat (s.tables.restored b)).now = ⟨0, 0, false⟩ ∧
        (s.powered straps.toNat (s.tables.restored b)).tables = s.tables.restored b := ⟨rfl, rfl, rfl⟩
    obtain ⟨nothing, now, tables⟩ := frame
    have only := State.raise_only (s.powered straps.toNat (s.tables.restored b)) srcClockInvalid
    have raised := k.start_raised b rfl
    have classes := (State.raise_raises (p := fun _ => True) (s.powered straps.toNat (s.tables.restored b)) (x := srcClockInvalid) trivial).trans
      ((State.takeLive_takes ((s.powered straps.toNat (s.tables.restored b)).raise srcClockInvalid) b true).attn.mono fun _ _ => trivial)
      |>.classes fun e he => nomatch he
    have yard := (k.raise srcClockInvalid).startsYard b (congrArg Clock.valid only.clock) only.loop.lost
    have first := State.takeLive_first (s := (s.powered straps.toNat (s.tables.restored b)).raise srcClockInvalid) (b := b)
      (congrArg TableStore.live only.tables)
    have takes := State.takeLive_takes ((s.powered straps.toNat (s.tables.restored b)).raise srcClockInvalid) b true
    have holders := State.takeLive_restored (s := (s.powered straps.toNat (s.tables.restored b)).raise srcClockInvalid) b true only.timebase
      fun h => (congrArg (fun hs : Vector HolderRec 4 => hs[h]) only.holders).trans (stored h)
    have district := State.takeLive_district ((s.powered straps.toNat (s.tables.restored b)).raise srcClockInvalid) b true
    rw [only.districts, only.timebase, show (s.powered straps.toNat (s.tables.restored b)).timebase = 0 from rfl, Nat.zero_add] at district
    generalize ((s.powered straps.toNat (s.tables.restored b)).raise srcClockInvalid).takeLive b true = t at *
    have ttables : t.tables = s.tables.restored b := (takes.tables.trans only.tables).trans tables
    have tclock := takes.clock.trans only.clock
    have tloop := only.loop.trans takes.loop
    obtain ⟨iv, accounts, opened⟩ := first
    rw [only.accounts] at accounts
    have initial {α : Type} {m : Nat} (x : α) (i : Fin m) : (Vector.replicate m x)[i] = x := Vector.getElem_replicate ..
    refine ⟨takes.power.trans only.power, takes.own.trans only.own, congrArg TableStore.live ttables, congrArg TableStore.generation ttables,
      congrArg TableStore.pending ttables, congrArg TableStore.committed ttables, (congrArg TableStore.store ttables :), congrArg Clock.valid tclock,
      congrArg Accounts.logs accounts, ⟨iv, congrArg Accounts.interval accounts, opened, ?_⟩, takes.attn.deferred.trans only.deferred,
      fun src => ?_, tloop.lost, tloop.lossExpiry, tloop.cycle, tloop.responses, fun h => ⟨(holders h).1, (holders h).2.1, (holders h).2.2⟩,
      yard.between, fun h hf => ⟨fun hlo => ?_, fun hhi => ?_⟩, yard.roles, yard.transition, yard.deferred, fun m => ?_, fun d => ?_,
      (congrArg Nonvolatile.saves (takes.nv.trans only.nv) :), (congrArg Nonvolatile.logs (takes.nv.trans only.nv) :)⟩
    · obtain ⟨uncertain, flag⟩ := opened.uncertain
      rw [flag, uncertain]
      exact ⟨fun ⟨h, hf, _⟩ => ⟨h, hf⟩, fun ⟨h, hf⟩ => ⟨h, hf, (holders h).1⟩⟩
    · obtain ⟨hyes, hno⟩ := raised src
      have iff : (src = srcClockInvalid ∨ ∃ h sd, b.fitted h = true ∧ src = tripSource h sd ∧ b.MeetsStop h sd t.holders[h].count) ↔
          (src = srcClockInvalid ∨ ∃ h : Fin 4, b.fitted h = true ∧ ((src = srcLowTrip h ∧ t.holders[h].count ≤ b.holders[h].lowStop) ∨
            (src = srcHighTrip h ∧ b.holders[h].highStop ≤ t.holders[h].count))) := by
        refine or_congr_right (exists_congr fun h => ⟨fun ⟨sd, hf, hx, hm⟩ => ⟨hf, ?_⟩, fun ⟨hf, hm⟩ => ?_⟩)
        · cases sd with
          | outlet => exact .inl ⟨hx, Bank.meetsStop_outlet.1 hm⟩
          | inlet => exact .inr ⟨hx, Bank.meetsStop_inlet.1 hm⟩
        · rcases hm with ⟨hx, hm⟩ | ⟨hx, hm⟩
          · exact ⟨.outlet, hf, hx, Bank.meetsStop_outlet.2 hm⟩
          · exact ⟨.inlet, hf, hx, Bank.meetsStop_inlet.2 hm⟩
      rw [iff] at hyes hno
      refine ⟨fun ⟨hon, hr⟩ => ?_, fun hnot => ?_⟩
      · obtain ⟨e, he, hsource, hcount, hfirst⟩ := (hyes hr).only nothing hon
        refine ⟨e, he, hsource, ?_, hcount, hfirst.trans now⟩
        rw [← hsource]
        exact classes e he
      · by_cases hr : src = srcClockInvalid ∨ ∃ h : Fin 4, b.fitted h = true ∧ ((src = srcLowTrip h ∧ t.holders[h].count ≤ b.holders[h].lowStop) ∨
            (src = srcHighTrip h ∧ b.holders[h].highStop ≤ t.holders[h].count))
        · exact State.NotRaised.none nothing ((hyes hr).2 (Bool.eq_false_iff.2 fun hon => hnot ⟨hon, hr⟩))
        · exact State.NotRaised.none nothing (hno hr)
    · have trip := yard.tripped h .outlet hf (Bank.meetsStop_outlet.2 hlo)
      rw [only.timebase] at trip
      exact trip
    · have trip := yard.tripped h .inlet hf (Bank.meetsStop_inlet.2 hhi)
      rw [only.timebase] at trip
      exact trip
    · exact (congrArg (fun v : Vector ChannelRec 12 => v[m]) (takes.channels.trans only.channels)).trans (initial ..)
    · rw [district d, show (s.powered straps.toNat (s.tables.restored b)).districts[d] = DistrictRec.initial from initial ..]
      cases b.districts[d].used
      · exact ⟨rfl, nofun⟩
      · exact ⟨rfl, fun _ => rfl⟩

end Sys2Proof.Machine
